-- ==== Sys2Proof/Word.lean ====
section
/-!
DEFINITION. Words and fixed-size tables: the byte of the wire, crane and sector numbers, and a table of one value
per crane, sector or alert kind with its read and its write.
-/

namespace Sys2Proof

/-- One byte on a crane link or on the supervisor port. -/
abbrev Byte := BitVec 8

/-- A crane C0..C7; the link number equals the crane number (00_scope, Conventions). -/
abbrev Crane := Fin 8

/-- A sector S0..S15 of one crane's circle (00_scope, Conventions). -/
abbrev Sector := Fin 16

/-- A table of `n` like records. -/
abbrev Tab (n : Nat) (α : Type) := Vector α n

/-- The record at place `i`. -/
def tget {n : Nat} {α : Type} (t : Tab n α) (i : Fin n) : α := t[i.val]'i.isLt

/-- The table with the record at place `i` replaced. -/
def tput {n : Nat} {α : Type} (t : Tab n α) (i : Fin n) (x : α) : Tab n α := t.set i.val x i.isLt

/-- The table that holds the same record everywhere. -/
def tconst (n : Nat) {α : Type} (x : α) : Tab n α := Vector.replicate n x

/-- All cranes, ascending. -/
def allCranes : List Crane := [0, 1, 2, 3, 4, 5, 6, 7]

/-- All sectors, ascending. -/
def allSectors : List Sector := [0, 1, 2, 3, 4, 5, 6, 7, 8, 9, 10, 11, 12, 13, 14, 15]

end Sys2Proof
end

