-- ==== Sys2Proof/Syntax.lean ====
section
/-!
DEFINITION. The commands of the block: one constructor of `Instr` per row of spec/opcode_table.json, with the fields
its frame carries (12_ports_frames_and_pins, Tables 12-3 to 12-5 and 12-12). Fields are the numbers the wire carries;
whether a value is in range is asked by the rule of the command, not here.
-/
namespace Sys2Proof

/-- The payload of STATUS and REJOIN (Table 12-4), as received. -/
structure Report where
  angle : Nat
  radius : Nat
  load : Nat
  wind : Nat
  flags : Nat
  deriving DecidableEq, Repr

/-- The lift fields of PROPOSE_LIFT and AMEND_LIFT (Table 12-5), as received. -/
structure LiftFields where
  start : Nat
  length : Nat
  mass : Nat
  areaClass : Nat
  reach : Nat
  pathCount : Nat
  /-- the eight path bytes in travel order; places beyond the count are passed over -/
  path : List Nat
  tagPresent : Nat
  tag : Nat
  deriving DecidableEq, Repr

/-- Who sent a lift request (R133): the crane of a link, or the supervisor. -/
inductive Requester where
  | crane (c : Crane)
  | supervisor
  deriving DecidableEq, Repr

/-- One item of PLAN_CONFLICTS and PLAN_REMOVE_CONFLICTS: two cell numbers and a kind byte (Table 12-12). -/
structure PairItem where
  first : Nat
  second : Nat
  kind : Nat
  deriving DecidableEq, Repr

/-- One point of PLAN_CHART: a radius and a load (R5). -/
structure ChartPoint where
  radius : Nat
  load : Nat
  deriving DecidableEq, Repr

/-- The fields of PLAN_CRANE after the crane number (R4, Table 12-12). -/
structure CraneFields where
  present : Nat
  reach : Nat
  margin : Nat
  vane : Nat
  park : Nat
  lw : Nat
  sw : Nat
  mw : Nat
  hw : Nat
  deriving DecidableEq, Repr

/-- A PLAN_SCHEDULE frame that does not define: the action byte, REMOVE being 1, and the weekday set, start and end, which are passed
over (Table 12-12) and stand in the request buffer as received (R172). -/
structure RemovalFields where
  action : Nat
  days : Nat
  start : Nat
  stop : Nat
  deriving DecidableEq, Repr

/-- The eight fields of PLAN_SITE (R11, Table 12-12). -/
structure SiteFields where
  dead : Nat
  wait : Nat
  tolerance : Nat
  early : Nat
  grace : Nat
  securing : Nat
  discipline : Nat
  cadence : Nat
  deriving DecidableEq, Repr

/-- The commands. A constructor's docstring names its row of the table and the rule that gives its meaning. -/
inductive Instr where
  /-- POWER_ON (R21) -/
  | powerOn
  /-- RESET_ASSERTED (R175) -/
  | resetAsserted
  /-- SITE_STOP_ASSERTED (R89) -/
  | siteStopAsserted
  /-- SITE_STOP_DEASSERTED (R89) -/
  | siteStopDeasserted
  /-- SITE_SECOND_BOUNDARY (R22) -/
  | siteSecondBoundary
  /-- STORE_WRITE_END (R17), with whether the read-back found the image good -/
  | storeWriteEnd (good : Bool)
  /-- ASSEMBLY_TIMEOUT (R31) on a link -/
  | assemblyTimeout (c : Crane)
  /-- LINK_BAD_FRAME (R33) on a link -/
  | linkBadFrame (c : Crane)
  /-- FRAME_TRANSMITTED (R46) on a link -/
  | frameTransmitted (c : Crane)
  /-- STATUS (R42) -/
  | status (c : Crane) (r : Report)
  /-- REJOIN (R45) -/
  | rejoin (c : Crane) (r : Report)
  /-- ENTER (R57) for a sector number -/
  | enter (c : Crane) (sector : Nat)
  /-- RELEASE (R61) for a sector number -/
  | release (c : Crane) (sector : Nat)
  /-- PROPOSE_LIFT (R140); `crane` is the number a supervisor request carries, passed over from a crane -/
  | proposeLift (q : Requester) (crane : Nat) (f : LiftFields)
  /-- CONFIRM_LIFT (R141) -/
  | confirmLift (q : Requester) (id : Nat)
  /-- AMEND_LIFT (R143) -/
  | amendLift (q : Requester) (id : Nat) (f : LiftFields)
  /-- CANCEL_LIFT (R144) -/
  | cancelLift (q : Requester) (id : Nat)
  /-- LOCK_LIFT (R145) -/
  | lockLift (q : Requester) (id : Nat)
  /-- UNLOCK_LIFT (R145) -/
  | unlockLift (q : Requester) (id : Nat)
  /-- QUERY_LIFT (R148) -/
  | queryLift (q : Requester) (id : Nat)
  /-- LIST_LIFTS (R149): crane selector, state filter, from-id -/
  | listLifts (q : Requester) (selector filter fromId : Nat)
  /-- START_LIFT (R152) -/
  | startLift (q : Requester) (id : Nat)
  /-- FINISH_LIFT (R160) -/
  | finishLift (q : Requester) (id : Nat)
  /-- LAND_LIFT (R160) -/
  | landLift (q : Requester) (id : Nat)
  /-- SUSPEND_LIFT (R157) -/
  | suspendLift (q : Requester) (id : Nat)
  /-- RESUME_LIFT (R158) -/
  | resumeLift (q : Requester) (id : Nat)
  /-- SUPERVISOR_BAD_FRAME (R172), with the bytes of the transaction -/
  | supervisorBadFrame (bytes : List Byte)
  /-- FETCH (R173), with the number of bytes clocked in the transaction -/
  | fetch (count : Nat)
  /-- IDENTIFY (R174) -/
  | identify
  /-- READ_CLOCK (R24) -/
  | readClock
  /-- SET_TIME (R26) -/
  | setTime (time : Nat)
  /-- PLAN_CRANE (R4) -/
  | planCrane (crane : Nat) (f : CraneFields)
  /-- PLAN_CHART (R5) -/
  | planChart (crane : Nat) (points : List ChartPoint)
  /-- PLAN_CONFLICTS (R6) -/
  | planConflicts (items : List PairItem)
  /-- PLAN_REMOVE_CONFLICTS (R7) -/
  | planRemoveConflicts (items : List PairItem)
  /-- PLAN_CLEAR_CONFLICTS (R7) -/
  | planClearConflicts
  /-- PLAN_CELLS (R8): crane, sector set, restriction class, schedule reference -/
  | planCells (crane sectors cls schedule : Nat)
  /-- PLAN_SCHEDULE_DEFINE (R9): index, weekday set, start and end minute of day -/
  | planScheduleDefine (index days start stop : Nat)
  /-- PLAN_SCHEDULE_REMOVE (R9): index, and the action byte, which is not DEFINE, with the fields passed over -/
  | planScheduleRemove (index : Nat) (action : RemovalFields)
  /-- PLAN_SITE (R11) -/
  | planSite (f : SiteFields)
  /-- PLAN_ALERT_MODES (R12): alert kinds with modes -/
  | planAlertModes (items : List (Nat × Nat))
  /-- PLAN_COMMIT (R16), with the level of PROTECT sampled when it is taken (R15) -/
  | planCommit (protect : Bool)
  /-- PLAN_DISCARD (R19) -/
  | planDiscard
  /-- PLAN_READ (R20): plan selector, section, item -/
  | planRead (selector section_ item : Nat)
  /-- OPEN_SITE (R115) -/
  | openSite
  /-- CLOSE_SITE (R120) -/
  | closeSite
  /-- RESUME_SITE (R126) -/
  | resumeSite
  /-- RETURN_TO_SETUP (R129) -/
  | returnToSetup
  /-- QUERY_SITE (R130) -/
  | querySite
  /-- QUERY_CRANE (R49) -/
  | queryCrane (crane : Nat)
  /-- QUERY_CELLS (R71) -/
  | queryCells (crane : Nat)
  /-- QUERY_WAITS (R81) -/
  | queryWaits
  /-- QUERY_CONFORMANCE (R94) -/
  | queryConformance (crane : Nat)
  /-- QUERY_WIND (R111) -/
  | queryWind (crane : Nat)
  /-- FORCE_RELEASE (R65): crane, sector set -/
  | forceRelease (crane sectors : Nat)
  /-- STOP_CRANE (R90) -/
  | stopCrane (crane : Nat)
  /-- CLEAR_STOP (R93): crane, reason set -/
  | clearStop (crane reasons : Nat)
  /-- CLEAR_ALERTS (R167): alert kinds -/
  | clearAlerts (kinds : List Nat)
  /-- QUERY_ALERTS (R168) -/
  | queryAlerts
  /-- REPORT_BOUND_EXPIRY (R40) of a crane -/
  | reportBoundExpiry (c : Crane)
  /-- CLEARING_EXPIRY (R63) of a cell -/
  | clearingExpiry (c : Crane) (x : Sector)
  /-- WAIT_DEADLINE (R77) of the entry of a crane for a sector -/
  | waitDeadline (c : Crane) (x : Sector)
  /-- CONFIRM_DEADLINE (R142) of a booking -/
  | confirmDeadline (id : Nat)
  /-- DWELL_COMPLETION (R104) of a crane -/
  | dwellCompletion (c : Crane)
  /-- SECURING_TIMER_EXPIRY (R124) of a crane -/
  | securingTimerExpiry (c : Crane)
  /-- SIREN_PULSE_PHASE (R166) -/
  | sirenPulsePhase
  /-- LINK_BYTE_RECEIVED (R31): a byte on a link, and whether its stop bit was good -/
  | linkByteReceived (c : Crane) (b : Byte) (stopGood : Bool)
  /-- POWER_LOSS (R18) -/
  | powerLoss
  deriving DecidableEq, Repr

end Sys2Proof
end

