-- ==== Sys2Proof/Decode.lean ====
section
/-!
DEFINITION. The command a word of the opcode table spells: the table gives no row any bits, so no word spells one. The frames
of the wire are read by `readLink` and `readRequest` (Machine/Frames.lean).
-/
namespace Sys2Proof

/-- No row of spec/opcode_table.json gives bits. -/
def decodeTableWord (_nbits _w : Nat) : Option Instr := none

end Sys2Proof
end

