-- ==== Sys2Proof/Config.lean ====
section
/-!
DEFINITION. The fixed figures of the part, as IDENTIFY reports them (Table 12-10) and the rules use them, and the free
values: constants without a body, of which no proof can know more than their type.
-/
namespace Sys2Proof.Config

/-- The greatest site time (R22). -/
def maxSiteTime : Nat := 4294967295
/-- The greatest site minute (R22, R135). -/
def maxSiteMinute : Nat := 71582788
/-- Conflict pairs a plan may hold (R6). -/
def maxPairs : Nat := 1024
/-- HELD cells a crane may have (R51, R56). -/
def maxHeld : Nat := 4
/-- Entries on the wait list (R72). -/
def maxWaits : Nat := 16
/-- Entries of one crane on the wait list (R72). -/
def maxWaitsPerCrane : Nat := 2
/-- Booking records (R131). -/
def maxBookings : Nat := 64
/-- Live records of one crane (R131). -/
def maxBookingsPerCrane : Nat := 16
/-- The start horizon of a booking, in minutes (R135). -/
def startHorizon : Nat := 10080
/-- The confirm deadline of a PENDING booking, in ms (R140). -/
def confirmTime : Nat := 60000
/-- The earliest report that is not early, in ms (R38). -/
def earliestReport : Nat := 250
/-- The report window outside CLOSED, in ms (R39). -/
def latestReport : Nat := 2000
/-- The report window in CLOSED, in ms (R39). -/
def latestReportClosed : Nat := 10000
/-- "No reading" samples that make the wind unknown (R97). -/
def noReadingsBeforeUnknown : Nat := 3
/-- Frames in a transmit queue (R46). -/
def maxQueue : Nat := 6
/-- The longest store write, in ms (R17). -/
def storeWriteTime : Nat := 400
/-- The clock trim accepted in OPEN and STORM, in seconds (R26). -/
def clockTrim : Nat := 60
/-- The quiet after which an assembly is cut off, in ms (R31). -/
def assemblyQuiet : Nat := 5
/-- An on or off phase of a PULSED siren, in ms (R166). -/
def sirenPhaseTime : Nat := 1000
/-- Bytes of answer fields in one response frame (R173). -/
def responseFieldBytes : Nat := 59
/-- Response frames of one response (R173). -/
def maxResponseFrames : Nat := 8
/-- Bytes the request buffer keeps (R172). -/
def requestBufferBytes : Nat := 64

/-- FREE VALUE (entry 2): which of several timed events that came due together is taken first. -/
opaque pickDue : Nat → Nat

/-- FREE VALUE (entry 6): whether the read-back of a store write that runs to its 400 ms limit finds the image good. -/
opaque readBackGood : Nat → Bool

/-- FREE VALUE (entry 16): the figure reported where a difference a − b of unvalidated plan values would be negative. -/
opaque negativeFigure : Nat → Nat → Nat

end Sys2Proof.Config
end

