-- ==== Sys2Proof/Machine/Types.lean ====
section
/-!
DEFINITION. The named values and the records of the blocks, chapter by chapter (00_scope, Block diagram).
-/
namespace Sys2Proof.Machine

/-! ### Cells and the plan (chapter 1) -/

/-- One cell of the cell table, written C2/S5 in the manual. -/
structure CellId where
  crane : Crane
  sector : Sector
  deriving DecidableEq, Repr

/-- FREE (the crane weathervanes out of service) or PARKED (R4). -/
inductive VaneMode where
  | free | parked
  deriving DecidableEq, Repr

/-- The kind of a conflict pair (section 1.3). -/
inductive PairKind where
  | struct | hook
  deriving DecidableEq, Repr

/-- A conflict pair, its lower-numbered cell first (R1). -/
structure Pair where
  lo : CellId
  hi : CellId
  kind : PairKind
  deriving DecidableEq, Repr

/-- A restriction class; `unrestricted` is OPEN, and "none" as a restriction in force (R8, R10). -/
inductive RestrClass where
  | unrestricted | noLoad | barred
  deriving DecidableEq, Repr

/-- The restriction of one cell: its class and its schedule reference, index 1..8 as place 0..7 (R8). -/
structure CellRule where
  cls : RestrClass
  schedule : Option (Fin 8)
  deriving DecidableEq, Repr

/-- A defined schedule: weekdays with 0 = Monday, start and end minute of day, as stored (R9). -/
structure Schedule where
  days : List (Fin 7)
  start : Nat
  stop : Nat
  deriving DecidableEq, Repr

/-- A crane entry (Table 1-2). -/
structure CraneEntry where
  present : Bool
  reach : Nat
  margin : Nat
  vane : VaneMode
  park : Sector
  lw : Nat
  sw : Nat
  mw : Nat
  hw : Nat
  deriving DecidableEq, Repr

inductive Discipline where
  | strict | loose
  deriving DecidableEq, Repr

inductive Cadence where
  | steady | pulsed
  deriving DecidableEq, Repr

/-- The site parameters (Table 1-4). -/
structure SiteParams where
  dead : Nat
  wait : Nat
  tolerance : Nat
  early : Nat
  grace : Nat
  securing : Nat
  discipline : Discipline
  cadence : Cadence
  deriving DecidableEq, Repr

/-- An alert mode (chapter 11). -/
inductive AlertMode where
  | stop | warn | quiet
  deriving DecidableEq, Repr

/-- A plan (Table 1-1). `pairs` is kept in pair order, each pair once. `modes` holds the 13 configurable kinds in the
order of Table 1-5. -/
structure Plan where
  cranes : Tab 8 CraneEntry
  charts : Tab 8 (List ChartPoint)
  pairs : List Pair
  cells : Tab 8 (Tab 16 CellRule)
  schedules : Tab 8 (Option Schedule)
  site : SiteParams
  modes : Tab 13 AlertMode
  deriving DecidableEq, Repr

/-- A good plan store image (R17, R21). -/
structure PlanImage where
  plan : Plan
  edition : Nat
  stamp : Nat
  deriving DecidableEq, Repr

inductive StoreCondition where
  | good | fault
  deriving DecidableEq, Repr

/-- The Plan Store (R1, R17, R20). `write` is the latest monotonic time at which the write in progress ends. -/
structure PlanStore where
  staging : Plan
  committed : Plan
  edition : Nat
  stamp : Nat
  condition : StoreCondition
  write : Option Nat
  image : Option PlanImage
  deriving DecidableEq, Repr

/-! ### The site clock (chapter 2) -/

/-- The clock-set record (R24). -/
structure ClockRecord where
  oldTime : Nat
  newTime : Nat
  wasSet : Bool
  stamp : Nat
  deriving DecidableEq, Repr

/-- The Site Clock (R22, R23, R24); `boundary` is the monotonic time of the next site second boundary. -/
structure Clock where
  mono : Nat
  site : Nat
  boundary : Nat
  isSet : Bool
  record : Option ClockRecord
  deriving DecidableEq, Repr

/-! ### Links and crane records (chapter 3) -/

/-- A good crane frame by its kind, with its payload's fields (Table 12-3). -/
inductive LinkFrame where
  | status (r : Report)
  | rejoin (r : Report)
  | enter (sector : Nat)
  | release (sector : Nat)
  | proposeLift (f : LiftFields)
  | confirmLift (id : Nat)
  | amendLift (id : Nat) (f : LiftFields)
  | cancelLift (id : Nat)
  | startLift (id : Nat)
  | finishLift (id : Nat)
  | landLift (id : Nat)
  | resumeLift (id : Nat)
  | queryLift (id : Nat)
  | listLifts (selector filter fromId : Nat)
  | lockLift (id : Nat)
  | unlockLift (id : Nat)
  | suspendLift (id : Nat)
  deriving DecidableEq, Repr

/-- The receive state of a link channel (R31): the bytes gathered since the start byte, and the time of the last. -/
inductive RxState where
  | hunting
  | assembling (bytes : List Byte) (last : Nat)
  deriving DecidableEq, Repr

inductive SiteState where
  | setup | opened | storm | closed
  deriving DecidableEq, Repr

/-- A service state other than LOST (R113). -/
inductive SvcState where
  | offline | standby | inService | securing | vaneWait | outOfService
  deriving DecidableEq, Repr

/-- Service orders and standing orders (Table 12-2). -/
inductive Order where
  | work | stop | secure | vaneRelease | park | remainSecured | rejoinRequired
  deriving DecidableEq, Repr

/-- The stop reasons, in the bit order of Table 12-2 (section 6.5). -/
inductive StopReason where
  | siteStop | conflict | intrusion | offPath | nonconform | overrun | restricted | reportEarly | supervisor
  deriving DecidableEq, Repr

inductive WindState where
  | calm | caution | hold | storm
  deriving DecidableEq, Repr

/-- The answer codes (Table 12-9). -/
inductive Code where
  | ok | queued | busy | badState | badValue | notFound | notPermitted | conflict | pathBusy | restricted | limit | full
  | wind | locked | stopped | siteClosed | outOfReach | overweight | tooLate | offPath | inUse | protected_ | invalid
  | clockUnset | clockJump | rejoinRequired | liftsOpen
  deriving DecidableEq, Repr

/-- One field of an answer: its width in bytes and its value. -/
structure Field where
  width : Nat
  value : Nat
  deriving DecidableEq, Repr

/-- An answer: its code and its fields. -/
structure Answer where
  code : Code
  fields : List Field
  deriving DecidableEq, Repr

/-- The fields of a STATUS_ACK (R43); `service` is the wire code of the service state. -/
structure StatusAck where
  code : Code
  site : SiteState
  service : Nat
  order : Order
  stops : List StopReason
  held : List Sector
  clearing : List Sector
  seized : List Sector
  waiting : List Sector
  lift : Nat
  wind : WindState
  unknown : Bool
  gust : Nat
  deriving DecidableEq, Repr

inductive DenyReason where
  | timeout | stopped | lost | service
  deriving DecidableEq, Repr

inductive NoticeEvent where
  | due | expired | lapsed | cancelledBySupervisor | suspended | resumable
  deriving DecidableEq, Repr

/-- The suspension reasons, in the bit order of Table 12-2 (R151). -/
inductive SuspReason where
  | wind | storm | stopOrder | lost | nonconform | supervisor
  deriving DecidableEq, Repr

/-- A frame the part sends on a link (R46, Table 12-3). -/
inductive TxFrame where
  | statusAck (a : StatusAck)
  | answer (kind : Nat) (a : Answer)
  | grant (x : Sector)
  | deny (x : Sector) (why : DenyReason)
  | liftNotice (id : Nat) (event : NoticeEvent) (reasons : List SuspReason)
  deriving DecidableEq, Repr

/-- A link channel (R31, R34, R46). -/
structure Channel where
  rx : RxState
  buffer : Option LinkFrame
  queue : List TxFrame
  sending : Option TxFrame
  deriving DecidableEq, Repr

inductive Presence where
  | offline | present | lost
  deriving DecidableEq, Repr

/-- The report contents of a crane record (R36, R37); `none` for a load or a wind is "no reading". -/
structure Contents where
  angle : Nat
  radius : Nat
  load : Option Nat
  wind : Option Nat
  secured : Bool
  vaneEngaged : Bool
  atRest : Bool
  deriving DecidableEq, Repr

/-- A crane record (R36). -/
structure CraneRec where
  presence : Presence
  lastReport : Option Nat
  bound : Option Nat
  contents : Option Contents
  noReading : Nat
  deriving DecidableEq, Repr

/-! ### The cell table and the wait list (chapters 4 and 5) -/

inductive CellState where
  | free | held | clearing | seized | vane | parked
  deriving DecidableEq, Repr

inductive Origin where
  | enter | wait | seed | resume | seize
  deriving DecidableEq, Repr

/-- A cell record (R50). -/
structure Cell where
  state : CellState
  since : Nat
  origin : Option Origin
  clearEnd : Option Nat
  deriving DecidableEq, Repr

/-- A wait entry (R72). -/
structure Wait where
  crane : Crane
  sector : Sector
  arrival : Nat
  deadline : Nat
  deriving DecidableEq, Repr

/-! ### Conformance (chapter 6) -/

/-- An occupied set: its low and its high sector, equal when the set has one (R82). -/
structure Occupied where
  low : Sector
  high : Sector
  deriving DecidableEq, Repr

inductive Conformance where
  | conforms | nonconforms
  deriving DecidableEq, Repr

/-- An entry of the conflict register (R85). -/
structure RegEntry where
  cell : CellId
  partners : List Crane
  deriving DecidableEq, Repr

/-! ### Wind (chapter 7) -/

inductive DwellStep where
  | stormToHold | holdToCaution | cautionToCalm
  deriving DecidableEq, Repr

structure Dwell where
  step : DwellStep
  start : Nat
  deriving DecidableEq, Repr

/-- A wind record (R95). -/
structure WindRec where
  heard : Bool
  unknown : Bool
  state : WindState
  window : List Nat
  acc : Nat
  dwell : Option Dwell
  deriving DecidableEq, Repr

inductive Verdict where
  | overLimit | clear | steady
  deriving DecidableEq, Repr

/-! ### Service (chapter 8) -/

/-- The results of the four conditions of R121 at the last securing test. -/
structure Readiness where
  loadLanded : Bool
  securedAtRest : Bool
  noLift : Bool
  inPark : Bool
  deriving DecidableEq, Repr

/-- A service record (R113). While `lost` is set the service state is LOST and `state` is the remembered state. -/
structure ServiceRec where
  state : SvcState
  lost : Bool
  order : Order
  timer : Option Nat
  withheld : Bool
  readiness : Option Readiness
  deriving DecidableEq, Repr

/-! ### Bookings (chapters 9 and 10) -/

inductive AreaClass where
  | a0 | a1 | a2 | a3
  deriving DecidableEq, Repr

/-- The live states of a booking, with the field each alone has (R131). -/
inductive BookingState where
  | pending (deadline : Nat)
  | booked
  | active
  | suspended (reasons : List SuspReason)
  deriving DecidableEq, Repr

/-- The fields a request gives a booking, once admitted (R131). -/
structure LiftData where
  start : Nat
  length : Nat
  mass : Nat
  cls : AreaClass
  reach : Nat
  path : List Sector
  tag : Option Nat
  deriving DecidableEq, Repr

/-- A booking record (R131). -/
structure Booking where
  id : Nat
  crane : Crane
  state : BookingState
  data : LiftData
  originator : Requester
  locked : Bool
  due : Bool
  overrun : Bool
  changedAt : Nat
  changedBy : Requester
  deriving DecidableEq, Repr

/-! ### Alerts (chapter 11) -/

/-- The alert kinds in the order of Table 11-1, which is their code order (Table 12-2). -/
inductive AlertKind where
  | conflict | siteStop | storm | intrusion | craneLost | windHold | windUnknown | offPath | nonconform | overrun
  | restricted | planFault | secureOverdue | windCaution | reportEarly | frameError
  deriving DecidableEq, Repr

/-- An alert record (R163). `cranes` is the present set of a crane-scoped kind, `flag` the present flag of a
site-scoped one. `latch` is the first-latched time while the kind is latched. -/
structure AlertRec where
  mode : AlertMode
  cranes : List Crane
  flag : Bool
  involved : List Crane
  latch : Option Nat
  deriving DecidableEq, Repr

/-- The lines of the Alert Controller (R166): ALERT# asserted, SIREN asserted, and the end of the running phase of a
PULSED siren. -/
structure Lines where
  alert : Bool
  siren : Bool
  phase : Option Nat
  deriving DecidableEq, Repr

/-! ### Ports and pins (chapter 12) -/

/-- The MISO pin (R173, R175): at high impedance, or driven by the part while CS# is asserted. -/
inductive MisoPin where
  | highImpedance | driven
  deriving DecidableEq, Repr

/-- The Supervisor Port (R172, R173): the request buffer, the unread response frames, RDY, the MISO pin, and `lastOut`, the
model's own record of the bytes MISO carried in the last transaction. A port command is a whole transaction, from CS# asserted
to CS# deasserted, so between commands MISO is at high impedance (entry 21). -/
structure Port where
  request : List Byte
  slot : List (List Byte)
  rdy : Bool
  miso : MisoPin
  lastOut : List Byte
  deriving DecidableEq, Repr

/-- The supply and RESET# (R18, R175). -/
inductive Power where
  | off | inReset | running
  deriving DecidableEq, Repr

/-- The input pins: SITE_STOP# asserted, and PROTECT high when it was last sampled. -/
structure Pins where
  power : Power
  siteStop : Bool
  protect : Bool
  deriving DecidableEq, Repr

end Sys2Proof.Machine
end

