-- ==== Sys2Proof/Machine/Sets.lean ====
section
/-!
DEFINITION. Sets of named values as lists in the order of their universe, each member once (00_scope, Sets and lists),
and the universes.
-/
namespace Sys2Proof.Machine

/-- The stop reasons in bit order (Table 12-2). -/
def StopReason.all : List StopReason :=
  [.siteStop, .conflict, .intrusion, .offPath, .nonconform, .overrun, .restricted, .reportEarly, .supervisor]

/-- The suspension reasons in bit order (Table 12-2). -/
def SuspReason.all : List SuspReason := [.wind, .storm, .stopOrder, .lost, .nonconform, .supervisor]

/-- The alert kinds in code order (Table 12-2). -/
def AlertKind.all : List AlertKind :=
  [.conflict, .siteStop, .storm, .intrusion, .craneLost, .windHold, .windUnknown, .offPath, .nonconform, .overrun,
    .restricted, .planFault, .secureOverdue, .windCaution, .reportEarly, .frameError]

/-- The weekdays, 0 = Monday. -/
def allDays : List (Fin 7) := [0, 1, 2, 3, 4, 5, 6]

/-- The set with `x` added; a member already there leaves the set as it is. -/
def setAdd {α : Type} [DecidableEq α] (all : List α) (x : α) (set : List α) : List α :=
  if x ∈ set then set else all.filter (fun y => decide (y = x) || decide (y ∈ set))

/-- The set without `x`. -/
def setDel {α : Type} [DecidableEq α] (x : α) (set : List α) : List α := set.filter (fun y => !decide (y = x))

/-- The members of the universe whose place in it is a set bit of `mask`. -/
def setOfMask {α : Type} (all : List α) (mask : Nat) : List α :=
  (all.zipIdx.filter (fun p => mask.testBit p.2)).map Prod.fst

end Sys2Proof.Machine
end

