-- ==== Sys2Proof/Machine/Codes.lean ====
section
/-!
DEFINITION. The encodings of Tables 12-1, 12-2 and 12-9: the number of each named value on the wire, and the fields of
answers.
-/
namespace Sys2Proof.Machine

/-! ### Enumerated values (Table 12-2) -/

def SiteState.code : SiteState → Nat
  | .setup => 0 | .opened => 1 | .storm => 2 | .closed => 3

def SvcState.code : SvcState → Nat
  | .offline => 0 | .standby => 1 | .inService => 2 | .securing => 3 | .vaneWait => 4 | .outOfService => 5

/-- The service state as the manual names it: LOST is 6. -/
def ServiceRec.code (r : ServiceRec) : Nat := if r.lost then 6 else r.state.code

def Order.code : Order → Nat
  | .work => 0 | .stop => 1 | .secure => 2 | .vaneRelease => 3 | .park => 4 | .remainSecured => 5
  | .rejoinRequired => 6

def WindState.code : WindState → Nat
  | .calm => 0 | .caution => 1 | .hold => 2 | .storm => 3

def CellState.code : CellState → Nat
  | .free => 0 | .held => 1 | .clearing => 2 | .seized => 3 | .vane => 4 | .parked => 5

def BookingState.code : BookingState → Nat
  | .pending _ => 0 | .booked => 1 | .active => 2 | .suspended _ => 3

/-- The terminal booking states (Table 12-2). -/
def completedCode : Nat := 4
def abandonedCode : Nat := 5
def cancelledCode : Nat := 6
def expiredCode : Nat := 7
def lapsedCode : Nat := 8

def AreaClass.code : AreaClass → Nat
  | .a0 => 0 | .a1 => 1 | .a2 => 2 | .a3 => 3

def StopReason.bit : StopReason → Nat
  | .siteStop => 0 | .conflict => 1 | .intrusion => 2 | .offPath => 3 | .nonconform => 4 | .overrun => 5
  | .restricted => 6 | .reportEarly => 7 | .supervisor => 8

def SuspReason.bit : SuspReason → Nat
  | .wind => 0 | .storm => 1 | .stopOrder => 2 | .lost => 3 | .nonconform => 4 | .supervisor => 5

def DenyReason.code : DenyReason → Nat
  | .timeout => 0 | .stopped => 1 | .lost => 2 | .service => 3

def NoticeEvent.code : NoticeEvent → Nat
  | .due => 0 | .expired => 1 | .lapsed => 2 | .cancelledBySupervisor => 3 | .suspended => 4 | .resumable => 5

/-- The alert kind's code, and its place in the alert table. -/
def AlertKind.code : AlertKind → Fin 16
  | .conflict => 0 | .siteStop => 1 | .storm => 2 | .intrusion => 3 | .craneLost => 4 | .windHold => 5
  | .windUnknown => 6 | .offPath => 7 | .nonconform => 8 | .overrun => 9 | .restricted => 10 | .planFault => 11
  | .secureOverdue => 12 | .windCaution => 13 | .reportEarly => 14 | .frameError => 15

/-- The place of a configurable kind in the plan's modes (Table 1-5); the fixed kinds have none. -/
def AlertKind.slot : AlertKind → Option (Fin 13)
  | .conflict => none | .siteStop => none | .storm => none
  | .intrusion => some 0 | .craneLost => some 1 | .windHold => some 2 | .windUnknown => some 3 | .offPath => some 4
  | .nonconform => some 5 | .overrun => some 6 | .restricted => some 7 | .planFault => some 8
  | .secureOverdue => some 9 | .windCaution => some 10 | .reportEarly => some 11 | .frameError => some 12

/-- Whether a kind's condition is the site's and not a crane's (Table 11-1). -/
def AlertKind.siteScoped : AlertKind → Bool
  | .siteStop | .storm | .planFault => true
  | .conflict | .intrusion | .craneLost | .windHold | .windUnknown | .offPath | .nonconform | .overrun | .restricted
  | .secureOverdue | .windCaution | .reportEarly | .frameError => false

/-- The stop reason a kind in STOP mode hands to the Conformance Monitor (R165). -/
def AlertKind.stopReason : AlertKind → Option StopReason
  | .conflict => some .conflict | .intrusion => some .intrusion | .offPath => some .offPath
  | .nonconform => some .nonconform | .overrun => some .overrun | .restricted => some .restricted
  | .reportEarly => some .reportEarly
  | .siteStop | .storm | .craneLost | .windHold | .windUnknown | .planFault | .secureOverdue | .windCaution
  | .frameError => none

def AlertMode.code : AlertMode → Nat
  | .stop => 0 | .warn => 1 | .quiet => 2

def VaneMode.code : VaneMode → Nat
  | .free => 0 | .parked => 1

def RestrClass.code : RestrClass → Nat
  | .unrestricted => 0 | .noLoad => 1 | .barred => 2

def PairKind.code : PairKind → Nat
  | .struct => 0 | .hook => 1

def Discipline.code : Discipline → Nat
  | .strict => 0 | .loose => 1

def Cadence.code : Cadence → Nat
  | .steady => 0 | .pulsed => 1

def StoreCondition.code : StoreCondition → Nat
  | .good => 0 | .fault => 1

def Presence.code : Presence → Nat
  | .offline => 0 | .present => 1 | .lost => 2

def Origin.code : Origin → Nat
  | .enter => 0 | .wait => 1 | .seed => 2 | .resume => 3 | .seize => 4

def Conformance.code : Conformance → Nat
  | .conforms => 0 | .nonconforms => 1

def DwellStep.code : DwellStep → Nat
  | .stormToHold => 0 | .holdToCaution => 1 | .cautionToCalm => 2

def Verdict.code : Verdict → Nat
  | .overLimit => 0 | .clear => 1 | .steady => 2

/-- Table 12-9 -/
def Code.number : Code → Nat
  | .ok => 0 | .queued => 1 | .busy => 2 | .badState => 3 | .badValue => 4 | .notFound => 5 | .notPermitted => 6
  | .conflict => 7 | .pathBusy => 8 | .restricted => 9 | .limit => 10 | .full => 11 | .wind => 12 | .locked => 13
  | .stopped => 14 | .siteClosed => 15 | .outOfReach => 16 | .overweight => 17 | .tooLate => 18 | .offPath => 19
  | .inUse => 20 | .protected_ => 21 | .invalid => 22 | .clockUnset => 23 | .clockJump => 24 | .rejoinRequired => 25
  | .liftsOpen => 26

def flag (b : Bool) : Nat := if b then 1 else 0

/-- The cell number, 16 × crane + sector (R1). -/
def CellId.number (q : CellId) : Nat := 16 * q.crane.val + q.sector.val

/-- A set of numbered members as bits (Table 12-1). -/
def maskOf (bits : List Nat) : Nat := bits.foldl (fun m b => m ||| 2 ^ b) 0

def sectorMask (xs : List Sector) : Nat := maskOf (xs.map Fin.val)
def craneMask (cs : List Crane) : Nat := maskOf (cs.map Fin.val)
def stopMask (rs : List StopReason) : Nat := maskOf (rs.map StopReason.bit)
def suspMask (rs : List SuspReason) : Nat := maskOf (rs.map SuspReason.bit)

/-! ### Fields (Table 12-1) -/

/-- The value of an absent field of `w` bytes: every bit set (Table 12-1; entry 8). -/
def absentValue (w : Nat) : Nat := 256 ^ w - 1

def f1 (v : Nat) : Field := ⟨1, v⟩
def f2 (v : Nat) : Field := ⟨2, v⟩
def f4 (v : Nat) : Field := ⟨4, v⟩
def f6 (v : Nat) : Field := ⟨6, v⟩

/-- A field that may be absent. -/
def fOpt (w : Nat) (v : Option Nat) : Field := ⟨w, v.getD (absentValue w)⟩

def fFlag (b : Bool) : Field := f1 (flag b)
def fCrane (c : Crane) : Field := f1 c.val
def fSector (x : Sector) : Field := f1 x.val
def fCell (q : CellId) : Field := f1 q.number
def fSectors (xs : List Sector) : Field := f2 (sectorMask xs)
def fCranes (cs : List Crane) : Field := f1 (craneMask cs)
def fStops (rs : List StopReason) : Field := f2 (stopMask rs)
def fSusps (rs : List SuspReason) : Field := f1 (suspMask rs)

/-- An answer that carries its code alone. -/
def answer (c : Code) : Answer := ⟨c, []⟩

/-- OK with fields. -/
def okWith (fs : List Field) : Answer := ⟨.ok, fs⟩

/-- A requester as QUERY_LIFT gives it (Table 12-7): the crane, or 0xFE for SUPERVISOR. -/
def requesterNumber : Requester → Nat
  | .crane c => c.val
  | .supervisor => 0xFE

end Sys2Proof.Machine
end

