-- ==== Sys2Proof/Machine/Frames.lean ====
section
/-!
DEFINITION. The frames on the wire (chapter 12): little-endian fields, the CRC, the payloads of crane frames and of
supervisor requests read from bytes and written to bytes, the frames the part sends, and the response frames.
-/
namespace Sys2Proof.Machine

/-- The `w` bytes of a field, least significant first (section 12.1). -/
def leBytes : Nat → Nat → List Byte
  | 0, _ => []
  | w + 1, v => BitVec.ofNat 8 v :: leBytes w (v / 256)

def Field.bytes (f : Field) : List Byte := leBytes f.width f.value

def fieldBytes (fs : List Field) : List Byte := fs.flatMap Field.bytes

/-- Two and four bytes read as one number. -/
def u16 (a b : Byte) : Nat := a.toNat + 256 * b.toNat
def u32 (a b c d : Byte) : Nat := u16 a b + 65536 * u16 c d

/-! ### The CRC (R169) -/

/-- One bit of the CRC-8 with polynomial 0x31, most significant bit first. -/
def crcBit (r : Byte) : Byte := if r.msb then (r <<< 1) ^^^ 0x31#8 else r <<< 1

def crcByte (r b : Byte) : Byte :=
  crcBit (crcBit (crcBit (crcBit (crcBit (crcBit (crcBit (crcBit (r ^^^ b))))))))

/-- The CRC of a frame's bytes, from 0x00. -/
def crc8 (bytes : List Byte) : Byte := bytes.foldl crcByte 0#8

/-! ### Crane frames (Tables 12-3 to 12-5) -/

def readReport : List Byte → Option Report
  | [a0, a1, r0, r1, l0, l1, w0, w1, f] => some ⟨u16 a0 a1, u16 r0 r1, u16 l0 l1, u16 w0 w1, f.toNat⟩
  | _ => none

def reportBytes (r : Report) : List Byte :=
  leBytes 2 r.angle ++ leBytes 2 r.radius ++ leBytes 2 r.load ++ leBytes 2 r.wind ++ leBytes 1 r.flags

def readLift : List Byte → Option LiftFields
  | [s0, s1, s2, s3, len, m0, m1, cls, r0, r1, n, p0, p1, p2, p3, p4, p5, p6, p7, tp, t0, t1, t2, t3] =>
    some
      { start := u32 s0 s1 s2 s3, length := len.toNat, mass := u16 m0 m1, areaClass := cls.toNat, reach := u16 r0 r1,
        pathCount := n.toNat,
        path := [p0.toNat, p1.toNat, p2.toNat, p3.toNat, p4.toNat, p5.toNat, p6.toNat, p7.toNat],
        tagPresent := tp.toNat, tag := u32 t0 t1 t2 t3 }
  | _ => none

def liftBytes (f : LiftFields) : List Byte :=
  leBytes 4 f.start ++ leBytes 1 f.length ++ leBytes 2 f.mass ++ leBytes 1 f.areaClass ++ leBytes 2 f.reach ++
    leBytes 1 f.pathCount ++ f.path.flatMap (leBytes 1) ++ leBytes 1 f.tagPresent ++ leBytes 4 f.tag

def readId (mk : Nat → LinkFrame) : List Byte → Option LinkFrame
  | [a, b] => some (mk (u16 a b))
  | _ => none

/-- The frame a kind byte and a payload spell, when a crane may send the kind and the length is one the kind allows
(R32 checks 2 and 3, Table 12-3). -/
def readLink (kind : Nat) (p : List Byte) : Option LinkFrame :=
  match kind with
  | 0x10 => (readReport p).map .status
  | 0x11 => (readReport p).map .rejoin
  | 0x20 => match p with | [x] => some (.enter x.toNat) | _ => none
  | 0x21 => match p with | [x] => some (.release x.toNat) | _ => none
  | 0x30 => (readLift p).map .proposeLift
  | 0x31 => readId .confirmLift p
  | 0x32 => match p with | a :: b :: rest => (readLift rest).map (.amendLift (u16 a b)) | _ => none
  | 0x33 => readId .cancelLift p
  | 0x34 => readId .startLift p
  | 0x35 => readId .finishLift p
  | 0x36 => readId .landLift p
  | 0x37 => readId .resumeLift p
  | 0x38 => readId .queryLift p
  | 0x39 => match p with | [s, f, a, b] => some (.listLifts s.toNat f.toNat (u16 a b)) | _ => none
  | 0x3A => readId .lockLift p
  | 0x3B => readId .unlockLift p
  | 0x3C => readId .suspendLift p
  | _ => none

/-- The kind code of a crane frame (Table 12-3). -/
def LinkFrame.kind : LinkFrame → Nat
  | .status _ => 0x10 | .rejoin _ => 0x11 | .enter _ => 0x20 | .release _ => 0x21 | .proposeLift _ => 0x30
  | .confirmLift _ => 0x31 | .amendLift _ _ => 0x32 | .cancelLift _ => 0x33 | .startLift _ => 0x34
  | .finishLift _ => 0x35 | .landLift _ => 0x36 | .resumeLift _ => 0x37 | .queryLift _ => 0x38
  | .listLifts _ _ _ => 0x39 | .lockLift _ => 0x3A | .unlockLift _ => 0x3B | .suspendLift _ => 0x3C

/-- The payload of a crane frame. -/
def LinkFrame.payload : LinkFrame → List Byte
  | .status r | .rejoin r => reportBytes r
  | .enter x | .release x => leBytes 1 x
  | .proposeLift f => liftBytes f
  | .amendLift id f => leBytes 2 id ++ liftBytes f
  | .listLifts s f n => leBytes 1 s ++ leBytes 1 f ++ leBytes 2 n
  | .confirmLift id | .cancelLift id | .startLift id | .finishLift id | .landLift id | .resumeLift id
  | .queryLift id | .lockLift id | .unlockLift id | .suspendLift id => leBytes 2 id

/-- A frame with its CRC: kind, length, payload, CRC (R169, R171). The start byte of a link is not part of it. -/
def frameBytes (kind : Nat) (payload : List Byte) : List Byte :=
  let body := BitVec.ofNat 8 kind :: BitVec.ofNat 8 payload.length :: payload
  body ++ [crc8 body]

/-- A crane frame on the wire, its start byte first. -/
def LinkFrame.bytes (f : LinkFrame) : List Byte := 0xB4#8 :: frameBytes f.kind f.payload

/-- The checks of R32 on the bytes after the start byte: kind, length, payload, CRC. -/
def checkLink (bytes : List Byte) : Option LinkFrame :=
  match bytes with
  | kind :: _ :: _ =>
    if bytes.getLast? = some (crc8 bytes.dropLast) then readLink kind.toNat (bytes.dropLast.drop 2) else none
  | _ => none

/-! ### Frames the part sends on a link (R170, Tables 12-3, 12-6, 12-7) -/

/-- The waiting sectors of a STATUS_ACK: two places, 0xFF where unused. -/
def waitingFields : List Sector → List Field
  | [] => [f1 0xFF, f1 0xFF]
  | [x] => [fSector x, f1 0xFF]
  | x :: y :: _ => [fSector x, fSector y]

def StatusAck.fields (a : StatusAck) : List Field :=
  [f1 a.code.number, f1 a.site.code, f1 a.service, f1 a.order.code,
    f1 (flag (!a.stops.isEmpty) + 2 * flag a.unknown), fStops a.stops, fSectors a.held, fSectors a.clearing,
    fSectors a.seized] ++ waitingFields a.waiting ++ [f2 a.lift, f1 a.wind.code, f2 a.gust]

def TxFrame.kind : TxFrame → Nat
  | .statusAck _ => 0x80
  | .answer _ _ => 0x81
  | .grant _ => 0x90
  | .deny _ _ => 0x91
  | .liftNotice _ _ _ => 0x92

def TxFrame.payload : TxFrame → List Byte
  | .statusAck a => fieldBytes a.fields
  | .answer kind a => fieldBytes (f1 kind :: f1 a.code.number :: a.fields)
  | .grant x => fieldBytes [fSector x]
  | .deny x why => fieldBytes [fSector x, f1 why.code]
  | .liftNotice id e rs => fieldBytes [f2 id, f1 e.code, fSusps rs]

/-- The bytes of a frame on the transmit line (R170). -/
def TxFrame.bytes (f : TxFrame) : List Byte := 0xB4#8 :: frameBytes f.kind f.payload

/-- The bytes a link's transmit line carries for the frame being sent; none while the line rests at idle (R170). -/
def Channel.lineBytes (ch : Channel) : List Byte :=
  match ch.sending with
  | some f => f.bytes
  | none => []

/-! ### Supervisor requests (R171, R172, Tables 12-8 and 12-12) -/

def readPoints : List Byte → Option (List ChartPoint)
  | [] => some []
  | r0 :: r1 :: l0 :: l1 :: rest => (readPoints rest).map (⟨u16 r0 r1, u16 l0 l1⟩ :: ·)
  | _ => none

def readPairs : List Byte → Option (List PairItem)
  | [] => some []
  | a :: b :: k :: rest => (readPairs rest).map (⟨a.toNat, b.toNat, k.toNat⟩ :: ·)
  | _ => none

def readModes : List Byte → Option (List (Nat × Nat))
  | [] => some []
  | k :: m :: rest => (readModes rest).map ((k.toNat, m.toNat) :: ·)
  | _ => none

/-- A list whose count byte must agree with the bytes that follow (Table 12-12, lengths allowed). -/
def counted {α β : Type} (n : Byte) (mk : List α → β) (items : Option (List α)) : Option β :=
  match items with
  | some l => if l.length = n.toNat then some (mk l) else none
  | none => none

def readSupId (mk : Nat → Instr) : List Byte → Option Instr
  | [a, b] => some (mk (u16 a b))
  | _ => none

def readNone (i : Instr) : List Byte → Option Instr
  | [] => some i
  | _ => none

def readOne (mk : Nat → Instr) : List Byte → Option Instr
  | [a] => some (mk a.toNat)
  | _ => none

/-- The request a kind byte and a payload spell, when the kind is a supervisor request kind and the length is one it
allows. PROTECT is no part of the frame: a PLAN_COMMIT is read with it low (entry 5). -/
def readRequest (kind : Nat) (p : List Byte) : Option Instr :=
  match kind with
  | 0x01 => readNone .identify p
  | 0x02 => readNone .readClock p
  | 0x03 => match p with | [a, b, c, d] => some (.setTime (u32 a b c d)) | _ => none
  | 0x10 =>
    match p with
    | [c, pr, r0, r1, m0, m1, v, pk, l0, l1, s0, s1, w0, w1, h0, h1] =>
      some (.planCrane c.toNat ⟨pr.toNat, u16 r0 r1, u16 m0 m1, v.toNat, pk.toNat, u16 l0 l1, u16 s0 s1, u16 w0 w1,
        u16 h0 h1⟩)
    | _ => none
  | 0x11 => match p with | c :: n :: rest => counted n (.planChart c.toNat) (readPoints rest) | _ => none
  | 0x12 => match p with | n :: rest => counted n .planConflicts (readPairs rest) | _ => none
  | 0x13 => match p with | n :: rest => counted n .planRemoveConflicts (readPairs rest) | _ => none
  | 0x14 => readNone .planClearConflicts p
  | 0x15 => match p with | [c, s0, s1, k, r] => some (.planCells c.toNat (u16 s0 s1) k.toNat r.toNat) | _ => none
  | 0x16 =>
    match p with
    | [k, a, d, s0, s1, e0, e1] =>
      some (if a.toNat = 0 then .planScheduleDefine k.toNat d.toNat (u16 s0 s1) (u16 e0 e1)
        else .planScheduleRemove k.toNat ⟨a.toNat, d.toNat, u16 s0 s1, u16 e0 e1⟩)
    | _ => none
  | 0x17 =>
    match p with
    | [a, b, c, d, e, f, g, h] =>
      some (.planSite ⟨a.toNat, b.toNat, c.toNat, d.toNat, e.toNat, f.toNat, g.toNat, h.toNat⟩)
    | _ => none
  | 0x18 => match p with | n :: rest => counted n .planAlertModes (readModes rest) | _ => none
  | 0x19 => readNone (.planCommit false) p
  | 0x1A => readNone .planDiscard p
  | 0x1B => match p with | [s, k, a, b] => some (.planRead s.toNat k.toNat (u16 a b)) | _ => none
  | 0x20 => readNone .openSite p
  | 0x21 => readNone .closeSite p
  | 0x22 => readNone .resumeSite p
  | 0x23 => readNone .returnToSetup p
  | 0x24 => readNone .querySite p
  | 0x28 => readOne .queryCrane p
  | 0x29 => readOne .queryCells p
  | 0x2A => readNone .queryWaits p
  | 0x2B => readOne .queryConformance p
  | 0x2C => readOne .queryWind p
  | 0x2D => match p with | [c, a, b] => some (.forceRelease c.toNat (u16 a b)) | _ => none
  | 0x2E => readOne .stopCrane p
  | 0x2F => match p with | [c, a, b] => some (.clearStop c.toNat (u16 a b)) | _ => none
  | 0x30 => match p with | c :: rest => (readLift rest).map (.proposeLift .supervisor c.toNat) | _ => none
  | 0x31 => readSupId (.confirmLift .supervisor) p
  | 0x32 => match p with | a :: b :: rest => (readLift rest).map (.amendLift .supervisor (u16 a b)) | _ => none
  | 0x33 => readSupId (.cancelLift .supervisor) p
  | 0x34 => readSupId (.lockLift .supervisor) p
  | 0x35 => readSupId (.unlockLift .supervisor) p
  | 0x36 => readSupId (.suspendLift .supervisor) p
  | 0x37 => readSupId (.resumeLift .supervisor) p
  | 0x38 => readSupId (.landLift .supervisor) p
  | 0x39 => readSupId (.queryLift .supervisor) p
  | 0x3A => match p with | [s, f, a, b] => some (.listLifts .supervisor s.toNat f.toNat (u16 a b)) | _ => none
  | 0x3B => readSupId (.startLift .supervisor) p
  | 0x3C => readSupId (.finishLift .supervisor) p
  | 0x40 => match p with | n :: rest => counted n .clearAlerts (some (rest.map BitVec.toNat)) | _ => none
  | 0x41 => readNone .queryAlerts p
  | _ => none

/-- The kind code and the payload of a supervisor request (Tables 12-8 and 12-12); `none` for a command that is no
supervisor request. The bytes a rule passes over are operands too, so that the payload is that of the
frame received (R172). -/
def requestParts : Instr → Option (Nat × List Byte)
  | .identify => some (0x01, [])
  | .readClock => some (0x02, [])
  | .setTime t => some (0x03, leBytes 4 t)
  | .planCrane c f =>
    some (0x10, leBytes 1 c ++ leBytes 1 f.present ++ leBytes 2 f.reach ++ leBytes 2 f.margin ++ leBytes 1 f.vane ++
      leBytes 1 f.park ++ leBytes 2 f.lw ++ leBytes 2 f.sw ++ leBytes 2 f.mw ++ leBytes 2 f.hw)
  | .planChart c ps =>
    some (0x11, leBytes 1 c ++ leBytes 1 ps.length ++ ps.flatMap (fun p => leBytes 2 p.radius ++ leBytes 2 p.load))
  | .planConflicts is =>
    some (0x12, leBytes 1 is.length ++ is.flatMap (fun i => leBytes 1 i.first ++ leBytes 1 i.second ++ leBytes 1 i.kind))
  | .planRemoveConflicts is =>
    some (0x13, leBytes 1 is.length ++ is.flatMap (fun i => leBytes 1 i.first ++ leBytes 1 i.second ++ leBytes 1 i.kind))
  | .planClearConflicts => some (0x14, [])
  | .planCells c m k r => some (0x15, leBytes 1 c ++ leBytes 2 m ++ leBytes 1 k ++ leBytes 1 r)
  | .planScheduleDefine k d s e =>
    some (0x16, leBytes 1 k ++ leBytes 1 0 ++ leBytes 1 d ++ leBytes 2 s ++ leBytes 2 e)
  | .planScheduleRemove k f =>
    some (0x16, leBytes 1 k ++ leBytes 1 f.action ++ leBytes 1 f.days ++ leBytes 2 f.start ++ leBytes 2 f.stop)
  | .planSite f =>
    some (0x17, leBytes 1 f.dead ++ leBytes 1 f.wait ++ leBytes 1 f.tolerance ++ leBytes 1 f.early ++
      leBytes 1 f.grace ++ leBytes 1 f.securing ++ leBytes 1 f.discipline ++ leBytes 1 f.cadence)
  | .planAlertModes is =>
    some (0x18, leBytes 1 is.length ++ is.flatMap (fun i => leBytes 1 i.1 ++ leBytes 1 i.2))
  | .planCommit _ => some (0x19, [])
  | .planDiscard => some (0x1A, [])
  | .planRead s k i => some (0x1B, leBytes 1 s ++ leBytes 1 k ++ leBytes 2 i)
  | .openSite => some (0x20, [])
  | .closeSite => some (0x21, [])
  | .resumeSite => some (0x22, [])
  | .returnToSetup => some (0x23, [])
  | .querySite => some (0x24, [])
  | .queryCrane c => some (0x28, leBytes 1 c)
  | .queryCells c => some (0x29, leBytes 1 c)
  | .queryWaits => some (0x2A, [])
  | .queryConformance c => some (0x2B, leBytes 1 c)
  | .queryWind c => some (0x2C, leBytes 1 c)
  | .forceRelease c m => some (0x2D, leBytes 1 c ++ leBytes 2 m)
  | .stopCrane c => some (0x2E, leBytes 1 c)
  | .clearStop c m => some (0x2F, leBytes 1 c ++ leBytes 2 m)
  | .proposeLift .supervisor c f => some (0x30, leBytes 1 c ++ liftBytes f)
  | .confirmLift .supervisor id => some (0x31, leBytes 2 id)
  | .amendLift .supervisor id f => some (0x32, leBytes 2 id ++ liftBytes f)
  | .cancelLift .supervisor id => some (0x33, leBytes 2 id)
  | .lockLift .supervisor id => some (0x34, leBytes 2 id)
  | .unlockLift .supervisor id => some (0x35, leBytes 2 id)
  | .suspendLift .supervisor id => some (0x36, leBytes 2 id)
  | .resumeLift .supervisor id => some (0x37, leBytes 2 id)
  | .landLift .supervisor id => some (0x38, leBytes 2 id)
  | .queryLift .supervisor id => some (0x39, leBytes 2 id)
  | .listLifts .supervisor s f n => some (0x3A, leBytes 1 s ++ leBytes 1 f ++ leBytes 2 n)
  | .startLift .supervisor id => some (0x3B, leBytes 2 id)
  | .finishLift .supervisor id => some (0x3C, leBytes 2 id)
  | .clearAlerts ks => some (0x40, leBytes 1 ks.length ++ ks.flatMap (leBytes 1))
  | .queryAlerts => some (0x41, [])
  | .proposeLift (.crane _) _ _ | .confirmLift (.crane _) _ | .amendLift (.crane _) _ _ | .cancelLift (.crane _) _
  | .lockLift (.crane _) _ | .unlockLift (.crane _) _ | .suspendLift (.crane _) _ | .resumeLift (.crane _) _
  | .landLift (.crane _) _ | .queryLift (.crane _) _ | .listLifts (.crane _) _ _ _ | .startLift (.crane _) _
  | .finishLift (.crane _) _ => none
  | .powerOn | .resetAsserted | .siteStopAsserted | .siteStopDeasserted | .siteSecondBoundary | .storeWriteEnd _
  | .assemblyTimeout _ | .linkBadFrame _ | .frameTransmitted _ | .status _ _ | .rejoin _ _ | .enter _ _
  | .release _ _ | .supervisorBadFrame _ | .fetch _ | .reportBoundExpiry _ | .clearingExpiry _ _
  | .waitDeadline _ _ | .confirmDeadline _ | .dwellCompletion _ | .securingTimerExpiry _ | .sirenPulsePhase
  | .linkByteReceived _ _ _ | .powerLoss => none

/-- The bytes of a supervisor request frame; empty for a command that is none. -/
def requestBytes (i : Instr) : List Byte :=
  match requestParts i with
  | some (kind, p) => frameBytes kind p
  | none => []

/-- The kind byte of a supervisor request. -/
def requestKind (i : Instr) : Nat :=
  match requestParts i with
  | some (kind, _) => kind
  | none => 0

/-- The checks of R172 on the bytes of a request transaction, and the request they spell when it is a good frame. -/
def checkRequest (bytes : List Byte) : Option Instr :=
  match bytes with
  | kind :: len :: _ =>
    if bytes.length ≤ Config.requestBufferBytes ∧ bytes.length = len.toNat + 3 ∧ len.toNat ≤ 61 ∧
        bytes.getLast? = some (crc8 bytes.dropLast)
    then readRequest kind.toNat (bytes.dropLast.drop 2) else none
  | _ => none

/-- The command one transaction of the supervisor port brings: none for no bytes; a FETCH when the first byte is 0x00
(R173); a request when it is a good frame, and a bad frame otherwise (R172). -/
def transaction (bytes : List Byte) : Option Instr :=
  match bytes with
  | [] => none
  | k :: _ =>
    if k = 0#8 then some (.fetch bytes.length)
    else
      match checkRequest bytes with
      | some i => some i
      | none => some (.supervisorBadFrame bytes)

/-! ### Responses (R173) -/

/-- The fields cut into runs of at most 59 bytes, at most `n` of them; a field that straddles the limit is cut between two frames
(the model's choice; entry 32). -/
def chunks : Nat → List Byte → List (List Byte)
  | 0, _ => []
  | n + 1, bs =>
    if bs.length ≤ Config.responseFieldBytes then [bs]
    else bs.take Config.responseFieldBytes :: chunks n (bs.drop Config.responseFieldBytes)

/-- The response frames of an answer to a request kind. -/
def responseFrames (kind : Nat) (a : Answer) : List (List Byte) :=
  let parts := chunks Config.maxResponseFrames (fieldBytes a.fields)
  parts.zipIdx.map (fun p =>
    frameBytes kind
      (BitVec.ofNat 8 a.code.number ::
        BitVec.ofNat 8 (p.2 + (if p.2 + 1 = parts.length then 128 else 0)) :: p.1))

end Sys2Proof.Machine
end

