-- ==== Sys2Proof/Machine/State.lean ====
section
/-!
DEFINITION. The state of the part: every record the ten blocks hold (00_scope, Block diagram), the pins, and the queue
of commands that wait. Every field is plain data. `State.reset` is the part right after a power-on that found no good
plan image.
-/
namespace Sys2Proof.Machine

/-- What stops the part: nothing. The manual names no fault that stops it; a frame or a request it does not carry out
is answered, and goes on (R3, R33, R57, R172). -/
inductive Fault where
  deriving DecidableEq, Repr

/-- Why a command has no outcome. -/
inductive Refusal where
  /-- The command has no meaning in this model yet. Raised by no arm of `exec`; safe. -/
  | notModelled (mnemonic : String)
  deriving DecidableEq, Repr

structure State where
  plan : PlanStore
  clock : Clock
  links : Tab 8 Channel
  cranes : Tab 8 CraneRec
  cells : Tab 8 (Tab 16 Cell)
  waits : List Wait
  restricted : Tab 8 (List Sector)
  occupied : Tab 8 (Option Occupied)
  stops : Tab 8 (List StopReason)
  lastConf : Tab 8 (Option Conformance)
  register : List RegEntry
  wind : Tab 8 WindRec
  site : SiteState
  service : Tab 8 ServiceRec
  bookings : List Booking
  nextId : Nat
  alerts : Tab 16 AlertRec
  lines : Lines
  port : Port
  pins : Pins
  draws : Nat
  pending : List Instr
  deriving DecidableEq, Repr

/-! ### Power-on values -/

/-- R2 -/
def CraneEntry.empty : CraneEntry := ⟨false, 0, 0, .free, 0, 0, 0, 0, 0⟩

/-- The defaults of Table 1-4. -/
def SiteParams.default : SiteParams := ⟨5, 30, 10, 0, 10, 15, .strict, .steady⟩

/-- The default modes of Table 1-5, in its order. -/
def Plan.defaultModes : Tab 13 AlertMode :=
  ⟨#[.warn, .warn, .warn, .warn, .warn, .warn, .warn, .warn, .warn, .stop, .quiet, .quiet, .quiet], rfl⟩

/-- The empty plan (R2). -/
def Plan.empty : Plan where
  cranes := tconst 8 CraneEntry.empty
  charts := tconst 8 []
  pairs := []
  cells := tconst 8 (tconst 16 ⟨.unrestricted, none⟩)
  schedules := tconst 8 none
  site := SiteParams.default
  modes := Plan.defaultModes

/-- R31, R34, R46 -/
def Channel.initial : Channel := ⟨.hunting, none, [], none⟩

/-- R36 -/
def CraneRec.initial : CraneRec := ⟨.offline, none, none, none, 0⟩

/-- R50 -/
def Cell.initial : Cell := ⟨.free, 0, none, none⟩

/-- R95 -/
def WindRec.initial : WindRec := ⟨false, true, .hold, [], 0, none⟩

/-- R113 -/
def ServiceRec.initial : ServiceRec := ⟨.offline, false, .remainSecured, none, false, none⟩

/-- An alert record with nothing present and nothing latched, in a mode (R163). -/
def AlertRec.initial (m : AlertMode) : AlertRec := ⟨m, [], false, [], none⟩

/-- The alert table at power-on under the configurable modes of a plan: CONFLICT, SITE_STOP and STORM are STOP, fixed
(Table 11-1); the others follow in the order of Table 1-5. -/
def alertTable (modes : Tab 13 AlertMode) : Tab 16 AlertRec :=
  ⟨#[AlertRec.initial .stop, AlertRec.initial .stop, AlertRec.initial .stop, AlertRec.initial (tget modes 0),
    AlertRec.initial (tget modes 1), AlertRec.initial (tget modes 2), AlertRec.initial (tget modes 3),
    AlertRec.initial (tget modes 4), AlertRec.initial (tget modes 5), AlertRec.initial (tget modes 6),
    AlertRec.initial (tget modes 7), AlertRec.initial (tget modes 8), AlertRec.initial (tget modes 9),
    AlertRec.initial (tget modes 10), AlertRec.initial (tget modes 11), AlertRec.initial (tget modes 12)], rfl⟩

/-- The plan store after a power-on read that found no good image (R2, R21). -/
def PlanStore.empty : PlanStore := ⟨Plan.empty, Plan.empty, 0, 0, .fault, none, none⟩

/-- R22, R23, R24 -/
def Clock.initial : Clock := ⟨0, 0, 1000, false, none⟩

/-- The part right after reset: the power-on read has found no good image (the store's contents are an input; entry 4),
so both plans are empty, and PLAN_FAULT has been raised, latched at site time 0 in mode WARN, which asserts ALERT#
(R21, R163, R166). SITE_STOP# is deasserted and PROTECT low (inputs; entries 4 and 5). -/
def State.reset : State where
  plan := PlanStore.empty
  clock := Clock.initial
  links := tconst 8 Channel.initial
  cranes := tconst 8 CraneRec.initial
  cells := tconst 8 (tconst 16 Cell.initial)
  waits := []
  restricted := tconst 8 []
  occupied := tconst 8 none
  stops := tconst 8 []
  lastConf := tconst 8 none
  register := []
  wind := tconst 8 WindRec.initial
  site := .setup
  service := tconst 8 ServiceRec.initial
  bookings := []
  nextId := 1
  alerts := tput (alertTable Plan.defaultModes) 11 ⟨.warn, [], true, [], some 0⟩
  lines := ⟨true, false, none⟩
  port := ⟨[], [], false, .highImpedance, []⟩
  pins := ⟨.running, false, false⟩
  draws := 0
  pending := []

end Sys2Proof.Machine
end

