-- ==== Sys2Proof/Machine/Ops.lean ====
section
/-!
DEFINITION. The named operations over the records of State: one write per field, the reads of one crane's or one
cell's record, the transmit queues of the links (R46, R47) and the response slot of the port (R172, R173).
-/
namespace Sys2Proof.Machine

/-! ### One write per field of State -/

def State.withPlan (s : State) (v : PlanStore) : State := { s with plan := v }
def State.withClock (s : State) (v : Clock) : State := { s with clock := v }
def State.withLinks (s : State) (v : Tab 8 Channel) : State := { s with links := v }
def State.withCranes (s : State) (v : Tab 8 CraneRec) : State := { s with cranes := v }
def State.withCells (s : State) (v : Tab 8 (Tab 16 Cell)) : State := { s with cells := v }
def State.withWaits (s : State) (v : List Wait) : State := { s with waits := v }
def State.withRestricted (s : State) (v : Tab 8 (List Sector)) : State := { s with restricted := v }
def State.withOccupied (s : State) (v : Tab 8 (Option Occupied)) : State := { s with occupied := v }
def State.withStops (s : State) (v : Tab 8 (List StopReason)) : State := { s with stops := v }
def State.withLastConf (s : State) (v : Tab 8 (Option Conformance)) : State := { s with lastConf := v }
def State.withRegister (s : State) (v : List RegEntry) : State := { s with register := v }
def State.withWind (s : State) (v : Tab 8 WindRec) : State := { s with wind := v }
def State.withSite (s : State) (v : SiteState) : State := { s with site := v }
def State.withService (s : State) (v : Tab 8 ServiceRec) : State := { s with service := v }
def State.withBookings (s : State) (v : List Booking) : State := { s with bookings := v }
def State.withNextId (s : State) (v : Nat) : State := { s with nextId := v }
def State.withAlerts (s : State) (v : Tab 16 AlertRec) : State := { s with alerts := v }
def State.withLines (s : State) (v : Lines) : State := { s with lines := v }
def State.withPort (s : State) (v : Port) : State := { s with port := v }
def State.withPins (s : State) (v : Pins) : State := { s with pins := v }
def State.withDraws (s : State) (v : Nat) : State := { s with draws := v }
def State.withPending (s : State) (v : List Instr) : State := { s with pending := v }

/-! ### Reads -/

/-- Monotonic time (R23). -/
def State.now (s : State) : Nat := s.clock.mono

/-- The site minute (section 2.1). -/
def State.minute (s : State) : Nat := s.clock.site / 60

/-- Whether the part runs: it is supplied and RESET# is released (R175). -/
def State.running (s : State) : Bool := decide (s.pins.power = .running)

/-- The committed plan: what every block works from (R1). -/
def State.params (s : State) : SiteParams := s.plan.committed.site

/-- A crane's entry of the committed plan. -/
def State.entry (s : State) (c : Crane) : CraneEntry := tget s.plan.committed.cranes c

/-- Whether a crane is present in the committed plan. -/
def State.present (s : State) (c : Crane) : Bool := (s.entry c).present

/-- The present cranes, ascending. -/
def State.presentCranes (s : State) : List Crane := allCranes.filter s.present

def State.link (s : State) (c : Crane) : Channel := tget s.links c
def State.craneRec (s : State) (c : Crane) : CraneRec := tget s.cranes c
def State.cell (s : State) (q : CellId) : Cell := tget (tget s.cells q.crane) q.sector
def State.svc (s : State) (c : Crane) : ServiceRec := tget s.service c
def State.windRec (s : State) (c : Crane) : WindRec := tget s.wind c
def State.stopSet (s : State) (c : Crane) : List StopReason := tget s.stops c
def State.alert (s : State) (k : AlertKind) : AlertRec := tget s.alerts k.code

/-- The sectors whose cells of a crane are in a state. -/
def State.sectorsIn (s : State) (c : Crane) (st : CellState) : List Sector :=
  allSectors.filter (fun x => decide ((s.cell ⟨c, x⟩).state = st))

/-- Whether a crane's service state is `st`, and the crane is not LOST (R113). -/
def State.inState (s : State) (c : Crane) (st : SvcState) : Bool :=
  !(s.svc c).lost && decide ((s.svc c).state = st)

/-- Whether a crane's presence is PRESENT (R36). -/
def State.isPresent (s : State) (c : Crane) : Bool := decide ((s.craneRec c).presence = .present)

/-- Whether the last reported load of a crane is 0; "no reading" and an absent load are not 0 (R36). -/
def State.loadIsZero (s : State) (c : Crane) : Bool :=
  match (s.craneRec c).contents with
  | some k => decide (k.load = some 0)
  | none => false

/-- Whether a sector is in an occupied set; an absent set occupies no sector (R82). -/
def occupies (o : Option Occupied) (x : Sector) : Bool :=
  match o with
  | some k => decide (x = k.low) || decide (x = k.high)
  | none => false

/-- The sectors of an occupied set, ascending, so that S0 comes before S15 across north (R83). -/
def occupiedSectors (o : Option Occupied) : List Sector := allSectors.filter (occupies o)

def State.occupies (s : State) (c : Crane) (x : Sector) : Bool := Machine.occupies (tget s.occupied c) x

/-! ### Writes of one record -/

def State.setLink (s : State) (c : Crane) (ch : Channel) : State := s.withLinks (tput s.links c ch)
def State.setCrane (s : State) (c : Crane) (r : CraneRec) : State := s.withCranes (tput s.cranes c r)
def State.setCell (s : State) (q : CellId) (r : Cell) : State :=
  s.withCells (tput s.cells q.crane (tput (tget s.cells q.crane) q.sector r))
def State.setSvc (s : State) (c : Crane) (r : ServiceRec) : State := s.withService (tput s.service c r)
def State.setWind (s : State) (c : Crane) (r : WindRec) : State := s.withWind (tput s.wind c r)
def State.setStops (s : State) (c : Crane) (rs : List StopReason) : State := s.withStops (tput s.stops c rs)
def State.setRestricted (s : State) (c : Crane) (xs : List Sector) : State :=
  s.withRestricted (tput s.restricted c xs)
def State.setOccupied (s : State) (c : Crane) (o : Option Occupied) : State :=
  s.withOccupied (tput s.occupied c o)
def State.setLastConf (s : State) (c : Crane) (v : Option Conformance) : State :=
  s.withLastConf (tput s.lastConf c v)
def State.setAlert (s : State) (k : AlertKind) (r : AlertRec) : State := s.withAlerts (tput s.alerts k.code r)

/-! ### Transmit queues (section 3.7) -/

def TxFrame.isNotice : TxFrame → Bool
  | .statusAck _ | .answer _ _ => false
  | .grant _ | .deny _ _ | .liftNotice _ _ _ => true

/-- The answers among the frames of a queue (R34). -/
def answersIn (q : List TxFrame) : Nat := (q.filter (fun f => !f.isNotice)).length

/-- The queue without its oldest notice (R47). -/
def dropOldestNotice : List TxFrame → List TxFrame
  | [] => []
  | f :: q => if f.isNotice then q else f :: dropOldestNotice q

/-- R47, a notice: it displaces the oldest notice of a full queue, and is itself dropped by six answers. -/
def pushNotice (q : List TxFrame) (f : TxFrame) : List TxFrame :=
  if q.length < Config.maxQueue then q ++ [f]
  else if q.length ≤ answersIn q then q
  else dropOldestNotice q ++ [f]

/-- R47, an answer: it displaces the oldest notice of a full queue. -/
def pushAnswer (q : List TxFrame) (f : TxFrame) : List TxFrame :=
  if q.length < Config.maxQueue then q ++ [f] else dropOldestNotice q ++ [f]

/-- R46: an idle transmitter removes the oldest frame from the queue and sends it. -/
def Channel.pump (ch : Channel) : Channel :=
  match ch.sending, ch.queue with
  | none, f :: q => { ch with sending := some f, queue := q }
  | _, _ => ch

/-- A notice is queued on a crane's link; none is raised for a crane absent from the plan (R46). -/
def State.notify (s : State) (c : Crane) (f : TxFrame) : State :=
  if s.present c then
    let ch := s.link c
    s.setLink c { ch with queue := pushNotice ch.queue f }.pump
  else s

/-- An answer is queued on a crane's link (R46). -/
def State.queueAnswer (s : State) (c : Crane) (f : TxFrame) : State :=
  let ch := s.link c
  s.setLink c { ch with queue := pushAnswer ch.queue f }.pump

/-! ### The response slot (R172, R173) -/

/-- CS# is deasserted at the end of a transaction in which MISO carried `out`: MISO goes to high impedance (R173). -/
def Port.endTransaction (p : Port) (out : List Byte) : Port := { p with miso := .highImpedance, lastOut := out }

/-- The request is gathered into the request buffer while MISO carries 0x00. -/
def State.gather (s : State) (bytes : List Byte) : State :=
  s.withPort
    ({ s.port with request := bytes.take Config.requestBufferBytes }.endTransaction (bytes.map (fun _ => 0#8)))

/-- The answer replaces the content of the response slot, and RDY is asserted. -/
def State.respond (s : State) (kind : Nat) (a : Answer) : State :=
  s.withPort { s.port with slot := responseFrames kind a, rdy := true }

/-! ### Timed fields -/

/-- The time remaining to an end, in ms. -/
def State.remaining (s : State) (t : Nat) : Nat := t - s.now

/-- Whether a timed end, if any, has been reached. -/
def State.reached (s : State) (t : Option Nat) : Bool :=
  match t with
  | some e => decide (e ≤ s.now)
  | none => false

end Sys2Proof.Machine
end

