-- ==== Sys2Proof/Machine/Flags.lean ====
section
/-!
DEFINITION. The computed flags and lines: when ALERT# is asserted and SIREN is due, how the siren follows its cadence
(R166), the standing order (R44), and the STATUS_ACK (R43).
-/
namespace Sys2Proof.Machine

/-- Whether a kind is latched. -/
def AlertRec.latched (r : AlertRec) : Bool := r.latch.isSome

/-- Whether a kind's condition is present (R163). -/
def AlertRec.isPresent (r : AlertRec) : Bool := r.flag || !r.cranes.isEmpty

/-- Whether a kind's condition is present for a crane. -/
def State.hasAlert (s : State) (k : AlertKind) (c : Crane) : Bool := decide (c ∈ (s.alert k).cranes)

/-- ALERT# is asserted while a latched kind is in WARN or STOP mode (R166). -/
def State.alertDue (s : State) : Bool :=
  AlertKind.all.any (fun k => (s.alert k).latched && !decide ((s.alert k).mode = .quiet))

/-- SIREN is due while a latched kind is in STOP mode (R166). -/
def State.sirenDue (s : State) : Bool :=
  AlertKind.all.any (fun k => (s.alert k).latched && decide ((s.alert k).mode = .stop))

/-- The evaluation of the lines (R166). Under PULSED a running phase is left as it is, and a cadence that is not
running starts with an on phase. -/
def State.evaluateLines (s : State) : State :=
  let siren : Bool × Option Nat :=
    if s.sirenDue then
      match s.params.cadence with
      | .steady => (true, none)
      | .pulsed =>
        match s.lines.phase with
        | some e => (s.lines.siren, some e)
        | none => (true, some (s.now + Config.sirenPhaseTime))
    else (false, none)
  s.withLines ⟨s.alertDue, siren.1, siren.2⟩

/-- The standing order of a crane (R44). -/
def State.standingOrder (s : State) (c : Crane) : Order :=
  let r := s.svc c
  if r.lost || decide (r.state = .offline) then .rejoinRequired
  else if !(s.stopSet c).isEmpty && decide (r.order = .work) then .stop
  else r.order

/-! ### Gust and mean (R99, R100) -/

/-- G: the mean of the gust window rounded half up; 0 when the window is empty (R95, R99). -/
def gustOf (window : List Nat) : Nat := (window.sum + window.length / 2) / window.length

/-- M: A divided by 512, rounded half up (R100). -/
def meanOf (a : Nat) : Nat := (a + 256) / 512

def WindRec.gust (w : WindRec) : Nat := gustOf w.window
def WindRec.mean (w : WindRec) : Nat := meanOf w.acc

/-! ### The running lift and the STATUS_ACK -/

/-- A booking is running while it is ACTIVE or SUSPENDED (R151). -/
def Booking.running (b : Booking) : Bool :=
  match b.state with
  | .active | .suspended _ => true
  | .pending _ | .booked => false

/-- The crane's running booking (R151: at most one). -/
def State.runningLift (s : State) (c : Crane) : Option Booking :=
  s.bookings.find? (fun b => b.running && decide (b.crane = c))

/-- The sectors a crane waits for, in wait list order (R43). -/
def State.waitingSectors (s : State) (c : Crane) : List Sector :=
  (s.waits.filter (fun w => decide (w.crane = c))).map Wait.sector

/-- The STATUS_ACK of a crane, built from the records as they stand (R43). -/
def State.statusAck (s : State) (c : Crane) (code : Code) : StatusAck where
  code := code
  site := s.site
  service := (s.svc c).code
  order := s.standingOrder c
  stops := s.stopSet c
  held := s.sectorsIn c .held
  clearing := s.sectorsIn c .clearing
  seized := s.sectorsIn c .seized
  waiting := s.waitingSectors c
  lift := match s.runningLift c with
    | some b => b.id
    | none => 0
  wind := (s.windRec c).state
  unknown := (s.windRec c).unknown
  gust := (s.windRec c).gust

end Sys2Proof.Machine
end

