-- ==== Sys2Proof/Machine/Operands.lean ====
section
/-!
DEFINITION. Every operand form: the numbers a frame carries read as cranes, sectors, cells, sets and named values. `none`
says that a field names something that does not exist (R3), which the rules answer with BAD_VALUE.
-/
namespace Sys2Proof.Machine

/-- A crane number 0..7. -/
def craneOf (n : Nat) : Option Crane := if h : n < 8 then some ⟨n, h⟩ else none

/-- A sector number 0..15. -/
def sectorOf (n : Nat) : Option Sector := if h : n < 16 then some ⟨n, h⟩ else none

/-- A cell number 0..127 (R1); a number above 127 names a crane above 7 (section 12.3, Note). -/
def cellOf (n : Nat) : Option CellId :=
  match craneOf (n / 16), sectorOf (n % 16) with
  | some c, some x => some ⟨c, x⟩
  | _, _ => none

/-- A sector set of 16 bits (Table 12-1). -/
def sectorsOf (mask : Nat) : List Sector := setOfMask allSectors mask

/-- A weekday set; bit 7 is passed over (Table 12-1). -/
def daysOf (mask : Nat) : List (Fin 7) := setOfMask allDays mask

/-- A flag byte: 0 clear, 1 set (Table 12-1; entry 13). -/
def flagOf : Nat → Option Bool
  | 0 => some false
  | 1 => some true
  | _ => none

def vaneOf : Nat → Option VaneMode
  | 0 => some .free
  | 1 => some .parked
  | _ => none

def classOf : Nat → Option RestrClass
  | 0 => some .unrestricted
  | 1 => some .noLoad
  | 2 => some .barred
  | _ => none

/-- A schedule reference 0..8, 0 for none (R8). -/
def scheduleRefOf (n : Nat) : Option (Option (Fin 8)) :=
  if n = 0 then some none else if h : n - 1 < 8 then some (some ⟨n - 1, h⟩) else none

/-- A schedule index 1..8 (R9). -/
def scheduleOf (n : Nat) : Option (Fin 8) := if n = 0 then none else if h : n - 1 < 8 then some ⟨n - 1, h⟩ else none

def kindOf : Nat → Option PairKind
  | 0 => some .struct
  | 1 => some .hook
  | _ => none

def disciplineOf : Nat → Option Discipline
  | 0 => some .strict
  | 1 => some .loose
  | _ => none

def cadenceOf : Nat → Option Cadence
  | 0 => some .steady
  | 1 => some .pulsed
  | _ => none

def modeOf : Nat → Option AlertMode
  | 0 => some .stop
  | 1 => some .warn
  | 2 => some .quiet
  | _ => none

def areaOf : Nat → Option AreaClass
  | 0 => some .a0
  | 1 => some .a1
  | 2 => some .a2
  | 3 => some .a3
  | _ => none

/-- An alert kind by its code (Table 12-2). -/
def alertOf (n : Nat) : Option AlertKind := AlertKind.all[n]?

/-- "No reading" on the wire is 65535 (00_scope, Conventions). -/
def readingOf (n : Nat) : Option Nat := if n = 65535 then none else some n

/-- All of a list, or none when one item fails. -/
def allOf {α β : Type} (f : α → Option β) : List α → Option (List β)
  | [] => some []
  | a :: rest =>
    match f a, allOf f rest with
    | some b, some bs => some (b :: bs)
    | _, _ => none

/-- The sectors of a booking path: the first `count` places (Table 12-5), each a sector, 1..8 of them, none twice
(R134). -/
def pathOf (f : LiftFields) : Option (List Sector) :=
  if 1 ≤ f.pathCount ∧ f.pathCount ≤ 8 then
    match allOf sectorOf (f.path.take f.pathCount) with
    | some xs => if xs.Nodup then some xs else none
    | none => none
  else none

/-- Admission step 2 (R134): the field ranges of a lift. The tag is any value, or absent. -/
def liftOf (f : LiftFields) : Option LiftData :=
  if 1 ≤ f.length ∧ f.length ≤ 240 ∧ 1 ≤ f.mass ∧ f.mass ≤ 65534 ∧ 1 ≤ f.reach ∧ f.reach ≤ 900 then
    match areaOf f.areaClass, pathOf f with
    | some cls, some path =>
      some ⟨f.start, f.length, f.mass, cls, f.reach, path, if f.tagPresent = 0 then none else some f.tag⟩
    | _, _ => none
  else none

end Sys2Proof.Machine
end

