-- ==== Sys2Proof/Machine/Plan.lean ====
section
/-!
DEFINITION. What the plan says: schedules (R29), restrictions in force (R10), the conflict pair set (R1, R6, R7), the
rated load (R136), and validation (R13, R14).
-/
namespace Sys2Proof.Machine

/-! ### Calendar and schedules (sections 2.1, 2.5) -/

def minuteOfDay (t : Nat) : Nat := t % 1440

/-- 0 = Monday. -/
def weekday (t : Nat) : Nat := t / 1440 % 7

/-- The time part of R29. -/
def timeMatches (start stop d : Nat) : Bool :=
  if start < stop then decide (start ≤ d) && decide (d < stop)
  else if stop < start then decide (start ≤ d) || decide (d < stop)
  else true

/-- Whether a schedule matches at a site minute (R29); an undefined one matches at none. -/
def scheduleMatches (k : Option Schedule) (t : Nat) : Bool :=
  match k with
  | some k => decide (weekday t ∈ k.days.map Fin.val) && timeMatches k.start k.stop (minuteOfDay t)
  | none => false

/-- The restriction in force on a cell at a site minute (R10). -/
def Plan.restrictionAt (p : Plan) (q : CellId) (t : Nat) : RestrClass :=
  let r := tget (tget p.cells q.crane) q.sector
  match r.schedule with
  | none => r.cls
  | some k => if scheduleMatches (tget p.schedules k) t then r.cls else .unrestricted

/-- The restriction in force now (R30). -/
def State.restriction (s : State) (q : CellId) : RestrClass := s.plan.committed.restrictionAt q s.minute

/-- Whether a restriction bears on a crane, NO_LOAD while its last reported load is not 0 (R56 (e), R66). -/
def State.bears (s : State) (c : Crane) (r : RestrClass) : Bool :=
  match r with
  | .barred => true
  | .noLoad => !s.loadIsZero c
  | .unrestricted => false

/-! ### The conflict pair set (R1, R6, R7) -/

/-- The pair of two cells, the lower-numbered first. -/
def Pair.make (a b : CellId) (k : PairKind) : Pair := if a.number ≤ b.number then ⟨a, b, k⟩ else ⟨b, a, k⟩

/-- Whether two pairs join the same two cells. -/
def Pair.same (p q : Pair) : Bool := decide (p.lo = q.lo) && decide (p.hi = q.hi)

/-- Pair order (R1). -/
def Pair.before (p q : Pair) : Bool :=
  decide (p.lo.number < q.lo.number) ||
    (decide (p.lo.number = q.lo.number) && decide (p.hi.number < q.hi.number))

/-- The other cell of a pair that touches `q`. -/
def Pair.other (p : Pair) (q : CellId) : Option CellId :=
  if p.lo = q then some p.hi else if p.hi = q then some p.lo else none

/-- The set with a pair put at its place in pair order; a pair of the same cells is replaced. -/
def insertPair (p : Pair) : List Pair → List Pair
  | [] => [p]
  | q :: rest => if p.same q then p :: rest else if p.before q then p :: q :: rest else q :: insertPair p rest

def findPair (set : List Pair) (p : Pair) : Option Pair := set.find? p.same

/-- One item of a list merged into the distinct pairs before it: STRUCT if any appearance gives STRUCT (R6). -/
def mergePair (acc : List Pair) (p : Pair) : List Pair :=
  match findPair acc p with
  | some q => if p.kind = .struct ∧ q.kind = .hook then insertPair p acc else acc
  | none => insertPair p acc

/-- The distinct pairs of a list, in pair order (R6). -/
def distinctPairs (ps : List Pair) : List Pair := ps.foldl mergePair []

/-- Whether a pair is an upgrade: in the set as HOOK, given as STRUCT (R6). -/
def isUpgrade (set : List Pair) (p : Pair) : Bool :=
  match findPair set p with
  | some q => decide (q.kind = .hook) && decide (p.kind = .struct)
  | none => false

/-- The pair an item gives: `none` when a cell or, where it is read, the kind does not exist, or when both cells are of
one crane (R3, R6). PLAN_REMOVE_CONFLICTS passes the kind byte over. -/
def pairOf (readKind : Bool) (i : PairItem) : Option Pair :=
  match cellOf i.first, cellOf i.second, (if readKind then kindOf i.kind else some .struct) with
  | some a, some b, some k => if a.crane = b.crane then none else some (Pair.make a b k)
  | _, _, _ => none

/-- The pairs joining a cell to cells of other cranes, in pair order: each with its kind and the partner cell. -/
def Plan.partners (p : Plan) (q : CellId) : List (PairKind × CellId) :=
  p.pairs.filterMap (fun r =>
    match r.other q with
    | some o => if o.crane = q.crane then none else some (r.kind, o)
    | none => none)

def State.partners (s : State) (q : CellId) : List (PairKind × CellId) := s.plan.committed.partners q

/-! ### The load chart (R5, R136) -/

/-- The rated load at a reach: the load of the first chart point whose radius is at least the reach (R136). -/
def ratedLoad (chart : List ChartPoint) (reach : Nat) : Option Nat :=
  (chart.find? (fun p => decide (reach ≤ p.radius))).map ChartPoint.load

/-- The points of a chart after the first: radii rise, loads do not (R5 items 3 and 6). -/
def chartFalls : List ChartPoint → Bool
  | p :: q :: rest => decide (p.radius < q.radius) && decide (q.load ≤ p.load) && chartFalls (q :: rest)
  | _ => true

/-- A well-formed chart for a jib reach (R5). -/
def chartOk (reach : Nat) (chart : List ChartPoint) : Bool :=
  decide (2 ≤ chart.length) && decide (chart.length ≤ 8) &&
    (match chart.head? with | some p => decide (1 ≤ p.radius) | none => false) &&
    (match chart.getLast? with | some p => decide (p.radius = reach) | none => false) &&
    chart.all (fun p => decide (1 ≤ p.load) && decide (p.load ≤ 65535)) && chartFalls chart

/-! ### Validation (R13, R14) -/

/-- A violation: its code, crane field and sector field of Table 1-6. -/
structure Violation where
  code : Nat
  crane : Option Nat
  sector : Option Nat
  deriving DecidableEq, Repr

def within (lo x hi : Nat) : Bool := decide (lo ≤ x) && decide (x ≤ hi)

/-- The first violation among checks made in order. -/
def firstOf (vs : List (Option Violation)) : Option Violation := vs.findSome? id

/-- The violation, if the check fails. -/
def require (ok : Bool) (v : Violation) : Option Violation := if ok then none else some v

def Plan.entry (p : Plan) (c : Crane) : CraneEntry := tget p.cranes c
def Plan.presentCranes (p : Plan) : List Crane := allCranes.filter (fun c => (p.entry c).present)

/-- Check 2 on one crane entry. -/
def checkEntry (c : Crane) (e : CraneEntry) : Option Violation :=
  firstOf
    [require (within 100 e.reach 900) ⟨2, some c.val, none⟩, require (within 0 e.margin 128) ⟨3, some c.val, none⟩,
      require (within 100 e.lw 300) ⟨4, some c.val, none⟩, require (within (e.lw + 20) e.sw 450) ⟨4, some c.val, none⟩,
      require (within 80 e.mw e.lw) ⟨4, some c.val, none⟩, require (within 5 e.hw 50) ⟨4, some c.val, none⟩]

/-- Check 2 on the numeric site parameters, in the order of Table 1-4. -/
def checkParams (p : SiteParams) : Option Violation :=
  firstOf
    [require (within 0 p.dead 30) ⟨5, none, some 1⟩, require (within 5 p.wait 120) ⟨5, none, some 2⟩,
      require (within 0 p.tolerance 25) ⟨5, none, some 3⟩, require (within 0 p.early 15) ⟨5, none, some 4⟩,
      require (within 0 p.grace 30) ⟨5, none, some 5⟩, require (within 5 p.securing 30) ⟨5, none, some 6⟩]

/-- The schedule places, index 1 first. -/
def allSchedules : List (Fin 8) := [0, 1, 2, 3, 4, 5, 6, 7]

/-- Check 2 on one schedule. -/
def checkSchedule (k : Fin 8) (sch : Option Schedule) : Option Violation :=
  match sch with
  | some d => require (!d.days.isEmpty && decide (d.start ≤ 1439) && decide (d.stop ≤ 1439)) ⟨6, none, some (k.val + 1)⟩
  | none => none

/-- Check 4 on one pair. -/
def checkPairPresent (p : Plan) (r : Pair) : Option Violation :=
  firstOf
    [require (p.entry r.lo.crane).present ⟨8, some r.lo.crane.val, some r.lo.sector.val⟩,
      require (p.entry r.hi.crane).present ⟨8, some r.hi.crane.val, some r.hi.sector.val⟩]

/-- Check 5 on one pair. -/
def checkFreeVane (p : Plan) (r : Pair) : Option Violation :=
  require
    (!(decide (r.kind = .struct) && decide ((p.entry r.lo.crane).vane = .free) &&
      decide ((p.entry r.hi.crane).vane = .free)))
    ⟨9, some r.lo.crane.val, some r.lo.sector.val⟩

/-- Whether a cell is the park cell of a PARKED-mode crane. -/
def Plan.isParkCell (p : Plan) (q : CellId) : Bool :=
  decide ((p.entry q.crane).vane = .parked) && decide ((p.entry q.crane).park = q.sector)

/-- Check 6 on one pair. -/
def checkPark (p : Plan) (r : Pair) : Option Violation :=
  if r.kind = .struct then
    firstOf
      [require (!p.isParkCell r.lo) ⟨10, some r.lo.crane.val, some r.lo.sector.val⟩,
        require (!p.isParkCell r.hi) ⟨10, some r.hi.crane.val, some r.hi.sector.val⟩]
  else none

/-- Check 7 on one crane. -/
def checkParkBarred (p : Plan) (c : Crane) : Option Violation :=
  let e := p.entry c
  let r := tget (tget p.cells c) e.park
  require (!(decide (e.vane = .parked) && decide (r.cls = .barred) && r.schedule.isNone))
    ⟨11, some c.val, some e.park.val⟩

/-- Check 8 on one crane's cells. -/
def checkScheduleRefs (p : Plan) (c : Crane) : Option Violation :=
  firstOf (allSectors.map (fun x =>
    match (tget (tget p.cells c) x).schedule with
    | some k => require (tget p.schedules k).isSome ⟨12, some c.val, some x.val⟩
    | none => none))

/-- Validation: the first violation of the eight checks, in their order (R13). -/
def validate (p : Plan) : Option Violation :=
  firstOf
    [require (!p.presentCranes.isEmpty) ⟨1, none, none⟩,
      firstOf (p.presentCranes.map (fun c => checkEntry c (p.entry c))),
      checkParams p.site,
      firstOf (allSchedules.map (fun k => checkSchedule k (tget p.schedules k))),
      firstOf (p.presentCranes.map (fun c =>
        require (chartOk (p.entry c).reach (tget p.charts c)) ⟨7, some c.val, none⟩)),
      firstOf (p.pairs.map (checkPairPresent p)),
      firstOf (p.pairs.map (checkFreeVane p)),
      firstOf (p.pairs.map (checkPark p)),
      firstOf (p.presentCranes.map (checkParkBarred p)),
      firstOf (p.presentCranes.map (checkScheduleRefs p))]

end Sys2Proof.Machine
end

