-- ==== Sys2Proof/Machine/Alerts.lean ====
section
/-!
DEFINITION. Raising and withdrawing conditions (R164, R165), the stop reason sets they add to (R88, R92), and what a stop
does to a crane's wait entries (R78) and to its running lift (R154, R155).
-/
namespace Sys2Proof.Machine

/-! ### Withdrawal (R164) -/

/-- A block withdraws a crane's condition. -/
def State.withdraw (s : State) (k : AlertKind) (c : Crane) : State :=
  s.setAlert k { s.alert k with cranes := setDel c (s.alert k).cranes }

/-- A block withdraws the site's condition. -/
def State.withdrawSite (s : State) (k : AlertKind) : State := s.setAlert k { s.alert k with flag := false }

/-! ### Running lifts: suspension reasons (section 10.3) -/

/-- The booking with an id. -/
def State.findLift (s : State) (id : Nat) : Option Booking := s.bookings.find? (fun b => decide (b.id = id))

/-- The table with one record replaced, found by its id. -/
def State.putLift (s : State) (b : Booking) : State :=
  s.withBookings (s.bookings.map (fun r => if r.id = b.id then b else r))

/-- The record of an id is freed (R131). -/
def State.freeLift (s : State) (id : Nat) : State :=
  s.withBookings (s.bookings.filter (fun r => !decide (r.id = id)))

/-- A LIFT_NOTICE for a booking's crane. -/
def State.notifyLift (s : State) (b : Booking) (e : NoticeEvent) (reasons : List SuspReason) : State :=
  s.notify b.crane (.liftNotice b.id e reasons)

/-- A reason is added to a running booking (R154). -/
def State.addReason (s : State) (b : Booking) (r : SuspReason) : State :=
  match b.state with
  | .active =>
    (s.putLift { b with state := .suspended [r] }).notifyLift b .suspended [r]
  | .suspended rs => s.putLift { b with state := .suspended (setAdd SuspReason.all r rs) }
  | .pending _ | .booked => s

/-- A reason is added to a crane's running booking, if it has one. -/
def State.addReasonTo (s : State) (c : Crane) (r : SuspReason) : State :=
  match s.runningLift c with
  | some b => s.addReason b r
  | none => s

/-- An event other than RESUME_LIFT removes a reason from a SUSPENDED booking (R155). Changed at and changed by stay, at a
supervisor's CLEAR_STOP and RESUME_SITE too, which is the model's choice beside R133 (entry 36). -/
def State.removeReason (s : State) (b : Booking) (r : SuspReason) : State :=
  match b.state with
  | .suspended rs =>
    if r ∈ rs then
      let left := setDel r rs
      let s := s.putLift { b with state := .suspended left }
      if left.isEmpty then s.notifyLift b .resumable [] else s
    else s
  | .active | .pending _ | .booked => s

def State.removeReasonFrom (s : State) (c : Crane) (r : SuspReason) : State :=
  match s.runningLift c with
  | some b => s.removeReason b r
  | none => s

/-! ### The OFF_PATH condition and the removal of wait entries -/

/-- Whether every HELD cell and every wait entry of a crane lies on its running booking's path, or it has none (R59). -/
def State.onPath (s : State) (c : Crane) : Bool :=
  match s.runningLift c with
  | some b =>
    (s.sectorsIn c .held).all (fun x => decide (x ∈ b.data.path)) &&
      (s.waitingSectors c).all (fun x => decide (x ∈ b.data.path))
  | none => true

/-- The OFF_PATH condition of a crane is re-evaluated: withdrawn or left, never raised (R59). -/
def State.reviewOffPath (s : State) (c : Crane) : State := if s.onPath c then s.withdraw .offPath c else s

/-- Entries are removed in list order, each with a DENY notice (R78), and OFF_PATH is re-evaluated for their cranes. -/
def State.denyWaits (s : State) (p : Wait → Bool) (why : DenyReason) : State :=
  let gone := s.waits.filter p
  let s := s.withWaits (s.waits.filter (fun w => !p w))
  gone.foldl (fun s w => (s.notify w.crane (.deny w.sector why)).reviewOffPath w.crane) s

/-- Every entry of one crane. -/
def State.denyCrane (s : State) (c : Crane) (why : DenyReason) : State :=
  s.denyWaits (fun w => decide (w.crane = c)) why

/-! ### Stop reasons (R88, R92) -/

/-- A reason joins a crane's stop set. When the set was empty the change is handed on: the wait entries are denied with
STOPPED, then STOP_ORDER is added to the running lift (R92). -/
def State.addStop (s : State) (c : Crane) (r : StopReason) : State :=
  let old := s.stopSet c
  let s := s.setStops c (setAdd StopReason.all r old)
  if old.isEmpty then (s.denyCrane c .stopped).addReasonTo c .stopOrder else s

/-! ### Raising (R164, R165) -/

/-- Steps 1 and 2 of R164: the present and involved sets, and the latch. -/
def State.latchAlert (s : State) (k : AlertKind) (c : Option Crane) : State :=
  let r := s.alert k
  s.setAlert k
    { r with
      cranes := if k.siteScoped then r.cranes else
        match c with
        | some c => setAdd allCranes c r.cranes
        | none => r.cranes
      flag := r.flag || k.siteScoped
      involved := match c with
        | some c => setAdd allCranes c r.involved
        | none => r.involved
      latch := match r.latch with
        | some t => some t
        | none => some s.clock.site }

/-- Step 3 of R164: a crane-scoped kind in STOP mode hands its stop reason (R165). -/
def State.stopAction (s : State) (k : AlertKind) (c : Option Crane) : State :=
  match k.stopReason, c with
  | some r, some c => if (s.alert k).mode = .stop then s.addStop c r else s
  | _, _ => s

/-- A condition is raised, whole (R164). `c` is the crane raised, or the crane a site-scoped raising names. -/
def State.raise (s : State) (k : AlertKind) (c : Option Crane) : State :=
  ((s.latchAlert k c).stopAction k c).evaluateLines

/-- A crane's condition is raised. -/
def State.raiseFor (s : State) (k : AlertKind) (c : Crane) : State := s.raise k (some c)

end Sys2Proof.Machine
end

