-- ==== Sys2Proof/Machine/Zones.lean ====
section
/-!
DEFINITION. The cell table (chapter 4): blocking, reservation and the grant test, the change of cells (R52), its
follow-ups (R53), the vane re-check (R123), arbitration (R75) and the retry of withheld resumes (R80).
-/
namespace Sys2Proof.Machine

/-! ### Blocking, reservation and the grant test (section 4.2) -/

/-- The partner states that block under a kind of pair (R54). -/
def blocksUnder (k : PairKind) (st : CellState) : Bool :=
  match k, st with
  | .struct, .held | .struct, .clearing | .struct, .vane | .struct, .parked | .struct, .seized => true
  | .hook, .held | .hook, .clearing | .hook, .seized => true
  | .struct, .free | .hook, .free | .hook, .vane | .hook, .parked => false

/-- Whether a pair of kind `k` with partner cell `q` counts against its other cell now (R54). -/
def State.blocks (s : State) (p : PairKind × CellId) : Bool := blocksUnder p.1 (s.cell p.2).state

/-- Whether a cell is blocked for its crane (R54). -/
def State.blocked (s : State) (q : CellId) : Bool := (s.partners q).any s.blocks

/-- Whether a cell is a path cell of a running booking (R55). -/
def State.onRunningPath (s : State) (q : CellId) : Bool :=
  s.bookings.any (fun b => b.running && decide (b.crane = q.crane) && decide (q.sector ∈ b.data.path))

/-- Whether a cell is reserved-joined for its crane (R55). -/
def State.reserved (s : State) (q : CellId) : Bool := (s.partners q).any (fun p => s.onRunningPath p.2)

def State.heldCount (s : State) (c : Crane) : Nat := (s.sectorsIn c .held).length

/-- Condition (d) of the grant test. -/
def State.underLimit (s : State) (c : Crane) : Bool := decide (s.heldCount c < Config.maxHeld)

/-- Condition (e) of the grant test. -/
def State.unrestricted (s : State) (q : CellId) : Bool := !s.bears q.crane (s.restriction q)

/-- The grant test, all five conditions (R56). -/
def State.grantTest (s : State) (q : CellId) : Bool :=
  !decide ((s.cell q).state = .held) && !s.blocked q && !s.reserved q && s.underLimit q.crane && s.unrestricted q

/-! ### Changing cells (R52) -/

/-- What becomes of a cell's grant origin. -/
inductive OriginRule where
  | keep
  | set (o : Origin)
  deriving DecidableEq, Repr

/-- A change asked for: a cell, its new state, and its origin. -/
structure CellReq where
  cell : CellId
  goal : CellState
  origin : OriginRule
  deriving DecidableEq, Repr

/-- A change made: a cell with its old and its new state. -/
structure Change where
  cell : CellId
  old : CellState
  new : CellState
  deriving DecidableEq, Repr

/-- The clearing end of a cell that enters CLEARING now: the dead time is read at this moment (R62). -/
def State.clearingEnd (s : State) : Nat := s.now + s.params.dead * 1000

/-- The record of a cell after a change of state (R52). -/
def State.changedCell (s : State) (r : CellReq) : Cell where
  state := r.goal
  since := s.clock.site
  origin := if r.goal = .free then none else
    match r.origin with
    | .keep => (s.cell r.cell).origin
    | .set o => some o
  clearEnd := if r.goal = .clearing then some s.clearingEnd else none

/-- One change of a cell; a change whose new state equals the old state is none (R52). -/
def State.changeCell (s : State) (r : CellReq) : State :=
  if (s.cell r.cell).state = r.goal then s else s.setCell r.cell (s.changedCell r)

/-- Several changes made together (R52). -/
def State.changeCells (s : State) (rs : List CellReq) : State := rs.foldl State.changeCell s

/-- The changes that requests for distinct cells make. -/
def State.changesOf (s : State) (rs : List CellReq) : List Change :=
  rs.filterMap (fun r =>
    if (s.cell r.cell).state = r.goal then none else some ⟨r.cell, (s.cell r.cell).state, r.goal⟩)

/-- The clearing test (R62). -/
def State.clearingTest (s : State) (q : CellId) : Bool :=
  !(s.partners q).any (fun p =>
    match p.1, (s.cell p.2).state with
    | .struct, .held | .struct, .clearing | .struct, .vane | .struct, .parked | .hook, .held | .hook, .clearing => true
    | .struct, .free | .struct, .seized | .hook, .free | .hook, .seized | .hook, .vane | .hook, .parked => false) &&
    !s.reserved q

/-- A cell begins clearing: CLEARING, or FREE at once when the test fails or the dead time is 0 (R62). -/
def State.beginClearing (s : State) (q : CellId) : CellReq :=
  ⟨q, if s.clearingTest q && decide (0 < s.params.dead) then .clearing else .free, .keep⟩

/-! ### Follow-ups, steps 1 and 2 (R53) -/

/-- A cell that has left HELD is taken out of its crane's restricted set; RESTRICTED is withdrawn when that leaves the
set empty (R53, R67). -/
def State.dropRestricted (s : State) (q : CellId) : State :=
  let old := tget s.restricted q.crane
  let left := setDel q.sector old
  let s := s.setRestricted q.crane left
  if !old.isEmpty && left.isEmpty then s.withdraw .restricted q.crane else s

/-- Step 1 of R53. -/
def State.ownConditions (s : State) (chg : List Change) : State :=
  let s := chg.foldl (fun s d => if d.old = .held then s.dropRestricted d.cell else s) s
  chg.foldl (fun s d => s.reviewOffPath d.cell.crane) s

/-- Whether a crane is in conflict (R85). -/
def State.inConflict (s : State) (x : Crane) : Bool :=
  s.register.any (fun e => decide (e.cell.crane = x) || decide (x ∈ e.partners))

/-- The Conformance Monitor is told that a cell has left SEIZED (R85): its register entry is removed, CONFLICT is
withdrawn for each crane of the entry that is in conflict no longer, and INTRUSION when its crane has no SEIZED cell. -/
def State.seizureEnded (s : State) (q : CellId) : State :=
  let gone := s.register.filter (fun e => decide (e.cell = q))
  let s := s.withRegister (s.register.filter (fun e => !decide (e.cell = q)))
  let s := (gone.flatMap (fun e => e.cell.crane :: e.partners)).foldl
    (fun s x => if s.inConflict x then s else s.withdraw .conflict x) s
  if (s.sectorsIn q.crane .seized).isEmpty then s.withdraw .intrusion q.crane else s

/-- Step 2 of R53. -/
def State.endSeizures (s : State) (chg : List Change) : State :=
  chg.foldl (fun s d => if d.old = .seized then s.seizureEnded d.cell else s) s

/-- Steps 1 and 2 of R53, which every change makes. -/
def State.ownAndSeized (s : State) (chg : List Change) : State := (s.ownConditions chg).endSeizures chg

/-- Whether a change brings the vane re-check (step 3 of R53). -/
def Change.wakesVane (d : Change) : Bool :=
  (match d.old with
    | .held | .clearing | .seized | .parked => true
    | .free | .vane => false) &&
  (match d.new with
    | .free | .vane => true
    | .held | .clearing | .seized | .parked => false)

/-- Whether a change brings arbitration (step 4 of R53). -/
def Change.wakesWalk (d : Change) : Bool := decide (d.new = .free) || decide (d.old = .seized)

/-! ### The walk of the wait list (R75) -/

/-- An entry leaves the wait list. -/
def State.dropWait (s : State) (c : Crane) (x : Sector) : State :=
  s.withWaits (s.waits.filter (fun w => !(decide (w.crane = c) && decide (w.sector = x))))

/-- The crane's wait entry for a sector. -/
def State.waitFor (s : State) (c : Crane) (x : Sector) : Option Wait :=
  s.waits.find? (fun w => decide (w.crane = c) && decide (w.sector = x))

/-- One entry is tested, and granted when it passes: its cell becomes HELD, the entry is removed, a GRANT notice is
queued, and steps 1 and 2 of the follow-ups are made. A grant brings no vane re-check and no walk (R75). -/
def State.tryGrant (s : State) (w : Wait) : State :=
  let q : CellId := ⟨w.crane, w.sector⟩
  if s.grantTest q then
    let r : CellReq := ⟨q, .held, if (s.cell q).state = .seized then .keep else .set .wait⟩
    let chg := s.changesOf [r]
    (((s.changeCells [r]).dropWait w.crane w.sector).notify w.crane (.grant w.sector)).ownAndSeized chg
  else s

/-- The walk takes the entries in order, the oldest first, against the table as the last grant left it (R75). -/
def State.walk (s : State) : State := s.waits.foldl State.tryGrant s

/-! ### Service records -/

/-- A crane returns to IN_SERVICE with order WORK; its timer and its withheld flag go, and SECURE_OVERDUE is withdrawn
(R124, R126, R127). -/
def State.toService (s : State) (c : Crane) : State :=
  (s.setSvc c { s.svc c with state := .inService, order := .work, timer := none, withheld := false }).withdraw
    .secureOverdue c

/-- A crane goes OUT_OF_SERVICE with an order; its timer goes, its wait entries are denied (R78), and SECURE_OVERDUE is
withdrawn (R122, R123, R127). -/
def State.outOfService (s : State) (c : Crane) (o : Order) (withheld : Bool) : State :=
  ((s.setSvc c { s.svc c with state := .outOfService, order := o, timer := none, withheld := withheld }).denyCrane c
    .service).withdraw .secureOverdue c

/-! ### Follow-ups with the vane re-check `recheck` (R53) -/

/-- The repeat of walk and retry pass until a pass frees no cell (R80). `retry` answers the state after a pass and
whether the pass freed a cell; the number bounds the repeats (entry 15). -/
def arbitrateLoop (retry : State → State × Bool) : Nat → State → State
  | 0, s => s
  | n + 1, s =>
    let p := retry s.walk
    if p.2 then arbitrateLoop retry n p.1 else p.1

/-- Steps 1 to 3 of R53. -/
def followThree (recheck : State → State) (chg : List Change) (s : State) : State :=
  let s := s.ownAndSeized chg
  if chg.any Change.wakesVane then recheck s else s

/-- The cells of a crane outside its occupied set that a resume frees (step 1 of R127): VANE and PARKED become FREE,
HELD begins clearing. -/
def State.resumeOutside (s : State) (c : Crane) : List CellReq :=
  allSectors.filterMap (fun x =>
    if s.occupies c x then none
    else match (s.cell ⟨c, x⟩).state with
      | .vane | .parked => some ⟨⟨c, x⟩, .free, .keep⟩
      | .held => some (s.beginClearing ⟨c, x⟩)
      | .free | .clearing | .seized => none)

/-- The occupied cells of a crane that are not HELD (step 2 of R127). -/
def State.resumeInside (s : State) (c : Crane) : List CellId :=
  (allSectors.filter (fun x => s.occupies c x && !decide ((s.cell ⟨c, x⟩).state = .held))).map (fun x => ⟨c, x⟩)

/-- Whether every occupied cell may be regranted: tests (b) and (c) (R127). -/
def State.resumePasses (s : State) (c : Crane) : Bool :=
  (s.resumeInside c).all (fun q => !s.blocked q && !s.reserved q)

/-- The cell changes of a resume conversion, all together (R69, R127). -/
def State.resumeReqs (s : State) (c : Crane) : List CellReq :=
  s.resumeOutside c ++
    (if s.resumePasses c then (s.resumeInside c).map (fun q => ⟨q, .held, .set .resume⟩) else [])

/-- The cells and the service record of a resume conversion (R127), before its follow-ups (entry 10). -/
def State.resumeChange (s : State) (c : Crane) : State :=
  let ok := s.resumePasses c
  let t := s.changeCells (s.resumeReqs c)
  if ok then t.toService c else t.outOfService c .remainSecured true

/-- Whether the conversion makes a cell FREE. -/
def State.resumeFrees (s : State) (c : Crane) : Bool :=
  (s.changesOf (s.resumeReqs c)).any (fun d => decide (d.new = .free))

/-- A withheld crane that is retried after a walk (R80); a LOST one is not. -/
def State.isWithheld (s : State) (c : Crane) : Bool := s.inState c .outOfService && (s.svc c).withheld

/-- One retry of a withheld crane: the resume conversion, with steps 1 to 3 of the follow-ups; the walk that a freed cell
calls for is the repeat of R80 (entry 11). -/
def retryOne (recheck : State → State) (p : State × Bool) (c : Crane) : State × Bool :=
  if p.1.isWithheld c then
    (followThree recheck (p.1.changesOf (p.1.resumeReqs c)) (p.1.resumeChange c), p.2 || p.1.resumeFrees c)
  else p

/-- The retry pass, in ascending crane number (R80). -/
def retryPass (recheck : State → State) (s : State) : State × Bool := allCranes.foldl (retryOne recheck) (s, false)

/-- Arbitration: the walk, and the retry of withheld resumes (R74, R75, R80). -/
def arbitrateWith (recheck : State → State) (s : State) : State :=
  arbitrateLoop (retryPass recheck) (s.waits.length + 2) s

/-- The follow-ups of a change or a group of changes (R53). -/
def followWith (recheck : State → State) (chg : List Change) (s : State) : State :=
  let s := followThree recheck chg s
  if chg.any Change.wakesWalk then arbitrateWith recheck s else s

/-! ### Vane release (R123) -/

/-- Whether a STRUCT pair with partner `q` withholds vane release. -/
def State.holdsVane (s : State) (p : PairKind × CellId) : Bool :=
  decide (p.1 = .struct) &&
    (match (s.cell p.2).state with
      | .held | .clearing | .seized | .parked => true
      | .free | .vane => false)

/-- Whether vane release of a crane is permitted (R123). -/
def State.vanePermitted (s : State) (c : Crane) : Bool :=
  allSectors.all (fun x => !(s.partners ⟨c, x⟩).any s.holdsVane)

/-- The vane conversion: all 16 cells become VANE (R69). -/
def vaneReqs (c : Crane) : List CellReq := allSectors.map (fun x => ⟨⟨c, x⟩, .vane, .keep⟩)

/-- A crane's vane release is made: its cells become VANE, it goes OUT_OF_SERVICE with VANE_RELEASE, and the follow-ups
are made (R123; entry 10). -/
def releaseVaneWith (recheck : State → State) (s : State) (c : Crane) : State :=
  followWith recheck (s.changesOf (vaneReqs c)) ((s.changeCells (vaneReqs c)).outOfService c .vaneRelease false)

/-- One crane at a vane re-check. -/
def recheckOne (recheck : State → State) (s : State) (c : Crane) : State :=
  if s.inState c .vaneWait && s.vanePermitted c then releaseVaneWith recheck s c else s

/-- The vane re-check of every VANE_WAIT crane, ascending (R123). A release brings a further re-check within the step;
each takes a crane out of VANE_WAIT, so eight levels reach them all (entry 15). -/
def recheckN : Nat → State → State
  | 0, s => s
  | n + 1, s => allCranes.foldl (recheckOne (recheckN n)) s

def State.recheckVane (s : State) : State := recheckN 8 s

def State.arbitrate (s : State) : State := arbitrateWith State.recheckVane s

def State.follow (s : State) (chg : List Change) : State := followWith State.recheckVane chg s

/-- Cells are changed together, and the follow-ups made once after them (R52, R53). -/
def State.convert (s : State) (rs : List CellReq) : State := (s.changeCells rs).follow (s.changesOf rs)

/-- The resume conversion of a crane, with its follow-ups (R127). -/
def State.resumeCrane (s : State) (c : Crane) : State :=
  (s.resumeChange c).follow (s.changesOf (s.resumeReqs c))

/-- Vane release is tested, and made when permitted (R123). -/
def State.testVane (s : State) (c : Crane) : State :=
  if s.vanePermitted c then releaseVaneWith State.recheckVane s c else s

/-! ### Wait entries of a cell that becomes HELD outside the walk (R79) -/

/-- A cell becomes HELD by a change other than the walk: the crane's entry for it is removed with a GRANT notice as the
cell becomes HELD, and the follow-ups are made. -/
def State.holdCell (s : State) (q : CellId) (o : OriginRule) : State :=
  let r : CellReq := ⟨q, .held, o⟩
  let t := s.changeCells [r]
  let t :=
    match s.waitFor q.crane q.sector with
    | some _ => (t.dropWait q.crane q.sector).notify q.crane (.grant q.sector)
    | none => t
  t.follow (s.changesOf [r])

end Sys2Proof.Machine
end

