-- ==== Sys2Proof/Machine/Service.lean ====
section
/-!
DEFINITION. The Service State Controller's shared operations (chapter 8): the STORM condition and the entry to securing
(R117 to R119), securing progress (R121 to R123), and what a rejoin does to a crane's service (R114).
-/
namespace Sys2Proof.Machine

/-- The end of a securing timer started now; the timeout is read at this moment (R119). -/
def State.securingEnd (s : State) : Nat := s.now + s.params.securing * 60000

/-- The order of a crane that secures (Table 8-1). -/
def State.securingOrder (s : State) (c : Crane) : Order :=
  match (s.entry c).vane with
  | .free => .secure
  | .parked => .park

/-- A crane enters SECURING, or a LOST one's remembered state does (R119); its readiness results become absent until
the first securing test (R113). -/
def State.toSecuring (s : State) (c : Crane) : State :=
  s.setSvc c
    { s.svc c with state := .securing, order := s.securingOrder c, timer := some s.securingEnd, readiness := none }

/-- A withheld crane of FREE mode becomes VANE_WAIT with order SECURE and a started timer (R119); its entries are denied
(R78). -/
def State.withheldToVaneWait (s : State) (c : Crane) : State :=
  (s.setSvc c
    { s.svc c with state := .vaneWait, order := .secure, timer := some s.securingEnd, withheld := false }).denyCrane c
    .service

/-- The entry to securing of one crane (R119). `(s.svc c).state` is the remembered state of a LOST crane. -/
def State.enterSecuring (s : State) (c : Crane) : State :=
  let r := s.svc c
  match r.state with
  | .inService => s.toSecuring c
  | .outOfService =>
    if r.withheld then
      match (s.entry c).vane with
      | .free => if r.lost then s.withheldToVaneWait c else (s.withheldToVaneWait c).testVane c
      | .parked => s.setSvc c { r with withheld := false, order := .park }
    else s
  | .securing | .vaneWait | .offline | .standby => s

/-- Every crane, in ascending crane number. -/
def State.enterSecuringAll (s : State) : State := allCranes.foldl State.enterSecuring s

/-- A reason is added to every running booking, in ascending id. -/
def State.addReasonAll (s : State) (r : SuspReason) : State :=
  s.bookings.foldl (fun s b => s.addReason b r) s

/-- The site enters STORM from OPEN (R118). -/
def State.enterStorm (s : State) (c : Crane) : State :=
  (((s.withSite .storm).raiseFor .storm c).addReasonAll .storm).enterSecuringAll

/-- A crane's wind has become STORM (R117). -/
def State.reportStorm (s : State) (c : Crane) : State :=
  match s.site with
  | .opened => s.enterStorm c
  | .storm | .closed | .setup => s.raiseFor .storm c

/-! ### Securing progress (section 8.5) -/

/-- The four conditions of R121; condition 4 is held for a FREE-mode crane. -/
def State.readinessOf (s : State) (c : Crane) : Readiness where
  loadLanded := s.loadIsZero c
  securedAtRest := match (s.craneRec c).contents with
    | some k => k.secured && k.atRest
    | none => false
  noLift := (s.runningLift c).isNone
  inPark :=
    let e := s.entry c
    match e.vane with
    | .free => true
    | .parked =>
      decide (tget s.occupied c = some ⟨e.park, e.park⟩) && decide ((s.cell ⟨c, e.park⟩).state = .held)

def Readiness.all (r : Readiness) : Bool := r.loadLanded && r.securedAtRest && r.noLift && r.inPark

/-- The cells of the park conversion: the park cell becomes PARKED, each other HELD or SEIZED cell begins clearing
(R69). -/
def State.parkReqs (s : State) (c : Crane) : List CellReq :=
  allSectors.filterMap (fun x =>
    match (s.cell ⟨c, x⟩).state with
    | .held => if x = (s.entry c).park then some ⟨⟨c, x⟩, .parked, .keep⟩ else some (s.beginClearing ⟨c, x⟩)
    | .seized => if x = (s.entry c).park then none else some (s.beginClearing ⟨c, x⟩)
    | .free | .clearing | .vane | .parked => none)

/-- A ready PARKED-mode crane is taken out of service (R122). -/
def State.parkCrane (s : State) (c : Crane) : State :=
  let t := (s.setSvc c { s.svc c with state := .outOfService, order := .park, timer := none }).denyCrane c .service
  (t.convert (t.parkReqs c)).withdraw .secureOverdue c

/-- A ready FREE-mode crane becomes VANE_WAIT, and its vane release is tested (R123). -/
def State.toVaneWait (s : State) (c : Crane) : State :=
  ((s.setSvc c { s.svc c with state := .vaneWait, order := .secure }).denyCrane c .service).testVane c

/-- The securing stage of an accepted report (R121). -/
def State.securingStage (s : State) (c : Crane) : State :=
  if s.inState c .securing then
    let r := s.readinessOf c
    let t := s.setSvc c { s.svc c with readiness := some r }
    if r.all then
      match (s.entry c).vane with
      | .parked => t.parkCrane c
      | .free => t.toVaneWait c
    else t
  else s

/-! ### LOST and REJOIN (R114) -/

/-- The service stage of a REJOIN: a LOST crane returns to its remembered state, VANE_WAIT being tested at once; an
OFFLINE crane becomes STANDBY in SETUP and IN_SERVICE otherwise. -/
def State.rejoinService (s : State) (c : Crane) : State :=
  let r := s.svc c
  if r.lost then
    let t := s.setSvc c { r with lost := false }
    if r.state = .vaneWait then t.testVane c else t
  else if r.state = .offline then
    match s.site with
    | .setup => s.setSvc c { r with state := .standby, order := .remainSecured }
    | .opened | .storm | .closed => s.setSvc c { r with state := .inService, order := .work }
  else s

end Sys2Proof.Machine
end

