-- ==== Sys2Proof/Machine/Wind.lean ====
section
/-!
DEFINITION. The Wind Assessment Unit (chapter 7): gust and mean, classification, dwells, fresh starts, class limits and
verdicts, and the conditions it keeps in step.
-/
namespace Sys2Proof.Machine

/-! ### Gust and mean of a sample (R99, R100) -/

/-- The window with a sample appended, the oldest of four removed (R99). -/
def pushSample (window : List Nat) (w : Nat) : List Nat :=
  let l := window ++ [w]
  if l.length = 4 then l.drop 1 else l

/-- The accumulator after a sample (R100). -/
def accumulate (a w : Nat) : Nat := a - meanOf a + w

/-! ### Classification (R101) -/

/-- The caution threshold Cw. -/
def CraneEntry.cw (e : CraneEntry) : Nat := e.lw * 80 / 100

def classify (e : CraneEntry) (g m : Nat) : WindState :=
  if e.sw ≤ g ∨ e.mw ≤ m then .storm
  else if e.lw ≤ g then .hold
  else if e.cw ≤ g then .caution
  else .calm

/-- The condition of Table 7-1 for stepping down from a state; none is tested in CALM (R103). -/
def stepDown (e : CraneEntry) (st : WindState) (g m : Nat) : Bool :=
  match st with
  | .storm => decide (g + e.hw < e.sw) && decide (m + e.hw < e.mw)
  | .hold => decide (g + e.hw < e.lw)
  | .caution => decide (g + e.hw < e.cw)
  | .calm => false

/-- The step of Table 7-1 from a state. -/
def stepOf : WindState → Option DwellStep
  | .storm => some .stormToHold
  | .hold => some .holdToCaution
  | .caution => some .cautionToCalm
  | .calm => none

/-- The state a step leads to. -/
def DwellStep.target : DwellStep → WindState
  | .stormToHold => .hold
  | .holdToCaution => .caution
  | .cautionToCalm => .calm

/-- The dwell of a step, in ms (Table 7-1). -/
def DwellStep.time : DwellStep → Nat
  | .stormToHold => 600000
  | .holdToCaution => 120000
  | .cautionToCalm => 60000

/-- The end of a running dwell (R95). -/
def Dwell.ends (d : Dwell) : Nat := d.start + d.step.time

/-- A dwell started now from a state. -/
def startDwell (st : WindState) (now : Nat) : Option Dwell := (stepOf st).map (fun k => ⟨k, now⟩)

/-! ### One sample on a wind record -/

/-- A reading on a record whose wind is known (R99 to R103). -/
def WindRec.takeReading (r : WindRec) (e : CraneEntry) (now w : Nat) : WindRec :=
  let r := { r with window := pushSample r.window w, acc := accumulate r.acc w }
  let cls := classify e r.gust r.mean
  if r.state.code < cls.code then { r with state := cls, dwell := none }
  else if stepDown e r.state r.gust r.mean then
    { r with dwell := match r.dwell with
      | some d => some d
      | none => startDwell r.state now }
  else { r with dwell := none }

/-- A fresh start (R105). -/
def WindRec.freshStart (r : WindRec) (e : CraneEntry) (w : Nat) : WindRec :=
  { r with window := [w], acc := 512 * w, state := classify e w (meanOf (512 * w)), dwell := none, unknown := false }

/-- The unknown flag is set (R98, steps 1 to 3); setting it again changes nothing. -/
def WindRec.setUnknown (r : WindRec) : WindRec :=
  if r.unknown then r
  else
    { r with
      unknown := true
      state := match r.state with
        | .calm | .caution | .hold => .hold
        | .storm => .storm
      dwell := none }

/-- The record after a sample: steps 1 to 5 of R96. `n` is the no-reading count delivered with it. -/
def WindRec.sample (r : WindRec) (e : CraneEntry) (now : Nat) (wind : Option Nat) (n : Nat) : WindRec :=
  let r := { r with heard := true }
  match wind with
  | none => if !r.unknown && decide (Config.noReadingsBeforeUnknown ≤ n) then r.setUnknown else r
  | some w =>
    let w := min w 600
    if r.unknown then r.freshStart e w else r.takeReading e now w

/-- A dwell completes (R104, steps 1 and 2). -/
def WindRec.complete (r : WindRec) (e : CraneEntry) (now : Nat) (d : Dwell) : WindRec :=
  let st := d.step.target
  { r with state := st, dwell := if stepDown e st r.gust r.mean then startDwell st now else none }

/-! ### Conditions (R108) -/

/-- One condition is brought into step: raised when it becomes true, withdrawn when it becomes false. -/
def State.keepInStep (s : State) (k : AlertKind) (c : Crane) (holds : Bool) : State :=
  if holds then (if s.hasAlert k c then s else s.raiseFor k c)
  else (if s.hasAlert k c then s.withdraw k c else s)

/-- The three wind conditions of a crane, once it has been heard. -/
def State.windConditions (s : State) (c : Crane) : State :=
  let r := s.windRec c
  if r.heard then
    ((s.keepInStep .windCaution c (decide (1 ≤ r.state.code))).keepInStep .windHold c
      (decide (2 ≤ r.state.code))).keepInStep .windUnknown c r.unknown
  else s

/-! ### Class limits and the lift verdict (section 7.6) -/

def AreaClass.percent : AreaClass → Nat
  | .a0 => 100
  | .a1 => 85
  | .a2 => 70
  | .a3 => 55

/-- R106 -/
def CraneEntry.classLimit (e : CraneEntry) (a : AreaClass) : Nat := e.lw * a.percent / 100

/-- The verdict of a wind record for an area class (R107). -/
def WindRec.verdict (r : WindRec) (e : CraneEntry) (a : AreaClass) : Verdict :=
  if r.unknown || decide (2 ≤ r.state.code) || decide (e.classLimit a ≤ r.gust) then .overLimit
  else if r.gust + e.hw < e.classLimit a then .clear
  else .steady

/-- The Booking Table Controller acts on a verdict (R156). -/
def State.actOnVerdict (s : State) (b : Booking) (v : Verdict) : State :=
  match v with
  | .overLimit => s.addReason b .wind
  | .clear => s.removeReason b .wind
  | .steady => s

/-- Step 8 of R96. -/
def State.handVerdict (s : State) (c : Crane) : State :=
  match s.runningLift c with
  | some b => s.actOnVerdict b ((s.windRec c).verdict (s.entry c) b.data.cls)
  | none => s

/-- A sample is taken whole (R96). -/
def State.windStage (s : State) (c : Crane) (wind : Option Nat) : State :=
  let old := s.windRec c
  let new := old.sample (s.entry c) s.now wind (s.craneRec c).noReading
  let t := (s.setWind c new).windConditions c
  let t := if new.state = .storm ∧ old.state ≠ .storm then t.reportStorm c else t
  t.handVerdict c

/-- A crane's wind becomes unknown because the crane is LOST (R98). -/
def State.windLost (s : State) (c : Crane) : State := (s.setWind c (s.windRec c).setUnknown).windConditions c

/-- Whether a crane's wind is ready (R110). -/
def State.windReady (s : State) (c : Crane) : Bool :=
  !(s.windRec c).unknown && decide ((s.windRec c).state.code ≤ 1)

end Sys2Proof.Machine
end

