-- ==== Sys2Proof/Machine/Conformance.lean ====
section
/-!
DEFINITION. The Conformance Monitor (chapter 6): the occupied set, the position check, seizures and their conflict
partners, and the lift conformance of a report.
-/
namespace Sys2Proof.Machine

/-- A sector of an angle. -/
def sectorAt (angle : Nat) : Sector := ⟨angle % 4096 / 256, by omega⟩

/-- The occupied set of an angle and a margin (R82). -/
def occupiedAt (angle margin : Nat) : Occupied :=
  ⟨sectorAt (angle + 4096 - margin % 4096), sectorAt (angle + margin)⟩

/-! ### Seizures (R84) -/

/-- The conflict partners of a seizure: the other cranes a pair joins the cell to, by a blocking state or by a running
lift's path. -/
def State.conflictPartners (s : State) (q : CellId) : List Crane :=
  allCranes.filter (fun d =>
    (s.partners q).any (fun p => decide (p.2.crane = d) && (s.blocks p || s.onRunningPath p.2)))

/-- A conflicting seizure is entered in the register (R85), the newest entry first (the model's choice; entry 31). -/
def State.register_ (s : State) (q : CellId) (ds : List Crane) : State :=
  s.withRegister (⟨q, ds⟩ :: s.register.filter (fun e => !decide (e.cell = q)))

/-- What a seizure raises: INTRUSION, and CONFLICT for the crane and then each partner (R84). -/
def State.intrude (s : State) (q : CellId) : State :=
  let s := s.raiseFor .intrusion q.crane
  let ds := s.conflictPartners q
  if ds.isEmpty then s
  else (q.crane :: ds).foldl (fun s d => s.raiseFor .conflict d) (s.register_ q ds)

/-- A cell is seized (R68), and the seizure raised (R84). -/
def State.seize (s : State) (q : CellId) : State := (s.convert [⟨q, .seized, .set .seize⟩]).intrude q

/-! ### The position check (R83) -/

/-- Pass 1 on one occupied sector. -/
def State.checkOccupied (s : State) (q : CellId) : State :=
  match (s.cell q).state with
  | .held | .vane | .parked => s
  | .seized => if s.grantTest q then s.holdCell q .keep else s
  | .clearing => if s.underLimit q.crane then s.holdCell q .keep else s.seize q
  | .free => s.seize q

/-- Pass 2 on one sector: the seizure of a cell no longer occupied is ended. -/
def State.checkLeft (s : State) (q : CellId) : State :=
  if (s.cell q).state = .seized ∧ s.occupies q.crane q.sector = false then s.convert [s.beginClearing q] else s

/-- The two passes of R83. -/
def State.checkPosition (s : State) (c : Crane) : State :=
  let t := (occupiedSectors (tget s.occupied c)).foldl (fun s x => s.checkOccupied ⟨c, x⟩) s
  allSectors.foldl (fun s x => s.checkLeft ⟨c, x⟩) t

/-- The position stage: the occupied set is formed afresh, and checked outside SETUP (R82, R83). -/
def State.positionStage (s : State) (c : Crane) (angle : Nat) : State :=
  let t := s.setOccupied c (some (occupiedAt angle (s.entry c).margin))
  match s.site with
  | .setup => t
  | .opened | .storm | .closed => t.checkPosition c

/-! ### Lift conformance (section 6.4) -/

/-- Whether a report conforms to a booking under a tolerance (R86). -/
def conforms (load : Option Nat) (radius : Nat) (d : LiftData) (tolerance : Nat) : Bool :=
  match load with
  | some l => decide (l * 100 ≤ d.mass * (100 + tolerance)) && decide (radius ≤ d.reach)
  | none => false

/-- The lift stage of an accepted report (R86, R87). -/
def State.liftStage (s : State) (c : Crane) (load : Option Nat) (radius : Nat) : State :=
  match s.runningLift c with
  | none => s
  | some b =>
    if conforms load radius b.data s.params.tolerance then
      (s.setLastConf c (some .conforms)).withdraw .nonconform c
    else ((s.setLastConf c (some .nonconforms)).raiseFor .nonconform c).addReasonTo c .nonconform

/-- The load-drop stage (R42 stage 3, R67): the NO_LOAD cells leave the restricted set, and arbitration runs. -/
def State.loadDrop (s : State) (c : Crane) : State :=
  let old := tget s.restricted c
  let left := old.filter (fun x => !decide (s.restriction ⟨c, x⟩ = .noLoad))
  let t := s.setRestricted c left
  let t := if !old.isEmpty && left.isEmpty then t.withdraw .restricted c else t
  t.arbitrate

end Sys2Proof.Machine
end

