-- ==== Sys2Proof/Machine/Bookings.lean ====
section
/-!
DEFINITION. The Booking Table Controller's shared operations (chapters 9 and 10): admission (R134 to R139), the id counter
(R132), the tests of the minute event (R146, R159), and the end of a running lift (R161).
-/
namespace Sys2Proof.Machine

/-! ### Admission -/

/-- Step 3 (R135): the window against the current site minute. -/
def checkWindow (n : Nat) (d : LiftData) : Option Answer :=
  if d.start < n then some (answer .tooLate)
  else if n + Config.startHorizon < d.start then some (answer .badValue)
  else if Config.maxSiteMinute < d.start + d.length - 1 then some (answer .badValue)
  else none

/-- Step 4 (R136): the reach and the mass against the crane's entry and chart. -/
def checkReach (p : Plan) (c : Crane) (d : LiftData) : Option Answer :=
  if (p.entry c).reach < d.reach then some (answer .outOfReach)
  else
    match ratedLoad (tget p.charts c) d.reach with
    | some l => if l < d.mass then some ⟨.overweight, [f2 l]⟩ else none
    | none => some ⟨.overweight, [fOpt 2 none]⟩

/-- The first minute of a window, from `t` on, at which a cell is restricted. -/
def firstRestricted (p : Plan) (q : CellId) (t : Nat) : Nat → Option Nat
  | 0 => none
  | n + 1 => if p.restrictionAt q t = .unrestricted then firstRestricted p q (t + 1) n else some t

/-- Step 5 (R137): the restrictions over the window, sector by sector in path order. -/
def checkRestrictions (p : Plan) (c : Crane) (d : LiftData) : Option Answer :=
  d.path.findSome? (fun x =>
    (firstRestricted p ⟨c, x⟩ d.start d.length).map (fun t => ⟨.restricted, [fSector x, f4 t]⟩))

/-- Whether two windows overlap (R138). -/
def LiftData.overlaps (a b : LiftData) : Bool :=
  decide (a.start < b.start + b.length) && decide (b.start < a.start + a.length)

/-- Whether a conflict pair of either kind joins a path cell of one crane to a path cell of another (R138). -/
def Plan.pathsJoined (p : Plan) (c : Crane) (path : List Sector) (d : Crane) (other : List Sector) : Bool :=
  path.any (fun x => (p.partners ⟨c, x⟩).any (fun r => decide (r.2.crane = d) && decide (r.2.sector ∈ other)))

/-- Whether a live record conflicts with a booking of crane `c` (R138). -/
def Plan.liftConflict (p : Plan) (c : Crane) (d : LiftData) (b : Booking) : Bool :=
  d.overlaps b.data && (decide (b.crane = c) || p.pathsJoined c d.path b.crane b.data.path)

/-- Step 6 (R138): the other live records in ascending id. -/
def checkConflicts (p : Plan) (c : Crane) (d : LiftData) (others : List Booking) : Option Answer :=
  (others.find? (p.liftConflict c d)).map (fun b => ⟨.conflict, [f2 b.id]⟩)

/-- Step 7 (R139). An amendment's own place is counted, so it passes always. Where both limits are met, FULL names the table (the
model's choice; entry 30). -/
def checkCapacity (c : Crane) (others : List Booking) (amending : Bool) : Option Answer :=
  if amending then none
  else if Config.maxBookings ≤ others.length then some ⟨.full, [f1 0]⟩
  else if Config.maxBookingsPerCrane ≤ (others.filter (fun b => decide (b.crane = c))).length
    then some ⟨.full, [f1 1]⟩
  else none

/-- What admission answers. -/
inductive Admission where
  | admitted (d : LiftData)
  | failed (a : Answer)
  deriving DecidableEq, Repr

/-- Admission of a lift of crane `c` (section 9.3); `amending` is the id of the record left out of the table. -/
def State.admission (s : State) (c : Crane) (f : LiftFields) (amending : Option Nat) : Admission :=
  let p := s.plan.committed
  if s.present c = false then .failed (answer .notPermitted)
  else
    match liftOf f with
    | none => .failed (answer .badValue)
    | some d =>
      let others := s.bookings.filter (fun b => !decide (some b.id = amending))
      match checkWindow s.minute d, checkReach p c d, checkRestrictions p c d, checkConflicts p c d others,
        checkCapacity c others amending.isSome with
      | some a, _, _, _, _ => .failed a
      | none, some a, _, _, _ => .failed a
      | none, none, some a, _, _ => .failed a
      | none, none, none, some a, _ => .failed a
      | none, none, none, none, some a => .failed a
      | none, none, none, none, none => .admitted d

/-! ### Ids and records -/

/-- The value after a counter value, 65535 being followed by 1 (R132). -/
def nextValue (n : Nat) : Nat := if n = 65535 then 1 else n + 1

/-- The first value from `n` on that no live record holds; with at most 64 records 65 values suffice (R132). -/
def freeId (table : List Booking) (n : Nat) : Nat → Nat
  | 0 => n
  | k + 1 => if table.any (fun b => decide (b.id = n)) then freeId table (nextValue n) k else n

/-- A record enters the table, which is kept in ascending id. -/
def insertLift (b : Booking) : List Booking → List Booking
  | [] => [b]
  | r :: rest => if b.id < r.id then b :: r :: rest else r :: insertLift b rest

/-- Changed at and changed by are set (R133). -/
def Booking.stamp (b : Booking) (s : State) (q : Requester) : Booking :=
  { b with changedAt := s.clock.site, changedBy := q }

/-- Whether the requester may name a record: the supervisor, or its crane (R133). -/
def Booking.allows (b : Booking) (q : Requester) : Bool :=
  match q with
  | .supervisor => true
  | .crane c => decide (b.crane = c)

/-! ### The minute event (R146, R159) -/

/-- Whether a record's window has passed at minute `n`. -/
def LiftData.passed (d : LiftData) (n : Nat) : Bool := decide (d.start + d.length ≤ n)

/-- R146 on one BOOKED record, given by its id: expired and freed, made due, or left. -/
def State.testBooked (s : State) (n : Nat) (id : Nat) : State :=
  match s.findLift id with
  | none => s
  | some b =>
    if b.state = .booked then
      if b.data.passed n then (s.freeLift id).notifyLift b .expired []
      else if b.data.start ≤ n ∧ b.due = false then (s.putLift { b with due := true }).notifyLift b .due []
      else s
    else s

/-- R159 on one running record, given by its id. -/
def State.testOverrun (s : State) (n : Nat) (id : Nat) : State :=
  match s.findLift id with
  | none => s
  | some b =>
    if b.running then
      let t := if b.data.passed n then s.putLift { b with overrun := true } else s
      if b.data.start + b.data.length + t.params.grace ≤ n then t.raiseFor .overrun b.crane else t
    else s

/-- The Booking Table Controller takes a minute event (entry 9). -/
def State.bookingMinute (s : State) (n : Nat) : State :=
  let t := (s.bookings.map Booking.id).foldl (fun s id => s.testBooked n id) s
  (t.bookings.map Booking.id).foldl (fun s id => s.testOverrun n id) t

/-- R66 on one crane: its restricted set is formed afresh at minute `n`. -/
def State.formRestricted (s : State) (n : Nat) (c : Crane) : State :=
  let old := tget s.restricted c
  let new := (s.sectorsIn c .held).filter (fun x => s.bears c (s.plan.committed.restrictionAt ⟨c, x⟩ n))
  let t := s.setRestricted c new
  let t := if new.any (fun x => !decide (x ∈ old)) then t.raiseFor .restricted c else t
  if new.isEmpty then t.withdraw .restricted c else t

/-- The Zone Grant Controller takes a minute event (R66). -/
def State.zoneMinute (s : State) (n : Nat) : State := allCranes.foldl (fun s c => s.formRestricted n c) s

/-- The minute event for a site minute, delivered to its two consumers (R27, R28; entry 9). -/
def State.minuteEvent (s : State) (n : Nat) : State := (s.bookingMinute n).zoneMinute n

/-- Site time becomes `t`; the minute event is raised when the site minute changes (R27). -/
def State.moveTime (s : State) (t : Nat) : State :=
  let u := s.withClock { s.clock with site := t }
  if t / 60 = s.minute then u else u.minuteEvent (t / 60)

/-! ### The end of a running lift (R161) -/

/-- Steps 1 to 4 of R161: the record is freed, the conditions of the lift are withdrawn, OFF_PATH is re-evaluated and
arbitration runs. -/
def State.endLift (s : State) (b : Booking) : State :=
  let c := b.crane
  ((((((s.freeLift b.id).setLastConf c none).withdraw .nonconform c).withdraw .overrun c).reviewOffPath c)).arbitrate

end Sys2Proof.Machine
end

