-- ==== Sys2Proof/Machine/LiftRequests.lean ====
section
/-!
DEFINITION. The lift requests, as the Booking Table Controller takes them from a crane or from the supervisor (R133): each
answers the state after it and the answer, which the port or the link then sends. Notices come ahead of the answer (R46).
-/
namespace Sys2Proof.Machine

/-- The lift fields of a record as Table 12-5 lays them out; an absent tag of all ones is the model's choice (entry 8). -/
def LiftData.fields (d : LiftData) : List Field :=
  [f4 d.start, f1 d.length, f2 d.mass, f1 d.cls.code, f2 d.reach, f1 d.path.length] ++
    (d.path.map fSector ++ List.replicate (8 - d.path.length) (f1 0xFF)) ++
    [fFlag d.tag.isSome, fOpt 4 d.tag]

/-- The crane a proposal is for: the crane of the link, or the number a supervisor request carries (R133, R140). -/
def proposalCrane (q : Requester) (crane : Nat) : Option Crane :=
  match q with
  | .crane c => some c
  | .supervisor => craneOf crane

/-- PROPOSE_LIFT (R140). -/
def propose (q : Requester) (crane : Nat) (f : LiftFields) (s : State) : State × Answer :=
  match proposalCrane q crane with
  | none => (s, answer .badValue)
  | some c =>
    if s.clock.isSet = false then (s, answer .clockUnset)
    else
      match s.admission c f none with
      | .failed a => (s, a)
      | .admitted d =>
        let id := freeId s.bookings s.nextId 65
        let b : Booking :=
          { id := id, crane := c, state := .pending (s.now + Config.confirmTime), data := d, originator := q,
            locked := false, due := false, overrun := false, changedAt := s.clock.site, changedBy := q }
        ((s.withBookings (insertLift b s.bookings)).withNextId (nextValue id), okWith [f2 id, f4 Config.confirmTime])

/-- The tests of the minute event on a record that is BOOKED now, for one not past its window: it is made due (R141,
R143). -/
def State.testDue (s : State) (b : Booking) : State :=
  if b.data.start ≤ s.minute then (s.putLift { b with due := true }).notifyLift b .due [] else s

/-- CONFIRM_LIFT (R141). -/
def confirm (q : Requester) (id : Nat) (s : State) : State × Answer :=
  match s.findLift id with
  | none => (s, answer .notFound)
  | some b =>
    if q ≠ .supervisor ∧ b.originator ≠ q then (s, answer .notPermitted)
    else
      match b.state with
      | .pending _ =>
        let b := { b.stamp s q with state := .booked }
        if b.data.passed s.minute then (s.freeLift id, ⟨.tooLate, [f1 expiredCode]⟩)
        else ((s.putLift b).testDue b, okWith [f1 b.state.code])
      | .booked | .active | .suspended _ => (s, answer .badState)

/-- AMEND_LIFT (R143). -/
def amend (q : Requester) (id : Nat) (f : LiftFields) (s : State) : State × Answer :=
  if s.clock.isSet = false then (s, answer .clockUnset)
  else
    match s.findLift id with
    | none => (s, answer .notFound)
    | some b =>
      if b.allows q = false then (s, answer .notPermitted)
      else if b.state ≠ .booked then (s, answer .badState)
      else if q ≠ .supervisor ∧ b.locked then (s, answer .locked)
      else
        match s.admission b.crane f (some id) with
        | .failed a => (s, a)
        | .admitted d =>
          let b := { b.stamp s q with data := d, due := false }
          ((s.putLift b).testDue b, okWith [f2 id])

/-- CANCEL_LIFT (R144). -/
def cancel (q : Requester) (id : Nat) (s : State) : State × Answer :=
  match s.findLift id with
  | none => (s, answer .notFound)
  | some b =>
    if b.allows q = false then (s, answer .notPermitted)
    else if b.running then (s, answer .badState)
    else if q ≠ .supervisor ∧ b.locked then (s, answer .locked)
    else
      let t := s.freeLift id
      (if q = .supervisor then t.notifyLift b .cancelledBySupervisor [] else t, okWith [f1 cancelledCode])

/-- LOCK_LIFT and UNLOCK_LIFT (R145). -/
def setLock (locked : Bool) (q : Requester) (id : Nat) (s : State) : State × Answer :=
  match q with
  | .crane _ => (s, answer .notPermitted)
  | .supervisor =>
    match s.findLift id with
    | none => (s, answer .notFound)
    | some b => (s.putLift { b.stamp s q with locked := locked }, okWith [fFlag locked])

/-- The record fields of QUERY_LIFT (R148) in the layout of Table 12-7, for the supervisor too; a record that is not SUSPENDED
answers an empty reason set (both the model's choice; entry 33). -/
def queryRecord (q : Requester) (id : Nat) (s : State) : State × Answer :=
  match s.findLift id with
  | none => (s, answer .notFound)
  | some b =>
    if b.allows q = false then (s, answer .notPermitted)
    else
      (s, okWith
        ([f2 b.id, fCrane b.crane, f1 b.state.code] ++ b.data.fields ++
          [f1 (requesterNumber b.originator), f1 (flag b.locked + 2 * flag b.due + 4 * flag b.overrun),
            fSusps (match b.state with
              | .suspended rs => rs
              | .pending _ | .booked | .active => []),
            fOpt 4 (match b.state with
              | .pending t => some (s.remaining t)
              | .booked | .active | .suspended _ => none),
            f4 b.changedAt, f1 (requesterNumber b.changedBy), fOpt 2 (ratedLoad (tget s.plan.committed.charts b.crane) b.data.reach),
            f2 ((s.entry b.crane).classLimit b.data.cls)]))

/-- The crane selector of a LIST_LIFTS: all cranes, or one; a crane's request names its own (R149). -/
inductive Selector where
  | all
  | one (c : Crane)
  deriving DecidableEq, Repr

def selectorOf (q : Requester) (n : Nat) : Option Selector :=
  match q with
  | .crane c => some (.one c)
  | .supervisor => if n = 0xFF then some .all else (craneOf n).map .one

/-- Whether a record matches a LIST_LIFTS (R149). -/
def Booking.matches (b : Booking) (sel : Selector) (filter fromId : Nat) : Bool :=
  decide (fromId ≤ b.id) && filter.testBit b.state.code &&
    (match sel with
      | .all => true
      | .one c => decide (b.crane = c))

/-- LIST_LIFTS (R149). Bits of the filter above bit 3 are passed over (entry 14). -/
def listRecords (q : Requester) (selector filter fromId : Nat) (s : State) : State × Answer :=
  match selectorOf q selector with
  | none => (s, answer .badValue)
  | some sel =>
    if filter % 16 = 0 ∨ fromId = 0 then (s, answer .badValue)
    else
      let found := (s.bookings.filter (fun b => b.matches sel filter fromId)).map Booking.id
      let ids := found.take 8
      let next := if found.length ≤ 8 then 0 else
        match ids.getLast? with
        | some k => k + 1
        | none => 0
      (s, okWith (f1 ids.length :: ids.map f2 ++ [f2 next]))

/-- The first path sector, in path order, that is busy, with the crane of its first partner in pair order (R152
check 7). -/
def State.busyPath (s : State) (c : Crane) (path : List Sector) : Option (Sector × Crane) :=
  path.findSome? (fun x =>
    ((s.partners ⟨c, x⟩).find? (fun p => s.blocks p || s.onRunningPath p.2)).map (fun p => (x, p.2.crane)))

/-- The checks of START_LIFT on a BOOKED record (R152, checks 2 to 7). -/
def State.startCheck (s : State) (c : Crane) (b : Booking) : Option Answer :=
  let w := s.windRec c
  let limit := (s.entry c).classLimit b.data.cls
  if s.minute + s.params.early < b.data.start then some ⟨.badState, [f2 0]⟩
  else if b.data.passed s.minute then some (answer .tooLate)
  else if s.site ≠ .opened then some (answer .siteClosed)
  else if s.inState c .inService = false then some ⟨.badState, [f2 0]⟩
  else if (s.stopSet c).isEmpty = false then some (answer .stopped)
  else
    match s.runningLift c with
    | some r => some ⟨.badState, [f2 r.id]⟩
    | none =>
      if w.verdict (s.entry c) b.data.cls = .overLimit then some ⟨.wind, [f2 w.gust, f2 limit]⟩
      else (s.busyPath c b.data.path).map (fun p => ⟨.pathBusy, [fSector p.1, fCrane p.2]⟩)

/-- START_LIFT (R152, R153). -/
def start (q : Requester) (id : Nat) (s : State) : State × Answer :=
  match q with
  | .supervisor => (s, answer .notPermitted)
  | .crane c =>
    match s.findLift id with
    | none => (s, answer .notFound)
    | some b =>
      if b.crane ≠ c then (s, answer .notPermitted)
      else if b.state ≠ .booked then (s, ⟨.badState, [f2 0]⟩)
      else
        match s.startCheck c b with
        | some a => (s, a)
        | none => ((s.putLift { b.stamp s q with state := .active }).setLastConf c none, okWith [f2 id])

/-- FINISH_LIFT and LAND_LIFT, after the requester has been checked (R160). -/
def endRunning (terminal : Nat) (q : Requester) (id : Nat) (s : State) : State × Answer :=
  match s.findLift id with
  | none => (s, answer .notFound)
  | some b =>
    if b.allows q = false then (s, answer .notPermitted)
    else if b.running then (s.endLift b, okWith [f1 terminal])
    else (s, answer .badState)

/-- FINISH_LIFT (R160): a crane request. -/
def finish (q : Requester) (id : Nat) (s : State) : State × Answer :=
  match q with
  | .supervisor => (s, answer .notPermitted)
  | .crane _ => endRunning completedCode q id s

/-- LAND_LIFT (R160). -/
def land (q : Requester) (id : Nat) (s : State) : State × Answer := endRunning abandonedCode q id s

/-- The state and the reasons of a running record, as an answer gives them. The layout of Table 12-7 for the supervisor too, with the
empty set beside ACTIVE, is the model's choice (entry 33). -/
def BookingState.reasonFields (st : BookingState) : List Field :=
  [f1 st.code, fSusps (match st with
    | .suspended rs => rs
    | .pending _ | .booked | .active => [])]

/-- SUSPEND_LIFT (R157). -/
def suspend (q : Requester) (id : Nat) (s : State) : State × Answer :=
  match q with
  | .crane _ => (s, answer .notPermitted)
  | .supervisor =>
    match s.findLift id with
    | none => (s, answer .notFound)
    | some b =>
      if b.running then
        let b := b.stamp s q
        let t := (s.putLift b).addReason b .supervisor
        (t, okWith (match t.findLift id with
          | some r => r.state.reasonFields
          | none => []))
      else (s, answer .badState)

/-- The suspension reasons left by a requester's RESUME_LIFT (R158). -/
def State.resumedReasons (s : State) (q : Requester) (b : Booking) (rs : List SuspReason) : List SuspReason :=
  match q with
  | .supervisor => setDel .supervisor rs
  | .crane _ => if tget s.lastConf b.crane = some .conforms then setDel .nonconform rs else rs

/-- RESUME_LIFT (R158). -/
def resume (q : Requester) (id : Nat) (s : State) : State × Answer :=
  match s.findLift id with
  | none => (s, answer .notFound)
  | some b =>
    if b.allows q = false then (s, answer .notPermitted)
    else
      match b.state with
      | .suspended rs =>
        let left := s.resumedReasons q b rs
        let st : BookingState := if left.isEmpty then .active else .suspended left
        (s.putLift { b.stamp s q with state := st }, okWith st.reasonFields)
      | .pending _ | .booked | .active => (s, answer .badState)

end Sys2Proof.Machine
end

