-- ==== Sys2Proof/Machine/ZoneRequests.lean ====
section
/-!
DEFINITION. ENTER (R57 to R60) and RELEASE (R61) as the Zone Grant Controller takes them from a PRESENT crane. The answer
of either carries the sector (Table 12-7).
-/
namespace Sys2Proof.Machine

/-- The checks of R57. -/
def State.enterCheck (s : State) (c : Crane) : Option Code :=
  if (s.site = .opened ∨ s.site = .storm ∨ s.inState c .securing = true) then
    if (s.stopSet c).isEmpty = false then some .stopped
    else if s.inState c .outOfService || s.inState c .vaneWait then some .badState
    else none
  else some .siteClosed

/-- Whether the path check applies and the sector is off the path (R59): the crane's running lift is ACTIVE. -/
def State.offActivePath (s : State) (c : Crane) (x : Sector) : Bool :=
  match s.runningLift c with
  | some b => decide (b.state = .active) && !decide (x ∈ b.data.path)
  | none => false

/-- A wait entry is appended (R73). -/
def State.appendWait (s : State) (c : Crane) (x : Sector) : State :=
  (s.withWaits (s.waits ++ [⟨c, x, s.now, s.now + s.params.wait * 1000⟩])).reviewOffPath c

/-- Whether the list has no room for another entry of a crane (R60, R73). -/
def State.waitsFull (s : State) (c : Crane) : Bool :=
  decide (Config.maxWaits ≤ s.waits.length) || decide (Config.maxWaitsPerCrane ≤ (s.waitingSectors c).length)

/-- ENTER by the state of the cell (R58 last two points, R60). -/
def State.enterCell (s : State) (q : CellId) : State × Code :=
  if s.underLimit q.crane = false then (s, .limit)
  else if s.unrestricted q = false then (s, .restricted)
  else
    match (s.cell q).state with
    | .clearing => (s.convert [⟨q, .held, .set .enter⟩], .ok)
    | .held => (s, .ok)
    | .free | .seized | .vane | .parked =>
      if !s.blocked q && !s.reserved q then
        (s.convert [⟨q, .held, if (s.cell q).state = .seized then .keep else .set .enter⟩], .ok)
      else if s.waitsFull q.crane then (s, .full)
      else (s.appendWait q.crane q.sector, .queued)

/-- ENTER that passes R57 (R58, R59): OFF_PATH is raised when the ENTER is answered OK or QUEUED off the path under
LOOSE discipline. -/
def State.enterPassed (s : State) (q : CellId) : State × Code :=
  if (s.cell q).state = .held then (s, .ok)
  else if (s.waitFor q.crane q.sector).isSome then (s, .queued)
  else if s.offActivePath q.crane q.sector then
    match s.params.discipline with
    | .strict => (s, .offPath)
    | .loose =>
      let p := s.enterCell q
      if p.2 = .ok ∨ p.2 = .queued then (p.1.raiseFor .offPath q.crane, p.2) else p
  else s.enterCell q

/-- ENTER from a PRESENT crane (R57 to R60). -/
def enterZone (c : Crane) (n : Nat) (s : State) : State × Answer :=
  match sectorOf n with
  | none => (s, ⟨.badValue, [f1 n]⟩)
  | some x =>
    match s.enterCheck c with
    | some k => (s, ⟨k, [f1 n]⟩)
    | none =>
      let p := s.enterPassed ⟨c, x⟩
      (p.1, ⟨p.2, [f1 n]⟩)

/-- RELEASE from a PRESENT crane (R61). -/
def releaseZone (c : Crane) (n : Nat) (s : State) : State × Answer :=
  match sectorOf n with
  | none => (s, ⟨.badValue, [f1 n]⟩)
  | some x =>
    if (s.waitFor c x).isSome then ((s.dropWait c x).reviewOffPath c, ⟨.ok, [f1 n]⟩)
    else
      match (s.cell ⟨c, x⟩).state with
      | .held =>
        if s.occupies c x then (s, ⟨.inUse, [f1 n]⟩)
        else (s.convert [s.beginClearing ⟨c, x⟩], ⟨.ok, [f1 n]⟩)
      | .seized => (s, ⟨.inUse, [f1 n]⟩)
      | .free | .clearing | .vane | .parked => (s, ⟨.badState, [f1 n]⟩)

end Sys2Proof.Machine
end

