-- ==== Sys2Proof/Machine/Links.lean ====
section
/-!
DEFINITION. The Crane Link Controller (chapter 3): an accepted report and its delivery (R37 to R45), LOST (R40), the
dispatch of a taken frame (R35), and a frame's way from its last byte to its taking (R31 to R34).
-/
namespace Sys2Proof.Machine

/-! ### The crane record (R37 to R39) -/

/-- The contents a report writes (R37). -/
def contentsOf (r : Report) (reach : Nat) : Contents where
  angle := r.angle % 4096
  radius := min r.radius reach
  load := readingOf r.load
  wind := readingOf r.wind
  secured := r.flags.testBit 0
  vaneEngaged := r.flags.testBit 1
  atRest := r.flags.testBit 2

/-- The no-reading count after a report (R37). -/
def countNoReading (n : Nat) (wind : Option Nat) : Nat :=
  match wind with
  | none => min (n + 1) 255
  | some _ => 0

/-- The window of the site state as it stands (R39). -/
def State.reportWindow (s : State) : Nat :=
  match s.site with
  | .setup | .opened | .storm => Config.latestReport
  | .closed => Config.latestReportClosed

/-- The crane record an accepted report leaves; `n` is the no-reading count before it. -/
def State.recordReport (s : State) (c : Crane) (r : Report) (n : Nat) : State :=
  let k := contentsOf r (s.entry c).reach
  s.setCrane c ⟨.present, some s.now, some (s.now + s.reportWindow), some k, countNoReading n k.wind⟩

/-- Whether a STATUS taken now is early (R38). -/
def State.early (s : State) (c : Crane) : Bool :=
  match (s.craneRec c).lastReport with
  | some t => decide (s.now < t + Config.earliestReport)
  | none => false

/-- Whether the load of a record, before a report, is 0. -/
def loadWasZero (k : Option Contents) : Bool :=
  match k with
  | some k => decide (k.load = some 0)
  | none => false

/-- The stages that deliver the contents of an accepted report: position, load drop, wind, lift, securing. `rejoining`
has the lift stage remove LOST first, `wasZero` is whether the previous load was 0 (R42, R45). -/
def State.deliver (s : State) (c : Crane) (r : Report) (rejoining wasZero : Bool) : State :=
  let k := contentsOf r (s.entry c).reach
  let t := s.positionStage c k.angle
  let t := if !wasZero && decide (k.load = some 0) then t.loadDrop c else t
  let t := t.windStage c k.wind
  let t := if rejoining then t.removeReasonFrom c .lost else t
  let t := t.liftStage c k.load k.radius
  t.securingStage c

/-- A STATUS_ACK is queued on the crane's link (R43). -/
def State.acknowledge (s : State) (c : Crane) (code : Code) : State :=
  s.queueAnswer c (.statusAck (s.statusAck c code))

/-- A STATUS accepted from a PRESENT crane (R42). -/
def State.acceptStatus (s : State) (c : Crane) (r : Report) : State :=
  let wasZero := loadWasZero (s.craneRec c).contents
  let early := s.early c
  let t := s.recordReport c r (s.craneRec c).noReading
  let t := if early then t.raiseFor .reportEarly c else t.withdraw .reportEarly c
  (t.deliver c r false wasZero).acknowledge c .ok

/-- A REJOIN accepted from an OFFLINE or LOST crane (R45). -/
def State.acceptRejoin (s : State) (c : Crane) (r : Report) : State :=
  let wasZero := loadWasZero (s.craneRec c).contents
  let t := (s.recordReport c r 0).withdraw .reportEarly c
  let t := (t.rejoinService c).deliver c r true wasZero
  (t.withdraw .craneLost c).acknowledge c .ok

/-! ### LOST (R40) -/

def State.becomeLost (s : State) (c : Crane) : State :=
  let t := s.setCrane c { s.craneRec c with presence := .lost, lastReport := none, bound := none }
  let t := t.setSvc c { t.svc c with lost := true }
  let t := t.denyCrane c .lost
  let t := t.addReasonTo c .lost
  (t.windLost c).raiseFor .craneLost c

/-! ### Dispatch (R35) -/

/-- The block of Table 3-1 takes a request of a PRESENT crane. -/
def runLinkRequest (c : Crane) (f : LinkFrame) (s : State) : State × Answer :=
  match f with
  | .status _ | .rejoin _ => (s, answer .badState)
  | .enter x => enterZone c x s
  | .release x => releaseZone c x s
  | .proposeLift f => propose (.crane c) c.val f s
  | .confirmLift id => confirm (.crane c) id s
  | .amendLift id f => amend (.crane c) id f s
  | .cancelLift id => cancel (.crane c) id s
  | .startLift id => start (.crane c) id s
  | .finishLift id => finish (.crane c) id s
  | .landLift id => land (.crane c) id s
  | .resumeLift id => resume (.crane c) id s
  | .queryLift id => queryRecord (.crane c) id s
  | .listLifts sel flt n => listRecords (.crane c) sel flt n s
  | .lockLift id => setLock true (.crane c) id s
  | .unlockLift id => setLock false (.crane c) id s
  | .suspendLift id => suspend (.crane c) id s

/-- An ANSWER frame is queued on a crane's link. -/
def State.answerLink (s : State) (c : Crane) (f : LinkFrame) (a : Answer) : State :=
  s.queueAnswer c (.answer f.kind a)

/-- A good frame is taken and handled by the plan and the crane's presence (R35). -/
def State.takeFrame (s : State) (c : Crane) (f : LinkFrame) : State :=
  if s.present c = false then s.answerLink c f (answer .notPermitted)
  else
    match (s.craneRec c).presence with
    | .present =>
      match f with
      | .status r => s.acceptStatus c r
      | _ =>
        let p := runLinkRequest c f s
        p.1.answerLink c f p.2
    | .offline | .lost =>
      match f with
      | .status _ => s.acknowledge c .rejoinRequired
      | .rejoin r => s.acceptRejoin c r
      | _ => s.answerLink c f (answer .rejoinRequired)

/-! ### Receiving (R31 to R34) -/

/-- Whether a frame may be taken now: the transmit queue holds fewer than 6 answers (R34). -/
def State.mayTake (s : State) (c : Crane) : Bool := decide (answersIn (s.link c).queue < Config.maxQueue)

/-- A frame ends as bad: the channel hunts, and FRAME_ERROR is raised for a present crane (R31, R33). -/
def State.badFrame (s : State) (c : Crane) : State :=
  let t := s.setLink c { s.link c with rx := .hunting }
  if t.present c then t.raiseFor .frameError c else t

/-- A complete frame has passed the checks of R32: it is discarded as bad when the receive buffer holds a frame; else
it withdraws FRAME_ERROR (R33), and is taken at once or waits in the buffer (R34). -/
def State.arrive (s : State) (c : Crane) (f : LinkFrame) : State :=
  match (s.link c).buffer with
  | some _ => s.badFrame c
  | none =>
    let t := s.withdraw .frameError c
    if t.mayTake c then t.takeFrame c f else t.setLink c { t.link c with buffer := some f }

/-- The transmitter has sent its frame: it takes the next, and a frame that waits in the receive buffer is taken when a
frame has left the queue (R34, R46). -/
def State.frameSent (s : State) (c : Crane) : State :=
  let ch := s.link c
  match ch.sending with
  | none => s
  | some _ =>
    let t := s.setLink c { ch with sending := none }.pump
    match ch.buffer with
    | some f => if t.mayTake c then (t.setLink c { t.link c with buffer := none }).takeFrame c f else t
    | none => t

/-- A byte arrives on a link (R31, R32). -/
def State.receiveByte (s : State) (c : Crane) (b : Byte) (stopGood : Bool) : State :=
  let ch := s.link c
  match ch.rx with
  | .hunting => if stopGood && decide (b = 0xB4#8) then s.setLink c { ch with rx := .assembling [] s.now } else s
  | .assembling bytes _ =>
    if stopGood = false then s.badFrame c
    else
      let all := bytes ++ [b]
      match all with
      | _ :: len :: rest =>
        if 48 < len.toNat then s.badFrame c
        else if rest.length = len.toNat + 1 then
          match checkLink all with
          | some f => (s.setLink c { ch with rx := .hunting }).arrive c f
          | none => s.badFrame c
        else s.setLink c { ch with rx := .assembling all s.now }
      | _ => s.setLink c { ch with rx := .assembling all s.now }

/-- An assembly is cut off by 5 ms of quiet (R31). -/
def State.assemblyOverdue (s : State) (c : Crane) : Bool :=
  match (s.link c).rx with
  | .hunting => false
  | .assembling _ last => decide (last + Config.assemblyQuiet ≤ s.now)

end Sys2Proof.Machine
end

