-- ==== Sys2Proof/Machine/Run.lean ====
section
/-!
DEFINITION. How a command reaches the blocks: only while the part runs (R175; entry 17); a crane frame by its link (R31 to
R35), a supervisor request by the port, which gathers it, has it carried out and puts its answer into the slot (R172).
-/
namespace Sys2Proof.Machine

/-- What a command does while the part runs; while it is off or held in reset, nothing (R175). -/
def State.whileRunning (s : State) (f : State → State) : Host.Outcome State Fault Refusal :=
  .next (if s.running then f s else s)

/-- The request of command `c` is gathered and carried out, and its answer fills the response slot (R172). -/
def State.serve (s : State) (c : Instr) (run : State → State × Answer) : State :=
  let p := run (s.gather (requestBytes c))
  p.1.respond (requestKind c) p.2

/-- A supervisor request. -/
def State.supervised (s : State) (c : Instr) (run : State → State × Answer) : Host.Outcome State Fault Refusal :=
  s.whileRunning (fun t => t.serve c run)

/-- A crane frame that has been received and passed the checks of R32 (entry 7). -/
def State.fromCrane (s : State) (c : Crane) (f : LinkFrame) : Host.Outcome State Fault Refusal :=
  s.whileRunning (fun t => t.arrive c f)

/-- A lookup: it changes no state and answers from the records as they stand. -/
def looking (look : State → Answer) (s : State) : State × Answer := (s, look s)

end Sys2Proof.Machine
end

