-- ==== Sys2Proof/Machine/LiftCommands.lean ====
section
/-!
DEFINITION. The lift commands, from a crane on its link or from the supervisor on the port (R133).
-/
namespace Sys2Proof.Machine

/-- PROPOSE_LIFT (R140) -/
def execProposeLift (q : Requester) (crane : Nat) (f : LiftFields) (s : State) : Host.Outcome State Fault Refusal :=
  match q with
  | .crane c => s.fromCrane c (.proposeLift f)
  | .supervisor => s.supervised (.proposeLift .supervisor crane f) (propose .supervisor crane f)

/-- CONFIRM_LIFT (R141) -/
def execConfirmLift (q : Requester) (id : Nat) (s : State) : Host.Outcome State Fault Refusal :=
  match q with
  | .crane c => s.fromCrane c (.confirmLift id)
  | .supervisor => s.supervised (.confirmLift .supervisor id) (confirm .supervisor id)

/-- AMEND_LIFT (R143) -/
def execAmendLift (q : Requester) (id : Nat) (f : LiftFields) (s : State) : Host.Outcome State Fault Refusal :=
  match q with
  | .crane c => s.fromCrane c (.amendLift id f)
  | .supervisor => s.supervised (.amendLift .supervisor id f) (amend .supervisor id f)

/-- CANCEL_LIFT (R144) -/
def execCancelLift (q : Requester) (id : Nat) (s : State) : Host.Outcome State Fault Refusal :=
  match q with
  | .crane c => s.fromCrane c (.cancelLift id)
  | .supervisor => s.supervised (.cancelLift .supervisor id) (cancel .supervisor id)

/-- LOCK_LIFT (R145) -/
def execLockLift (q : Requester) (id : Nat) (s : State) : Host.Outcome State Fault Refusal :=
  match q with
  | .crane c => s.fromCrane c (.lockLift id)
  | .supervisor => s.supervised (.lockLift .supervisor id) (setLock true .supervisor id)

/-- UNLOCK_LIFT (R145) -/
def execUnlockLift (q : Requester) (id : Nat) (s : State) : Host.Outcome State Fault Refusal :=
  match q with
  | .crane c => s.fromCrane c (.unlockLift id)
  | .supervisor => s.supervised (.unlockLift .supervisor id) (setLock false .supervisor id)

/-- QUERY_LIFT (R148) -/
def execQueryLift (q : Requester) (id : Nat) (s : State) : Host.Outcome State Fault Refusal :=
  match q with
  | .crane c => s.fromCrane c (.queryLift id)
  | .supervisor => s.supervised (.queryLift .supervisor id) (queryRecord .supervisor id)

/-- LIST_LIFTS (R149) -/
def execListLifts (q : Requester) (selector filter fromId : Nat) (s : State) : Host.Outcome State Fault Refusal :=
  match q with
  | .crane c => s.fromCrane c (.listLifts selector filter fromId)
  | .supervisor =>
    s.supervised (.listLifts .supervisor selector filter fromId) (listRecords .supervisor selector filter fromId)

/-- START_LIFT (R152) -/
def execStartLift (q : Requester) (id : Nat) (s : State) : Host.Outcome State Fault Refusal :=
  match q with
  | .crane c => s.fromCrane c (.startLift id)
  | .supervisor => s.supervised (.startLift .supervisor id) (start .supervisor id)

/-- FINISH_LIFT (R160) -/
def execFinishLift (q : Requester) (id : Nat) (s : State) : Host.Outcome State Fault Refusal :=
  match q with
  | .crane c => s.fromCrane c (.finishLift id)
  | .supervisor => s.supervised (.finishLift .supervisor id) (finish .supervisor id)

/-- LAND_LIFT (R160) -/
def execLandLift (q : Requester) (id : Nat) (s : State) : Host.Outcome State Fault Refusal :=
  match q with
  | .crane c => s.fromCrane c (.landLift id)
  | .supervisor => s.supervised (.landLift .supervisor id) (land .supervisor id)

/-- SUSPEND_LIFT (R157) -/
def execSuspendLift (q : Requester) (id : Nat) (s : State) : Host.Outcome State Fault Refusal :=
  match q with
  | .crane c => s.fromCrane c (.suspendLift id)
  | .supervisor => s.supervised (.suspendLift .supervisor id) (suspend .supervisor id)

/-- RESUME_LIFT (R158) -/
def execResumeLift (q : Requester) (id : Nat) (s : State) : Host.Outcome State Fault Refusal :=
  match q with
  | .crane c => s.fromCrane c (.resumeLift id)
  | .supervisor => s.supervised (.resumeLift .supervisor id) (resume .supervisor id)

end Sys2Proof.Machine
end

