-- ==== Sys2Proof/Machine/LinkCommands.lean ====
section
/-!
DEFINITION. The commands of the crane links: bytes and frames as they arrive, the end of a transmission, and the crane's
own frames STATUS, REJOIN, ENTER and RELEASE.
-/
namespace Sys2Proof.Machine

/-- LINK_BYTE_RECEIVED (R31) -/
def execLinkByteReceived (c : Crane) (b : Byte) (stopGood : Bool) (s : State) : Host.Outcome State Fault Refusal :=
  s.whileRunning (fun t => t.receiveByte c b stopGood)

/-- LINK_BAD_FRAME (R33) -/
def execLinkBadFrame (c : Crane) (s : State) : Host.Outcome State Fault Refusal :=
  s.whileRunning (fun t => t.badFrame c)

/-- FRAME_TRANSMITTED (R46) -/
def execFrameTransmitted (c : Crane) (s : State) : Host.Outcome State Fault Refusal :=
  s.whileRunning (fun t => t.frameSent c)

/-- STATUS (R42) -/
def execStatus (c : Crane) (r : Report) (s : State) : Host.Outcome State Fault Refusal := s.fromCrane c (.status r)

/-- REJOIN (R45) -/
def execRejoin (c : Crane) (r : Report) (s : State) : Host.Outcome State Fault Refusal := s.fromCrane c (.rejoin r)

/-- ENTER (R57) -/
def execEnter (c : Crane) (n : Nat) (s : State) : Host.Outcome State Fault Refusal := s.fromCrane c (.enter n)

/-- RELEASE (R61) -/
def execRelease (c : Crane) (n : Nat) (s : State) : Host.Outcome State Fault Refusal := s.fromCrane c (.release n)

end Sys2Proof.Machine
end

