-- ==== Sys2Proof/Machine/PlanCommands.lean ====
section
/-!
DEFINITION. The plan edits, PLAN_COMMIT, PLAN_DISCARD and PLAN_READ (chapter 1).
-/
namespace Sys2Proof.Machine

/-! ### Edits of the staging plan (R3) -/

def State.setStaging (s : State) (p : Plan) : State := s.withPlan { s.plan with staging := p }

/-- An edit: outside SETUP BAD_STATE, while a store write is in progress BUSY, and BAD_VALUE where `change` finds a field
that names something that does not exist; else the staging plan is replaced and the edit answered (R3). -/
def State.edit (s : State) (change : Plan → Option (Plan × Answer)) : State × Answer :=
  if s.site ≠ .setup then (s, answer .badState)
  else if s.plan.write.isSome then (s, answer .busy)
  else
    match change s.plan.staging with
    | none => (s, answer .badValue)
    | some (p, a) => (s.setStaging p, a)

/-- PLAN_CRANE on a plan (R4). -/
def Plan.putCrane (crane : Nat) (f : CraneFields) (p : Plan) : Option (Plan × Answer) :=
  match craneOf crane, flagOf f.present, vaneOf f.vane, sectorOf f.park with
  | some c, some pr, some v, some pk =>
    some ({ p with cranes := tput p.cranes c ⟨pr, f.reach, f.margin, v, pk, f.lw, f.sw, f.mw, f.hw⟩ }, answer .ok)
  | _, _, _, _ => none

/-- PLAN_CHART on a plan (R5). -/
def Plan.putChart (crane : Nat) (points : List ChartPoint) (p : Plan) : Option (Plan × Answer) :=
  match craneOf crane with
  | some c =>
    if 2 ≤ points.length ∧ points.length ≤ 8 then some ({ p with charts := tput p.charts c points }, answer .ok)
    else none
  | none => none

/-- The pairs of a list of 1..16 items (R3, R6). -/
def pairsOf (readKind : Bool) (items : List PairItem) : Option (List Pair) :=
  if 1 ≤ items.length ∧ items.length ≤ 16 then allOf (pairOf readKind) items else none

/-- PLAN_CONFLICTS on a plan (R6). -/
def Plan.addPairs (items : List PairItem) (p : Plan) : Option (Plan × Answer) :=
  match pairsOf true items with
  | none => none
  | some ps =>
    let given := distinctPairs ps
    let new := given.filter (fun r => (findPair p.pairs r).isNone)
    let up := given.filter (isUpgrade p.pairs)
    if Config.maxPairs < p.pairs.length + new.length then
      some (p, ⟨.full, [f2 p.pairs.length, f1 new.length]⟩)
    else
      let all := (new ++ up).foldl (fun acc r => insertPair r acc) p.pairs
      some ({ p with pairs := all }, okWith [f1 new.length, f1 up.length, f2 all.length])

/-- PLAN_REMOVE_CONFLICTS on a plan (R7). -/
def Plan.removePairs (items : List PairItem) (p : Plan) : Option (Plan × Answer) :=
  match pairsOf false items with
  | none => none
  | some ps =>
    let left := p.pairs.filter (fun r => !ps.any (Pair.same r))
    some ({ p with pairs := left }, okWith [f1 (p.pairs.length - left.length), f2 left.length])

/-- PLAN_CLEAR_CONFLICTS on a plan (R7). -/
def Plan.clearPairs (p : Plan) : Option (Plan × Answer) := some ({ p with pairs := [] }, okWith [f2 0])

/-- PLAN_CELLS on a plan (R8). -/
def Plan.putCells (crane sectors cls schedule : Nat) (p : Plan) : Option (Plan × Answer) :=
  match craneOf crane, classOf cls, scheduleRefOf schedule with
  | some c, some k, some r =>
    let named := sectorsOf sectors
    if named.isEmpty then none
    else
      some ({ p with cells := tput p.cells c (named.foldl (fun t x => tput t x ⟨k, r⟩) (tget p.cells c)) },
        answer .ok)
  | _, _, _ => none

/-- PLAN_SCHEDULE DEFINE on a plan (R9). -/
def Plan.defineSchedule (index days start stop : Nat) (p : Plan) : Option (Plan × Answer) :=
  match scheduleOf index with
  | some k => some ({ p with schedules := tput p.schedules k (some ⟨daysOf days, start, stop⟩) }, answer .ok)
  | none => none

/-- PLAN_SCHEDULE REMOVE on a plan (R9); an unknown action is refused (entry 20). -/
def Plan.removeSchedule (index action : Nat) (p : Plan) : Option (Plan × Answer) :=
  match scheduleOf index with
  | some k => if action = 1 then some ({ p with schedules := tput p.schedules k none }, answer .ok) else none
  | none => none

/-- PLAN_SITE on a plan (R11). -/
def Plan.putSite (f : SiteFields) (p : Plan) : Option (Plan × Answer) :=
  match disciplineOf f.discipline, cadenceOf f.cadence with
  | some d, some k =>
    some ({ p with site := ⟨f.dead, f.wait, f.tolerance, f.early, f.grace, f.securing, d, k⟩ }, answer .ok)
  | _, _ => none

/-- One item of PLAN_ALERT_MODES: the place of a configurable kind, and a mode (R12). -/
def modeItem (i : Nat × Nat) : Option (Fin 13 × AlertMode) :=
  match (alertOf i.1).bind AlertKind.slot, modeOf i.2 with
  | some k, some m => some (k, m)
  | _, _ => none

/-- PLAN_ALERT_MODES on a plan (R12). -/
def Plan.putModes (items : List (Nat × Nat)) (p : Plan) : Option (Plan × Answer) :=
  if 1 ≤ items.length ∧ items.length ≤ 13 then
    match allOf modeItem items with
    | some ms => some ({ p with modes := ms.foldl (fun t m => tput t m.1 m.2) p.modes }, answer .ok)
    | none => none
  else none

/-- PLAN_CRANE (R4) -/
def execPlanCrane (crane : Nat) (f : CraneFields) (s : State) : Host.Outcome State Fault Refusal :=
  s.supervised (.planCrane crane f) (fun t => t.edit (Plan.putCrane crane f))

/-- PLAN_CHART (R5) -/
def execPlanChart (crane : Nat) (points : List ChartPoint) (s : State) : Host.Outcome State Fault Refusal :=
  s.supervised (.planChart crane points) (fun t => t.edit (Plan.putChart crane points))

/-- PLAN_CONFLICTS (R6) -/
def execPlanConflicts (items : List PairItem) (s : State) : Host.Outcome State Fault Refusal :=
  s.supervised (.planConflicts items) (fun t => t.edit (Plan.addPairs items))

/-- PLAN_REMOVE_CONFLICTS (R7) -/
def execPlanRemoveConflicts (items : List PairItem) (s : State) : Host.Outcome State Fault Refusal :=
  s.supervised (.planRemoveConflicts items) (fun t => t.edit (Plan.removePairs items))

/-- PLAN_CLEAR_CONFLICTS (R7) -/
def execPlanClearConflicts (s : State) : Host.Outcome State Fault Refusal :=
  s.supervised .planClearConflicts (fun t => t.edit Plan.clearPairs)

/-- PLAN_CELLS (R8) -/
def execPlanCells (crane sectors cls schedule : Nat) (s : State) : Host.Outcome State Fault Refusal :=
  s.supervised (.planCells crane sectors cls schedule) (fun t => t.edit (Plan.putCells crane sectors cls schedule))

/-- PLAN_SCHEDULE_DEFINE (R9) -/
def execPlanScheduleDefine (index days start stop : Nat) (s : State) : Host.Outcome State Fault Refusal :=
  s.supervised (.planScheduleDefine index days start stop)
    (fun t => t.edit (Plan.defineSchedule index days start stop))

/-- PLAN_SCHEDULE_REMOVE (R9): the weekday set, start and end are passed over. -/
def execPlanScheduleRemove (index : Nat) (action : RemovalFields) (s : State) : Host.Outcome State Fault Refusal :=
  s.supervised (.planScheduleRemove index action) (fun t => t.edit (Plan.removeSchedule index action.action))

/-- PLAN_SITE (R11) -/
def execPlanSite (f : SiteFields) (s : State) : Host.Outcome State Fault Refusal :=
  s.supervised (.planSite f) (fun t => t.edit (Plan.putSite f))

/-- PLAN_ALERT_MODES (R12) -/
def execPlanAlertModes (items : List (Nat × Nat)) (s : State) : Host.Outcome State Fault Refusal :=
  s.supervised (.planAlertModes items) (fun t => t.edit (Plan.putModes items))

/-! ### PLAN_COMMIT (R15, R16, R48) -/

/-- The refusal of a commit, if any, in the order of R15. -/
def State.commitRefusal (s : State) (protect : Bool) : Option Answer :=
  if s.site ≠ .setup then some (answer .badState)
  else if protect then some (answer .protected_)
  else if s.plan.write.isSome then some (answer .busy)
  else if s.bookings.isEmpty = false then some (answer .liftsOpen)
  else (validate s.plan.staging).map (fun v => ⟨.invalid, [f1 v.code, fOpt 1 v.crane, fOpt 1 v.sector]⟩)

/-- The edition after a commit (R16). -/
def nextEdition (n : Nat) : Nat := if n = 65535 then 1 else n + 1

/-- Steps 1 to 3 of R16. -/
def State.adoptPlan (s : State) : State :=
  s.withPlan
    { s.plan with
      committed := s.plan.staging
      edition := nextEdition s.plan.edition
      stamp := if s.clock.isSet then s.clock.site else 0 }

/-- A crane leaves the set of present cranes (R48, R82, R88, R95, R113). Its report contents become absent, as R48 says and R36
does not: the model's choice (entry 34). -/
def State.craneLeaves (s : State) (c : Crane) : State :=
  let t := s.setCrane c CraneRec.initial
  let t := ((t.withdraw .craneLost c).withdraw .reportEarly c).withdraw .frameError c
  let t := (t.setOccupied c none).setStops c []
  let t := t.setWind c WindRec.initial
  let t := ((t.withdraw .windCaution c).withdraw .windHold c).withdraw .windUnknown c
  t.setSvc c ServiceRec.initial

/-- A crane joins the set of present cranes: its records hold their power-on values, and it takes the SITE_STOP reason
while the line is asserted (R48, R88, R89). -/
def State.craneJoins (s : State) (c : Crane) : State :=
  let t := (s.setCrane c CraneRec.initial).setWind c WindRec.initial
  let t := (t.setSvc c ServiceRec.initial).setStops c []
  if t.pins.siteStop then t.addStop c .siteStop else t

/-- R48 on one crane; `old` is the plan replaced. -/
def State.followPresence (old : Plan) (s : State) (c : Crane) : State :=
  match (old.entry c).present, s.present c with
  | true, false => s.craneLeaves c
  | false, true => s.craneJoins c
  | true, true => s
  | false, false => s

/-- The committed modes are written into the records of the configurable kinds (chapter 11, after R168). -/
def State.writeModes (s : State) : State :=
  AlertKind.all.foldl
    (fun t k =>
      match k.slot with
      | some j => t.setAlert k { t.alert k with mode := tget t.plan.committed.modes j }
      | none => t)
    s

/-- Each kind in STOP mode hands its reason for every crane in its present set (R88; chapter 11). -/
def State.handModeStops (s : State) : State :=
  AlertKind.all.foldl (fun t k => (t.alert k).cranes.foldl (fun u c => u.stopAction k (some c)) t) s

/-- Step 4 of R16. -/
def State.applyModes (s : State) : State := s.writeModes.evaluateLines.handModeStops

/-- Step 5 of R16: the write begins over the image (R17, R18). -/
def State.beginWrite (s : State) : State :=
  s.withPlan { s.plan with write := some (s.now + Config.storeWriteTime), image := none }

/-- Steps 1 to 5 of R16, with the present set brought up to date after the copy (entry 24). -/
def State.commit (s : State) : State :=
  (allCranes.foldl (State.followPresence s.plan.committed) s.adoptPlan).applyModes.beginWrite

/-- PLAN_COMMIT on the plan store (R15, R16). -/
def commitPlan (protect : Bool) (s : State) : State × Answer :=
  let t := s.withPins { s.pins with protect := protect }
  match t.commitRefusal protect with
  | some a => (t, a)
  | none => (t.commit, okWith [f2 t.commit.plan.edition, f4 t.commit.plan.stamp])

/-- PLAN_COMMIT (R16), with PROTECT as sampled when it is taken (R15). -/
def execPlanCommit (protect : Bool) (s : State) : Host.Outcome State Fault Refusal :=
  s.supervised (.planCommit protect) (commitPlan protect)

/-! ### PLAN_DISCARD (R19) and PLAN_READ (R20) -/

def discardPlan (s : State) : State × Answer :=
  if s.site ≠ .setup then (s, answer .badState)
  else if s.plan.write.isSome then (s, answer .busy)
  else (s.setStaging s.plan.committed, okWith [f2 s.plan.edition])

/-- PLAN_DISCARD (R19) -/
def execPlanDiscard (s : State) : Host.Outcome State Fault Refusal := s.supervised .planDiscard discardPlan

def chartFields (ps : List ChartPoint) : List Field :=
  f1 ps.length :: ps.flatMap (fun p => [f2 p.radius, f2 p.load])

def pairFields (p : Pair) : List Field := [fCell p.lo, fCell p.hi, f1 p.kind.code]

def entryFields (e : CraneEntry) : List Field :=
  [fFlag e.present, f2 e.reach, f2 e.margin, f1 e.vane.code, fSector e.park, f2 e.lw, f2 e.sw, f2 e.mw, f2 e.hw]

/-- The class and the schedule reference of a cell (R20), 0 for no schedule as in Table 12-12. The one-byte width of the reference is the
model's choice (entry 8). -/
def ruleFields (r : CellRule) : List Field :=
  [f1 r.cls.code, f1 (match r.schedule with
    | some k => k.val + 1
    | none => 0)]

/-- A schedule: defined or not, and its weekday set, start and end, absent when it is undefined. The flag byte, 1 for defined, is
the model's choice (entry 8). -/
def scheduleFields (k : Option Schedule) : List Field :=
  [fFlag k.isSome, fOpt 1 (k.map (fun d => maskOf (d.days.map Fin.val))), fOpt 2 (k.map Schedule.start),
    fOpt 2 (k.map Schedule.stop)]

/-- The eight parameters of Table 1-4 (R20). The one-byte widths of the six numbers, as in Table 12-12, are the model's choice (entry 8). -/
def siteFields (p : SiteParams) : List Field :=
  [f1 p.dead, f1 p.wait, f1 p.tolerance, f1 p.early, f1 p.grace, f1 p.securing, f1 p.discipline.code,
    f1 p.cadence.code]

/-- The pairs from a position on, at most 16, and the position of the next or "end" (R20). The one-byte count in front of the pairs
is the model's choice (entry 8). -/
def pairsFrom (ps : List Pair) (n : Nat) : List Field :=
  let got := (ps.drop n).take 16
  f1 got.length :: got.flatMap pairFields ++ [fOpt 2 (if n + 16 < ps.length then some (n + 16) else none)]

/-- The section of a PLAN_READ; `none` for an unknown section or an item outside its range (R20). The modes in the order of Table 1-5
are the model's choice (entry 31). -/
def readSection (st : PlanStore) (p : Plan) (section_ item : Nat) : Option (List Field) :=
  match section_ with
  | 0 =>
    some [f2 st.edition, f4 st.stamp, f1 st.condition.code, fCranes p.presentCranes, f2 p.pairs.length]
  | 1 => (craneOf item).map (fun c => entryFields (p.entry c))
  | 2 => (craneOf item).map (fun c => chartFields (tget p.charts c))
  | 3 => if item < Config.maxPairs then some (pairsFrom p.pairs item) else none
  | 4 => (craneOf item).map (fun c => allSectors.flatMap (fun x => ruleFields (tget (tget p.cells c) x)))
  | 5 => (scheduleOf item).map (fun k => scheduleFields (tget p.schedules k))
  | 6 => some (siteFields p.site)
  | 7 => some (p.modes.toList.map (fun m => f1 m.code))
  | _ => none

/-- The plan a selector names (Table 12-2). -/
def PlanStore.selected (st : PlanStore) : Nat → Option Plan
  | 0 => some st.staging
  | 1 => some st.committed
  | _ => none

def planReading (selector section_ item : Nat) (s : State) : Answer :=
  if s.plan.write.isSome then answer .busy
  else
    match (s.plan.selected selector).bind (fun p => readSection s.plan p section_ item) with
    | some fs => okWith fs
    | none => answer .badValue

/-- PLAN_READ (R20) -/
def execPlanRead (selector section_ item : Nat) (s : State) : Host.Outcome State Fault Refusal :=
  s.supervised (.planRead selector section_ item) (looking (planReading selector section_ item))

end Sys2Proof.Machine
end

