-- ==== Sys2Proof/Machine/PortCommands.lean ====
section
/-!
DEFINITION. The supervisor port's own commands (R172 to R174) and the site clock's (R24, R26).
-/
namespace Sys2Proof.Machine

/-! ### Bad frames and FETCH -/

/-- Whether the bytes of a transaction are a bad frame: not empty, no FETCH, no good request (R172). -/
def isBadFrame (bytes : List Byte) : Bool :=
  decide (transaction bytes = some (.supervisorBadFrame bytes))

/-- A bad frame is answered by its kind byte and BAD_VALUE (R172). -/
def State.answerBadFrame (s : State) (bytes : List Byte) : State :=
  (s.gather bytes).respond (bytes.headD 0#8).toNat (answer .badValue)

/-- SUPERVISOR_BAD_FRAME (R172); bytes that are no bad frame have no effect here (entry 23). -/
def execSupervisorBadFrame (bytes : List Byte) (s : State) : Host.Outcome State Fault Refusal :=
  s.whileRunning (fun t => if isBadFrame bytes then t.answerBadFrame bytes else t)

/-- The bytes of the oldest unread frame. -/
def Port.oldest (p : Port) : List Byte := p.slot.headD []

/-- The frames left after a FETCH of `n` bytes: the oldest is read once its last byte has been clocked (R173). -/
def Port.unread (p : Port) (n : Nat) : List (List Byte) := if p.oldest.length + 2 ≤ n then p.slot.drop 1 else p.slot

/-- What MISO carries in a FETCH of `n` bytes (R173). -/
def Port.clocked (p : Port) (n : Nat) : List Byte :=
  ([0#8, 0#8] ++ p.oldest ++ List.replicate n 0#8).take n

/-- A FETCH of `n` bytes (R173). -/
def State.fetchBytes (s : State) (n : Nat) : State :=
  s.withPort
    ({ s.port with slot := s.port.unread n, rdy := !(s.port.unread n).isEmpty }.endTransaction (s.port.clocked n))

/-- FETCH (R173); a transaction of no bytes changes nothing (R172). -/
def execFetch (count : Nat) (s : State) : Host.Outcome State Fault Refusal :=
  s.whileRunning (fun t => if count = 0 then t else t.fetchBytes count)

/-! ### IDENTIFY (R174) -/

/-- Table 12-10 -/
def identity (s : State) : Answer :=
  okWith
    [f2 0x2B61, f2 2280, f1 1, f1 8, f1 16, f2 Config.maxPairs, f1 8, f1 8, f1 Config.maxHeld, f1 Config.maxWaits,
      f1 Config.maxWaitsPerCrane, f1 Config.maxBookings, f1 Config.maxBookingsPerCrane, f1 8, f1 240,
      f2 Config.startHorizon, f1 (Config.confirmTime / 1000), f2 Config.earliestReport, f2 Config.latestReport,
      f2 Config.latestReportClosed, f1 Config.noReadingsBeforeUnknown, f1 Config.maxQueue, f2 Config.storeWriteTime,
      f1 Config.clockTrim, f2 s.plan.edition, f4 s.plan.stamp, fFlag s.clock.isSet]

/-- IDENTIFY (R174) -/
def execIdentify (s : State) : Host.Outcome State Fault Refusal := s.supervised .identify (looking identity)

/-! ### The site clock -/

/-- The clock-set record, or absent (R24). -/
def recordFields (k : Option ClockRecord) : List Field :=
  [fOpt 4 (k.map ClockRecord.oldTime), fOpt 4 (k.map ClockRecord.newTime),
    fOpt 1 (k.map (fun r => flag r.wasSet)), fOpt 6 (k.map ClockRecord.stamp)]

/-- What READ_CLOCK answers (R24). -/
def clockReading (s : State) : Answer :=
  okWith
    ([f4 s.clock.site, f4 s.minute, f2 (minuteOfDay s.minute), f1 (weekday s.minute), fFlag s.clock.isSet] ++
      recordFields s.clock.record ++ [f6 s.now])

/-- READ_CLOCK (R24) -/
def execReadClock (s : State) : Host.Outcome State Fault Refusal := s.supervised .readClock (looking clockReading)

/-- The difference of two site times, without sign. -/
def timeApart (a b : Nat) : Nat := (a - b) + (b - a)

/-- Whether a new site time is refused: in OPEN and STORM when it differs by more than 60 s (R26). -/
def State.clockJumps (s : State) (t : Nat) : Bool :=
  match s.site with
  | .opened | .storm => decide (Config.clockTrim < timeApart t s.clock.site)
  | .setup | .closed => false

/-- SET_TIME is accepted (R26, steps 1 to 4). -/
def State.acceptTime (s : State) (t : Nat) : State :=
  (s.withClock
    { s.clock with
      record := some ⟨s.clock.site, t, s.clock.isSet, s.now⟩, isSet := true, boundary := s.now + 1000 }).moveTime t

/-- SET_TIME on the clock (R26). -/
def setClock (t : Nat) (s : State) : State × Answer :=
  if s.clockJumps t then (s, ⟨.clockJump, [f4 s.clock.site]⟩)
  else (s.acceptTime t, okWith [f4 s.clock.site, f4 t])

/-- SET_TIME (R26) -/
def execSetTime (t : Nat) (s : State) : Host.Outcome State Fault Refusal := s.supervised (.setTime t) (setClock t)

end Sys2Proof.Machine
end

