-- ==== Sys2Proof/Machine/Power.lean ====
section
/-!
DEFINITION. Power-on, RESET#, the loss of power and SITE_STOP# (R18, R21, R89, R175).
-/
namespace Sys2Proof.Machine

/-- A store write that is cut off leaves an image that fails its check (R18). -/
def State.cutWrite (s : State) : State :=
  match s.plan.write with
  | some _ => s.withPlan { s.plan with write := none, image := none }
  | none => s

/-- The plan store after the power-on read (R21). -/
def PlanStore.read : Option PlanImage → PlanStore
  | some k => ⟨k.plan, k.plan, k.edition, k.stamp, .good, none, some k⟩
  | none => PlanStore.empty

/-- SITE_STOP# is found or becomes asserted: the condition is raised, and the reason added to every present crane (R89). -/
def State.raiseSiteStop (s : State) : State :=
  (s.raise .siteStop none).presentCranes.foldl (fun t c => t.addStop c .siteStop) (s.raise .siteStop none)

/-- Every record at its power-on value, with the plan store as read (R21, R175). The pins keep their levels. -/
def State.startUp (s : State) : State :=
  let store := PlanStore.read s.cutWrite.plan.image
  { State.reset with
    plan := store
    alerts := alertTable store.committed.modes
    lines := ⟨false, false, none⟩
    pins := { s.pins with power := .running }
    draws := s.draws
    pending := s.pending }

/-- The raisings made as the part starts: PLAN_FAULT when no good image was found (R21), then SITE_STOP when the line is
found asserted (R89, R163). -/
def State.startRaisings (s : State) : State :=
  let t :=
    match s.plan.condition with
    | .good => s
    | .fault => s.raise .planFault none
  if t.pins.siteStop then t.raiseSiteStop else t

/-- The part stops: its lines are released with RDY, MISO goes to high impedance, its transmitters stop at once (R170, R175),
and a store write is cut off. -/
def State.halt (s : State) (p : Power) : State :=
  let t := s.cutWrite
  (((t.withPins { t.pins with power := p }).withLines ⟨false, false, none⟩).withPort
    { t.port with rdy := false, miso := .highImpedance }).withLinks (t.links.map (fun ch => { ch with sending := none }))

/-- POWER_ON (R21). The power-on read takes no time of its own: the ports are open in the state after, at monotonic time 0, which is
the model's choice (entry 35). -/
def execPowerOn (s : State) : Host.Outcome State Fault Refusal := .next s.startUp.startRaisings

/-- RESET_ASSERTED (R175, R18); a part without supply stays off (entry 17). -/
def execResetAsserted (s : State) : Host.Outcome State Fault Refusal :=
  .next
    (match s.pins.power with
    | .off => s
    | .inReset | .running => s.halt .inReset)

/-- POWER_LOSS (R18) -/
def execPowerLoss (s : State) : Host.Outcome State Fault Refusal := .next (s.halt .off)

/-- SITE_STOP_ASSERTED (R89). A line that is asserted already does not become asserted (entry 18). -/
def execSiteStopAsserted (s : State) : Host.Outcome State Fault Refusal :=
  .next
    (if s.pins.siteStop then s
    else
      let t := s.withPins { s.pins with siteStop := true }
      if t.running then t.raiseSiteStop else t)

/-- SITE_STOP_DEASSERTED (R89): the condition is withdrawn, and the reasons stay (entry 18). -/
def execSiteStopDeasserted (s : State) : Host.Outcome State Fault Refusal :=
  .next
    (if s.pins.siteStop then
      let t := s.withPins { s.pins with siteStop := false }
      if t.running then t.withdrawSite .siteStop else t
    else s)

end Sys2Proof.Machine
end

