-- ==== Sys2Proof/Machine/CraneCommands.lean ====
section
/-!
DEFINITION. The supervisor's commands on one crane and on the alerts: FORCE_RELEASE (R65), STOP_CRANE (R90), CLEAR_STOP
(R93), CLEAR_ALERTS (R167).
-/
namespace Sys2Proof.Machine

/-! ### FORCE_RELEASE (R65) -/

/-- Whether any named cell of a crane is VANE. -/
def State.namesVane (s : State) (c : Crane) (named : List Sector) : Bool :=
  named.any (fun x => decide ((s.cell ⟨c, x⟩).state = .vane))

/-- The cells of a crane that begin clearing: each named HELD, SEIZED or PARKED one, and every VANE one when a VANE one is
named. -/
def State.forcedCells (s : State) (c : Crane) (named : List Sector) : List Sector :=
  allSectors.filter (fun x =>
    match (s.cell ⟨c, x⟩).state with
    | .held | .seized | .parked => decide (x ∈ named)
    | .vane => s.namesVane c named
    | .free | .clearing => false)

def State.forceReqs (s : State) (c : Crane) (named : List Sector) : List CellReq :=
  (s.forcedCells c named).map (fun x => s.beginClearing ⟨c, x⟩)

/-- A LOST crane that remembers a vane release returns to VANE_WAIT when its VANE cells begin clearing. -/
def State.forceService (s : State) (c : Crane) (named : List Sector) : State :=
  let r := s.svc c
  if s.namesVane c named && r.lost && decide (r.state = .outOfService) && decide (r.order = .vaneRelease) then
    s.setSvc c { r with state := .vaneWait, order := .secure, timer := some s.securingEnd }
  else s

def State.forceClear (s : State) (c : Crane) (named : List Sector) : State :=
  (s.forceService c named).convert (s.forceReqs c named)

/-- FORCE_RELEASE on the cell table (R65). The 16 cell states of the answer come S0 first, which is the model's choice: R65 orders
them in no way (entry 31). -/
def forceCells (crane sectors : Nat) (s : State) : State × Answer :=
  match craneOf crane with
  | none => (s, answer .badValue)
  | some c =>
    let named := sectorsOf sectors
    if named.isEmpty then (s, answer .badValue)
    else if s.isPresent c then (s, answer .notPermitted)
    else
      let t := s.forceClear c named
      (t, okWith (f1 (s.forcedCells c named).length :: allSectors.map (fun x => f1 (t.cell ⟨c, x⟩).state.code)))

/-- FORCE_RELEASE (R65) -/
def execForceRelease (crane sectors : Nat) (s : State) : Host.Outcome State Fault Refusal :=
  s.supervised (.forceRelease crane sectors) (forceCells crane sectors)

/-! ### STOP_CRANE (R90) -/

def stopTheCrane (crane : Nat) (s : State) : State × Answer :=
  match craneOf crane with
  | none => (s, answer .badValue)
  | some c =>
    if s.present c = false then (s, answer .notPermitted)
    else
      let t := s.addStop c .supervisor
      (t, okWith [fStops (t.stopSet c)])

/-- STOP_CRANE (R90) -/
def execStopCrane (crane : Nat) (s : State) : Host.Outcome State Fault Refusal :=
  s.supervised (.stopCrane crane) (stopTheCrane crane)

/-! ### CLEAR_STOP (R93) -/

/-- The end test of a stop reason of a crane. -/
def State.stopEnded (s : State) (c : Crane) (r : StopReason) : Bool :=
  match r with
  | .siteStop => !s.pins.siteStop && !(s.alert .siteStop).latched
  | .conflict => !s.inConflict c
  | .intrusion => (s.sectorsIn c .seized).isEmpty
  | .supervisor => true
  | .offPath => !s.hasAlert .offPath c
  | .nonconform => !s.hasAlert .nonconform c
  | .overrun => !s.hasAlert .overrun c
  | .restricted => !s.hasAlert .restricted c
  | .reportEarly => !s.hasAlert .reportEarly c

/-- The reasons a request names: a non-empty set of the nine (Table 12-12). -/
def reasonsOf (mask : Nat) : Option (List StopReason) :=
  if mask = 0 ∨ 512 ≤ mask then none else some (setOfMask StopReason.all mask)

/-- The stop set left when the named reasons that have ended are removed. -/
def State.stopsLeft (s : State) (c : Crane) (named : List StopReason) : List StopReason :=
  (s.stopSet c).filter (fun r => !(decide (r ∈ named) && s.stopEnded c r))

/-- The named reasons are removed; a set that this empties is handed on (R92). -/
def State.clearStops (s : State) (c : Crane) (named : List StopReason) : State :=
  let left := s.stopsLeft c named
  let t := s.setStops c left
  if !(s.stopSet c).isEmpty && left.isEmpty then t.removeReasonFrom c .stopOrder else t

def clearTheStops (crane reasons : Nat) (s : State) : State × Answer :=
  match craneOf crane, reasonsOf reasons with
  | some c, some named =>
    if s.present c = false then (s, answer .notPermitted)
    else (s.clearStops c named, okWith [fStops (s.stopsLeft c named)])
  | _, _ => (s, answer .badValue)

/-- CLEAR_STOP (R93) -/
def execClearStop (crane reasons : Nat) (s : State) : Host.Outcome State Fault Refusal :=
  s.supervised (.clearStop crane reasons) (clearTheStops crane reasons)

/-! ### CLEAR_ALERTS (R167) -/

/-- A record whose latch is cleared, when its condition is absent. -/
def AlertRec.clear (r : AlertRec) : AlertRec :=
  if r.isPresent then r else { r with latch := none, involved := [] }

def State.clearKind (s : State) (k : AlertKind) : State :=
  if (s.alert k).latched then s.setAlert k (s.alert k).clear else s

/-- The named kinds are taken, and the lines evaluated. -/
def State.clearKinds (s : State) (ks : List AlertKind) : State := (ks.foldl State.clearKind s).evaluateLines

/-- The kinds that are latched, in code order, which is the model's choice: R167 orders the list in no way (entry 31). -/
def State.latchedKinds (s : State) : List AlertKind := AlertKind.all.filter (fun k => (s.alert k).latched)

/-- A list of 1..16 alert kinds. -/
def kindsOf (kinds : List Nat) : Option (List AlertKind) :=
  if 1 ≤ kinds.length ∧ kinds.length ≤ 16 then allOf alertOf kinds else none

def clearTheAlerts (kinds : List Nat) (s : State) : State × Answer :=
  match kindsOf kinds with
  | none => (s, answer .badValue)
  | some ks =>
    let t := s.clearKinds ks
    (t, okWith (f1 t.latchedKinds.length :: t.latchedKinds.map (fun k => f1 k.code.val)))

/-- CLEAR_ALERTS (R167) -/
def execClearAlerts (kinds : List Nat) (s : State) : Host.Outcome State Fault Refusal :=
  s.supervised (.clearAlerts kinds) (clearTheAlerts kinds)

end Sys2Proof.Machine
end

