-- ==== Sys2Proof/Machine/Queries.lean ====
section
/-!
DEFINITION. The lookups of the supervisor (R49, R71, R81, R94, R111, R130, R168). Each answers its rule's list in its order,
encoded by Tables 12-1 and 12-2; where the list has an item that need not be there, every bit of it is set (entry 8).
-/
namespace Sys2Proof.Machine

/-- A lookup that carries a crane number. -/
def ofCrane (crane : Nat) (look : Crane → State → Answer) (s : State) : Answer :=
  match craneOf crane with
  | some c => look c s
  | none => answer .badValue

/-- The time remaining to an end, if any. -/
def State.fRemaining (s : State) (t : Option Nat) : Field := fOpt 4 (t.map s.remaining)

/-! ### QUERY_SITE (R130) -/

/-- A STRUCT pair that withholds the vane release of a crane. -/
def State.withholds (s : State) (c : Crane) (p : Pair) : Bool :=
  allSectors.any (fun x =>
    match p.other ⟨c, x⟩ with
    | some o => decide (o.crane ≠ c) && s.holdsVane (p.kind, o)
    | none => false)

/-- The first STRUCT pair, in pair order, that withholds the vane release of a crane. -/
def State.withholdingPair (s : State) (c : Crane) : Option Pair := s.plan.committed.pairs.find? (s.withholds c)

/-- The four readiness results of a SECURING crane. -/
def State.readinessFields (s : State) (c : Crane) : List Field :=
  let k := if s.inState c .securing then (s.svc c).readiness else none
  [fOpt 1 (k.map (fun r => flag r.loadLanded)), fOpt 1 (k.map (fun r => flag r.securedAtRest)),
    fOpt 1 (k.map (fun r => flag r.noLift)), fOpt 1 (k.map (fun r => flag r.inPark))]

/-- Whether the release of a VANE_WAIT crane is permitted, and the pair that withholds it. The pair as its two cells, lower first,
without a kind byte, is the model's choice (entry 8). -/
def State.vaneFields (s : State) (c : Crane) : List Field :=
  if s.inState c .vaneWait then
    let p := if s.vanePermitted c then none else s.withholdingPair c
    [fFlag (s.vanePermitted c), fOpt 1 (p.map (fun p => p.lo.number)), fOpt 1 (p.map (fun p => p.hi.number))]
  else [fOpt 1 none, fOpt 1 none, fOpt 1 none]

/-- One crane of QUERY_SITE. -/
def State.siteCraneFields (s : State) (c : Crane) : List Field :=
  let r := s.svc c
  [fFlag (s.present c), f1 (s.entry c).vane.code, f1 r.code, fOpt 1 (if r.lost then some r.state.code else none),
    f1 r.order.code, f1 (s.standingOrder c).code, fFlag r.withheld, s.fRemaining r.timer] ++
    s.readinessFields c ++ s.vaneFields c

/-- What QUERY_SITE answers (R130). -/
def siteReading (s : State) : Answer :=
  okWith ([f1 s.site.code, fFlag (s.alert .storm).flag] ++ allCranes.flatMap s.siteCraneFields)

/-- QUERY_SITE (R130) -/
def execQuerySite (s : State) : Host.Outcome State Fault Refusal := s.supervised .querySite (looking siteReading)

/-! ### QUERY_CRANE (R49) -/

/-- A load or a wind as stored: absent, "no reading", or a figure. -/
def readingField (k : Option Contents) (read : Contents → Option Nat) : Field := fOpt 2 (k.bind read)

/-- What QUERY_CRANE answers (R49). The age of the last report in four bytes is the model's choice (entry 8). -/
def craneReading (c : Crane) (s : State) : Answer :=
  let r := s.craneRec c
  let q := (s.link c).queue
  okWith
    [fFlag (s.present c), f1 r.presence.code, fOpt 4 (r.lastReport.map (fun t => s.now - t)), s.fRemaining r.bound,
      fOpt 2 (r.contents.map Contents.angle), fOpt 2 (r.contents.map Contents.radius),
      readingField r.contents Contents.load, readingField r.contents Contents.wind,
      fOpt 1 (r.contents.map (fun k => flag k.secured)), fOpt 1 (r.contents.map (fun k => flag k.vaneEngaged)),
      fOpt 1 (r.contents.map (fun k => flag k.atRest)), f1 r.noReading, f1 q.length, f1 (answersIn q)]

/-- QUERY_CRANE (R49) -/
def execQueryCrane (crane : Nat) (s : State) : Host.Outcome State Fault Refusal :=
  s.supervised (.queryCrane crane) (looking (ofCrane crane craneReading))

/-! ### QUERY_CELLS (R71) -/

/-- One cell of QUERY_CELLS. -/
def State.cellFields (s : State) (q : CellId) : List Field :=
  let k := s.cell q
  [f1 k.state.code, f4 k.since, fOpt 1 (k.origin.map Origin.code),
    s.fRemaining (if k.state = .clearing then k.clearEnd else none), f1 (s.restriction q).code, fFlag (s.blocked q),
    fFlag (s.reserved q)]

def cellsReading (c : Crane) (s : State) : Answer :=
  okWith
    (allSectors.flatMap (fun x => s.cellFields ⟨c, x⟩) ++
      [f1 (s.heldCount c), fSectors (tget s.restricted c), fFlag (s.hasAlert .offPath c),
        fFlag (s.hasAlert .restricted c)])

/-- QUERY_CELLS (R71) -/
def execQueryCells (crane : Nat) (s : State) : Host.Outcome State Fault Refusal :=
  s.supervised (.queryCells crane) (looking (ofCrane crane cellsReading))

/-! ### QUERY_WAITS (R81) -/

/-- One entry of QUERY_WAITS. -/
def State.waitFields (s : State) (w : Wait) : List Field :=
  let q : CellId := ⟨w.crane, w.sector⟩
  [fCrane w.crane, fSector w.sector, f6 w.arrival, f4 (s.remaining w.deadline), fFlag (!s.blocked q),
    fFlag (!s.reserved q), fFlag (s.underLimit w.crane), fFlag (s.unrestricted q)]

def waitsReading (s : State) : Answer := okWith (f1 s.waits.length :: s.waits.flatMap s.waitFields)

/-- QUERY_WAITS (R81) -/
def execQueryWaits (s : State) : Host.Outcome State Fault Refusal := s.supervised .queryWaits (looking waitsReading)

/-! ### QUERY_CONFORMANCE (R94) -/

/-- A list of register entries with their partner sets, its count first. -/
def registerFields (es : List (CellId × List Crane)) : List Field :=
  f1 es.length :: es.flatMap (fun e => [fCell e.1, fCranes e.2])

/-- The partner set the register holds for a seized cell; empty is "no conflict". -/
def State.partnersOf (s : State) (q : CellId) : List Crane :=
  match s.register.find? (fun e => decide (e.cell = q)) with
  | some e => e.partners
  | none => []

/-- What QUERY_CONFORMANCE answers (R94). The entries of other cranes come in the order of `register`, the newest first, which is
the model's choice (entry 31). -/
def conformanceReading (c : Crane) (s : State) : Answer :=
  okWith
    ([fOpt 2 ((tget s.occupied c).map (fun o => sectorMask (occupiedSectors (some o)))), fStops (s.stopSet c)] ++
      (s.stopSet c).map (fun r => fFlag (s.stopEnded c r)) ++
      registerFields ((s.sectorsIn c .seized).map (fun x => (⟨c, x⟩, s.partnersOf ⟨c, x⟩))) ++
      registerFields ((s.register.filter (fun e => decide (e.cell.crane ≠ c) && decide (c ∈ e.partners))).map
        (fun e => (e.cell, e.partners))) ++
      [fFlag (s.hasAlert .intrusion c), fFlag (s.hasAlert .conflict c), fFlag (s.hasAlert .nonconform c),
        fOpt 1 ((tget s.lastConf c).map Conformance.code)])

/-- QUERY_CONFORMANCE (R94) -/
def execQueryConformance (crane : Nat) (s : State) : Host.Outcome State Fault Refusal :=
  s.supervised (.queryConformance crane) (looking (ofCrane crane conformanceReading))

/-! ### QUERY_WIND (R111) -/

/-- A difference of two plan figures; a free value where it would be negative (entry 16). -/
def figure (a b : Nat) : Nat := if b ≤ a then a - b else Config.negativeFigure a b

/-- The class limit and the release threshold of an area class (R106). -/
def limitFields (e : CraneEntry) (a : AreaClass) : List Field :=
  [f2 (e.classLimit a), f2 (figure (e.classLimit a) e.hw)]

/-- The running booking with the verdict the record would give, or none. -/
def State.liftVerdict (s : State) (c : Crane) : List Field :=
  match s.runningLift c with
  | some b => [f2 b.id, f1 b.data.cls.code, f1 ((s.windRec c).verdict (s.entry c) b.data.cls).code]
  | none => [f2 0, fOpt 1 none, fOpt 1 none]

/-- What QUERY_WIND answers (R111). M in two bytes is the model's choice, as are the widths of A and of the count, which Table 12-1
does not give (entry 8). The limits of a crane absent from the plan are answered as its entry holds them, which is the
model's choice beside R95 (entry 29). -/
def windReading (c : Crane) (s : State) : Answer :=
  let r := s.windRec c
  let e := s.entry c
  okWith
    ([fFlag r.heard, fFlag r.unknown, f1 r.state.code, f1 r.window.length] ++ r.window.map f2 ++
      [f2 r.gust, f4 r.acc, f2 r.mean, f1 (s.craneRec c).noReading,
        fOpt 1 (r.dwell.map (fun d => d.step.code)), s.fRemaining (r.dwell.map Dwell.ends),
        f2 e.lw, f2 e.sw, f2 e.mw, f2 e.hw, f2 e.cw, f2 (figure e.sw e.hw), f2 (figure e.lw e.hw),
        f2 (figure e.cw e.hw)] ++
      limitFields e .a0 ++ limitFields e .a1 ++ limitFields e .a2 ++ limitFields e .a3 ++ s.liftVerdict c)

/-- QUERY_WIND (R111) -/
def execQueryWind (crane : Nat) (s : State) : Host.Outcome State Fault Refusal :=
  s.supervised (.queryWind crane) (looking (ofCrane crane windReading))

/-! ### QUERY_ALERTS (R168) -/

/-- One record of QUERY_ALERTS. -/
def State.alertFields (s : State) (k : AlertKind) : List Field :=
  let r := s.alert k
  [f1 k.code.val, f1 r.mode.code, if k.siteScoped then fFlag r.flag else fCranes r.cranes, fCranes r.involved,
    fFlag r.latched, fOpt 4 r.latch]

/-- What QUERY_ALERTS answers (R168). The records in code order, the order of Table 11-1, are the model's choice (entry 31),
as is the encoding of the states of ALERT# and SIREN: a flag byte each, 1 while the line is asserted, whatever its level (entry 8). -/
def alertsReading (s : State) : Answer :=
  okWith
    (AlertKind.all.flatMap s.alertFields ++
      [fFlag s.lines.alert, fFlag s.lines.siren, fFlag s.sirenDue, f1 s.params.cadence.code])

/-- QUERY_ALERTS (R168) -/
def execQueryAlerts (s : State) : Host.Outcome State Fault Refusal :=
  s.supervised .queryAlerts (looking alertsReading)

end Sys2Proof.Machine
end

