-- ==== Sys2Proof/Machine/SiteCommands.lean ====
section
/-!
DEFINITION. The site state commands (chapter 8): OPEN_SITE, CLOSE_SITE, RESUME_SITE and RETURN_TO_SETUP.
-/
namespace Sys2Proof.Machine

/-! ### Checks -/

/-- The first present crane, ascending, of which a check fails. -/
def State.firstFailing (s : State) (ok : Crane → Bool) : Option Crane := s.presentCranes.find? (fun c => !ok c)

/-- A refusal that names the first present crane failing a check, if one fails. -/
def State.requireAll (s : State) (ok : Crane → Bool) (code : Code) : Option Answer :=
  (s.firstFailing ok).map (fun c => ⟨code, [fCrane c]⟩)

/-- Whether a pair joins the occupied sets of two present cranes (check 7 of R115). -/
def State.occupiedPair (s : State) (p : Pair) : Bool :=
  decide (p.lo.crane ≠ p.hi.crane) && s.present p.lo.crane && s.present p.hi.crane &&
    s.occupies p.lo.crane p.lo.sector && s.occupies p.hi.crane p.hi.sector

/-- Check 7 of R115. -/
def State.occupiedConflict (s : State) : Option Answer :=
  (s.plan.committed.pairs.find? s.occupiedPair).map (fun p =>
    ⟨.conflict, [fCrane p.lo.crane, fCrane p.hi.crane, fCell p.lo, fCell p.hi]⟩)

/-- No present crane is LOST. -/
def State.noneLost (s : State) : Option Answer := s.requireAll (fun c => !(s.svc c).lost) .badState

/-- Every present crane's wind is ready (R110). -/
def State.windsReady (s : State) : Option Answer := s.requireAll s.windReady .wind

/-- The first failure among checks in order. -/
def firstRefusal (checks : List (Option Answer)) : Option Answer := checks.findSome? id

/-- The refusal, if the condition does not hold. -/
def orElseRefuse (ok : Bool) (a : Answer) : Option Answer := if ok then none else some a

/-- The checks of OPEN_SITE from SETUP (R115). -/
def State.openCheck (s : State) : Option Answer :=
  firstRefusal
    [orElseRefuse s.plan.write.isNone (answer .busy), orElseRefuse (decide (s.plan.edition ≠ 0)) (answer .badState),
      orElseRefuse s.clock.isSet (answer .clockUnset), s.requireAll (fun c => s.inState c .standby) .badState,
      s.windsReady, s.occupiedConflict]

/-- The checks of OPEN_SITE from CLOSED (R115). -/
def State.reopenCheck (s : State) : Option Answer :=
  firstRefusal [orElseRefuse s.clock.isSet (answer .clockUnset), s.noneLost, s.windsReady]

/-! ### Opening from SETUP (R116) -/

/-- The seed conversion: every occupied cell of every present crane becomes HELD with origin SEED (R69). -/
def State.seedReqs (s : State) : List CellReq :=
  s.presentCranes.flatMap (fun c =>
    (occupiedSectors (tget s.occupied c)).map (fun x => ⟨⟨c, x⟩, .held, .set .seed⟩))

/-- A crane goes into service at the opening. -/
def State.startService (s : State) (c : Crane) : State :=
  s.setSvc c { s.svc c with state := .inService, order := .work }

/-- Steps 1 to 4 of R116. -/
def State.openFromSetup (s : State) : State :=
  let t := s.withdrawSite .storm
  let t := t.convert t.seedReqs
  (t.presentCranes.foldl State.startService t).withSite .opened

/-! ### Returning to service (R126, R128) -/

/-- Step 2 of R126 on one crane: SECURING, or VANE_WAIT holding no VANE cell. -/
def State.returnCrane (s : State) (c : Crane) : State :=
  if s.inState c .securing || (s.inState c .vaneWait && (s.sectorsIn c .vane).isEmpty) then s.toService c else s

/-- Step 3 of R126 on one crane: OUT_OF_SERVICE, or VANE_WAIT holding VANE cells. -/
def State.convertCrane (s : State) (c : Crane) : State :=
  if s.inState c .outOfService || s.inState c .vaneWait then s.resumeCrane c else s

/-- Steps 2 and 3 of R126. -/
def State.bringBack (s : State) : State :=
  allCranes.foldl State.convertCrane (allCranes.foldl State.returnCrane s)

/-- Step 4 of R126: STORM is removed from every SUSPENDED booking, in ascending id. -/
def State.removeReasonAll (s : State) (r : SuspReason) : State :=
  s.bookings.foldl (fun t b => t.removeReason b r) s

/-- The cranes whose resume is withheld. -/
def State.withheldCranes (s : State) : List Crane := allCranes.filter s.isWithheld

/-- Steps 1 to 5 of R126. -/
def State.resumeFromStorm (s : State) : State :=
  (((s.withdrawSite .storm).bringBack).removeReasonAll .storm).withSite .opened

/-- Steps 1, 2, 3 and 5 of R126 as R128 takes them. -/
def State.reopen (s : State) : State := ((s.withdrawSite .storm).bringBack).withSite .opened

/-- An answer OK with the withheld cranes. -/
def State.answerWithheld (s : State) : Answer := okWith [fCranes s.withheldCranes]

/-- OPEN_SITE on the service controller (R115, R116, R128). -/
def openTheSite (s : State) : State × Answer :=
  match s.site with
  | .setup =>
    match s.openCheck with
    | some a => (s, a)
    | none => (s.openFromSetup, answer .ok)
  | .closed =>
    match s.reopenCheck with
    | some a => (s, a)
    | none => (s.reopen, s.reopen.answerWithheld)
  | .opened | .storm => (s, answer .badState)

/-- OPEN_SITE (R115) -/
def execOpenSite (s : State) : Host.Outcome State Fault Refusal := s.supervised .openSite openTheSite

/-! ### CLOSE_SITE (R120) -/

/-- Steps 1 to 3 of R120. -/
def State.close (s : State) : State :=
  let t := s.enterSecuringAll.withSite .closed
  t.denyWaits (fun w => !t.inState w.crane .securing) .service

def closeTheSite (s : State) : State × Answer :=
  match s.site with
  | .setup | .closed => (s, answer .badState)
  | .opened | .storm => if s.bookings.any Booking.running then (s, answer .liftsOpen) else (s.close, answer .ok)

/-- CLOSE_SITE (R120) -/
def execCloseSite (s : State) : Host.Outcome State Fault Refusal := s.supervised .closeSite closeTheSite

/-! ### RESUME_SITE (R126) -/

/-- The checks of RESUME_SITE in STORM. -/
def State.resumeCheck (s : State) : Option Answer := firstRefusal [s.noneLost, s.windsReady]

def resumeTheSite (s : State) : State × Answer :=
  match s.site with
  | .storm =>
    match s.resumeCheck with
    | some a => (s, a)
    | none => (s.resumeFromStorm, s.resumeFromStorm.answerWithheld)
  | .setup | .opened | .closed => (s, answer .badState)

/-- RESUME_SITE (R126) -/
def execResumeSite (s : State) : Host.Outcome State Fault Refusal := s.supervised .resumeSite resumeTheSite

/-! ### RETURN_TO_SETUP (R129) -/

/-- Whether a crane lets the site return to SETUP. -/
def State.maySetUp (s : State) (c : Crane) : Bool := s.inState c .outOfService || s.inState c .offline

/-- Step 1 of R129: every live record is cancelled, in ascending id, with a notice (R150). -/
def State.cancelAll (s : State) : State :=
  s.bookings.foldl (fun t b => (t.freeLift b.id).notifyLift b .cancelledBySupervisor []) s

/-- The changes the setup reset asks for: every cell to FREE (R69). -/
def setupReqs : List CellReq := allCranes.flatMap (fun c => allSectors.map (fun x => ⟨⟨c, x⟩, .free, .keep⟩))

/-- Every cell is written FREE, with since at the site time, one that was FREE before included (R70; entry 12). -/
def State.freeAllCells (s : State) : State :=
  s.withCells (tconst 8 (tconst 16 ⟨.free, s.clock.site, none, none⟩))

/-- Step 3 of R129: the setup reset with its follow-ups, the restricted sets and their conditions (R70). -/
def State.setupReset (s : State) : State :=
  let t := (s.freeAllCells.follow (s.changesOf setupReqs)).withRestricted (tconst 8 [])
  allCranes.foldl (fun u c => (u.withdraw .restricted c).withdraw .offPath c) t

/-- Step 4 of R129 on one crane. -/
def State.toStandby (s : State) (c : Crane) : State :=
  if s.inState c .outOfService then
    s.setSvc c { s.svc c with state := .standby, order := .remainSecured, withheld := false }
  else s

/-- Steps 1 to 5 of R129. -/
def State.toSetup (s : State) : State :=
  let t := (s.cancelAll.denyWaits (fun _ => true) .service).setupReset
  (allCranes.foldl State.toStandby t).withSite .setup

def returnSiteToSetup (s : State) : State × Answer :=
  match s.site with
  | .closed =>
    match s.requireAll s.maySetUp .badState with
    | some a => (s, a)
    | none => (s.toSetup, okWith [f1 s.bookings.length])
  | .setup | .opened | .storm => (s, answer .badState)

/-- RETURN_TO_SETUP (R129) -/
def execReturnToSetup (s : State) : Host.Outcome State Fault Refusal :=
  s.supervised .returnToSetup returnSiteToSetup

end Sys2Proof.Machine
end

