-- ==== Sys2Proof/Machine/Timers.lean ====
section
/-!
DEFINITION. The timed commands: each is the end of one timed operation (R23), and has no effect when that operation is not
running or its end has not been reached (entry 3).
-/
namespace Sys2Proof.Machine

/-! ### What is due -/

/-- A site second boundary has been reached (R22). -/
def State.boundaryDue (s : State) : Bool := decide (s.clock.boundary ≤ s.now)

/-- The report bound of a PRESENT crane has been reached (R39). -/
def State.boundDue (s : State) (c : Crane) : Bool := s.isPresent c && s.reached (s.craneRec c).bound

/-- The clearing end of a CLEARING cell has been reached (R63). -/
def State.clearingDue (s : State) (q : CellId) : Bool :=
  decide ((s.cell q).state = .clearing) && s.reached (s.cell q).clearEnd

/-- The deadline of a crane's wait entry has been reached (R77). -/
def State.waitDue (s : State) (c : Crane) (x : Sector) : Bool := s.reached ((s.waitFor c x).map Wait.deadline)

/-- The confirm deadline of a PENDING record. -/
def Booking.deadline (b : Booking) : Option Nat :=
  match b.state with
  | .pending t => some t
  | .booked | .active | .suspended _ => none

/-- The end of a crane's running dwell has been reached (R104). -/
def State.dwellDue (s : State) (c : Crane) : Bool := s.reached ((s.windRec c).dwell.map Dwell.ends)

/-- The end of a crane's securing timer has been reached (R124). -/
def State.timerDue (s : State) (c : Crane) : Bool := s.reached (s.svc c).timer

/-- The end of the running siren phase has been reached (R166). -/
def State.phaseDue (s : State) : Bool := s.reached s.lines.phase

/-! ### What each end does -/

/-- Site time increases by one at a boundary, unless it stands at its top (R22). -/
def State.passSecond (s : State) : State :=
  let t := s.withClock { s.clock with boundary := s.clock.boundary + 1000 }
  if t.clock.site < Config.maxSiteTime then t.moveTime (t.clock.site + 1) else t

/-- The store write ends with its read-back (R17). -/
def State.endWrite (s : State) (good : Bool) : State :=
  if good then
    (s.withPlan
      { s.plan with
        condition := .good, write := none, image := some ⟨s.plan.committed, s.plan.edition, s.plan.stamp⟩ }).withdrawSite
      .planFault
  else (s.withPlan { s.plan with condition := .fault, write := none, image := none }).raise .planFault none

/-- A clearing cell becomes FREE (R63). -/
def State.expireClearing (s : State) (q : CellId) : State := s.convert [⟨q, .free, .keep⟩]

/-- A wait entry reaches its deadline (R77). -/
def State.expireWait (s : State) (c : Crane) (x : Sector) : State :=
  ((s.dropWait c x).notify c (.deny x .timeout)).reviewOffPath c

/-- A PENDING record reaches its confirm deadline (R142). -/
def State.lapse (s : State) (b : Booking) : State := (s.freeLift b.id).notifyLift b .lapsed []

/-- A dwell completes (R104). That the condition of Table 7-1 is tested with the limits of the committed plan as it stands, also between
a commit and the crane's next sample (R16, R95), is the model's choice (entry 37). -/
def State.completeDwell (s : State) (c : Crane) : State :=
  match (s.windRec c).dwell with
  | some d => (s.setWind c ((s.windRec c).complete (s.entry c) s.now d)).windConditions c
  | none => s

/-- A securing timer expires (R124): in SECURING or VANE_WAIT, remembered ones included, SECURE_OVERDUE is raised; the timer
becomes absent. -/
def State.expireTimer (s : State) (c : Crane) : State :=
  let r := s.svc c
  let t :=
    match r.state with
    | .securing | .vaneWait => s.raiseFor .secureOverdue c
    | .offline | .standby | .inService | .outOfService => s
  t.setSvc c { t.svc c with timer := none }

/-- A phase of a PULSED siren ends: SIREN changes, and the next phase runs (R166). -/
def State.turnSiren (s : State) : State :=
  match s.lines.phase with
  | some e => s.withLines { s.lines with siren := !s.lines.siren, phase := some (e + Config.sirenPhaseTime) }
  | none => s

/-! ### The commands -/

/-- SITE_SECOND_BOUNDARY (R22) -/
def execSiteSecondBoundary (s : State) : Host.Outcome State Fault Refusal :=
  s.whileRunning (fun t => if t.boundaryDue then t.passSecond else t)

/-- STORE_WRITE_END (R17): at any moment while a write is in progress. -/
def execStoreWriteEnd (good : Bool) (s : State) : Host.Outcome State Fault Refusal :=
  s.whileRunning (fun t => if t.plan.write.isSome then t.endWrite good else t)

/-- ASSEMBLY_TIMEOUT (R31) -/
def execAssemblyTimeout (c : Crane) (s : State) : Host.Outcome State Fault Refusal :=
  s.whileRunning (fun t => if t.assemblyOverdue c then t.badFrame c else t)

/-- REPORT_BOUND_EXPIRY (R40) -/
def execReportBoundExpiry (c : Crane) (s : State) : Host.Outcome State Fault Refusal :=
  s.whileRunning (fun t => if t.boundDue c then t.becomeLost c else t)

/-- CLEARING_EXPIRY (R63) -/
def execClearingExpiry (c : Crane) (x : Sector) (s : State) : Host.Outcome State Fault Refusal :=
  s.whileRunning (fun t => if t.clearingDue ⟨c, x⟩ then t.expireClearing ⟨c, x⟩ else t)

/-- WAIT_DEADLINE (R77) -/
def execWaitDeadline (c : Crane) (x : Sector) (s : State) : Host.Outcome State Fault Refusal :=
  s.whileRunning (fun t => if t.waitDue c x then t.expireWait c x else t)

/-- CONFIRM_DEADLINE (R142) -/
def execConfirmDeadline (id : Nat) (s : State) : Host.Outcome State Fault Refusal :=
  s.whileRunning (fun t =>
    match t.findLift id with
    | some b => if t.reached b.deadline then t.lapse b else t
    | none => t)

/-- DWELL_COMPLETION (R104) -/
def execDwellCompletion (c : Crane) (s : State) : Host.Outcome State Fault Refusal :=
  s.whileRunning (fun t => if t.dwellDue c then t.completeDwell c else t)

/-- SECURING_TIMER_EXPIRY (R124) -/
def execSecuringTimerExpiry (c : Crane) (s : State) : Host.Outcome State Fault Refusal :=
  s.whileRunning (fun t => if t.timerDue c then t.expireTimer c else t)

/-- SIREN_PULSE_PHASE (R166) -/
def execSirenPulsePhase (s : State) : Host.Outcome State Fault Refusal :=
  s.whileRunning (fun t => if t.phaseDue then t.turnSiren else t)

end Sys2Proof.Machine
end

