-- ==== Sys2Proof/Machine/Dispatch.lean ====
section
/-!
DEFINITION. One arm per command: its meaning.
-/
namespace Sys2Proof.Machine

def exec (i : Instr) (s : State) : Host.Outcome State Fault Refusal :=
  match i with
  | .powerOn => Sys2Proof.Machine.execPowerOn s
  | .resetAsserted => Sys2Proof.Machine.execResetAsserted s
  | .siteStopAsserted => Sys2Proof.Machine.execSiteStopAsserted s
  | .siteStopDeasserted => Sys2Proof.Machine.execSiteStopDeasserted s
  | .siteSecondBoundary => Sys2Proof.Machine.execSiteSecondBoundary s
  | .storeWriteEnd good => Sys2Proof.Machine.execStoreWriteEnd good s
  | .assemblyTimeout c => Sys2Proof.Machine.execAssemblyTimeout c s
  | .linkBadFrame c => Sys2Proof.Machine.execLinkBadFrame c s
  | .frameTransmitted c => Sys2Proof.Machine.execFrameTransmitted c s
  | .status c r => Sys2Proof.Machine.execStatus c r s
  | .rejoin c r => Sys2Proof.Machine.execRejoin c r s
  | .enter c sector => Sys2Proof.Machine.execEnter c sector s
  | .release c sector => Sys2Proof.Machine.execRelease c sector s
  | .proposeLift q crane f => Sys2Proof.Machine.execProposeLift q crane f s
  | .confirmLift q id => Sys2Proof.Machine.execConfirmLift q id s
  | .amendLift q id f => Sys2Proof.Machine.execAmendLift q id f s
  | .cancelLift q id => Sys2Proof.Machine.execCancelLift q id s
  | .lockLift q id => Sys2Proof.Machine.execLockLift q id s
  | .unlockLift q id => Sys2Proof.Machine.execUnlockLift q id s
  | .queryLift q id => Sys2Proof.Machine.execQueryLift q id s
  | .listLifts q selector filter fromId => Sys2Proof.Machine.execListLifts q selector filter fromId s
  | .startLift q id => Sys2Proof.Machine.execStartLift q id s
  | .finishLift q id => Sys2Proof.Machine.execFinishLift q id s
  | .landLift q id => Sys2Proof.Machine.execLandLift q id s
  | .suspendLift q id => Sys2Proof.Machine.execSuspendLift q id s
  | .resumeLift q id => Sys2Proof.Machine.execResumeLift q id s
  | .supervisorBadFrame bytes => Sys2Proof.Machine.execSupervisorBadFrame bytes s
  | .fetch count => Sys2Proof.Machine.execFetch count s
  | .identify => Sys2Proof.Machine.execIdentify s
  | .readClock => Sys2Proof.Machine.execReadClock s
  | .setTime time => Sys2Proof.Machine.execSetTime time s
  | .planCrane crane f => Sys2Proof.Machine.execPlanCrane crane f s
  | .planChart crane points => Sys2Proof.Machine.execPlanChart crane points s
  | .planConflicts items => Sys2Proof.Machine.execPlanConflicts items s
  | .planRemoveConflicts items => Sys2Proof.Machine.execPlanRemoveConflicts items s
  | .planClearConflicts => Sys2Proof.Machine.execPlanClearConflicts s
  | .planCells crane sectors cls schedule => Sys2Proof.Machine.execPlanCells crane sectors cls schedule s
  | .planScheduleDefine index days start stop => Sys2Proof.Machine.execPlanScheduleDefine index days start stop s
  | .planScheduleRemove index action => Sys2Proof.Machine.execPlanScheduleRemove index action s
  | .planSite f => Sys2Proof.Machine.execPlanSite f s
  | .planAlertModes items => Sys2Proof.Machine.execPlanAlertModes items s
  | .planCommit protect => Sys2Proof.Machine.execPlanCommit protect s
  | .planDiscard => Sys2Proof.Machine.execPlanDiscard s
  | .planRead selector section_ item => Sys2Proof.Machine.execPlanRead selector section_ item s
  | .openSite => Sys2Proof.Machine.execOpenSite s
  | .closeSite => Sys2Proof.Machine.execCloseSite s
  | .resumeSite => Sys2Proof.Machine.execResumeSite s
  | .returnToSetup => Sys2Proof.Machine.execReturnToSetup s
  | .querySite => Sys2Proof.Machine.execQuerySite s
  | .queryCrane crane => Sys2Proof.Machine.execQueryCrane crane s
  | .queryCells crane => Sys2Proof.Machine.execQueryCells crane s
  | .queryWaits => Sys2Proof.Machine.execQueryWaits s
  | .queryConformance crane => Sys2Proof.Machine.execQueryConformance crane s
  | .queryWind crane => Sys2Proof.Machine.execQueryWind crane s
  | .forceRelease crane sectors => Sys2Proof.Machine.execForceRelease crane sectors s
  | .stopCrane crane => Sys2Proof.Machine.execStopCrane crane s
  | .clearStop crane reasons => Sys2Proof.Machine.execClearStop crane reasons s
  | .clearAlerts kinds => Sys2Proof.Machine.execClearAlerts kinds s
  | .queryAlerts => Sys2Proof.Machine.execQueryAlerts s
  | .reportBoundExpiry c => Sys2Proof.Machine.execReportBoundExpiry c s
  | .clearingExpiry c x => Sys2Proof.Machine.execClearingExpiry c x s
  | .waitDeadline c x => Sys2Proof.Machine.execWaitDeadline c x s
  | .confirmDeadline id => Sys2Proof.Machine.execConfirmDeadline id s
  | .dwellCompletion c => Sys2Proof.Machine.execDwellCompletion c s
  | .securingTimerExpiry c => Sys2Proof.Machine.execSecuringTimerExpiry c s
  | .sirenPulsePhase => Sys2Proof.Machine.execSirenPulsePhase s
  | .linkByteReceived c b stopGood => Sys2Proof.Machine.execLinkByteReceived c b stopGood s
  | .powerLoss => Sys2Proof.Machine.execPowerLoss s

end Sys2Proof.Machine
end

