-- ==== Sys2Proof/Machine/Time.lean ====
section
/-!
DEFINITION. What the part does when no command waits (entry 1): a millisecond of monotonic time passes (R23), and when timed
operations have reached their ends, the commands of those ends are put into the queue, in an order nothing fixes (entry 2).
-/
namespace Sys2Proof.Machine

/-- A command, when something is due. -/
def dueIf (due : Bool) (c : Instr) : List Instr := if due then [c] else []

/-- The end of a store write that has reached its 400 ms limit; the read-back's result is a free value (R17; entry 6). -/
def State.dueWrite (s : State) : List Instr :=
  dueIf (s.reached s.plan.write) (.storeWriteEnd (Config.readBackGood s.draws))

/-- The timed commands of one crane that have come due. -/
def State.dueOf (s : State) (c : Crane) : List Instr :=
  dueIf (s.boundDue c) (.reportBoundExpiry c) ++ dueIf (s.assemblyOverdue c) (.assemblyTimeout c) ++
    dueIf (s.dwellDue c) (.dwellCompletion c) ++ dueIf (s.timerDue c) (.securingTimerExpiry c) ++
    allSectors.flatMap (fun x => dueIf (s.clearingDue ⟨c, x⟩) (.clearingExpiry c x))

/-- The deadlines of wait entries and of PENDING records that have come due. -/
def State.dueDeadlines (s : State) : List Instr :=
  s.waits.flatMap (fun w => dueIf (decide (w.deadline ≤ s.now)) (.waitDeadline w.crane w.sector)) ++
    s.bookings.flatMap (fun b => dueIf (s.reached b.deadline) (.confirmDeadline b.id))

/-- Every timed command that has come due. -/
def State.dueCommands (s : State) : List Instr :=
  s.dueWrite ++ dueIf s.boundaryDue .siteSecondBoundary ++ allCranes.flatMap s.dueOf ++ s.dueDeadlines ++
    dueIf s.phaseDue .sirenPulsePhase

/-- A list in an order drawn from the free values `pickDue d`, `pickDue (d + 1)`, …: each names the next one of those left
(entry 2). The number is the length of the list. -/
def drawOrder : Nat → Nat → List Instr → List Instr
  | 0, _, l => l
  | n + 1, d, l =>
    match l[Config.pickDue d % l.length]? with
    | some c => c :: drawOrder n (d + 1) (l.eraseIdx (Config.pickDue d % l.length))
    | none => l

/-- The commands that came due, in the order in which they are taken; one alone needs no draw. -/
def State.ordered (s : State) (l : List Instr) : List Instr :=
  match l with
  | [] => []
  | [c] => [c]
  | _ :: _ :: _ => drawOrder l.length s.draws l

/-- A millisecond passes (R23). -/
def State.tick (s : State) : State := s.withClock { s.clock with mono := s.clock.mono + 1 }

/-- The timed commands that have come due are put into the queue; the free values drawn are used up. -/
def State.queueDue (s : State) : State :=
  (s.withDraws (s.draws + s.dueCommands.length + 1)).withPending (s.ordered s.dueCommands)

/-- The part with no command waiting: time stands still while it is off or held in reset (R175). -/
def State.idle (s : State) : State :=
  if s.running then (if s.dueCommands.isEmpty then s.tick else s.queueDue) else s

end Sys2Proof.Machine
end

