-- ==== Sys2Proof/Machine/Step.lean ====
section
/-!
DEFINITION. One step of the part: the command at the front of the queue is carried out with the queue's rest; with no command
waiting, the part idles (entry 1).
-/
namespace Sys2Proof.Machine

/-- One step. -/
def step (s : State) : Host.Outcome State Fault Refusal :=
  match s.pending with
  | c :: rest => exec c (s.withPending rest)
  | [] => .next s.idle

/-- The command a word spells, at the front of the queue; no word spells one, and the state is as it was. -/
def State.withFetchWord (s : State) (nbits w : Nat) : State :=
  match decodeTableWord nbits w with
  | some c => s.withPending (c :: s.pending)
  | none => s

end Sys2Proof.Machine
end

