-- ==== Sys2Proof/WellFormed.lean ====
section
/-!
DEFINITION. Well-formed commands: each field fits the width the wire gives it (Tables 12-1, 12-3 to 12-5, 12-12), each list the
length its frame can carry, and the bytes of a transaction are of the kind the command says (R172, R173).
-/
namespace Sys2Proof

/-- A field of `w` bytes can carry the value. -/
def fits (w v : Nat) : Bool := decide (v < 256 ^ w)

def Report.wellFormed (r : Report) : Bool :=
  fits 2 r.angle && fits 2 r.radius && fits 2 r.load && fits 2 r.wind && fits 1 r.flags

def LiftFields.wellFormed (f : LiftFields) : Bool :=
  fits 4 f.start && fits 1 f.length && fits 2 f.mass && fits 1 f.areaClass && fits 2 f.reach && fits 1 f.pathCount &&
    decide (f.path.length = 8) && f.path.all (fits 1) && fits 1 f.tagPresent && fits 4 f.tag

def PairItem.wellFormed (p : PairItem) : Bool := fits 1 p.first && fits 1 p.second && fits 1 p.kind

def ChartPoint.wellFormed (p : ChartPoint) : Bool := fits 2 p.radius && fits 2 p.load

def CraneFields.wellFormed (f : CraneFields) : Bool :=
  fits 1 f.present && fits 2 f.reach && fits 2 f.margin && fits 1 f.vane && fits 1 f.park && fits 2 f.lw &&
    fits 2 f.sw && fits 2 f.mw && fits 2 f.hw

def RemovalFields.wellFormed (f : RemovalFields) : Bool :=
  fits 1 f.action && decide (f.action ≠ 0) && fits 1 f.days && fits 2 f.start && fits 2 f.stop

def SiteFields.wellFormed (f : SiteFields) : Bool :=
  fits 1 f.dead && fits 1 f.wait && fits 1 f.tolerance && fits 1 f.early && fits 1 f.grace && fits 1 f.securing &&
    fits 1 f.discipline && fits 1 f.cadence

/-- A list that a frame of 61 payload bytes can carry after `head` bytes, in items of `w` bytes. -/
def carries (head w n : Nat) : Bool := decide (head + w * n ≤ 61)

/-- The crane number of a proposal: carried from the supervisor, the link's own from a crane. -/
def proposalFits (q : Requester) (crane : Nat) : Bool :=
  match q with
  | .crane c => decide (crane = c.val)
  | .supervisor => fits 1 crane

def Instr.wellFormed : Instr → Bool
  | .status _ r | .rejoin _ r => r.wellFormed
  | .enter _ x | .release _ x => fits 1 x
  | .proposeLift q c f => proposalFits q c && f.wellFormed
  | .amendLift _ id f => fits 2 id && f.wellFormed
  | .confirmLift _ id | .cancelLift _ id | .lockLift _ id | .unlockLift _ id | .queryLift _ id | .startLift _ id
  | .finishLift _ id | .landLift _ id | .suspendLift _ id | .resumeLift _ id | .confirmDeadline id => fits 2 id
  | .listLifts _ sel flt n => fits 1 sel && fits 1 flt && fits 2 n
  | .supervisorBadFrame bytes => Machine.isBadFrame bytes
  | .fetch n => decide (1 ≤ n)
  | .setTime t => fits 4 t
  | .planCrane c f => fits 1 c && f.wellFormed
  | .planChart c ps => fits 1 c && carries 2 4 ps.length && ps.all ChartPoint.wellFormed
  | .planConflicts is | .planRemoveConflicts is => carries 1 3 is.length && is.all PairItem.wellFormed
  | .planCells c m k r => fits 1 c && fits 2 m && fits 1 k && fits 1 r
  | .planScheduleDefine k d a b => fits 1 k && fits 1 d && fits 2 a && fits 2 b
  | .planScheduleRemove k f => fits 1 k && f.wellFormed
  | .planSite f => f.wellFormed
  | .planAlertModes is => carries 1 2 is.length && is.all (fun p => fits 1 p.1 && fits 1 p.2)
  | .planRead s k n => fits 1 s && fits 1 k && fits 2 n
  | .queryCrane c | .queryCells c | .queryConformance c | .queryWind c | .stopCrane c => fits 1 c
  | .forceRelease c m | .clearStop c m => fits 1 c && fits 2 m
  | .clearAlerts ks => carries 1 1 ks.length && ks.all (fits 1)
  | .powerOn | .resetAsserted | .siteStopAsserted | .siteStopDeasserted | .siteSecondBoundary | .storeWriteEnd _
  | .assemblyTimeout _ | .linkBadFrame _ | .frameTransmitted _ | .identify | .readClock | .planClearConflicts
  | .planCommit _ | .planDiscard | .openSite | .closeSite | .resumeSite | .returnToSetup | .querySite | .queryWaits
  | .queryAlerts | .reportBoundExpiry _ | .clearingExpiry _ _ | .waitDeadline _ _ | .dwellCompletion _
  | .securingTimerExpiry _ | .sirenPulsePhase | .linkByteReceived _ _ _ | .powerLoss => true

end Sys2Proof
end

