-- ==== Sys2Proof/Safety.lean ====
section
/-!
DEFINITION. What statements are made of: the parts of State and what a step leaves alone, and the laws the manual says the
records keep.
-/
namespace Sys2Proof.Machine

/-! ### Frames -/

/-- The parts of State, one per field. -/
inductive Part where
  | plan | clock | links | cranes | cells | waits | restricted | occupied | stops | lastConf | register | wind | site
  | service | bookings | nextId | alerts | lines | port | pins | draws | pending
  deriving DecidableEq, Repr

/-- A part is the same in both states. -/
def Same (p : Part) (s t : State) : Prop :=
  match p with
  | .plan => t.plan = s.plan
  | .clock => t.clock = s.clock
  | .links => t.links = s.links
  | .cranes => t.cranes = s.cranes
  | .cells => t.cells = s.cells
  | .waits => t.waits = s.waits
  | .restricted => t.restricted = s.restricted
  | .occupied => t.occupied = s.occupied
  | .stops => t.stops = s.stops
  | .lastConf => t.lastConf = s.lastConf
  | .register => t.register = s.register
  | .wind => t.wind = s.wind
  | .site => t.site = s.site
  | .service => t.service = s.service
  | .bookings => t.bookings = s.bookings
  | .nextId => t.nextId = s.nextId
  | .alerts => t.alerts = s.alerts
  | .lines => t.lines = s.lines
  | .port => t.port = s.port
  | .pins => t.pins = s.pins
  | .draws => t.draws = s.draws
  | .pending => t.pending = s.pending

/-- From `s` to `t` only the parts in the list may have changed. -/
def Touches (ps : List Part) (s t : State) : Prop := ∀ p, p ∉ ps → Same p s t

end Sys2Proof.Machine

namespace Sys2Proof

open Machine

/-! ### Requests -/

/-- The part runs, and the link of a crane present in the plan and PRESENT may take a frame: its receive buffer is empty and its
transmit queue holds fewer than six answers (R34, R35). -/
structure Machine.LinkReady (s : State) (c : Crane) : Prop where
  running : s.running = true
  empty : (s.link c).buffer = none
  room : answersIn (s.link c).queue < Config.maxQueue
  inPlan : s.present c = true
  present : (s.craneRec c).presence = .present

/-- A supervisor request is in the request buffer (R172). -/
def Machine.State.asked (s : State) (i : Instr) : State := s.gather (requestBytes i)

/-- The answer to a supervisor request is in the response slot (R172, R173). -/
def Machine.State.replied (s : State) (i : Instr) (a : Answer) : State := s.respond (requestKind i) a

/-- The link and the kind code of a command that is a crane frame (Table 12-3). -/
def Instr.onLink : Instr → Option (Crane × Nat)
  | .status c _ => some (c, 0x10)
  | .rejoin c _ => some (c, 0x11)
  | .enter c _ => some (c, 0x20)
  | .release c _ => some (c, 0x21)
  | .proposeLift (.crane c) _ _ => some (c, 0x30)
  | .confirmLift (.crane c) _ => some (c, 0x31)
  | .amendLift (.crane c) _ _ => some (c, 0x32)
  | .cancelLift (.crane c) _ => some (c, 0x33)
  | .startLift (.crane c) _ => some (c, 0x34)
  | .finishLift (.crane c) _ => some (c, 0x35)
  | .landLift (.crane c) _ => some (c, 0x36)
  | .resumeLift (.crane c) _ => some (c, 0x37)
  | .queryLift (.crane c) _ => some (c, 0x38)
  | .listLifts (.crane c) _ _ _ => some (c, 0x39)
  | .lockLift (.crane c) _ => some (c, 0x3A)
  | .unlockLift (.crane c) _ => some (c, 0x3B)
  | .suspendLift (.crane c) _ => some (c, 0x3C)
  | _ => none

/-- The command that a good frame of a crane's link is (entry 7). -/
def Machine.LinkFrame.command (c : Crane) : LinkFrame → Instr
  | .status r => .status c r
  | .rejoin r => .rejoin c r
  | .enter x => .enter c x
  | .release x => .release c x
  | .proposeLift f => .proposeLift (.crane c) c.val f
  | .confirmLift id => .confirmLift (.crane c) id
  | .amendLift id f => .amendLift (.crane c) id f
  | .cancelLift id => .cancelLift (.crane c) id
  | .startLift id => .startLift (.crane c) id
  | .finishLift id => .finishLift (.crane c) id
  | .landLift id => .landLift (.crane c) id
  | .resumeLift id => .resumeLift (.crane c) id
  | .queryLift id => .queryLift (.crane c) id
  | .listLifts sel flt n => .listLifts (.crane c) sel flt n
  | .lockLift id => .lockLift (.crane c) id
  | .unlockLift id => .unlockLift (.crane c) id
  | .suspendLift id => .suspendLift (.crane c) id

/-- The kind code of a crane frame; 0 for a command that is none. -/
def Instr.linkKind (i : Instr) : Nat :=
  match i.onLink with
  | some p => p.2
  | none => 0

/-- The requests that edit the staging plan, and PLAN_DISCARD (R3, R19). -/
def Instr.isPlanEdit : Instr → Bool
  | .planCrane _ _ | .planChart _ _ | .planConflicts _ | .planRemoveConflicts _ | .planClearConflicts
  | .planCells _ _ _ _ | .planScheduleDefine _ _ _ _ | .planScheduleRemove _ _ | .planSite _ | .planAlertModes _
  | .planDiscard => true
  | _ => false

/-- The commands that the pins bring, which the part takes while it is off or held in reset as well (R18, R89, R175). -/
def Instr.fromPins : Instr → Bool
  | .powerOn | .resetAsserted | .powerLoss | .siteStopAsserted | .siteStopDeasserted => true
  | _ => false

/-- What a lookup of the supervisor answers; `none` for a command that is no lookup, or whose field names nothing. -/
def Machine.lookupAnswer (s : State) : Instr → Option Answer
  | .identify => some (identity s)
  | .readClock => some (clockReading s)
  | .planRead p k n => some (planReading p k n s)
  | .querySite => some (siteReading s)
  | .queryCrane n => (craneOf n).map (fun c => craneReading c s)
  | .queryCells n => (craneOf n).map (fun c => cellsReading c s)
  | .queryWaits => some (waitsReading s)
  | .queryConformance n => (craneOf n).map (fun c => conformanceReading c s)
  | .queryWind n => (craneOf n).map (fun c => windReading c s)
  | .queryAlerts => some (alertsReading s)
  | _ => none

/-- Whether a lift request of a requester is taken at once: from a crane, when its link is ready; from the supervisor, while the
part runs. -/
def Requester.heard (q : Requester) (s : State) : Prop :=
  match q with
  | .crane c => LinkReady s c
  | .supervisor => s.running = true

/-- The state in which a lift request is carried out: a crane's good frame has withdrawn FRAME_ERROR (R33), the supervisor's is in
the request buffer. -/
def Requester.asked (q : Requester) (i : Instr) (s : State) : State :=
  match q with
  | .crane c => s.withdraw .frameError c
  | .supervisor => s.asked i

/-- The answer to a lift request is sent: queued on the crane's link, or put into the response slot (R46, R172). -/
def Requester.replied (q : Requester) (i : Instr) (a : Answer) (s : State) : State :=
  match q with
  | .crane c => s.queueAnswer c (.answer i.linkKind a)
  | .supervisor => s.replied i a

/-- The parts each command may change. -/
def Instr.touched : Instr → List Part
  | .powerOn => [.plan, .clock, .links, .cranes, .cells, .waits, .restricted, .occupied, .stops, .lastConf, .register,
      .wind, .site, .service, .bookings, .nextId, .alerts, .lines, .port, .pins]
  | .resetAsserted | .powerLoss => [.plan, .links, .lines, .port, .pins]
  | .siteStopAsserted => [.links, .waits, .stops, .bookings, .alerts, .lines, .pins]
  | .siteStopDeasserted => [.alerts, .pins]
  | .siteSecondBoundary => [.clock, .links, .waits, .restricted, .stops, .bookings, .alerts, .lines]
  | .storeWriteEnd _ => [.plan, .alerts, .lines]
  | .assemblyTimeout _ | .linkBadFrame _ => [.links, .alerts, .lines]
  | .frameTransmitted _ | .linkByteReceived _ _ _ => [.links, .cranes, .cells, .waits, .restricted, .occupied, .stops,
      .lastConf, .register, .wind, .site, .service, .bookings, .nextId, .alerts, .lines]
  | .status _ _ | .rejoin _ _ => [.links, .cranes, .cells, .waits, .restricted, .occupied, .stops, .lastConf, .register,
      .wind, .site, .service, .bookings, .alerts, .lines]
  | .enter _ _ | .release _ _ => [.links, .cells, .waits, .restricted, .stops, .register, .service, .bookings, .alerts,
      .lines]
  | .proposeLift _ _ _ => [.links, .bookings, .nextId, .alerts, .lines, .port]
  | .confirmLift _ _ | .amendLift _ _ _ | .cancelLift _ _ | .lockLift _ _ | .unlockLift _ _ | .queryLift _ _
  | .listLifts _ _ _ _ | .suspendLift _ _ | .resumeLift _ _ => [.links, .bookings, .alerts, .lines, .port]
  | .startLift _ _ => [.links, .lastConf, .bookings, .alerts, .lines, .port]
  | .finishLift _ _ | .landLift _ _ => [.links, .cells, .waits, .restricted, .lastConf, .register, .service,
      .bookings, .alerts, .lines, .port]
  | .supervisorBadFrame _ | .fetch _ | .identify | .readClock | .planRead _ _ _ | .querySite | .queryCrane _
  | .queryCells _ | .queryWaits | .queryConformance _ | .queryWind _ | .queryAlerts => [.port]
  | .setTime _ => [.clock, .links, .waits, .restricted, .stops, .bookings, .alerts, .lines, .port]
  | .planCrane _ _ | .planChart _ _ | .planConflicts _ | .planRemoveConflicts _ | .planClearConflicts
  | .planCells _ _ _ _ | .planScheduleDefine _ _ _ _ | .planScheduleRemove _ _ | .planSite _ | .planAlertModes _
  | .planDiscard => [.plan, .port]
  | .planCommit _ => [.plan, .links, .cranes, .waits, .occupied, .stops, .wind, .service, .bookings, .alerts, .lines, .port,
      .pins]
  | .openSite | .closeSite => [.links, .cells, .waits, .restricted, .register, .site, .service, .alerts, .port]
  | .resumeSite | .returnToSetup => [.links, .cells, .waits, .restricted, .register, .site, .service, .bookings, .alerts,
      .port]
  | .forceRelease _ _ => [.links, .cells, .waits, .restricted, .register, .service, .alerts, .port]
  | .stopCrane _ => [.links, .waits, .stops, .bookings, .alerts, .port]
  | .clearStop _ _ => [.links, .stops, .bookings, .port]
  | .clearAlerts _ => [.alerts, .lines, .port]
  | .reportBoundExpiry _ => [.links, .cranes, .waits, .stops, .wind, .service, .bookings, .alerts, .lines]
  | .clearingExpiry _ _ => [.links, .cells, .waits, .restricted, .register, .service, .alerts]
  | .waitDeadline _ _ => [.links, .waits, .alerts]
  | .confirmDeadline _ => [.links, .bookings]
  | .dwellCompletion _ => [.wind, .alerts, .lines]
  | .securingTimerExpiry _ => [.service, .alerts, .lines]
  | .sirenPulsePhase => [.lines]

end Sys2Proof

namespace Sys2Proof.Machine

/-! ### Laws of the records -/

/-- The law of one wind record (R95, R98): three samples of at most 600, an accumulator of at most 307 200, a state of HOLD or
STORM and no dwell while unknown, and a dwell whose step is that of the state. -/
structure WindRec.Lawful (r : WindRec) : Prop where
  short : r.window.length ≤ 3
  samples : ∀ w ∈ r.window, w ≤ 600
  acc : r.acc ≤ 307200
  unknownHigh : r.unknown = true → r.state = .hold ∨ r.state = .storm
  unknownStill : r.unknown = true → r.dwell = none
  step : ∀ d, r.dwell = some d → stepOf r.state = some d.step

/-- Every crane's wind record keeps its law (R95). -/
def WindLaw (s : State) : Prop := ∀ c, (s.windRec c).Lawful

/-- Every transmit queue holds at most six frames (R46). -/
def QueueLaw (s : State) : Prop := ∀ c, (s.link c).queue.length ≤ Config.maxQueue

/-- The wait list holds at most 16 entries and two of one crane, no crane and sector twice, and no entry of a crane that is LOST,
VANE_WAIT or OUT_OF_SERVICE (R72). -/
structure WaitLaw (s : State) : Prop where
  total : s.waits.length ≤ Config.maxWaits
  each : ∀ c, (s.waitingSectors c).length ≤ Config.maxWaitsPerCrane
  once : (s.waits.map (fun w => (w.crane, w.sector))).Nodup
  served : ∀ w ∈ s.waits, (s.svc w.crane).lost = false ∧ (s.svc w.crane).state ≠ .vaneWait ∧
    (s.svc w.crane).state ≠ .outOfService

/-- The booking table holds at most 64 records in ascending id and 16 of one crane, each id and the next-id counter in 1..65535
(R131, R132); two records whose windows overlap are of different cranes, and no pair joins a path cell of one to a path cell of
the other (R131). -/
structure TableLaw (s : State) : Prop where
  total : s.bookings.length ≤ Config.maxBookings
  ascending : (s.bookings.map Booking.id).Pairwise (· < ·)
  ids : ∀ b ∈ s.bookings, 1 ≤ b.id ∧ b.id ≤ 65535
  counter : 1 ≤ s.nextId ∧ s.nextId ≤ 65535
  each : ∀ c, (s.bookings.filter (fun b => decide (b.crane = c))).length ≤ Config.maxBookingsPerCrane
  apart : ∀ a ∈ s.bookings, ∀ b ∈ s.bookings, a.id ≠ b.id → a.data.overlaps b.data = true →
    a.crane ≠ b.crane ∧ s.plan.committed.pathsJoined a.crane a.data.path b.crane b.data.path = false

/-- A cell has a clearing end exactly while it is CLEARING, and no grant origin while it is FREE (R50, R52). -/
def CellLaw (s : State) : Prop :=
  ∀ q, ((s.cell q).state = .clearing ↔ (s.cell q).clearEnd.isSome = true) ∧
    ((s.cell q).state = .free → (s.cell q).origin = none)

/-- Last report time and report bound are there exactly while a crane is PRESENT (R36), and its service state is LOST, or OFFLINE,
exactly while its presence is (R40, R48, R113, R114). -/
def PresenceLaw (s : State) : Prop :=
  ∀ c, ((s.craneRec c).presence = .present ↔ (s.craneRec c).lastReport.isSome = true) ∧
    ((s.craneRec c).presence = .present ↔ (s.craneRec c).bound.isSome = true) ∧
    ((s.svc c).lost = true ↔ (s.craneRec c).presence = .lost) ∧
    ((s.svc c).state = .offline ↔ (s.craneRec c).presence = .offline)

/-- Site time stays at or below its top, and so will every SET_TIME that waits (R22). -/
structure TimeLaw (s : State) : Prop where
  top : s.clock.site ≤ Config.maxSiteTime
  waiting : ∀ t, Instr.setTime t ∈ s.pending → t ≤ Config.maxSiteTime

/-- The fixed kinds are in STOP mode, and the others in the mode of the committed plan (Table 11-1, R163). -/
def ModeLaw (s : State) : Prop :=
  ∀ k, (s.alert k).mode =
    match AlertKind.slot k with
    | some j => tget s.plan.committed.modes j
    | none => .stop

/-- While the part runs, ALERT# is asserted exactly while a latched kind is in WARN or STOP mode; SIREN is deasserted with no
phase running while it is not due, asserted without a phase under STEADY while it is due, and has a phase running under
PULSED while it is due (R166). -/
structure LineLaw (s : State) : Prop where
  alert : s.running = true → s.lines.alert = s.alertDue
  quiet : s.running = true → s.sirenDue = false → s.lines.siren = false ∧ s.lines.phase = none
  steady : s.running = true → s.sirenDue = true → s.params.cadence = .steady →
    s.lines.siren = true ∧ s.lines.phase = none
  pulsed : s.running = true → s.sirenDue = true → s.params.cadence = .pulsed → s.lines.phase.isSome = true

/-- The law of the service records (R113, R114, R115, R123): in OPEN no crane is, or remembers being, SECURING or VANE_WAIT, and one
OUT_OF_SERVICE is withheld; a crane is withheld in OPEN alone, OUT_OF_SERVICE with REMAIN_SECURED; the records in SETUP are OFFLINE or
STANDBY, and STANDBY is held there alone; a crane absent from the plan is OFFLINE; vane release is a FREE-mode crane's. -/
structure ServiceLaw (s : State) : Prop where
  working : s.site = .opened → ∀ c, (s.svc c).state ≠ .securing ∧ (s.svc c).state ≠ .vaneWait ∧
    ((s.svc c).state = .outOfService → (s.svc c).withheld = true)
  withheld : ∀ c, (s.svc c).withheld = true →
    s.site = .opened ∧ (s.svc c).state = .outOfService ∧ (s.svc c).order = .remainSecured
  setup : s.site = .setup → ∀ c, (s.svc c).state = .offline ∨ (s.svc c).state = .standby
  standby : ∀ c, (s.svc c).state = .standby → s.site = .setup
  absent : ∀ c, s.present c = false →
    (s.svc c).state = .offline ∧ (s.svc c).lost = false ∧ (s.craneRec c).presence = .offline
  vane : ∀ c, (s.svc c).state = .vaneWait ∨ (s.svc c).state = .outOfService ∧ (s.svc c).order = .vaneRelease →
    (s.entry c).vane = .free

/-- While the site is in SETUP every cell is FREE (R70), the wait list is empty (R74) and no booking is running (R151). -/
structure SetupLaw (s : State) : Prop where
  cells : s.site = .setup → ∀ q, (s.cell q).state = .free
  waits : s.site = .setup → s.waits = []
  lifts : s.site = .setup → ∀ b ∈ s.bookings, b.running = false

/-- No STRUCT pair of a plan joins two FREE-mode cranes (R13 check 5). -/
def Plan.vaneSafe (p : Plan) : Prop :=
  ∀ r ∈ p.pairs, r.kind = .struct → (p.entry r.lo.crane).vane = .parked ∨ (p.entry r.hi.crane).vane = .parked

/-- A cell is VANE only if its crane is of FREE vane mode and is OUT_OF_SERVICE or VANE_WAIT, or remembers it; a crane with the
order VANE_RELEASE is OUT_OF_SERVICE, or remembers it, and all its cells are VANE (R123). The committed plan and the stored one join
no two FREE-mode cranes by a STRUCT pair (R13). -/
structure VaneLaw (s : State) : Prop where
  cells : ∀ q, (s.cell q).state = .vane → (s.entry q.crane).vane = .free ∧
    ((s.svc q.crane).state = .outOfService ∨ (s.svc q.crane).state = .vaneWait)
  released : ∀ c, (s.svc c).order = .vaneRelease → (s.svc c).state = .outOfService ∧ ∀ x, (s.cell ⟨c, x⟩).state = .vane
  committed : s.plan.committed.vaneSafe
  stored : ∀ k, s.plan.image = some k → k.plan.vaneSafe

/-- The law of the conflict register (R85): an entry's cell is SEIZED and listed once, its partners are other cranes and at least
one; CONFLICT is present for exactly the cranes in conflict, and INTRUSION for exactly those with a SEIZED cell. -/
structure RegisterLaw (s : State) : Prop where
  seized : ∀ e ∈ s.register, (s.cell e.cell).state = .seized
  partners : ∀ e ∈ s.register, e.partners ≠ [] ∧ e.cell.crane ∉ e.partners
  once : (s.register.map RegEntry.cell).Nodup
  conflict : ∀ c, c ∈ (s.alert .conflict).cranes ↔ s.inConflict c = true
  intrusion : ∀ c, c ∈ (s.alert .intrusion).cranes ↔ ∃ x, (s.cell ⟨c, x⟩).state = .seized

/-- A granted state (Table 4-1). -/
def CellState.granted : CellState → Bool
  | .held | .clearing | .vane | .parked => true
  | .free | .seized => false

/-- The laws of the cell table (R51). -/
structure GrantLaw (s : State) : Prop where
  struct_ : ∀ q o, (PairKind.struct, o) ∈ s.partners q → (s.cell q).state.granted = true → (s.cell o).state.granted = false
  hook : ∀ q o, (PairKind.hook, o) ∈ s.partners q → (s.cell q).state = .held ∨ (s.cell q).state = .clearing →
    (s.cell o).state ≠ .held ∧ (s.cell o).state ≠ .clearing
  limit : ∀ c, s.heldCount c ≤ Config.maxHeld
  paths : ∀ q, (s.cell q).state = .held ∨ (s.cell q).state = .clearing → s.reserved q = false

/-- The suspension reasons a booking holds: none while it is not SUSPENDED (R151). -/
def Booking.reasons (b : Booking) : List SuspReason :=
  match b.state with
  | .suspended rs => rs
  | .pending _ | .booked | .active => []

/-- The laws of the running bookings (R151): one a crane; no two cranes' running paths joined by a pair; and, so that an ACTIVE one,
which holds no reason, flies in order, a reason for each thing out of order: STORM while the site is not OPEN, LOST while the crane
is, STOP_ORDER while its stop set is not empty, and WIND, or LOST, while the verdict of its wind is OVER_LIMIT. The crane of a running
booking is IN_SERVICE or SECURING, or remembers it. -/
structure RunningLaw (s : State) : Prop where
  one : ∀ a ∈ s.bookings, ∀ b ∈ s.bookings, a.running = true → b.running = true → a.crane = b.crane → a.id = b.id
  apart : ∀ a ∈ s.bookings, ∀ b ∈ s.bookings, a.running = true → b.running = true → ∀ x ∈ a.data.path,
    ∀ p ∈ s.partners ⟨a.crane, x⟩, p.2.crane = b.crane → p.2.sector ∉ b.data.path
  service : ∀ b ∈ s.bookings, b.running = true → (s.svc b.crane).state = .inService ∨ (s.svc b.crane).state = .securing
  storm : ∀ b ∈ s.bookings, b.running = true → s.site ≠ .opened → SuspReason.storm ∈ b.reasons
  lost : ∀ b ∈ s.bookings, b.running = true → (s.svc b.crane).lost = true → SuspReason.lost ∈ b.reasons
  stopped : ∀ b ∈ s.bookings, b.running = true → s.stopSet b.crane ≠ [] → SuspReason.stopOrder ∈ b.reasons
  wind : ∀ b ∈ s.bookings, b.running = true → (s.windRec b.crane).verdict (s.entry b.crane) b.data.cls = .overLimit →
    SuspReason.wind ∈ b.reasons ∨ SuspReason.lost ∈ b.reasons

/-- A response frame waits exactly while RDY is asserted, when the part runs, and MISO is at high impedance between transactions and
while the part does not run (R173, R175). -/
structure PortLaw (s : State) : Prop where
  ready : s.running = true → s.port.rdy = !s.port.slot.isEmpty
  released : s.port.miso = .highImpedance

end Sys2Proof.Machine
end

