-- ==== Sys2Proof/Certificates/Slice0/Obligations.lean ====
section
/-!
DEFINITION. The statements for the provers: what the rules say each command does, and the laws every step keeps.
-/
open Sys2Proof Sys2Proof.Machine

/-! ### The step and the queue -/

/-- A step with a command at the front of the queue is that command on the state with the queue's rest. -/
def Obligations.StepRunsFrontCommand : Prop :=
  ∀ (c : Instr) (rest : List Instr) (s : State), s.pending = c :: rest → step s = exec c (s.withPending rest)

/-- A step on an empty queue (the model's choice, log entries 1 and 2): without supply or in reset nothing happens; while
the part runs and nothing is due, a millisecond passes; when timed operations have ended, their commands enter the queue,
each once. Which commands enter the queue: each timed operation's, exactly when its end has been reached, and each once when
the wait entries and the booking ids are distinct. The result of a store write's read-back is a free value (log entry 6). -/
def Obligations.EmptyQueueIdles : Prop :=
  (∀ s : State, s.pending = [] →
      (s.running = false → step s = .next s) ∧
      (s.running = true → s.dueCommands = [] →
        step s = .next (s.withClock { s.clock with mono := s.clock.mono + 1 })) ∧
      (s.running = true → s.dueCommands ≠ [] →
        ∃ l d, l.Perm s.dueCommands ∧ step s = .next ((s.withDraws d).withPending l))) ∧
  (∀ s : State,
      let due := s.dueCommands
      let past := fun (e : Option Nat) => ∃ t, e = some t ∧ t ≤ s.clock.mono
      let time := fun (k : DwellStep) => match k with
        | .stormToHold => 600000
        | .holdToCaution => 120000
        | .cautionToCalm => 60000
      (Instr.siteSecondBoundary ∈ due ↔ s.clock.boundary ≤ s.clock.mono) ∧
      (∀ good, Instr.storeWriteEnd good ∈ due ↔ past s.plan.write ∧ good = Config.readBackGood s.draws) ∧
      (Instr.sirenPulsePhase ∈ due ↔ past s.lines.phase) ∧
      (∀ c,
        (Instr.assemblyTimeout c ∈ due ↔
          ∃ bytes last, (s.link c).rx = .assembling bytes last ∧ last + 5 ≤ s.clock.mono) ∧
        (Instr.reportBoundExpiry c ∈ due ↔ (s.craneRec c).presence = .present ∧ past (s.craneRec c).bound) ∧
        (Instr.dwellCompletion c ∈ due ↔
          ∃ d, (s.windRec c).dwell = some d ∧ d.start + time d.step ≤ s.clock.mono) ∧
        (Instr.securingTimerExpiry c ∈ due ↔ past (s.svc c).timer) ∧
        ∀ x,
          (Instr.clearingExpiry c x ∈ due ↔ (s.cell ⟨c, x⟩).state = .clearing ∧ past (s.cell ⟨c, x⟩).clearEnd) ∧
          (Instr.waitDeadline c x ∈ due ↔
            ∃ w ∈ s.waits, w.crane = c ∧ w.sector = x ∧ w.deadline ≤ s.clock.mono)) ∧
      (∀ id, Instr.confirmDeadline id ∈ due ↔
        ∃ b ∈ s.bookings, b.id = id ∧ ∃ t, b.state = .pending t ∧ t ≤ s.clock.mono) ∧
      (∀ i ∈ due, i = .siteSecondBoundary ∨ (∃ good, i = .storeWriteEnd good) ∨ i = .sirenPulsePhase ∨
        (∃ c, i = .assemblyTimeout c ∨ i = .reportBoundExpiry c ∨ i = .dwellCompletion c ∨ i = .securingTimerExpiry c) ∨
        (∃ c x, i = .clearingExpiry c x ∨ i = .waitDeadline c x) ∨ ∃ id, i = .confirmDeadline id) ∧
      ((s.waits.map (fun w => (w.crane, w.sector))).Nodup → (s.bookings.map Booking.id).Nodup → due.Nodup))

/-- What each command leaves alone: every part of State outside its list. -/
def Obligations.CommandFrames : Prop :=
  ∀ (i : Instr) (s t : State), exec i s = .next t → Touches i.touched s t

/-! ### Supply, RESET#, SITE_STOP# and the clock -/

/-- Power-on: with SITE_STOP# deasserted, a good image becomes both plans, with its edition and stamp, and every record
holds its power-on value; with no image, or one a cut-off write left, both plans are empty and PLAN_FAULT is raised, as in
the reset state; a line found asserted is then taken as it becomes asserted. That the power-on read takes no time is the
model's choice (log entry 35). RESET# and a power loss: ALERT#, SIREN and RDY are released, every transmitter stops, and a
store write in progress leaves no good image; MISO goes to high impedance, and the rest of the records stay until the
power-on (log entry 27). RESET# on a part without supply changes nothing (log entry 17). While the part is without supply or
held in reset, every command but those of the pins leaves every record as it is. The alert records after a power-on: no
condition and no latch, the fixed kinds in STOP, the others in the mode of the plan. -/
def Obligations.PowerAndReset : Prop :=
  ((∀ s u : State, s.pins.siteStop = true → exec .powerOn (s.withPins { s.pins with siteStop := false }) = .next u →
      exec .powerOn s = exec .siteStopAsserted u) ∧
    ∀ s : State, s.pins.siteStop = false →
      (∀ k, s.plan.image = some k → s.plan.write = none →
        exec .powerOn s = .next
          { State.reset with
            plan := ⟨k.plan, k.plan, k.edition, k.stamp, .good, none, some k⟩
            alerts := alertTable k.plan.modes
            lines := ⟨false, false, none⟩
            pins := { s.pins with power := .running }
            draws := s.draws
            pending := s.pending }) ∧
      (s.plan.image = none ∨ s.plan.write ≠ none →
        exec .powerOn s = .next
          { State.reset with
            pins := { s.pins with power := .running }
            draws := s.draws
            pending := s.pending })) ∧
  (∀ s : State,
      let halted := fun (p : Power) =>
        { s with
          plan := if s.plan.write = none then s.plan else { s.plan with write := none, image := none }
          pins := { s.pins with power := p }
          lines := ⟨false, false, none⟩
          port := { s.port with rdy := false, miso := .highImpedance }
          links := s.links.map (fun ch => { ch with sending := none }) }
      exec .powerLoss s = .next (halted .off) ∧
      (s.pins.power ≠ .off → exec .resetAsserted s = .next (halted .inReset)) ∧
      (s.pins.power = .off → exec .resetAsserted s = .next s)) ∧
  (∀ (i : Instr) (s : State), s.running = false → i.fromPins = false → exec i s = .next s) ∧
  (∀ (modes : Tab 13 AlertMode) (k : AlertKind),
      (k.slot = none → tget (alertTable modes) k.code = ⟨.stop, [], false, [], none⟩) ∧
      ∀ j, k.slot = some j → tget (alertTable modes) k.code = ⟨tget modes j, [], false, [], none⟩)

/-- SITE_STOP# becoming asserted: the condition is present and latched, every present crane has the reason SITE_STOP and
keeps its other reasons, a crane absent from the plan gains none, and ALERT# is asserted where the kind is in its fixed
mode. Deasserted, the condition is withdrawn and every reason stays. An assertion of a line that is asserted, and a
deassertion of one that is not, are no edges and change nothing (log entry 18). An edge while the part is without supply or
held in reset moves the line's level and nothing else (log entry 17). -/
def Obligations.SiteStopFollowsItsLine : Prop :=
  (∀ s : State, s.running = true →
      (s.pins.siteStop = false →
        ∃ t, exec .siteStopAsserted s = .next t ∧ t.pins = { s.pins with siteStop := true } ∧
          (t.alert .siteStop).flag = true ∧ (t.alert .siteStop).latch.isSome = true ∧
          (∀ c, s.present c = true → StopReason.siteStop ∈ t.stopSet c) ∧
          (∀ c, s.present c = false → t.stopSet c = s.stopSet c) ∧
          (∀ c r, r ∈ s.stopSet c → r ∈ t.stopSet c) ∧
          ((s.alert .siteStop).mode = .stop → t.lines.alert = true)) ∧
      (s.pins.siteStop = true →
        exec .siteStopDeasserted s =
          .next ((s.withPins { s.pins with siteStop := false }).withdrawSite .siteStop))) ∧
  (∀ s : State,
      (s.pins.siteStop = true → exec .siteStopAsserted s = .next s) ∧
      (s.pins.siteStop = false → exec .siteStopDeasserted s = .next s) ∧
      (s.running = false →
        (s.pins.siteStop = false → exec .siteStopAsserted s = .next (s.withPins { s.pins with siteStop := true })) ∧
        (s.pins.siteStop = true → exec .siteStopDeasserted s = .next (s.withPins { s.pins with siteStop := false }))))

/-- A second boundary that has been reached: the next one falls 1000 ms later, and site time increases by one unless it
stands at its top; the minute event is raised when the site minute has changed. Before it, nothing happens (log entry 3).
SET_TIME: accepted in SETUP and CLOSED, and within 60 s in OPEN and STORM; the record is replaced, the flag set, site time
and the sub-second phase set, and the minute event raised when the minute has changed. Otherwise CLOCK_JUMP, and the clock
stays. The difference of two site times is taken without sign. -/
def Obligations.SiteTimeMoves : Prop :=
  (∀ s : State, s.running = true →
      (s.clock.mono < s.clock.boundary → exec .siteSecondBoundary s = .next s) ∧
      (s.clock.boundary ≤ s.clock.mono → s.clock.site < 4294967295 →
        let v := s.withClock { s.clock with site := s.clock.site + 1, boundary := s.clock.boundary + 1000 }
        exec .siteSecondBoundary s =
          .next (if (s.clock.site + 1) / 60 = s.clock.site / 60 then v else v.minuteEvent ((s.clock.site + 1) / 60))) ∧
      (s.clock.boundary ≤ s.clock.mono → 4294967295 ≤ s.clock.site →
        exec .siteSecondBoundary s = .next (s.withClock { s.clock with boundary := s.clock.boundary + 1000 }))) ∧
  (∀ (s : State) (n : Nat), s.running = true →
      (s.site = .setup ∨ s.site = .closed ∨ timeApart n s.clock.site ≤ 60 →
        let v := (s.asked (.setTime n)).withClock
          ⟨s.clock.mono, n, s.clock.mono + 1000, true, some ⟨s.clock.site, n, s.clock.isSet, s.clock.mono⟩⟩
        let u := if n / 60 = s.clock.site / 60 then v else v.minuteEvent (n / 60)
        exec (.setTime n) s = .next (u.replied (.setTime n) (okWith [f4 s.clock.site, f4 n]))) ∧
      (s.site = .opened ∨ s.site = .storm → 60 < timeApart n s.clock.site →
        exec (.setTime n) s =
          .next ((s.asked (.setTime n)).replied (.setTime n) ⟨.clockJump, [f4 s.clock.site]⟩))) ∧
  (∀ a b : Nat, timeApart a b = if a ≤ b then b - a else a - b)

/-- The minute event: every BOOKED record, then every running one, in table order, then every crane's restricted set (log
entry 9). A BOOKED one past its window is freed with EXPIRED, and at or after its start becomes due, once, with a notice; a
running one past its window is overrun, and past the grace raises OVERRUN. The restricted set formed at a minute event: the
crane's HELD cells whose restriction then is BARRED, or NO_LOAD unless the load is 0; RESTRICTED is raised when the set
gains a cell, and withdrawn when it is empty. -/
def Obligations.MinuteEventTests : Prop :=
  ((∀ (s : State) (n : Nat),
      let t := (s.bookings.map Booking.id).foldl (fun u id => u.testBooked n id) s
      s.minuteEvent n = allCranes.foldl (fun u c => u.formRestricted n c)
        ((t.bookings.map Booking.id).foldl (fun u id => u.testOverrun n id) t)) ∧
    ∀ (s : State) (n id : Nat) (b : Booking), s.findLift id = some b →
      let ended := b.data.start + b.data.length ≤ n
      let graceEnded := b.data.start + b.data.length + s.plan.committed.site.grace ≤ n
      (b.state = .booked →
        (ended → s.testBooked n id = (s.freeLift id).notifyLift b .expired []) ∧
        (¬ ended → b.data.start ≤ n → b.due = false →
          s.testBooked n id = (s.putLift { b with due := true }).notifyLift b .due []) ∧
        (¬ ended → n < b.data.start ∨ b.due = true → s.testBooked n id = s)) ∧
      (b.state ≠ .booked → s.testBooked n id = s) ∧
      (b.running = true →
        (¬ ended → s.testOverrun n id = s) ∧
        (ended → ¬ graceEnded → s.testOverrun n id = s.putLift { b with overrun := true }) ∧
        (ended → graceEnded → s.testOverrun n id = (s.putLift { b with overrun := true }).raiseFor .overrun b.crane)) ∧
      (b.running = false → s.testOverrun n id = s)) ∧
  (∀ (s : State) (n : Nat) (c : Crane),
      ∃ new, List.Sublist new allSectors ∧
        (∀ x, x ∈ new ↔ (s.cell ⟨c, x⟩).state = .held ∧
          (s.plan.committed.restrictionAt ⟨c, x⟩ n = .barred ∨
            s.plan.committed.restrictionAt ⟨c, x⟩ n = .noLoad ∧ s.loadIsZero c = false)) ∧
        let v := s.setRestricted c new
        (new = [] → s.formRestricted n c = v.withdraw .restricted c) ∧
        ((∃ x ∈ new, x ∉ tget s.restricted c) → s.formRestricted n c = v.raiseFor .restricted c) ∧
        (new ≠ [] → (∀ x ∈ new, x ∈ tget s.restricted c) → s.formRestricted n c = v))

/-! ### The plan -/

/-- The edits of crane entries, charts, cells, schedules, site parameters and alert modes, in SETUP with no store write in
progress: the staging plan alone takes the values given, and the answer is OK. The numbers of the edit requests as the
values they name (Table 12-2), and none beyond: flags (other bytes than 0 and 1: log entry 13), modes, classes, schedule
references, disciplines, cadences, sectors, sector and weekday sets, and an alert kind with its mode. -/
def Obligations.PlanEditsReplaceEntries : Prop :=
  (∀ s : State, s.running = true → s.site = .setup → s.plan.write = none →
      let p := s.plan.staging
      let done := fun (i : Instr) (q : Plan) =>
        exec i s = .next (((s.asked i).withPlan { s.plan with staging := q }).replied i (answer .ok))
      (∀ (c : Crane) f pr v pk, flagOf f.present = some pr → vaneOf f.vane = some v → sectorOf f.park = some pk →
        done (.planCrane c.val f)
          { p with cranes := tput p.cranes c ⟨pr, f.reach, f.margin, v, pk, f.lw, f.sw, f.mw, f.hw⟩ }) ∧
      (∀ (c : Crane) points, 2 ≤ points.length → points.length ≤ 8 →
        done (.planChart c.val points) { p with charts := tput p.charts c points }) ∧
      (∀ (c : Crane) mask cls k sch r, sectorsOf mask ≠ [] → classOf cls = some k → scheduleRefOf sch = some r →
        done (.planCells c.val mask cls sch)
          { p with cells := tput p.cells c ((sectorsOf mask).foldl (fun row x => tput row x ⟨k, r⟩) (tget p.cells c)) }) ∧
      (∀ (k : Fin 8) days a b,
        done (.planScheduleDefine (k.val + 1) days a b)
          { p with schedules := tput p.schedules k (some ⟨daysOf days, a, b⟩) }) ∧
      (∀ (k : Fin 8) days a b, done (.planScheduleRemove (k.val + 1) ⟨1, days, a, b⟩) { p with schedules := tput p.schedules k none }) ∧
      (∀ f d k, disciplineOf f.discipline = some d → cadenceOf f.cadence = some k →
        done (.planSite f) { p with site := ⟨f.dead, f.wait, f.tolerance, f.early, f.grace, f.securing, d, k⟩ }) ∧
      (∀ items ms, 1 ≤ items.length → items.length ≤ 13 → allOf modeItem items = some ms →
        done (.planAlertModes items) { p with modes := ms.foldl (fun t m => tput t m.1 m.2) p.modes })) ∧
  ((∀ n, flagOf n = if n = 0 then some false else if n = 1 then some true else none) ∧
    (∀ n, vaneOf n = if n = 0 then some .free else if n = 1 then some .parked else none) ∧
    (∀ n, classOf n =
      if n = 0 then some .unrestricted else if n = 1 then some .noLoad else if n = 2 then some .barred else none) ∧
    (∀ n, disciplineOf n = if n = 0 then some .strict else if n = 1 then some .loose else none) ∧
    (∀ n, cadenceOf n = if n = 0 then some .steady else if n = 1 then some .pulsed else none) ∧
    (∀ n, (∀ x, sectorOf n = some x ↔ x.val = n) ∧ (sectorOf n = none ↔ 16 ≤ n)) ∧
    (∀ n, (scheduleRefOf n = some none ↔ n = 0) ∧ (∀ k, scheduleRefOf n = some (some k) ↔ n = k.val + 1) ∧
      (scheduleRefOf n = none ↔ 9 ≤ n)) ∧
    (∀ n, List.Sublist (sectorsOf n) allSectors ∧ ∀ x, x ∈ sectorsOf n ↔ n.testBit x.val = true) ∧
    (∀ n, List.Sublist (daysOf n) [0, 1, 2, 3, 4, 5, 6] ∧ ∀ d, d ∈ daysOf n ↔ n.testBit d.val = true) ∧
    (∀ i k m, modeItem i = some (k, m) ↔ i.1 = k.val + 3 ∧ i.2 = m.code) ∧
    (∀ (items : List (Nat × Nat)) ms, allOf modeItem items = some ms ↔ items.map modeItem = ms.map some))

/-- The conflict pair set, in SETUP with no store write in progress: new pairs are added and upgrades made, unless the set
would pass 1024 pairs, which is answered FULL and changes nothing; listed pairs are removed; the set is emptied. The widths
of the counts in the answers are the model's choice (log entry 8). What an accepted PLAN_CONFLICTS leaves in the set, pair
by pair: a pair is in it when it was or when it is listed, and it is STRUCT when it was STRUCT or any listing gives STRUCT.
The pairs of a list of items: each two cells of different cranes, the lower-numbered first, and a kind, which the removal
passes over. The distinct pairs of a list, and a set that gains a pair, stand in pair order, each pair once; the pair found
is the one of the same cells; and an upgrade is a listed STRUCT pair that the set holds as HOOK. -/
def Obligations.ConflictPairsEdited : Prop :=
  (∀ s : State, s.running = true → s.site = .setup → s.plan.write = none →
      let p := s.plan.staging
      let done := fun (i : Instr) (set : List Pair) (a : Answer) =>
        exec i s = .next (((s.asked i).withPlan { s.plan with staging := { p with pairs := set } }).replied i a)
      (∀ items ps, pairsOf true items = some ps →
        let new := (distinctPairs ps).filter (fun r => (findPair p.pairs r).isNone)
        let up := (distinctPairs ps).filter (isUpgrade p.pairs)
        let all := (new ++ up).foldl (fun acc r => insertPair r acc) p.pairs
        (p.pairs.length + new.length ≤ 1024 →
          done (.planConflicts items) all (okWith [f1 new.length, f1 up.length, f2 all.length])) ∧
        (1024 < p.pairs.length + new.length →
          done (.planConflicts items) p.pairs ⟨.full, [f2 p.pairs.length, f1 new.length]⟩)) ∧
      (∀ items ps, pairsOf false items = some ps →
        let left := p.pairs.filter (fun r => !ps.any (Pair.same r))
        done (.planRemoveConflicts items) left (okWith [f1 (p.pairs.length - left.length), f2 left.length])) ∧
      done .planClearConflicts [] (okWith [f2 0])) ∧
  (∀ (set ps : List Pair) (r : Pair),
      let new := (distinctPairs ps).filter (fun q => (findPair set q).isNone)
      let up := (distinctPairs ps).filter (isUpgrade set)
      let after := findPair ((new ++ up).foldl (fun acc q => insertPair q acc) set) r
      let structGiven := ∃ q ∈ ps, Pair.same r q = true ∧ q.kind = .struct
      let structBefore := ∃ q, findPair set r = some q ∧ q.kind = .struct
      (after.isSome = true ↔ (findPair set r).isSome = true ∨ ∃ q ∈ ps, Pair.same r q = true) ∧
        (∀ q, after = some q → (q.kind = .struct ↔ structBefore ∨ structGiven))) ∧
  (
    let before := fun (a b : Pair) =>
      a.lo.number < b.lo.number ∨ a.lo.number = b.lo.number ∧ a.hi.number < b.hi.number
    (∀ (readKind : Bool) (items : List PairItem) (ps : List Pair), pairsOf readKind items = some ps ↔
      1 ≤ items.length ∧ items.length ≤ 16 ∧ ps.length = items.length ∧
        ∀ (n : Nat) (i : PairItem) (p : Pair), items[n]? = some i → ps[n]? = some p →
          p.lo.crane ≠ p.hi.crane ∧ p.lo.number < p.hi.number ∧
            (i.first = p.lo.number ∧ i.second = p.hi.number ∨ i.first = p.hi.number ∧ i.second = p.lo.number) ∧
            (readKind = true → i.kind = p.kind.code) ∧ (readKind = false → p.kind = .struct)) ∧
    (∀ p q : Pair, Pair.same p q = true ↔ p.lo = q.lo ∧ p.hi = q.hi) ∧
    (∀ (set : List Pair) (p : Pair),
      (findPair set p = none ↔ ∀ q ∈ set, ¬ (p.lo = q.lo ∧ p.hi = q.hi)) ∧
      (∀ q, findPair set p = some q → q ∈ set ∧ p.lo = q.lo ∧ p.hi = q.hi) ∧
      (isUpgrade set p = true ↔ p.kind = .struct ∧ ∃ q, findPair set p = some q ∧ q.kind = .hook) ∧
      (set.Pairwise before → (insertPair p set).Pairwise before)) ∧
    ∀ ps : List Pair, (distinctPairs ps).Pairwise before ∧
      ∀ r, (findPair (distinctPairs ps) r = none ↔ findPair ps r = none) ∧
        (∀ q, findPair (distinctPairs ps) r = some q →
          (q.kind = .struct ↔ ∃ p ∈ ps, r.lo = p.lo ∧ r.hi = p.hi ∧ p.kind = .struct)))

/-- The refusals of the edits and of PLAN_DISCARD: outside SETUP BAD_STATE; then, while a store write is in progress, BUSY;
then BAD_VALUE for a crane, sector, cell, schedule index, sector set or count outside its range, a pair of cells of one
crane, an unknown kind, class, mode or action (an action other than 0 and 1: log entry 20; a present byte other than 0 and
1: entry 13), or an alert kind whose mode is fixed. Nothing but the answer changes. PLAN_COMMIT is refused in the first case
that holds, in this order, and only the sampled PROTECT (kept in the pins: log entry 5) and the answer change. That an
INVALID answer gives the violation code in one byte is the model's choice (log entry 8). What validation answers: the checks
of R13 in their order, each with the code, crane and sector of Table 1-6, the first that a plan fails being the answer, and
none when it fails none. No crane present; the ranges of each present crane's entry, of the site parameters and of the
defined schedules; the form of each present crane's chart; a pair with an absent crane, its lower cell first; a STRUCT pair
of two FREE-mode cranes; a STRUCT pair with the park cell of a PARKED-mode crane, its lower cell first; a park cell BARRED
without schedule; a schedule reference that names no schedule. -/
def Obligations.PlanRefusals : Prop :=
  (∀ (s : State) (i : Instr), s.running = true →
      let noPair := fun (k : PairItem) => 128 ≤ k.first ∨ 128 ≤ k.second ∨ k.first / 16 = k.second / 16
      let refuse := fun (k : Code) => exec i s = .next ((s.asked i).replied i (answer k))
      (i.isPlanEdit = true → s.site ≠ .setup → refuse .badState) ∧
      (i.isPlanEdit = true → s.site = .setup → s.plan.write ≠ none → refuse .busy) ∧
      (s.site = .setup → s.plan.write = none →
        ((∃ n f, 8 ≤ n ∧ i = .planCrane n f) ∨ (∃ n ps, 8 ≤ n ∧ i = .planChart n ps) ∨
          (∃ n ps, (ps.length < 2 ∨ 8 < ps.length) ∧ i = .planChart n ps) ∨
          (∃ n f, (2 ≤ f.present ∨ 2 ≤ f.vane ∨ 16 ≤ f.park) ∧ i = .planCrane n f) ∨
          (∃ items, (items.length = 0 ∨ 16 < items.length ∨ ∃ k ∈ items, noPair k) ∧
            (i = .planConflicts items ∨ i = .planRemoveConflicts items)) ∨
          (∃ items, (∃ k ∈ items, 2 ≤ k.kind) ∧ i = .planConflicts items) ∨
          (∃ n m k r, (8 ≤ n ∨ sectorsOf m = [] ∨ 3 ≤ k ∨ 9 ≤ r) ∧ i = .planCells n m k r) ∨
          (∃ k d a b, (k = 0 ∨ 9 ≤ k) ∧ i = .planScheduleDefine k d a b) ∨
          (∃ k f, (k = 0 ∨ 9 ≤ k ∨ f.action ≠ 1) ∧ i = .planScheduleRemove k f) ∨
          (∃ f, (2 ≤ f.discipline ∨ 2 ≤ f.cadence) ∧ i = .planSite f) ∨
          (∃ items, (items.length = 0 ∨ 13 < items.length ∨ ∃ k ∈ items, k.1 ≤ 2 ∨ 16 ≤ k.1 ∨ 3 ≤ k.2) ∧
            i = .planAlertModes items)) →
        refuse .badValue)) ∧
  (∀ (s : State) (high : Bool), s.running = true →
      let refuse := fun (a : Answer) =>
        exec (.planCommit high) s =
          .next (((s.asked (.planCommit high)).withPins { s.pins with protect := high }).replied (.planCommit high) a)
      (s.site ≠ .setup → refuse (answer .badState)) ∧
      (s.site = .setup → high = true → refuse (answer .protected_)) ∧
      (s.site = .setup → high = false → s.plan.write ≠ none → refuse (answer .busy)) ∧
      (s.site = .setup → high = false → s.plan.write = none → s.bookings ≠ [] → refuse (answer .liftsOpen)) ∧
      (∀ v, s.site = .setup → high = false → s.plan.write = none → s.bookings = [] →
        validate s.plan.staging = some v → refuse ⟨.invalid, [f1 v.code, fOpt 1 v.crane, fOpt 1 v.sector]⟩)) ∧
  (∀ p : Plan,
      let cranes := allCranes.filter (fun c => (p.entry c).present)
      let inCrane := fun (code : Nat) (c : Crane) => (⟨code, some c.val, none⟩ : Violation)
      let inCell := fun (code : Nat) (q : CellId) => (⟨code, some q.crane.val, some q.sector.val⟩ : Violation)
      let inItem := fun (code n : Nat) => (⟨code, none, some n⟩ : Violation)
      let entryChecks := fun (c : Crane) =>
        let e := p.entry c
        [(e.reach < 100 ∨ 900 < e.reach, inCrane 2 c), (128 < e.margin, inCrane 3 c),
          (e.lw < 100 ∨ 300 < e.lw, inCrane 4 c), (e.sw < e.lw + 20 ∨ 450 < e.sw, inCrane 4 c),
          (e.mw < 80 ∨ e.lw < e.mw, inCrane 4 c), (e.hw < 5 ∨ 50 < e.hw, inCrane 4 c)]
      let paramChecks :=
        [(30 < p.site.dead, inItem 5 1), (p.site.wait < 5 ∨ 120 < p.site.wait, inItem 5 2),
          (25 < p.site.tolerance, inItem 5 3), (15 < p.site.early, inItem 5 4), (30 < p.site.grace, inItem 5 5),
          (p.site.securing < 5 ∨ 30 < p.site.securing, inItem 5 6)]
      let scheduleBad := fun (k : Fin 8) =>
        ∃ d, tget p.schedules k = some d ∧ (d.days = [] ∨ 1439 < d.start ∨ 1439 < d.stop)
      let wellFormed := fun (c : Crane) =>
        let chart := tget p.charts c
        2 ≤ chart.length ∧ chart.length ≤ 8 ∧ (∀ k, chart.head? = some k → 1 ≤ k.radius) ∧
          chart.Pairwise (fun a b => a.radius < b.radius) ∧
          (∀ k, chart.getLast? = some k → k.radius = (p.entry c).reach) ∧
          (∀ k ∈ chart, 1 ≤ k.load ∧ k.load ≤ 65535) ∧ chart.Pairwise (fun a b => b.load ≤ a.load)
      let absent := fun (q : CellId) => (p.entry q.crane).present = false
      let free := fun (q : CellId) => (p.entry q.crane).vane = .free
      let isPark := fun (q : CellId) => (p.entry q.crane).vane = .parked ∧ (p.entry q.crane).park = q.sector
      let parkCell := fun (c : Crane) => (⟨c, (p.entry c).park⟩ : CellId)
      let rule := fun (q : CellId) => tget (tget p.cells q.crane) q.sector
      let noSchedule := fun (q : CellId) => ∃ k, (rule q).schedule = some k ∧ tget p.schedules k = none
      let checks : List (Prop × Violation) :=
        [(cranes = [], ⟨1, none, none⟩)] ++ cranes.flatMap entryChecks ++ paramChecks ++
          [0, 1, 2, 3, 4, 5, 6, 7].map (fun k : Fin 8 => (scheduleBad k, inItem 6 (k.val + 1))) ++
          cranes.map (fun c => (¬ wellFormed c, inCrane 7 c)) ++
          p.pairs.flatMap (fun r => [(absent r.lo, inCell 8 r.lo), (absent r.hi, inCell 8 r.hi)]) ++
          p.pairs.map (fun r => (r.kind = .struct ∧ free r.lo ∧ free r.hi, inCell 9 r.lo)) ++
          p.pairs.flatMap (fun r =>
            [(r.kind = .struct ∧ isPark r.lo, inCell 10 r.lo), (r.kind = .struct ∧ isPark r.hi, inCell 10 r.hi)]) ++
          cranes.map (fun c =>
            ((p.entry c).vane = .parked ∧ (rule (parkCell c)).cls = .barred ∧ (rule (parkCell c)).schedule = none,
              inCell 11 (parkCell c))) ++
          cranes.flatMap (fun c => allSectors.map (fun x => (noSchedule ⟨c, x⟩, inCell 12 ⟨c, x⟩)))
      (∀ before k after, checks = before ++ k :: after → (∀ b ∈ before, ¬ b.1) → k.1 → validate p = some k.2) ∧
        ((∀ k ∈ checks, ¬ k.1) → validate p = none))

/-- A PLAN_COMMIT that passes: the staging plan becomes the committed plan, the edition rises (1 after 65535), the stamp is
the site time or 0, the write begins over the image, every configurable alert kind takes its committed mode, and the answer
is OK with edition, in two bytes (the model's choice: log entry 8), and stamp. A crane that leaves the plan has its power-on
records and an absent occupied set, and its link and wind conditions are withdrawn; a crane that joins has its power-on
records, and takes SITE_STOP while the line is asserted; one that stays keeps its records and its stop reasons. Every crane
with the condition of a kind now in STOP mode has the kind's reason; beyond these no crane gains a reason, and the stop set
of one that leaves or joins holds no other. That the report contents of a crane that leaves become absent is R48, where R36
has them kept (the model's choice: log entry 34). The store write ends: a good read-back stores the committed plan as the
image, sets the condition GOOD and withdraws PLAN_FAULT; a bad one leaves no image, sets FAULT and raises PLAN_FAULT. With
no write in progress nothing happens (log entry 3); that the result may come at any moment of the write is the model's
choice (log entry 6). -/
def Obligations.CommitTakesEffect : Prop :=
  (∀ s : State, s.running = true → s.site = .setup → s.plan.write = none → s.bookings = [] →
      validate s.plan.staging = none →
      let edition := if s.plan.edition = 65535 then 1 else s.plan.edition + 1
      let stamp := if s.clock.isSet = true then s.clock.site else 0
      let craneBlank : CraneRec := ⟨.offline, none, none, none, 0⟩
      let windBlank : WindRec := ⟨false, true, .hold, [], 0, none⟩
      let serviceBlank : ServiceRec := ⟨.offline, false, .remainSecured, none, false, none⟩
      ∃ t, exec (.planCommit false) s = .next t ∧
        t.plan = ⟨s.plan.staging, s.plan.staging, edition, stamp, s.plan.condition, some (s.clock.mono + 400), none⟩ ∧
        t.port.slot = responseFrames 0x19 (okWith [f2 edition, f4 stamp]) ∧ t.port.rdy = true ∧
        (∀ k j, AlertKind.slot k = some j → (t.alert k).mode = tget s.plan.staging.modes j) ∧
        (∀ c, s.present c = true → (s.plan.staging.entry c).present = false →
          t.craneRec c = craneBlank ∧ t.windRec c = windBlank ∧ t.svc c = serviceBlank ∧
            tget t.occupied c = none ∧
            ∀ k ∈ [AlertKind.craneLost, .reportEarly, .frameError, .windCaution, .windHold, .windUnknown],
              c ∉ (t.alert k).cranes) ∧
        (∀ c, s.present c = false → (s.plan.staging.entry c).present = true →
          t.craneRec c = craneBlank ∧ t.windRec c = windBlank ∧ t.svc c = serviceBlank ∧
            (s.pins.siteStop = true → StopReason.siteStop ∈ t.stopSet c)) ∧
        (∀ c, s.present c = (s.plan.staging.entry c).present →
          t.craneRec c = s.craneRec c ∧ t.windRec c = s.windRec c ∧ t.svc c = s.svc c ∧
            ∀ x ∈ s.stopSet c, x ∈ t.stopSet c) ∧
        (∀ k x, k.stopReason = some x → (t.alert k).mode = .stop → ∀ c ∈ (t.alert k).cranes, x ∈ t.stopSet c) ∧
        (∀ c, ∀ x ∈ t.stopSet c,
          s.present c = (s.plan.staging.entry c).present ∧ x ∈ s.stopSet c ∨
            s.pins.siteStop = true ∧ x = .siteStop ∧ s.present c = false ∧ (s.plan.staging.entry c).present = true ∨
            ∃ k, k.stopReason = some x ∧ (t.alert k).mode = .stop ∧ c ∈ (s.alert k).cranes)) ∧
  ((∀ (s : State) (good : Bool), s.running = true → s.plan.write = none → exec (.storeWriteEnd good) s = .next s) ∧
    ∀ s : State, s.running = true → s.plan.write ≠ none →
      exec (.storeWriteEnd true) s =
        .next ((s.withPlan
          { s.plan with
            condition := .good
            write := none
            image := some ⟨s.plan.committed, s.plan.edition, s.plan.stamp⟩ }).withdrawSite .planFault) ∧
      ∃ t, exec (.storeWriteEnd false) s = .next t ∧
        t.plan = { s.plan with condition := .fault, write := none, image := none } ∧
        (t.alert .planFault).flag = true ∧ (t.alert .planFault).latch.isSome = true)

/-- PLAN_DISCARD copies the committed plan into the staging plan. PLAN_READ answers the section of the plan selected, field
by field, BUSY while a store write is in progress, and BAD_VALUE for an unknown selector or section or an item outside its
range. The order of the fields is that of the rule; counts, widths and absent values are the model's choice (log entry 8),
as is the order of the modes (entry 31). -/
def Obligations.PlanDiscardAndRead : Prop :=
  ∀ s : State, s.running = true →
    (s.site = .setup → s.plan.write = none →
      exec .planDiscard s =
        .next (((s.asked .planDiscard).withPlan { s.plan with staging := s.plan.committed }).replied .planDiscard
          (okWith [f2 s.plan.edition]))) ∧
    ∀ sel sec item,
      let i := Instr.planRead sel sec item
      let reads := fun (a : Answer) => exec i s = .next ((s.asked i).replied i a)
      (s.plan.write ≠ none → reads (answer .busy)) ∧
      (s.plan.write = none →
        (∀ p, sel = 0 ∧ p = s.plan.staging ∨ sel = 1 ∧ p = s.plan.committed →
          (sec = 0 → reads (okWith
            [f2 s.plan.edition, f4 s.plan.stamp, f1 (if s.plan.condition = .good then 0 else 1),
              fCranes (allCranes.filter (fun c => (p.entry c).present)), f2 p.pairs.length])) ∧
          (∀ c : Crane, item = c.val →
            let e := p.entry c
            (sec = 1 → reads (okWith
              [fFlag e.present, f2 e.reach, f2 e.margin, f1 e.vane.code, f1 e.park.val, f2 e.lw, f2 e.sw, f2 e.mw, f2 e.hw])) ∧
            (sec = 2 → reads (okWith
              (f1 (tget p.charts c).length :: (tget p.charts c).flatMap (fun k => [f2 k.radius, f2 k.load])))) ∧
            (sec = 4 → reads (okWith (allSectors.flatMap (fun x =>
              let r := tget (tget p.cells c) x
              [f1 r.cls.code, f1 ((r.schedule.map (fun k => k.val + 1)).getD 0)]))))) ∧
          (sec = 3 → item < 1024 →
            let got := (p.pairs.drop item).take 16
            reads (okWith (f1 got.length :: got.flatMap (fun r => [f1 r.lo.number, f1 r.hi.number, f1 r.kind.code]) ++
              [f2 (if item + 16 < p.pairs.length then item + 16 else 65535)]))) ∧
          (∀ k : Fin 8, sec = 5 → item = k.val + 1 →
            (tget p.schedules k = none → reads (okWith [f1 0, f1 255, f2 65535, f2 65535])) ∧
            (∀ d, tget p.schedules k = some d →
              reads (okWith [f1 1, f1 (maskOf (d.days.map Fin.val)), f2 d.start, f2 d.stop]))) ∧
          (sec = 6 → reads (okWith
            [f1 p.site.dead, f1 p.site.wait, f1 p.site.tolerance, f1 p.site.early, f1 p.site.grace, f1 p.site.securing,
              f1 p.site.discipline.code, f1 p.site.cadence.code])) ∧
          (sec = 7 → reads (okWith (p.modes.toList.map (fun m => f1 m.code))))) ∧
        (2 ≤ sel ∨ 8 ≤ sec ∨ ((sec = 1 ∨ sec = 2 ∨ sec = 4) ∧ 8 ≤ item) ∨ (sec = 3 ∧ 1024 ≤ item) ∨
            (sec = 5 ∧ (item = 0 ∨ 9 ≤ item)) → reads (answer .badValue)))

/-! ### Crane links -/

/-- A byte on a link: hunting for 0xB4, then gathering kind, length, payload and CRC; a bad stop bit, a length above 48, or
a frame that fails its checks is a bad frame; a good frame is its command. A bad frame, and an assembly quiet for 5 ms: the
channel hunts, and FRAME_ERROR is raised for a crane present in the plan. An assembly that is not yet overdue is left, and a
channel that hunts has none (log entry 3). -/
def Obligations.LinkBytesAssemble : Prop :=
  (∀ (s : State) (c : Crane) (b : Byte) (good : Bool), s.running = true →
      let rx := fun (r : RxState) => s.setLink c { s.link c with rx := r }
      let leaves := fun (t : State) => exec (.linkByteReceived c b good) s = .next t
      let isBad := exec (.linkByteReceived c b good) s = exec (.linkBadFrame c) s
      ((s.link c).rx = .hunting →
        (good = true → b = 0xB4#8 → leaves (rx (.assembling [] s.clock.mono))) ∧
        (good = false ∨ b ≠ 0xB4#8 → leaves s)) ∧
      (∀ bytes last, (s.link c).rx = .assembling bytes last →
        (good = false → isBad) ∧
        (good = true → bytes = [] → leaves (rx (.assembling [b] s.clock.mono))) ∧
        (∀ kind, good = true → bytes = [kind] →
          (b.toNat ≤ 48 → leaves (rx (.assembling [kind, b] s.clock.mono))) ∧ (48 < b.toNat → isBad)) ∧
        (∀ kind len payload, good = true → bytes = kind :: len :: payload → len.toNat ≤ 48 →
          (payload.length < len.toNat → leaves (rx (.assembling (bytes ++ [b]) s.clock.mono))) ∧
          (payload.length = len.toNat →
            (b ≠ crc8 bytes ∨ readLink kind.toNat payload = none → isBad) ∧
            (∀ f, b = crc8 bytes → readLink kind.toNat payload = some f →
              exec (.linkByteReceived c b good) s = exec (f.command c) (rx .hunting)))))) ∧
  (∀ (s : State) (c : Crane), s.running = true →
      let hunting := s.setLink c { s.link c with rx := .hunting }
      (s.present c = true → exec (.linkBadFrame c) s = .next (hunting.raiseFor .frameError c)) ∧
      (s.present c = false → exec (.linkBadFrame c) s = .next hunting) ∧
      ((s.link c).rx = .hunting → exec (.assemblyTimeout c) s = .next s) ∧
      (∀ bytes last, (s.link c).rx = .assembling bytes last →
        (last + 5 ≤ s.clock.mono → exec (.assemblyTimeout c) s = exec (.linkBadFrame c) s) ∧
        (s.clock.mono < last + 5 → exec (.assemblyTimeout c) s = .next s)))

/-- A good frame, for which its command stands (log entry 7), withdraws FRAME_ERROR. It is taken at once while the link's
queue holds fewer than six answers, and waits in the receive buffer otherwise; while the buffer holds an earlier frame it is
a bad frame. The dispatch of a frame that is not passed on: NOT_PERMITTED on the link of an absent crane; REJOIN_REQUIRED,
for a STATUS in a STATUS_ACK, from an OFFLINE or LOST crane; BAD_STATE for a REJOIN from a PRESENT one. Beyond the answer
and FRAME_ERROR nothing changes. -/
def Obligations.GoodFrameTaken : Prop :=
  (∀ (s : State) (c : Crane) (f : LinkFrame), s.running = true →
      let v := s.withdraw .frameError c
      ((s.link c).buffer = none → answersIn (s.link c).queue < 6 →
        exec (f.command c) s = .next (v.takeFrame c f)) ∧
      ((s.link c).buffer = none → 6 ≤ answersIn (s.link c).queue →
        exec (f.command c) s = .next (v.setLink c { s.link c with buffer := some f })) ∧
      ((s.link c).buffer ≠ none → exec (f.command c) s = exec (.linkBadFrame c) s)) ∧
  (∀ (s : State) (c : Crane) (f : LinkFrame), s.running = true → (s.link c).buffer = none →
      answersIn (s.link c).queue < 6 →
      let v := s.withdraw .frameError c
      let answered := fun (k : Code) => exec (f.command c) s = .next (v.queueAnswer c (.answer f.kind (answer k)))
      (s.present c = false → answered .notPermitted) ∧
      (s.present c = true → (s.craneRec c).presence ≠ .present →
        ((∃ r, f = .status r) →
          exec (f.command c) s = .next (v.queueAnswer c (.statusAck (v.statusAck c .rejoinRequired)))) ∧
        ((∀ r, f ≠ .status r) → (∀ r, f ≠ .rejoin r) → answered .rejoinRequired)) ∧
      (s.present c = true → (s.craneRec c).presence = .present → (∃ r, f = .rejoin r) → answered .badState))

/-- The frame being sent has gone out: the transmitter takes the oldest frame of the queue, and a frame that waits in the
receive buffer is taken when that leaves fewer than six answers. An idle transmitter has nothing to end (log entries 3 and
22). The oldest notice leaves a queue of six for a further frame: a notice is dropped by six answers, and an answer that
finds a notice is always queued, last, with the other frames in their order. A frame is queued on a link: an answer joins
the queue by pushAnswer, and a notice for a crane present in the plan by pushNotice; an idle transmitter takes the oldest
frame of that queue at once, and a busy one leaves it. No notice is queued for a crane absent from the plan. The frames of a
queue that are notices: GRANT, DENY and LIFT_NOTICE. The others are its answers. -/
def Obligations.TransmitQueueServed : Prop :=
  (∀ (s : State) (c : Crane), s.running = true →
      let ch := s.link c
      (ch.sending = none → exec (.frameTransmitted c) s = .next s) ∧
      (ch.sending ≠ none →
        (ch.queue = [] → ch.buffer = none →
          exec (.frameTransmitted c) s = .next (s.setLink c { ch with sending := none })) ∧
        (∀ g rest, ch.queue = g :: rest →
          (ch.buffer = none →
            exec (.frameTransmitted c) s = .next (s.setLink c { ch with sending := some g, queue := rest })) ∧
          (∀ f, ch.buffer = some f → answersIn rest < 6 →
            exec (.frameTransmitted c) s =
              .next ((s.setLink c { ch with sending := some g, queue := rest, buffer := none }).takeFrame c f)) ∧
          (ch.buffer ≠ none → 6 ≤ answersIn rest →
            exec (.frameTransmitted c) s = .next (s.setLink c { ch with sending := some g, queue := rest }))))) ∧
  (∀ (q : List TxFrame) (f : TxFrame),
      (q.length < 6 → pushNotice q f = q ++ [f] ∧ pushAnswer q f = q ++ [f]) ∧
      (q.length = 6 → answersIn q = 6 → pushNotice q f = q) ∧
      (∀ before n after, q = before ++ n :: after → q.length = 6 → n.isNotice = true →
        (∀ g ∈ before, g.isNotice = false) →
        pushNotice q f = before ++ after ++ [f] ∧ pushAnswer q f = before ++ after ++ [f])) ∧
  (∀ (s : State) (c : Crane) (f : TxFrame),
      let ch := s.link c
      let joins := fun (t : State) (q : List TxFrame) =>
        q ≠ [] ∧ (ch.sending ≠ none → t = s.setLink c { ch with queue := q }) ∧
          (∀ g rest, ch.sending = none → q = g :: rest → t = s.setLink c { ch with sending := some g, queue := rest })
      joins (s.queueAnswer c f) (pushAnswer ch.queue f) ∧
        (s.present c = true → joins (s.notify c f) (pushNotice ch.queue f)) ∧ (s.present c = false → s.notify c f = s)) ∧
  ((∀ f : TxFrame, f.isNotice = true ↔
      (∃ x, f = .grant x) ∨ (∃ x why, f = .deny x why) ∨ ∃ id e rs, f = .liftNotice id e rs) ∧
    ∀ q : List TxFrame, answersIn q = (q.filter (fun f => decide (f.isNotice = false))).length)

/-- The standing order: REJOIN_REQUIRED for an OFFLINE or LOST crane; STOP in place of WORK while the stop set is not empty;
the service order in every other case. A STATUS_ACK carries it, and its stop flag, bit 0 of the flags byte, is set while the
stop set is not empty; bit 1 is the unknown wind. -/
def Obligations.StandingOrderShown : Prop :=
  ∀ (s : State) (c : Crane),
    let r := s.svc c
    (r.lost = true ∨ r.state = .offline → s.standingOrder c = .rejoinRequired) ∧
    (r.lost = false → r.state ≠ .offline →
      (s.stopSet c ≠ [] → r.order = .work → s.standingOrder c = .stop) ∧
      (s.stopSet c = [] ∨ r.order ≠ .work → s.standingOrder c = r.order)) ∧
    ∀ k, (s.statusAck c k).order = s.standingOrder c ∧
      (s.statusAck c k).fields[3]? = some (f1 (s.standingOrder c).code) ∧
      (s.statusAck c k).fields[4]? = some
        (f1 ((if s.stopSet c = [] then 0 else 1) + if (s.windRec c).unknown = true then 2 else 0))

/-- A STATUS from a PRESENT crane, a good frame (log entry 7), goes through its stages in order: the record, with the angle
modulo 4096, the radius clamped to the jib reach and the bound of the site state, and REPORT_EARLY raised or withdrawn;
position; load drop, when the load has become 0; wind; lift; securing; and last a STATUS_ACK with OK, built from the records
as they then stand. No other crane's record, occupied set or wind record changes. At a load drop the NO_LOAD cells leave the
crane's restricted set, and arbitration runs. What a STATUS_ACK carries, read from the records as they stand: site and
service state, standing order, stop reasons, the HELD, CLEARING and SEIZED sectors, the waiting sectors in list order, the
id of the running lift or 0, wind state, unknown flag and gust. -/
def Obligations.StatusWritesTheRecord : Prop :=
  ((∀ (s : State) (c : Crane) (r : Report), LinkReady s c →
      let load := if r.load = 65535 then none else some r.load
      let wind := if r.wind = 65535 then none else some r.wind
      let radius := min r.radius (s.entry c).reach
      let record : CraneRec :=
        ⟨.present, some s.clock.mono, some (s.clock.mono + if s.site = .closed then 10000 else 2000),
          some ⟨r.angle % 4096, radius, load, wind, r.flags.testBit 0, r.flags.testBit 1, r.flags.testBit 2⟩,
          if wind = none then min ((s.craneRec c).noReading + 1) 255 else 0⟩
      let isEarly := ∃ t, (s.craneRec c).lastReport = some t ∧ s.clock.mono < t + 250
      let dropped := load = some 0 ∧ (s.craneRec c).contents.bind Contents.load ≠ some 0
      let v := (s.withdraw .frameError c).setCrane c record
      ∃ t u : State,
        (isEarly → t = v.raiseFor .reportEarly c) ∧ (¬ isEarly → t = v.withdraw .reportEarly c) ∧
        (dropped → u = (t.positionStage c (r.angle % 4096)).loadDrop c) ∧
        (¬ dropped → u = t.positionStage c (r.angle % 4096)) ∧
        let w := ((u.windStage c wind).liftStage c load radius).securingStage c
        exec (.status c r) s = .next (w.queueAnswer c (.statusAck (w.statusAck c .ok))) ∧
          w.craneRec c = record ∧ (∀ d, d ≠ c → w.craneRec d = s.craneRec d) ∧
          tget w.occupied c = some (occupiedAt (r.angle % 4096) (s.entry c).margin) ∧
          (∀ d, d ≠ c → tget w.occupied d = tget s.occupied d ∧ w.windRec d = s.windRec d) ∧
          (c ∈ (w.alert .reportEarly).cranes ↔ isEarly)) ∧
    ∀ (s : State) (c : Crane), ∃ left, List.Sublist left (tget s.restricted c) ∧
      (∀ x, x ∈ left ↔ x ∈ tget s.restricted c ∧ s.restriction ⟨c, x⟩ ≠ .noLoad) ∧
      (left = [] → tget s.restricted c ≠ [] →
        s.loadDrop c = ((s.setRestricted c left).withdraw .restricted c).arbitrate) ∧
      (left ≠ [] ∨ tget s.restricted c = [] → s.loadDrop c = (s.setRestricted c left).arbitrate)) ∧
  (∀ (s : State) (c : Crane) (k : Code),
      let a := s.statusAck c k
      let r := s.svc c
      a.code = k ∧ a.site = s.site ∧ a.service = (if r.lost = true then 6 else r.state.code) ∧
        a.order = s.standingOrder c ∧ a.stops = s.stopSet c ∧
        (∀ x, (x ∈ a.held ↔ (s.cell ⟨c, x⟩).state = .held) ∧ (x ∈ a.clearing ↔ (s.cell ⟨c, x⟩).state = .clearing) ∧
          (x ∈ a.seized ↔ (s.cell ⟨c, x⟩).state = .seized)) ∧
        a.waiting = (s.waits.filter (fun w => decide (w.crane = c))).map Wait.sector ∧
        (s.runningLift c = none → a.lift = 0) ∧ (∀ b, s.runningLift c = some b → a.lift = b.id) ∧
        a.wind = (s.windRec c).state ∧ a.unknown = (s.windRec c).unknown ∧ a.gust = (s.windRec c).gust)

/-- A REJOIN from an OFFLINE or LOST crane of the plan, a good frame (log entry 7), goes through its stages in order: the
record, with a count of 1 where the wind has no reading, and REPORT_EARLY withdrawn; service; position; load drop; wind; the
reason LOST taken off its lift, and lift; securing; CRANE_LOST withdrawn; and last a STATUS_ACK with OK. At the service
stage a LOST crane returns to the state it remembers, VANE_WAIT being tested for its vane release at once, and an OFFLINE
one becomes STANDBY in SETUP and IN_SERVICE in the other site states. -/
def Obligations.RejoinWritesTheRecord : Prop :=
  (∀ (s : State) (c : Crane) (r : Report), s.running = true → (s.link c).buffer = none →
    answersIn (s.link c).queue < 6 → s.present c = true → (s.craneRec c).presence ≠ .present →
    let load := if r.load = 65535 then none else some r.load
    let wind := if r.wind = 65535 then none else some r.wind
    let radius := min r.radius (s.entry c).reach
    let record : CraneRec :=
      ⟨.present, some s.clock.mono, some (s.clock.mono + if s.site = .closed then 10000 else 2000),
        some ⟨r.angle % 4096, radius, load, wind, r.flags.testBit 0, r.flags.testBit 1, r.flags.testBit 2⟩,
        if wind = none then 1 else 0⟩
    let dropped := load = some 0 ∧ (s.craneRec c).contents.bind Contents.load ≠ some 0
    let v := ((s.withdraw .frameError c).setCrane c record).withdraw .reportEarly c
    let t := (v.rejoinService c).positionStage c (r.angle % 4096)
    ∃ u : State, (dropped → u = t.loadDrop c) ∧ (¬ dropped → u = t) ∧
      let w := ((((u.windStage c wind).removeReasonFrom c .lost).liftStage c load radius).securingStage c).withdraw
          .craneLost c
      exec (.rejoin c r) s = .next (w.queueAnswer c (.statusAck (w.statusAck c .ok))) ∧
        w.craneRec c = record ∧ (∀ d, d ≠ c → w.craneRec d = s.craneRec d) ∧
        tget w.occupied c = some (occupiedAt (r.angle % 4096) (s.entry c).margin) ∧
        (w.svc c).lost = false ∧ c ∉ (w.alert .craneLost).cranes ∧ c ∉ (w.alert .reportEarly).cranes) ∧
  ∀ (s : State) (c : Crane),
    let r := s.svc c
    let back := s.setSvc c { r with lost := false }
    (r.lost = true → r.state ≠ .vaneWait → s.rejoinService c = back) ∧
    (r.lost = true → r.state = .vaneWait →
      (s.vanePermitted c = true → s.rejoinService c = releaseVaneWith State.recheckVane back c) ∧
      (s.vanePermitted c = false → s.rejoinService c = back)) ∧
    (r.lost = false → r.state = .offline →
      (s.site = .setup → s.rejoinService c = s.setSvc c { r with state := .standby, order := .remainSecured }) ∧
      (s.site ≠ .setup → s.rejoinService c = s.setSvc c { r with state := .inService, order := .work })) ∧
    (r.lost = false → r.state ≠ .offline → s.rejoinService c = s)

/-- The report bound of a PRESENT crane is reached: the crane is LOST and remembers its service state, its wait entries are
gone, its running lift has the reason LOST, its wind is unknown and CRANE_LOST is present; its contents and its cells stay.
Nothing happens before the bound, or to a crane that is not PRESENT (log entry 3). -/
def Obligations.ReportBoundMakesLost : Prop :=
  ∀ (s : State) (c : Crane), s.running = true →
    ((s.craneRec c).presence = .present → (∃ t, (s.craneRec c).bound = some t ∧ t ≤ s.clock.mono) →
      ∃ u : State, exec (.reportBoundExpiry c) s = .next u ∧
        u.craneRec c = { s.craneRec c with presence := .lost, lastReport := none, bound := none } ∧
        u.svc c = { s.svc c with lost := true } ∧
        u.waits = s.waits.filter (fun w => decide (w.crane ≠ c)) ∧
        (∀ d, d ≠ c → u.craneRec d = s.craneRec d ∧ u.svc d = s.svc d ∧ u.windRec d = s.windRec d) ∧
        u.windRec c = (s.windRec c).setUnknown ∧ u.cells = s.cells ∧ c ∈ (u.alert .craneLost).cranes ∧
        (∀ b, u.runningLift c = some b → ∃ rs, b.state = .suspended rs ∧ SuspReason.lost ∈ rs)) ∧
    ((s.craneRec c).presence ≠ .present ∨ (∀ t, (s.craneRec c).bound = some t → s.clock.mono < t) →
      exec (.reportBoundExpiry c) s = .next s)

/-! ### The cell table and the wait list -/

/-- The grant test passes exactly when the cell is not HELD, not blocked and not reserved-joined, the crane has fewer than
four HELD cells, and the restriction in force is not BARRED, and not NO_LOAD unless the last reported load is 0. A cell is
blocked for its crane exactly when a conflict pair joins it to a cell of another crane in a state of the table of R54: under
STRUCT any occupied state, under HOOK HELD, CLEARING or SEIZED. A cell is reserved-joined for its crane exactly when a
conflict pair of either kind joins it to a path cell of an ACTIVE or SUSPENDED booking of another crane. The restriction in
force on a cell at a site minute: its class while it has no schedule or its schedule is defined and matches. A schedule
matches on its weekdays, within its times, which run past midnight when the start is after the end and all day when equal.
What the cell tests read: the cells a cell is paired with across cranes, in pair order, each with the kind of its pair; the
restriction in force at the site minute; whether a partner blocks or lies on a running path; and conditions (d) and (e) of
the grant test. -/
def Obligations.GrantTestConditions : Prop :=
  (∀ (s : State) (q : CellId),
      s.grantTest q = true ↔
        (s.cell q).state ≠ .held ∧ s.blocked q = false ∧ s.reserved q = false ∧
          (allSectors.filter (fun x => decide ((s.cell ⟨q.crane, x⟩).state = .held))).length < 4 ∧
          s.restriction q ≠ .barred ∧
          (s.restriction q = .noLoad → ∃ k, (s.craneRec q.crane).contents = some k ∧ k.load = some 0)) ∧
  (∀ (s : State) (q : CellId),
      s.blocked q = true ↔
        ∃ p ∈ s.plan.committed.pairs, ∃ o : CellId,
          (p.lo = q ∧ p.hi = o ∨ p.hi = q ∧ p.lo = o) ∧ o.crane ≠ q.crane ∧
            (p.kind = .struct → (s.cell o).state ≠ .free) ∧
            (p.kind = .hook → (s.cell o).state = .held ∨ (s.cell o).state = .clearing ∨ (s.cell o).state = .seized)) ∧
  (∀ (s : State) (q : CellId),
      s.reserved q = true ↔
        ∃ p ∈ s.plan.committed.pairs, ∃ o : CellId, ∃ b ∈ s.bookings,
          (p.lo = q ∧ p.hi = o ∨ p.hi = q ∧ p.lo = o) ∧ o.crane ≠ q.crane ∧ b.crane = o.crane ∧
            (b.state = .active ∨ ∃ rs, b.state = .suspended rs) ∧ o.sector ∈ b.data.path) ∧
  (∀ (p : Plan) (q : CellId) (t : Nat),
      let r := tget (tget p.cells q.crane) q.sector
      let d := t % 1440
      let within := fun (k : Schedule) =>
        (∃ w ∈ k.days, w.val = t / 1440 % 7) ∧
          (k.start < k.stop ∧ k.start ≤ d ∧ d < k.stop ∨ k.stop < k.start ∧ (k.start ≤ d ∨ d < k.stop) ∨
            k.start = k.stop)
      (r.schedule = none → p.restrictionAt q t = r.cls) ∧
      (∀ x, r.schedule = some x →
        (tget p.schedules x = none → p.restrictionAt q t = .unrestricted) ∧
        (∀ k, tget p.schedules x = some k →
          (within k → p.restrictionAt q t = r.cls) ∧ (¬ within k → p.restrictionAt q t = .unrestricted)))) ∧
  ((∀ (p : Plan) (q : CellId),
      (∀ k o, (k, o) ∈ p.partners q ↔
        ∃ r ∈ p.pairs, r.kind = k ∧ (r.lo = q ∧ r.hi = o ∨ r.hi = q ∧ r.lo = o) ∧ o.crane ≠ q.crane) ∧
      ∀ a b, p.pairs = a ++ b →
        p.partners q = ({ p with pairs := a } : Plan).partners q ++ ({ p with pairs := b } : Plan).partners q) ∧
    ∀ (s : State) (q : CellId),
      s.partners q = s.plan.committed.partners q ∧
      s.restriction q = s.plan.committed.restrictionAt q (s.clock.site / 60) ∧
      (s.blocks (.struct, q) = true ↔ (s.cell q).state ≠ .free) ∧
      (s.blocks (.hook, q) = true ↔
        (s.cell q).state = .held ∨ (s.cell q).state = .clearing ∨ (s.cell q).state = .seized) ∧
      (s.onRunningPath q = true ↔
        ∃ b ∈ s.bookings, b.crane = q.crane ∧ (b.state = .active ∨ ∃ rs, b.state = .suspended rs) ∧
          q.sector ∈ b.data.path) ∧
      (∀ x st, x ∈ s.sectorsIn q.crane st ↔ (s.cell ⟨q.crane, x⟩).state = st) ∧
      s.heldCount q.crane = (allSectors.filter (fun x => decide ((s.cell ⟨q.crane, x⟩).state = .held))).length ∧
      (s.underLimit q.crane = true ↔ s.heldCount q.crane < 4) ∧
      (s.unrestricted q = true ↔
        s.restriction q = .unrestricted ∨ s.restriction q = .noLoad ∧ s.loadIsZero q.crane = true) ∧
      (s.loadIsZero q.crane = true ↔ ∃ k, (s.craneRec q.crane).contents = some k ∧ k.load = some 0))

/-- A change of a cell writes the state, the site time, the origin its rule gives, absent for FREE, and a clearing end for
CLEARING alone, the dead time from now; a change to the state the cell has is none. Several changes are made one after the
other, and the follow-ups once after them, for the cells whose state changed. A cell that begins clearing keeps its origin
and becomes CLEARING, or FREE at once while the dead time is 0 or the clearing test fails: a STRUCT pair to a granted cell,
a HOOK pair to a HELD or CLEARING cell, or reserved-joined. The follow-ups of a change, in order: each cell that left HELD
leaves its crane's restricted set, RESTRICTED being withdrawn when that empties the set; OFF_PATH is re-evaluated for the
crane of each changed cell; a cell that left SEIZED ends its seizure; the vane re-check, if a cell left HELD, CLEARING,
SEIZED or PARKED for FREE or VANE; arbitration, if a cell became FREE or left SEIZED. The vane re-check takes the cranes in
ascending number and releases each that is in VANE_WAIT and permitted; a release within it re-checks again, to a depth of
eight (log entry 15). -/
def Obligations.CellChangeWritten : Prop :=
  ((∀ (s : State) (rs : List CellReq),
      s.convert rs = (rs.foldl State.changeCell s).follow (s.changesOf rs) ∧
      ∀ d, d ∈ s.changesOf rs ↔
        d.old = (s.cell d.cell).state ∧ d.old ≠ d.new ∧ ∃ r ∈ rs, r.cell = d.cell ∧ r.goal = d.new) ∧
    ∀ (s : State) (r : CellReq),
      ((s.cell r.cell).state = r.goal → s.changeCell r = s) ∧
      ((s.cell r.cell).state ≠ r.goal →
        let kept := match r.origin with
          | .keep => (s.cell r.cell).origin
          | .set o => some o
        (s.changeCell r).cell r.cell =
            ⟨r.goal, s.clock.site, if r.goal = .free then none else kept,
              if r.goal = .clearing then some (s.clock.mono + s.plan.committed.site.dead * 1000) else none⟩ ∧
          (∀ q, q ≠ r.cell → (s.changeCell r).cell q = s.cell q) ∧ Touches [.cells] s (s.changeCell r))) ∧
  (∀ (s : State) (q : CellId),
      let stands := fun (p : PairKind × CellId) =>
        match p.1, (s.cell p.2).state with
        | .struct, st => st = .held ∨ st = .clearing ∨ st = .vane ∨ st = .parked
        | .hook, st => st = .held ∨ st = .clearing
      let passes := (∀ p ∈ s.partners q, ¬ stands p) ∧ s.reserved q = false
      (passes → 0 < s.plan.committed.site.dead → s.beginClearing q = ⟨q, .clearing, .keep⟩) ∧
      (¬ passes ∨ s.plan.committed.site.dead = 0 → s.beginClearing q = ⟨q, .free, .keep⟩)) ∧
  ((∀ (s : State) (chg : List Change),
      let a := (chg.filter (fun d => decide (d.old = .held))).foldl (fun u d => u.dropRestricted d.cell) s
      let b := chg.foldl (fun u d => u.reviewOffPath d.cell.crane) a
      let e := (chg.filter (fun d => decide (d.old = .seized))).foldl (fun u d => u.seizureEnded d.cell) b
      let wakes := ∃ d ∈ chg, (d.old = .held ∨ d.old = .clearing ∨ d.old = .seized ∨ d.old = .parked) ∧
        (d.new = .free ∨ d.new = .vane)
      let walks := ∃ d ∈ chg, d.new = .free ∨ d.old = .seized
      s.ownAndSeized chg = e ∧
      ∀ recheck : State → State,
        (wakes → followThree recheck chg s = recheck e) ∧ (¬ wakes → followThree recheck chg s = e) ∧
        (walks → followWith recheck chg s = arbitrateWith recheck (followThree recheck chg s)) ∧
        (¬ walks → followWith recheck chg s = followThree recheck chg s)) ∧
    (∀ (s : State) (chg : List Change), s.follow chg = followWith State.recheckVane chg s) ∧
    (∀ (s : State) (q : CellId), ∃ left, List.Sublist left (tget s.restricted q.crane) ∧
      (∀ x, x ∈ left ↔ x ∈ tget s.restricted q.crane ∧ x ≠ q.sector) ∧
      (left = [] → tget s.restricted q.crane ≠ [] →
        s.dropRestricted q = (s.setRestricted q.crane left).withdraw .restricted q.crane) ∧
      (left ≠ [] ∨ tget s.restricted q.crane = [] → s.dropRestricted q = s.setRestricted q.crane left)) ∧
    (∀ s : State, s.recheckVane = recheckN 8 s ∧ recheckN 0 s = s ∧
      ∀ n, recheckN (n + 1) s = allCranes.foldl (fun u c =>
        if u.inState c .vaneWait = true ∧ u.vanePermitted c = true then releaseVaneWith (recheckN n) u c else u) s))

/-- ENTER for a cell that is not HELD, with no entry of the crane for it and with room in the limits: a CLEARING cell is
taken back; a FREE or SEIZED one is granted, or the request waits, or is FULL. Off an ACTIVE path under LOOSE discipline
OFF_PATH is raised as well. -/
def Obligations.EnterGrantsOrWaits : Prop :=
  ∀ (s : State) (c : Crane) (x : Sector), LinkReady s c →
    let q : CellId := ⟨c, x⟩
    let i := Instr.enter c x.val
    let v := (Requester.crane c).asked i s
    let mark := fun (t : State) => if s.offActivePath c x = true then t.raiseFor .offPath c else t
    let answered := fun (t : State) (k : Code) => exec i s = .next ((Requester.crane c).replied i ⟨k, [f1 x.val]⟩ t)
    let held := fun (o : Option Origin) => v.setCell q ⟨.held, s.clock.site, o, none⟩
    s.enterCheck c = none → (s.cell q).state ≠ .held → s.waitFor c x = none →
    (s.offActivePath c x = true → s.plan.committed.site.discipline = .loose) →
    s.underLimit c = true → s.unrestricted q = true →
    ((s.cell q).state = .clearing → answered (mark ((held (some .enter)).reviewOffPath c)) .ok) ∧
    (s.blocked q = false → s.reserved q = false →
      ((s.cell q).state = .free → answered (mark ((held (some .enter)).reviewOffPath c)) .ok) ∧
      ((s.cell q).state = .seized →
        answered (mark ((held (s.cell q).origin).follow [⟨q, .seized, .held⟩])) .ok)) ∧
    ((s.cell q).state = .free ∨ (s.cell q).state = .seized → s.blocked q = true ∨ s.reserved q = true →
      (s.waits.length < 16 → (s.waitingSectors c).length < 2 →
        answered (mark ((v.withWaits (s.waits ++
          [⟨c, x, s.clock.mono, s.clock.mono + s.plan.committed.site.wait * 1000⟩])).reviewOffPath c)) .queued) ∧
      (16 ≤ s.waits.length ∨ 2 ≤ (s.waitingSectors c).length → answered v .full))

/-- ENTER's answers without effect, in their order: BAD_VALUE, SITE_CLOSED, STOPPED, BAD_STATE; OK for a HELD cell; QUEUED
for a sector waited for; OFF_PATH under STRICT discipline; LIMIT; RESTRICTED. When the path check applies: the crane's
running lift is ACTIVE and the sector is not on its path. The wait entry of a crane and a sector is the first of the list
for them. -/
def Obligations.EnterRefusals : Prop :=
  (∀ (s : State) (c : Crane), LinkReady s c →
      let only := fun (n : Nat) (k : Code) =>
        exec (.enter c n) s = .next ((Requester.crane c).replied (.enter c n) ⟨k, [f1 n]⟩
          ((Requester.crane c).asked (.enter c n) s))
      (∀ n, 16 ≤ n → only n .badValue) ∧
      ∀ x : Sector,
        let open_ := s.site = .opened ∨ s.site = .storm ∨ s.inState c .securing = true
        let passed := s.enterCheck c = none
        let off := s.offActivePath c x = true
        let fresh := passed ∧ (s.cell ⟨c, x⟩).state ≠ .held ∧ s.waitFor c x = none
        (¬ open_ → only x.val .siteClosed) ∧
        (open_ → s.stopSet c ≠ [] → only x.val .stopped) ∧
        (open_ → s.stopSet c = [] → s.inState c .outOfService = true ∨ s.inState c .vaneWait = true →
          only x.val .badState) ∧
        (open_ → s.stopSet c = [] → s.inState c .outOfService = false → s.inState c .vaneWait = false → passed) ∧
        (passed → (s.cell ⟨c, x⟩).state = .held → only x.val .ok) ∧
        (passed → (s.cell ⟨c, x⟩).state ≠ .held → s.waitFor c x ≠ none → only x.val .queued) ∧
        (fresh → off → s.plan.committed.site.discipline = .strict → only x.val .offPath) ∧
        (fresh → (off → s.plan.committed.site.discipline = .loose) →
          (s.underLimit c = false → only x.val .limit) ∧
          (s.underLimit c = true → s.unrestricted ⟨c, x⟩ = false → only x.val .restricted))) ∧
  (∀ (s : State) (c : Crane) (x : Sector),
      (s.offActivePath c x = true ↔ ∃ b, s.runningLift c = some b ∧ b.state = .active ∧ x ∉ b.data.path) ∧
      (s.waitFor c x = none ↔ ∀ w ∈ s.waits, ¬ (w.crane = c ∧ w.sector = x)) ∧
      (∀ before w after, s.waits = before ++ w :: after → w.crane = c → w.sector = x →
        (∀ u ∈ before, ¬ (u.crane = c ∧ u.sector = x)) → s.waitFor c x = some w) ∧
      s.waitingSectors c = (s.waits.filter (fun w => decide (w.crane = c))).map Wait.sector)

/-- RELEASE: a wait entry is withdrawn without a notice; a HELD cell outside the occupied set begins clearing, with its
follow-ups; an occupied HELD cell and a SEIZED one are IN_USE, any other state BAD_STATE, and a sector above 15 BAD_VALUE. -/
def Obligations.ReleaseCells : Prop :=
  ∀ (s : State) (c : Crane), LinkReady s c →
    let v := fun (n : Nat) => (Requester.crane c).asked (.release c n) s
    let answered := fun (n : Nat) (t : State) (k : Code) =>
      exec (.release c n) s = .next ((Requester.crane c).replied (.release c n) ⟨k, [f1 n]⟩ t)
    (∀ n, 16 ≤ n → answered n (v n) .badValue) ∧
    ∀ x : Sector,
      let n := x.val
      let st := (s.cell ⟨c, x⟩).state
      (s.waitFor c x ≠ none →
        answered n (((v n).withWaits (s.waits.filter (fun w => !(decide (w.crane = c) && decide (w.sector = x))))).reviewOffPath
          c) .ok) ∧
      (s.waitFor c x = none →
        (st = .held → s.occupies c x = true → answered n (v n) .inUse) ∧
        (st = .held → s.occupies c x = false →
          answered n (((v n).changeCell (s.beginClearing ⟨c, x⟩)).follow
            [⟨⟨c, x⟩, .held, (s.beginClearing ⟨c, x⟩).goal⟩]) .ok) ∧
        (st = .seized → answered n (v n) .inUse) ∧
        (st = .free ∨ st = .clearing ∨ st = .vane ∨ st = .parked → answered n (v n) .badState))

/-- The deadlines of the cells and of the entries: a clearing end that is reached frees the cell and makes the follow-ups; a
wait deadline that is reached removes the entry with DENY TIMEOUT and re-evaluates OFF_PATH; neither happens before its time
(log entry 3). Arbitration is one walk over the entries, oldest first, and one pass over the cranes, in ascending number,
that retries each withheld one; a pass that freed a cell is followed by another walk and pass, in all at most two more than
the list has entries (log entry 15). In the walk an entry that fails the grant test stays, and one that passes makes its
cell HELD, is removed and sends GRANT, with the origin WAIT unless the cell was SEIZED. A retry is the resume conversion
with the first three follow-ups, without a walk of its own (log entry 11); the pass has freed a cell when a conversion made
one FREE. -/
def Obligations.CellAndWaitDeadlines : Prop :=
  (∀ (s : State) (c : Crane) (x : Sector), s.running = true →
      let q : CellId := ⟨c, x⟩
      ((s.cell q).state = .clearing →
        ∀ e, (s.cell q).clearEnd = some e →
          (e ≤ s.clock.mono →
            exec (.clearingExpiry c x) s =
              .next ((s.setCell q ⟨.free, s.clock.site, none, none⟩).follow [⟨q, .clearing, .free⟩])) ∧
          (s.clock.mono < e → exec (.clearingExpiry c x) s = .next s)) ∧
      ((s.cell q).state ≠ .clearing → exec (.clearingExpiry c x) s = .next s) ∧
      (∀ w, s.waitFor c x = some w →
        (w.deadline ≤ s.clock.mono →
          exec (.waitDeadline c x) s =
            .next (((s.withWaits (s.waits.filter (fun u => !(decide (u.crane = c) && decide (u.sector = x))))).notify c
              (.deny x .timeout)).reviewOffPath c)) ∧
        (s.clock.mono < w.deadline → exec (.waitDeadline c x) s = .next s)) ∧
      (s.waitFor c x = none → exec (.waitDeadline c x) s = .next s)) ∧
  ((∀ (s : State) (recheck : State → State),
      let pass := retryPass recheck (s.waits.foldl State.tryGrant s)
      arbitrateWith recheck s = arbitrateLoop (retryPass recheck) (s.waits.length + 2) s ∧
      arbitrateLoop (retryPass recheck) 0 s = s ∧
      (∀ n, arbitrateLoop (retryPass recheck) (n + 1) s =
        if pass.2 = true then arbitrateLoop (retryPass recheck) n pass.1 else pass.1) ∧
      retryPass recheck s = allCranes.foldl (retryOne recheck) (s, false) ∧
      (∀ (freed : Bool) (c : Crane),
        let chg := s.changesOf (s.resumeReqs c)
        let r := s.svc c
        (¬ (r.lost = false ∧ r.state = .outOfService ∧ r.withheld = true) → retryOne recheck (s, freed) c = (s, freed)) ∧
        (r.lost = false → r.state = .outOfService → r.withheld = true →
          retryOne recheck (s, freed) c =
            (followThree recheck chg (s.resumeChange c), freed || chg.any (fun d => decide (d.new = .free)))))) ∧
    ∀ s : State, s.arbitrate = arbitrateWith State.recheckVane s ∧
      (∀ c, s.isWithheld c = true ↔
        (s.svc c).lost = false ∧ (s.svc c).state = .outOfService ∧ (s.svc c).withheld = true) ∧
      ((∀ c, s.isWithheld c = false) → s.arbitrate = s.waits.foldl State.tryGrant s) ∧
      ∀ w : Wait,
        let q : CellId := ⟨w.crane, w.sector⟩
        let o := if (s.cell q).state = .seized then (s.cell q).origin else some .wait
        (s.grantTest q = false → s.tryGrant w = s) ∧
        (s.grantTest q = true →
          s.tryGrant w =
            ((((s.setCell q ⟨.held, s.clock.site, o, none⟩).withWaits
              (s.waits.filter (fun u => !(decide (u.crane = w.crane) && decide (u.sector = w.sector))))).notify w.crane
                (.grant w.sector)).ownAndSeized [⟨q, (s.cell q).state, .held⟩])))

/-- FORCE_RELEASE for a crane that is not PRESENT: each named HELD, SEIZED or PARKED cell begins clearing, and every VANE
cell when one is named, all together; a LOST crane that remembers VANE_RELEASE returns to VANE_WAIT. The answer gives the
number of cells cleared, in one byte (the model's choice: log entry 8), and the states of all sixteen, S0 first (the model's
choice: log entry 31). BAD_VALUE and NOT_PERMITTED change nothing. -/
def Obligations.ForceReleaseClearsCells : Prop :=
  ∀ (s : State) (n m : Nat), s.running = true →
    let i := Instr.forceRelease n m
    let v := s.asked i
    (8 ≤ n ∨ m % 65536 = 0 → exec i s = .next (v.replied i (answer .badValue))) ∧
    ∀ c : Crane, c.val = n → m % 65536 ≠ 0 →
      ((s.craneRec c).presence = .present → exec i s = .next (v.replied i (answer .notPermitted))) ∧
      ((s.craneRec c).presence ≠ .present →
        let vane := ∃ x, m.testBit x.val = true ∧ (s.cell ⟨c, x⟩).state = .vane
        let r := s.svc c
        ∃ (xs : List Sector) (u : State), xs.Nodup ∧
          (∀ x, x ∈ xs ↔
            m.testBit x.val = true ∧ ((s.cell ⟨c, x⟩).state = .held ∨ (s.cell ⟨c, x⟩).state = .seized ∨
              (s.cell ⟨c, x⟩).state = .parked) ∨ (s.cell ⟨c, x⟩).state = .vane ∧ vane) ∧
          (vane ∧ r.lost = true ∧ r.state = .outOfService ∧ r.order = .vaneRelease →
            u = v.setSvc c
              { r with
                state := .vaneWait
                order := .secure
                timer := some (s.clock.mono + s.plan.committed.site.securing * 60000) }) ∧
          (¬ (vane ∧ r.lost = true ∧ r.state = .outOfService ∧ r.order = .vaneRelease) → u = v) ∧
          let t := u.convert (xs.map (fun x => s.beginClearing ⟨c, x⟩))
          exec i s = .next (t.replied i
            (okWith (f1 xs.length :: allSectors.map (fun x => f1 (t.cell ⟨c, x⟩).state.code)))))

/-! ### Conformance, stops and alerts -/

/-- The occupied set of an angle and a margin of at most 128: its sectors are those of a − m and a + m modulo 4096, equal or
adjacent, across north S15 and S0; a cell is occupied when its sector is one of the two, and by no absent set. Its sectors
are read ascending. The position stage: the occupied set is formed afresh; in SETUP nothing else is done, and in the other
site states each occupied sector is checked, ascending, and then each sector left. A SEIZED cell no longer occupied begins
clearing, with its follow-ups. A cell that becomes HELD at the check takes the crane's wait entry for it out of the list
with GRANT, before the follow-ups. The check of one occupied sector by the state of its cell: a granted cell conforms; a
SEIZED one is held when the grant test passes; a CLEARING one is held again under the limit of four, and seized above it; a
FREE one is seized. What a seizure raises: INTRUSION for its crane; with conflict partners, the seizure is entered in the
register with them, and CONFLICT is raised for the crane and then for each partner, ascending. That the register is a list
and the new entry stands in front of it is the model's choice (log entry 31). What the end of a seizure does: the entry of
its cell leaves the register; CONFLICT is withdrawn for each crane of the entry that no entry left names, as its own or as a
partner; and INTRUSION is withdrawn when the crane has no SEIZED cell. -/
def Obligations.PositionChecked : Prop :=
  (∀ (a m : Nat), m ≤ 128 →
      let o := occupiedAt (a % 4096) m
      o.low.val = (a % 4096 + 4096 - m) % 4096 / 256 ∧ o.high.val = (a % 4096 + m) % 4096 / 256 ∧
        (o.high = o.low ∨ o.high.val = (o.low.val + 1) % 16) ∧
        (∀ x, occupies (some o) x = true ↔ x = o.low ∨ x = o.high) ∧ (∀ x, occupies none x = false) ∧
        ∀ k, occupiedSectors k = allSectors.filter (fun x => occupies k x)) ∧
  ((∀ (s : State) (c : Crane) (angle : Nat),
      let o := occupiedAt angle (s.entry c).margin
      let v := s.setOccupied c (some o)
      let pass1 := (allSectors.filter (fun x => decide (x = o.low ∨ x = o.high))).foldl (fun u x => u.checkOccupied ⟨c, x⟩) v
      (s.site = .setup → s.positionStage c angle = v) ∧
      (s.site ≠ .setup → s.positionStage c angle = allSectors.foldl (fun u x => u.checkLeft ⟨c, x⟩) pass1)) ∧
    ∀ (s : State) (q : CellId),
      let st := (s.cell q).state
      (st = .seized → s.occupies q.crane q.sector = false →
        s.checkLeft q = (s.changeCell (s.beginClearing q)).follow [⟨q, .seized, (s.beginClearing q).goal⟩]) ∧
      (st ≠ .seized ∨ s.occupies q.crane q.sector = true → s.checkLeft q = s) ∧
      ∀ o, st ≠ .held →
        let t := s.changeCell ⟨q, .held, o⟩
        (s.waitFor q.crane q.sector = none → s.holdCell q o = t.follow [⟨q, st, .held⟩]) ∧
        (s.waitFor q.crane q.sector ≠ none →
          s.holdCell q o = ((t.withWaits (s.waits.filter (fun w =>
            !(decide (w.crane = q.crane) && decide (w.sector = q.sector))))).notify q.crane (.grant q.sector)).follow
              [⟨q, st, .held⟩])) ∧
  (∀ (s : State) (q : CellId),
      let st := (s.cell q).state
      let seized := (s.changeCell ⟨q, .seized, .set .seize⟩).follow [⟨q, st, .seized⟩]
      (st = .held ∨ st = .vane ∨ st = .parked → s.checkOccupied q = s) ∧
      (st = .seized → s.grantTest q = false → s.checkOccupied q = s) ∧
      (st = .seized → s.grantTest q = true → s.checkOccupied q = s.holdCell q .keep) ∧
      (st = .clearing → s.underLimit q.crane = true → s.checkOccupied q = s.holdCell q .keep) ∧
      (st = .clearing → s.underLimit q.crane = false → s.checkOccupied q = seized.intrude q) ∧
      (st = .free → s.checkOccupied q = seized.intrude q)) ∧
  (∀ (s : State) (q : CellId),
      let v := s.raiseFor .intrusion q.crane
      let isPartner := fun (d : Crane) =>
        ∃ p ∈ v.partners q, p.2.crane = d ∧ (v.blocks p = true ∨ v.onRunningPath p.2 = true)
      ((∀ d, ¬ isPartner d) → s.intrude q = v) ∧
      ((∃ d, isPartner d) →
        ∃ ds : List Crane, (∀ d, d ∈ ds ↔ isPartner d) ∧ ds.Pairwise (· < ·) ∧
          s.intrude q =
            (q.crane :: ds).foldl (fun t d => t.raiseFor .conflict d)
              (v.withRegister (⟨q, ds⟩ :: v.register.filter (fun e => decide (e.cell ≠ q)))))) ∧
  (∀ (s : State) (q : CellId),
      let v := s.withRegister (s.register.filter (fun e => decide (e.cell ≠ q)))
      let named := fun (x : Crane) => ∃ e ∈ s.register, e.cell ≠ q ∧ (e.cell.crane = x ∨ x ∈ e.partners)
      ∃ xs : List Crane,
        (∀ x, x ∈ xs ↔ (∃ e ∈ s.register, e.cell = q ∧ (e.cell.crane = x ∨ x ∈ e.partners)) ∧ ¬ named x) ∧
        (let u := xs.foldl (fun t x => t.withdraw .conflict x) v
         ((∀ x, (s.cell ⟨q.crane, x⟩).state ≠ .seized) → s.seizureEnded q = u.withdraw .intrusion q.crane) ∧
         ((∃ x, (s.cell ⟨q.crane, x⟩).state = .seized) → s.seizureEnded q = u)))

/-- A reason joins a stop set: it is in it, with the reasons before; a set that was empty has the crane's wait entries
denied with STOPPED and then STOP_ORDER added to its running lift; a set that was not hands nothing on. Wait entries are
denied: they leave the list, the others keep their order, and each, oldest first, sends DENY with the reason and has
OFF_PATH re-evaluated. OFF_PATH is withdrawn without a running lift, or when every HELD cell and wait entry is on its path. -/
def Obligations.StopReasonJoins : Prop :=
  (∀ (s : State) (c : Crane) (r : StopReason),
      let set := if r ∈ s.stopSet c then s.stopSet c
        else StopReason.all.filter (fun x => decide (x = r) || decide (x ∈ s.stopSet c))
      (s.stopSet c ≠ [] → s.addStop c r = s.setStops c set) ∧
      (s.stopSet c = [] →
        s.addStop c r = ((s.setStops c [r]).denyCrane c .stopped).addReasonTo c .stopOrder)) ∧
  (∀ (s : State) (c : Crane) (why : DenyReason),
      (∀ leaves : Wait → Bool,
        s.denyWaits leaves why =
          (s.waits.filter leaves).foldl
            (fun t w => (t.notify w.crane (.deny w.sector why)).reviewOffPath w.crane)
            (s.withWaits (s.waits.filter (fun w => decide (leaves w = false))))) ∧
        s.denyCrane c why = s.denyWaits (fun w => decide (w.crane = c)) why ∧
        (s.onPath c = true → s.reviewOffPath c = s.withdraw .offPath c) ∧ (s.onPath c = false → s.reviewOffPath c = s) ∧
        (s.onPath c = true ↔ ∀ b, s.runningLift c = some b →
          (∀ x, (s.cell ⟨c, x⟩).state = .held → x ∈ b.data.path) ∧
            ∀ w ∈ s.waits, w.crane = c → w.sector ∈ b.data.path))

/-- STOP_CRANE adds SUPERVISOR and answers the stop set; BAD_VALUE above C7 and NOT_PERMITTED for an absent crane change
nothing. CLEAR_STOP removes the named reasons that have ended, and an emptied set takes STOP_ORDER off the running lift,
whose changed at and changed by stay (the model's choice: log entry 36). When each stop reason has ended: SITE_STOP with the
line deasserted and its latch cleared; CONFLICT with no register entry of the crane; INTRUSION with no SEIZED cell;
SUPERVISOR always; the others while their condition is absent. -/
def Obligations.StopCraneAndClearStop : Prop :=
  (∀ (s : State) (n : Nat), s.running = true →
      let stop := Instr.stopCrane n
      let clear := fun m => Instr.clearStop n m
      (8 ≤ n → exec stop s = .next ((s.asked stop).replied stop (answer .badValue))) ∧
      (∀ m, 8 ≤ n ∨ m = 0 ∨ 512 ≤ m →
        exec (clear m) s = .next ((s.asked (clear m)).replied (clear m) (answer .badValue))) ∧
      (∀ c : Crane, c.val = n →
        (s.present c = false →
          exec stop s = .next ((s.asked stop).replied stop (answer .notPermitted)) ∧
          ∀ m, 0 < m → m < 512 →
            exec (clear m) s = .next ((s.asked (clear m)).replied (clear m) (answer .notPermitted))) ∧
        (s.present c = true →
          (let t := (s.asked stop).addStop c .supervisor
           exec stop s = .next (t.replied stop (okWith [fStops (t.stopSet c)])) ∧ StopReason.supervisor ∈ t.stopSet c) ∧
          ∀ m, 0 < m → m < 512 →
            let left := (s.stopSet c).filter (fun r => !(m.testBit r.bit && s.stopEnded c r))
            let t := (s.asked (clear m)).setStops c left
            (s.stopSet c ≠ [] → left = [] →
              exec (clear m) s =
                .next ((t.removeReasonFrom c .stopOrder).replied (clear m) (okWith [fStops left]))) ∧
            (s.stopSet c = [] ∨ left ≠ [] →
              exec (clear m) s = .next (t.replied (clear m) (okWith [fStops left])))))) ∧
  (∀ (s : State) (c : Crane),
      (s.stopEnded c .siteStop = true ↔ s.pins.siteStop = false ∧ (s.alert .siteStop).latch = none) ∧
      (s.stopEnded c .conflict = true ↔ ∀ e ∈ s.register, e.cell.crane ≠ c ∧ c ∉ e.partners) ∧
      (s.stopEnded c .intrusion = true ↔ ∀ x, (s.cell ⟨c, x⟩).state ≠ .seized) ∧
      s.stopEnded c .supervisor = true ∧
      (s.stopEnded c .offPath = true ↔ c ∉ (s.alert .offPath).cranes) ∧
      (s.stopEnded c .nonconform = true ↔ c ∉ (s.alert .nonconform).cranes) ∧
      (s.stopEnded c .overrun = true ↔ c ∉ (s.alert .overrun).cranes) ∧
      (s.stopEnded c .restricted = true ↔ c ∉ (s.alert .restricted).cranes) ∧
      (s.stopEnded c .reportEarly = true ↔ c ∉ (s.alert .reportEarly).cranes))

/-- A raising: the crane joins the present and involved sets, a clear latch is set at the site time and a set one keeps its
time, the stop action follows for a kind in STOP mode that hands a reason, and the lines are evaluated last, whatever the
mode. A raising for the site, of SITE_STOP, STORM or PLAN_FAULT: the present flag is set, the crane named, if any, joins the
involved set, a clear latch is set at the site time, no stop action is made, and the lines are evaluated. Its withdrawal
clears the flag alone. A withdrawal takes the crane out of the present set of its kind and changes nothing else: the latch,
the involved set, the mode, every other record and the lines stay. What raisings rest on: a crane's raising is a raising
that names it; a set gains a member; SIREN is due while a latched kind is in STOP mode. -/
def Obligations.ConditionRaised : Prop :=
  (∀ (s : State) (k : AlertKind) (c : Crane), k.siteScoped = false →
      let r := s.alert k
      let latched := s.setAlert k
        { r with
          cranes := setAdd allCranes c r.cranes
          involved := setAdd allCranes c r.involved
          latch := some (r.latch.getD s.clock.site) }
      (∀ x, k.stopReason = some x → r.mode = .stop → s.raiseFor k c = (latched.addStop c x).evaluateLines) ∧
      (k.stopReason = none ∨ r.mode ≠ .stop → s.raiseFor k c = latched.evaluateLines) ∧
      (∀ x, k.stopReason = some x ↔
        (k, x) ∈ [(.conflict, .conflict), (.intrusion, .intrusion), (.offPath, .offPath), (.nonconform, .nonconform),
          (.overrun, .overrun), (.restricted, .restricted), (.reportEarly, .reportEarly)])) ∧
  (∀ (s : State) (k : AlertKind),
      (k.siteScoped = true ↔ k = .siteStop ∨ k = .storm ∨ k = .planFault) ∧
      (k.siteScoped = true →
        let r := s.alert k
        let latched := fun (involved : List Crane) =>
          (s.setAlert k
            { r with flag := true, involved := involved, latch := some (r.latch.getD s.clock.site) }).evaluateLines
        s.raise k none = latched r.involved ∧
        (∀ c, s.raise k (some c) = latched (setAdd allCranes c r.involved)) ∧
        Touches [.alerts] s (s.withdrawSite k) ∧ (s.withdrawSite k).alert k = { r with flag := false } ∧
        (∀ j, j ≠ k → (s.withdrawSite k).alert j = s.alert j) ∧ (r.flag = false → s.withdrawSite k = s))) ∧
  (∀ (s : State) (k : AlertKind) (c : Crane),
      Touches [.alerts] s (s.withdraw k c) ∧
      (s.withdraw k c).alert k = { s.alert k with cranes := (s.alert k).cranes.filter (fun d => decide (d ≠ c)) } ∧
      (∀ j, j ≠ k → (s.withdraw k c).alert j = s.alert j) ∧ (c ∉ (s.alert k).cranes → s.withdraw k c = s)) ∧
  ((∀ (s : State) (k : AlertKind) (c : Crane), s.raiseFor k c = s.raise k (some c)) ∧
    (∀ (c : Crane) (set : List Crane),
      (∀ d, d ∈ setAdd allCranes c set ↔ d = c ∨ d ∈ set) ∧ (c ∈ set → setAdd allCranes c set = set) ∧
        (List.Sublist set allCranes → List.Sublist (setAdd allCranes c set) allCranes)) ∧
    (∀ (r : SuspReason) (set : List SuspReason),
      (∀ x, x ∈ setAdd SuspReason.all r set ↔ x = r ∨ x ∈ set) ∧ (r ∈ set → setAdd SuspReason.all r set = set) ∧
        (List.Sublist set SuspReason.all → List.Sublist (setAdd SuspReason.all r set) SuspReason.all)) ∧
    ∀ s : State, s.sirenDue = true ↔ ∃ k, (s.alert k).latch ≠ none ∧ (s.alert k).mode = .stop)

/-- The evaluation of the lines: ALERT# follows the latched kinds in WARN or STOP mode; SIREN the latched kinds in STOP
mode, asserted under STEADY, and under PULSED with a running phase left as it is or a new on phase of 1000 ms. Only the
lines change. A running siren phase that has ended turns the siren over, and the next phase of 1000 ms runs from its end;
nothing happens before (log entry 3). CLEAR_ALERTS: each named kind that is latched with its condition absent loses latch
and involved set, every other record stays, the lines are evaluated, and the kinds still latched are answered in code order
(the model's choice: log entry 31), their count in front (log entry 8); an empty or longer list, or an unknown kind, is
BAD_VALUE. -/
def Obligations.LinesEvaluated : Prop :=
  (∀ s : State,
      let t := s.evaluateLines
      let due := ∃ k, (s.alert k).latch ≠ none ∧ (s.alert k).mode = .stop
      Touches [.lines] s t ∧
      (t.lines.alert = true ↔ ∃ k, (s.alert k).latch ≠ none ∧ (s.alert k).mode ≠ .quiet) ∧
      (¬ due → t.lines.siren = false ∧ t.lines.phase = none) ∧
      (due → s.plan.committed.site.cadence = .steady → t.lines.siren = true ∧ t.lines.phase = none) ∧
      (due → s.plan.committed.site.cadence = .pulsed →
        (s.lines.phase = none → t.lines.siren = true ∧ t.lines.phase = some (s.clock.mono + 1000)) ∧
        (s.lines.phase ≠ none → t.lines.siren = s.lines.siren ∧ t.lines.phase = s.lines.phase))) ∧
  (∀ (s : State), s.running = true →
      (∀ e, s.lines.phase = some e →
        (e ≤ s.clock.mono →
          exec .sirenPulsePhase s =
            .next (s.withLines ⟨s.lines.alert, !s.lines.siren, some (e + 1000)⟩)) ∧
        (s.clock.mono < e → exec .sirenPulsePhase s = .next s)) ∧
      (s.lines.phase = none → exec .sirenPulsePhase s = .next s)) ∧
  (∀ (s : State) (ns : List Nat), s.running = true →
      let i := Instr.clearAlerts ns
      let v := s.asked i
      (ns.length = 0 ∨ 16 < ns.length ∨ (∃ n ∈ ns, 16 ≤ n) → exec i s = .next (v.replied i (answer .badValue))) ∧
      (1 ≤ ns.length → ns.length ≤ 16 → (∀ n ∈ ns, n < 16) →
        ∃ u : State, Touches [.alerts] v u ∧
          (∀ k : AlertKind,
            (k.code.val ∈ ns → (s.alert k).flag = false → (s.alert k).cranes = [] → (s.alert k).latch ≠ none →
              u.alert k = { s.alert k with latch := none, involved := [] }) ∧
            (k.code.val ∉ ns ∨ (s.alert k).flag = true ∨ (s.alert k).cranes ≠ [] ∨ (s.alert k).latch = none →
              u.alert k = s.alert k)) ∧
          let still := AlertKind.all.filter (fun k => (u.alert k).latch.isSome)
          exec i s = .next (u.evaluateLines.replied i (okWith (f1 still.length :: still.map (fun k => f1 k.code.val))))))

/-! ### Wind -/

/-- A sample on a record: heard is set; a reading above 600 counts as 600; on an unknown wind it is a fresh start, from that
one sample; "no reading" sets unknown at a count of 3, which raises CALM and CAUTION to HOLD and stops the dwell, and
changes nothing else. The wind stage, in order: the sample on the crane's wind record, with the no-reading count delivered
with it; the wind conditions brought into step; the report to the Service State Controller, when the state has become STORM;
and the verdict on the running lift. The state and the dwell after a reading on a known wind: a higher classification is
taken at once and ends the dwell; otherwise the state is kept, and the dwell is kept, started or stopped as the step-down
condition holds or fails. The classification of a gust and a mean against the wind limits, and the condition of Table 7-1
under which a dwell runs. A reading on a known wind: the window keeps the last three samples and the gust is their mean
rounded half up; the accumulator gives up its rounded 512th part for the sample, and stays at or below 307 200 when it was.
The gust of a record is that of its window, 0 while it is empty; a wind that becomes unknown keeps all but its state, which
HOLD replaces below HOLD, and its dwell; a dwell is started at its step of Table 7-1, and ends its time later. -/
def Obligations.WindSampleTaken : Prop :=
  (∀ (r : WindRec) (e : CraneEntry) (now n w : Nat),
      let v := min w 600
      let heard := { r with heard := true }
      (r.unknown = true →
        r.sample e now (some w) n = ⟨true, false, classify e v v, [v], 512 * v, none⟩ ∧
          r.sample e now none n = heard) ∧
      (r.unknown = false →
        r.sample e now (some w) n = heard.takeReading e now v ∧
        (n < 3 → r.sample e now none n = heard) ∧
        (3 ≤ n → r.sample e now none n =
          ⟨true, true, if r.state = .storm then .storm else .hold, r.window, r.acc, none⟩))) ∧
  (∀ (s : State) (c : Crane) (wind : Option Nat),
      let new := (s.windRec c).sample (s.entry c) s.clock.mono wind (s.craneRec c).noReading
      let v := (s.setWind c new).windConditions c
      let stormy := new.state = .storm ∧ (s.windRec c).state ≠ .storm
      ∃ t : State, (stormy → t = v.reportStorm c) ∧ (¬ stormy → t = v) ∧
        (t.runningLift c = none → s.windStage c wind = t) ∧
        (∀ b, t.runningLift c = some b →
          s.windStage c wind = t.actOnVerdict b (new.verdict (s.entry c) b.data.cls))) ∧
  (∀ (r : WindRec) (e : CraneEntry) (now w : Nat),
      let t := r.takeReading e now w
      let cls := classify e t.gust t.mean
      let step := fun (k : DwellStep) => if r.dwell = none then some ⟨k, now⟩ else r.dwell
      t.window = pushSample r.window w ∧ t.acc = accumulate r.acc w ∧ t.heard = r.heard ∧ t.unknown = r.unknown ∧
      (r.state.code < cls.code → t.state = cls ∧ t.dwell = none) ∧
      (cls.code ≤ r.state.code → t.state = r.state ∧
        (stepDown e r.state t.gust t.mean = false → t.dwell = none) ∧
        (stepDown e r.state t.gust t.mean = true →
          (r.state = .storm → t.dwell = step .stormToHold) ∧ (r.state = .hold → t.dwell = step .holdToCaution) ∧
          (r.state = .caution → t.dwell = step .cautionToCalm)))) ∧
  (∀ (e : CraneEntry) (g m : Nat),
      let cw := e.lw * 80 / 100
      (classify e g m = .storm ↔ e.sw ≤ g ∨ e.mw ≤ m) ∧
      (classify e g m = .hold ↔ ¬ (e.sw ≤ g ∨ e.mw ≤ m) ∧ e.lw ≤ g) ∧
      (classify e g m = .caution ↔ ¬ (e.sw ≤ g ∨ e.mw ≤ m) ∧ g < e.lw ∧ cw ≤ g) ∧
      (classify e g m = .calm ↔ ¬ (e.sw ≤ g ∨ e.mw ≤ m) ∧ g < e.lw ∧ g < cw) ∧
      (stepDown e .storm g m = true ↔ g + e.hw < e.sw ∧ m + e.hw < e.mw) ∧
      (stepDown e .hold g m = true ↔ g + e.hw < e.lw) ∧ (stepDown e .caution g m = true ↔ g + e.hw < cw) ∧
      stepDown e .calm g m = false) ∧
  (∀ (r : WindRec) (w : Nat), w ≤ 600 → r.window.length ≤ 3 →
      let l := pushSample r.window w
      (r.window.length < 3 → l = r.window ++ [w]) ∧ (∀ x y z, r.window = [x, y, z] → l = [y, z, w]) ∧
      (∀ x, gustOf [x] = x) ∧ (∀ x y, gustOf [x, y] = (x + y + 1) / 2) ∧
      (∀ x y z, gustOf [x, y, z] = (x + y + z + 1) / 3) ∧
      accumulate r.acc w = r.acc - (r.acc + 256) / 512 + w ∧ r.mean = (r.acc + 256) / 512 ∧
      (r.acc ≤ 307200 → accumulate r.acc w ≤ 307200)) ∧
  ((∀ r : WindRec, r.gust = gustOf r.window) ∧ gustOf [] = 0 ∧
    (∀ r : WindRec, (r.unknown = true → r.setUnknown = r) ∧
      (r.unknown = false → r.setUnknown =
        ⟨r.heard, true, if r.state = .storm then .storm else .hold, r.window, r.acc, none⟩)) ∧
    ∀ now : Nat,
      startDwell .storm now = some ⟨.stormToHold, now⟩ ∧ startDwell .hold now = some ⟨.holdToCaution, now⟩ ∧
      startDwell .caution now = some ⟨.cautionToCalm, now⟩ ∧ startDwell .calm now = none ∧
      Dwell.ends ⟨.stormToHold, now⟩ = now + 600000 ∧ Dwell.ends ⟨.holdToCaution, now⟩ = now + 120000 ∧
      Dwell.ends ⟨.cautionToCalm, now⟩ = now + 60000)

/-- The lift verdict: OVER_LIMIT on an unknown wind, in HOLD or STORM, or with the gust at or above the class limit; else
CLEAR below the release threshold, and STEADY between; the class limit is the percentage of the in-service limit. What a
verdict does to a running booking: OVER_LIMIT suspends an ACTIVE one with WIND and a notice, or adds WIND; CLEAR takes WIND
off a SUSPENDED one, with RESUMABLE when that leaves no reason; STEADY, and CLEAR without WIND, change nothing. The lift
stage: a report with a load at or below the booked mass plus the tolerance, and a radius within the booked reach, conforms
and withdraws NONCONFORM; any other is kept as NONCONFORMS, raises it and adds the reason to the running lift. A reason,
whichever it is, joins a running booking: an ACTIVE one is SUSPENDED with it alone, with a SUSPENDED notice; a SUSPENDED one
has it in its set with the reasons before, without a notice, and a set that holds it stays. A removal by an event: a
SUSPENDED booking loses the reason, with a RESUMABLE notice when that leaves none; a reason not in the set changes nothing.
Changed at and changed by stay, at a removal by the model's choice (log entry 36). A reason handed to a crane goes to its
running booking, if it has one. -/
def Obligations.LiftVerdict : Prop :=
  (∀ (r : WindRec) (e : CraneEntry) (a : AreaClass),
      let limit := e.lw * (match a with | .a0 => 100 | .a1 => 85 | .a2 => 70 | .a3 => 55) / 100
      let atLimit := r.unknown = true ∨ r.state = .hold ∨ r.state = .storm ∨ limit ≤ r.gust
      e.classLimit a = limit ∧ (atLimit → r.verdict e a = .overLimit) ∧
      (¬ atLimit → r.gust + e.hw < limit → r.verdict e a = .clear) ∧
      (¬ atLimit → limit ≤ r.gust + e.hw → r.verdict e a = .steady)) ∧
  (∀ (s : State) (b : Booking),
      s.actOnVerdict b .steady = s ∧
      (b.state = .active →
        s.actOnVerdict b .overLimit = (s.putLift { b with state := .suspended [.wind] }).notifyLift b .suspended [.wind] ∧
          s.actOnVerdict b .clear = s) ∧
      (∀ rs, b.state = .suspended rs →
        s.actOnVerdict b .overLimit = s.putLift { b with state := .suspended (setAdd SuspReason.all .wind rs) } ∧
        (SuspReason.wind ∉ rs → s.actOnVerdict b .clear = s) ∧
        (SuspReason.wind ∈ rs →
          let left := rs.filter (fun r => decide (r ≠ .wind))
          let t := s.putLift { b with state := .suspended left }
          (left ≠ [] → s.actOnVerdict b .clear = t) ∧
          (left = [] → s.actOnVerdict b .clear = t.notifyLift b .resumable [])))) ∧
  (∀ (s : State) (c : Crane) (load : Option Nat) (radius : Nat),
      (s.runningLift c = none → s.liftStage c load radius = s) ∧
      (∀ b, s.runningLift c = some b →
        let passes := ∃ l, load = some l ∧ l * 100 ≤ b.data.mass * (100 + s.plan.committed.site.tolerance) ∧
          radius ≤ b.data.reach
        (passes → s.liftStage c load radius = (s.setLastConf c (some .conforms)).withdraw .nonconform c) ∧
        (¬ passes →
          s.liftStage c load radius =
            ((s.setLastConf c (some .nonconforms)).raiseFor .nonconform c).addReasonTo c .nonconform))) ∧
  (∀ (s : State) (r : SuspReason),
      (∀ b : Booking,
        (b.running = false → s.addReason b r = s) ∧
        (b.state = .active → s.addReason b r = (s.putLift { b with state := .suspended [r] }).notifyLift b .suspended [r]) ∧
        (∀ rs, b.state = .suspended rs →
          ∃ set, s.addReason b r = s.putLift { b with state := .suspended set } ∧ (∀ x, x ∈ set ↔ x = r ∨ x ∈ rs) ∧
            (r ∈ rs → set = rs)) ∧
        ((∀ rs, b.state ≠ .suspended rs) → s.removeReason b r = s) ∧
        (∀ rs, b.state = .suspended rs →
          let left := rs.filter (fun x => decide (x ≠ r))
          let t := s.putLift { b with state := .suspended left }
          (r ∉ rs → s.removeReason b r = s) ∧
          (r ∈ rs → left ≠ [] → s.removeReason b r = t) ∧
          (r ∈ rs → left = [] → s.removeReason b r = t.notifyLift b .resumable []))) ∧
      ∀ c : Crane,
        (s.runningLift c = none → s.addReasonTo c r = s ∧ s.removeReasonFrom c r = s) ∧
        (∀ b, s.runningLift c = some b → s.addReasonTo c r = s.addReason b r ∧ s.removeReasonFrom c r = s.removeReason b r))

/-- A dwell that has reached its end: the state falls by its step, the next dwell runs from now when its condition holds,
and the three wind conditions are brought into step; no lift and no service record changes. Nothing happens before, or
without a dwell (log entry 3). That the condition is tested with the limits of the committed plan as it stands, also where a
commit came since the last sample, is the model's choice (log entry 37). Bringing the wind conditions of a heard crane into
step leaves WIND_CAUTION present from CAUTION up, WIND_HOLD from HOLD up and WIND_UNKNOWN while unknown; each of the three,
in that order, is raised when it becomes present, withdrawn when it becomes absent, and left otherwise; of a crane not heard
it changes nothing. -/
def Obligations.DwellCompletes : Prop :=
  (∀ (s : State) (c : Crane), s.running = true →
      let r := s.windRec c
      let e := s.entry c
      (∀ d, r.dwell = some d →
        let time := match d.step with | .stormToHold => 600000 | .holdToCaution => 120000 | .cautionToCalm => 60000
        let st := match d.step with
          | .stormToHold => WindState.hold
          | .holdToCaution => WindState.caution
          | .cautionToCalm => WindState.calm
        let next := if stepDown e st r.gust r.mean = true then startDwell st s.clock.mono else none
        (d.start + time ≤ s.clock.mono →
          exec (.dwellCompletion c) s = .next ((s.setWind c { r with state := st, dwell := next }).windConditions c)) ∧
        (s.clock.mono < d.start + time → exec (.dwellCompletion c) s = .next s)) ∧
      (r.dwell = none → exec (.dwellCompletion c) s = .next s)) ∧
  (∀ (s : State) (c : Crane),
      let r := s.windRec c
      let t := s.windConditions c
      let keep := fun (k : AlertKind) (holds : Bool) (u : State) =>
        if holds = decide (c ∈ (u.alert k).cranes) then u else if holds = true then u.raiseFor k c else u.withdraw k c
      (r.heard = false → t = s) ∧
      (r.heard = true →
        t = keep .windUnknown r.unknown (keep .windHold (decide (r.state = .hold ∨ r.state = .storm))
          (keep .windCaution (decide (r.state ≠ .calm)) s)) ∧
        (c ∈ (t.alert .windCaution).cranes ↔ r.state ≠ .calm) ∧
        (c ∈ (t.alert .windHold).cranes ↔ r.state = .hold ∨ r.state = .storm) ∧
        (c ∈ (t.alert .windUnknown).cranes ↔ r.unknown = true) ∧
        (∀ d, d ≠ c → (d ∈ (t.alert .windHold).cranes ↔ d ∈ (s.alert .windHold).cranes)) ∧
        Touches [.alerts, .lines] s t))

/-! ### Service and site states -/

/-- Each crane at the entry to securing, by its service state or, while LOST, its remembered one: IN_SERVICE secures with a
started timer; a withheld one waits for vane release, its wait entries being denied with SERVICE (R78; log entry 25), or
parks; every other is left. The site enters STORM: the site state, the condition raised for the crane, STORM added to every
running lift, and every crane taken through the entry to securing, ascending; in the other site states the report raises the
condition alone. -/
def Obligations.SecuringEntered : Prop :=
  (∀ (s : State) (c : Crane),
      let r := s.svc c
      let ends := some (s.clock.mono + s.plan.committed.site.securing * 60000)
      let free := (s.entry c).vane = .free
      let waiting := (s.setSvc c { r with state := .vaneWait, order := .secure, timer := ends, withheld := false }).denyCrane
        c .service
      (r.state = .inService →
        s.enterSecuring c = s.setSvc c
          { r with
            state := .securing
            order := if free then .secure else .park
            timer := ends
            readiness := none }) ∧
      (r.state = .outOfService → r.withheld = true →
        (free → r.lost = true → s.enterSecuring c = waiting) ∧
        (free → r.lost = false → s.enterSecuring c = waiting.testVane c) ∧
        (¬ free → s.enterSecuring c = s.setSvc c { r with withheld := false, order := .park })) ∧
      (r.state = .outOfService ∧ r.withheld = false ∨ r.state = .securing ∨ r.state = .vaneWait ∨ r.state = .offline ∨
        r.state = .standby → s.enterSecuring c = s)) ∧
  (∀ (s : State) (c : Crane),
      (s.site = .opened →
        s.reportStorm c =
          allCranes.foldl State.enterSecuring
            (((s.withSite .storm).raiseFor .storm c).bookings.foldl (fun t b => t.addReason b .storm)
              ((s.withSite .storm).raiseFor .storm c))) ∧
      (s.site ≠ .opened → s.reportStorm c = s.raiseFor .storm c) ∧
      (s.raiseFor .storm c).site = s.site ∧ ((s.raiseFor .storm c).alert .storm).flag = true ∧
      ((s.raiseFor .storm c).sirenDue = true ↔ (s.alert .storm).mode = .stop ∨ s.sirenDue = true))

/-- The securing stage of a report: a SECURING crane is ready with load 0, secured and at rest, no running lift and, in
PARKED mode, its occupied set its park sector alone with the cell HELD; the results are kept, and a ready crane parks or
waits for vane release. A ready PARKED-mode crane goes OUT_OF_SERVICE with PARK and no timer, and its wait entries are
denied (R78, R122; log entry 25), before the follow-ups of its conversion: its HELD park cell becomes PARKED with its
origin, and each other HELD or SEIZED cell begins clearing, all together. SECURE_OVERDUE is withdrawn last. Vane release is
withheld exactly while a STRUCT pair joins a cell of the crane to another crane's HELD, CLEARING, SEIZED or PARKED cell.
Permitted, all 16 cells become VANE and the crane goes OUT_OF_SERVICE with VANE_RELEASE, without timer, before the
follow-ups (log entry 10). A securing timer that has reached its end becomes absent; in SECURING or VANE_WAIT, remembered
ones included, SECURE_OVERDUE is raised first. Nothing happens before, or without a timer (log entry 3). -/
def Obligations.SecuringTested : Prop :=
  (∀ (s : State) (c : Crane),
      let e := s.entry c
      let one := s.loadIsZero c
      let two := ∃ k, (s.craneRec c).contents = some k ∧ k.secured = true ∧ k.atRest = true
      let three := s.runningLift c = none
      let four := e.vane = .free ∨ tget s.occupied c = some ⟨e.park, e.park⟩ ∧ (s.cell ⟨c, e.park⟩).state = .held
      let r := s.readinessOf c
      let kept := s.setSvc c { s.svc c with readiness := some r }
      (r.loadLanded = true ↔ one = true) ∧ (r.securedAtRest = true ↔ two) ∧ (r.noLift = true ↔ three) ∧
        (r.inPark = true ↔ four) ∧ (r.all = true ↔ one = true ∧ two ∧ three ∧ four) ∧
      (s.inState c .securing = false → s.securingStage c = s) ∧
      (s.inState c .securing = true →
        (r.all = false → s.securingStage c = kept) ∧
        (r.all = true → e.vane = .parked → s.securingStage c = kept.parkCrane c) ∧
        (r.all = true → e.vane = .free → s.securingStage c =
          ((kept.setSvc c { kept.svc c with state := .vaneWait, order := .secure }).denyCrane c .service).testVane c))) ∧
  (∀ (s : State) (c : Crane),
      let park := (s.entry c).park
      let st := fun (x : Sector) => (s.cell ⟨c, x⟩).state
      let v := (s.setSvc c { s.svc c with state := .outOfService, order := .park, timer := none }).denyCrane c .service
      ∃ reqs : List CellReq, (reqs.map CellReq.cell).Nodup ∧
        (∀ r, r ∈ reqs ↔ st park = .held ∧ r = ⟨⟨c, park⟩, .parked, .keep⟩ ∨
          ∃ x, x ≠ park ∧ (st x = .held ∨ st x = .seized) ∧ r = s.beginClearing ⟨c, x⟩) ∧
        s.parkCrane c = ((reqs.foldl State.changeCell v).follow (v.changesOf reqs)).withdraw .secureOverdue c) ∧
  (∀ (s : State) (c : Crane),
      (s.vanePermitted c = true ↔
        ∀ x, ∀ p ∈ s.partners ⟨c, x⟩, p.1 = .struct → (s.cell p.2).state = .free ∨ (s.cell p.2).state = .vane) ∧
      (s.vanePermitted c = false → s.testVane c = s) ∧
      (s.vanePermitted c = true → s.testVane c = releaseVaneWith State.recheckVane s c) ∧
      vaneReqs c = allSectors.map (fun x => ⟨⟨c, x⟩, .vane, .keep⟩) ∧
      (∀ recheck : State → State,
        ∃ u : State, releaseVaneWith recheck s c = followWith recheck (s.changesOf (vaneReqs c)) u ∧
          (∀ x, (u.cell ⟨c, x⟩).state = .vane ∧
            ((s.cell ⟨c, x⟩).state ≠ .vane →
              u.cell ⟨c, x⟩ = ⟨.vane, s.clock.site, (s.cell ⟨c, x⟩).origin, none⟩)) ∧
          (∀ q : CellId, q.crane ≠ c → u.cell q = s.cell q) ∧
          u.svc c = { s.svc c with state := .outOfService, order := .vaneRelease, timer := none, withheld := false } ∧
          (∀ d, d ≠ c → u.svc d = s.svc d) ∧ c ∉ (u.alert .secureOverdue).cranes)) ∧
  (∀ (s : State) (c : Crane), s.running = true →
      let r := s.svc c
      (∀ e, r.timer = some e →
        (e ≤ s.clock.mono →
          (r.state = .securing ∨ r.state = .vaneWait →
            exec (.securingTimerExpiry c) s =
              .next ((s.raiseFor .secureOverdue c).setSvc c { r with timer := none })) ∧
          (r.state ≠ .securing → r.state ≠ .vaneWait →
            exec (.securingTimerExpiry c) s = .next (s.setSvc c { r with timer := none }))) ∧
        (s.clock.mono < e → exec (.securingTimerExpiry c) s = .next s)) ∧
      (r.timer = none → exec (.securingTimerExpiry c) s = .next s))

/-- OPEN_SITE from SETUP, passing its checks with every cell FREE: the occupied cells of every present crane are HELD with
origin SEED and the others FREE, every present crane is IN_SERVICE with WORK, the STORM condition is withdrawn, and the site
is OPEN. RESUME_SITE, and OPEN_SITE from CLOSED: the STORM condition is withdrawn; each crane, ascending, that is SECURING,
or VANE_WAIT without a VANE cell, returns to IN_SERVICE with WORK and no timer; then each that is OUT_OF_SERVICE or
VANE_WAIT makes its resume conversion; RESUME_SITE then takes STORM off every SUSPENDED booking, in table order, with
RESUMABLE where that leaves no reason and with changed at and changed by as they were (the model's choice: log entry 36);
the site is OPEN. No crane secures or waits for vane release then, and the answer names the cranes whose resume is withheld.
A resume conversion: VANE and PARKED cells outside the occupied set become FREE and HELD ones begin clearing; the occupied
cells that are not HELD become HELD with origin RESUME, all of them if none is blocked or reserved-joined and otherwise
none. If they may, the crane returns to IN_SERVICE with WORK; if not it stays OUT_OF_SERVICE with REMAIN_SECURED, withheld,
and its wait entries are denied with SERVICE (R78; log entry 25). The follow-ups come last (log entry 10). -/
def Obligations.SiteOpened : Prop :=
  (∀ s : State, s.running = true → s.site = .setup → s.openCheck = none → (∀ q, (s.cell q).state = .free) →
      ∃ t : State, exec .openSite s = .next (t.replied .openSite (answer .ok)) ∧ t.site = .opened ∧
        (t.alert .storm).flag = false ∧
        (∀ c x, s.present c = true → s.occupies c x = true →
          t.cell ⟨c, x⟩ = ⟨.held, s.clock.site, some .seed, none⟩) ∧
        (∀ c x, s.present c = false ∨ s.occupies c x = false → t.cell ⟨c, x⟩ = s.cell ⟨c, x⟩) ∧
        (∀ c, s.present c = true → t.svc c = { s.svc c with state := .inService, order := .work }) ∧
        (∀ c, s.present c = false → t.svc c = s.svc c)) ∧
  ((∀ (s : State) (i : Instr), s.running = true →
      (i = .resumeSite ∧ s.site = .storm ∧ s.resumeCheck = none ∨
        i = .openSite ∧ s.site = .closed ∧ s.reopenCheck = none) →
      let u := allCranes.foldl State.convertCrane (allCranes.foldl State.returnCrane ((s.asked i).withdrawSite .storm))
      let t := (if i = .resumeSite then u.bookings.foldl (fun x b => x.removeReason b .storm) u else u).withSite .opened
      exec i s = .next (t.replied i (okWith [fCranes (allCranes.filter t.isWithheld)])) ∧ t.site = .opened ∧
        (t.alert .storm).flag = false ∧
        (∀ c, t.inState c .securing = false ∧ t.inState c .vaneWait = false) ∧
        (∀ c, s.inState c .securing = true →
          t.inState c .inService = true ∧ (t.svc c).order = .work ∧ (t.svc c).timer = none) ∧
        (∀ c, t.inState c .outOfService = true → (t.svc c).withheld = true) ∧
        (i = .openSite → t.bookings = s.bookings) ∧
        (i = .resumeSite → (∀ b ∈ t.bookings, SuspReason.storm ∉ b.reasons) ∧
          ((s.bookings.map Booking.id).Nodup →
            t.bookings = s.bookings.map (fun b =>
              match b.state with
              | .suspended rs => { b with state := .suspended (rs.filter (fun r => decide (r ≠ .storm))) }
              | .pending _ | .booked | .active => b)))) ∧
    ∀ (s : State) (c : Crane),
      let returns := s.inState c .securing = true ∨ s.inState c .vaneWait = true ∧ ∀ x, (s.cell ⟨c, x⟩).state ≠ .vane
      let converts := s.inState c .outOfService = true ∨ s.inState c .vaneWait = true
      (returns → s.returnCrane c =
        (s.setSvc c { s.svc c with state := .inService, order := .work, timer := none, withheld := false }).withdraw
          .secureOverdue c) ∧
      (¬ returns → s.returnCrane c = s) ∧ (converts → s.convertCrane c = s.resumeCrane c) ∧
      (¬ converts → s.convertCrane c = s)) ∧
  (∀ (s : State) (c : Crane),
      let r := s.svc c
      let st := fun (x : Sector) => (s.cell ⟨c, x⟩).state
      let inside := fun (x : Sector) => s.occupies c x = true ∧ st x ≠ .held
      let passes := ∀ x, inside x → s.blocked ⟨c, x⟩ = false ∧ s.reserved ⟨c, x⟩ = false
      let reqs := s.resumeReqs c
      (reqs.map CellReq.cell).Nodup ∧
        (∀ q, q ∈ reqs ↔
          (∃ x, s.occupies c x = false ∧ (st x = .vane ∨ st x = .parked) ∧ q = ⟨⟨c, x⟩, .free, .keep⟩) ∨
          (∃ x, s.occupies c x = false ∧ st x = .held ∧ q = s.beginClearing ⟨c, x⟩) ∨
          (passes ∧ ∃ x, inside x ∧ q = ⟨⟨c, x⟩, .held, .set .resume⟩)) ∧
        (passes → s.resumeChange c = ((reqs.foldl State.changeCell s).setSvc c
          { r with state := .inService, order := .work, timer := none, withheld := false }).withdraw .secureOverdue c) ∧
        (¬ passes → s.resumeChange c = (((reqs.foldl State.changeCell s).setSvc c
          { r with state := .outOfService, order := .remainSecured, timer := none, withheld := true }).denyCrane c
            .service).withdraw .secureOverdue c) ∧
        s.resumeCrane c = (s.resumeChange c).follow (s.changesOf reqs))

/-- The checks of OPEN_SITE, RESUME_SITE and RETURN_TO_SETUP, in order, each naming the first present crane that fails it; a
refused request changes nothing but the answer. What the checks of the site commands ask: the wind of a crane is ready when
it is known and CALM or CAUTION; a pair is occupied when it joins two different present cranes' occupied sectors; a crane
may set up when it is OUT_OF_SERVICE or OFFLINE. The three requests pass when every check passes. -/
def Obligations.SiteRefusals : Prop :=
  (∀ s : State, s.running = true →
      let refuse := fun (i : Instr) (a : Answer) => exec i s = .next ((s.asked i).replied i a)
      let first := fun (c : Crane) (ok : Crane → Bool) =>
        s.present c = true ∧ ok c = false ∧ ∀ d, d < c → s.present d = true → ok d = true
      let all := fun (ok : Crane → Bool) => ∀ c, s.present c = true → ok c = true
      let standby := fun c => s.inState c .standby
      let heard := fun c => !(s.svc c).lost
      (s.site = .opened ∨ s.site = .storm → refuse .openSite (answer .badState)) ∧
      (s.site = .setup →
        (s.plan.write ≠ none → refuse .openSite (answer .busy)) ∧
        (s.plan.write = none → s.plan.edition = 0 → refuse .openSite (answer .badState)) ∧
        (s.plan.write = none → s.plan.edition ≠ 0 →
          (s.clock.isSet = false → refuse .openSite (answer .clockUnset)) ∧
          (s.clock.isSet = true →
            (∀ c, first c standby → refuse .openSite ⟨.badState, [fCrane c]⟩) ∧
            (all standby → ∀ c, first c s.windReady → refuse .openSite ⟨.wind, [fCrane c]⟩) ∧
            (all standby → all s.windReady →
              ∀ before p after, s.plan.committed.pairs = before ++ p :: after → s.occupiedPair p = true →
                (∀ r ∈ before, s.occupiedPair r = false) →
                refuse .openSite ⟨.conflict, [fCrane p.lo.crane, fCrane p.hi.crane, fCell p.lo, fCell p.hi]⟩)))) ∧
      (s.site = .closed →
        (s.clock.isSet = false → refuse .openSite (answer .clockUnset)) ∧
        (s.clock.isSet = true →
          (∀ c, first c heard → refuse .openSite ⟨.badState, [fCrane c]⟩) ∧
          (all heard → ∀ c, first c s.windReady → refuse .openSite ⟨.wind, [fCrane c]⟩))) ∧
      (s.site ≠ .storm → refuse .resumeSite (answer .badState)) ∧
      (s.site = .storm →
        (∀ c, first c heard → refuse .resumeSite ⟨.badState, [fCrane c]⟩) ∧
        (all heard → ∀ c, first c s.windReady → refuse .resumeSite ⟨.wind, [fCrane c]⟩)) ∧
      (s.site = .setup ∨ s.site = .closed → refuse .closeSite (answer .badState)) ∧
      (s.site = .opened ∨ s.site = .storm → (∃ b ∈ s.bookings, b.running = true) →
        refuse .closeSite (answer .liftsOpen)) ∧
      (s.site ≠ .closed → refuse .returnToSetup (answer .badState)) ∧
      (s.site = .closed → ∀ c, first c s.maySetUp → refuse .returnToSetup ⟨.badState, [fCrane c]⟩)) ∧
  (∀ s : State,
      let all := fun (ok : Crane → Prop) => ∀ c, s.present c = true → ok c
      let ready := all (fun c => s.windReady c = true)
      let heard := all (fun c => (s.svc c).lost = false)
      (∀ c, s.windReady c = true ↔
        (s.windRec c).unknown = false ∧ ((s.windRec c).state = .calm ∨ (s.windRec c).state = .caution)) ∧
      (∀ p, s.occupiedPair p = true ↔
        p.lo.crane ≠ p.hi.crane ∧ s.present p.lo.crane = true ∧ s.present p.hi.crane = true ∧
          s.occupies p.lo.crane p.lo.sector = true ∧ s.occupies p.hi.crane p.hi.sector = true) ∧
      (∀ c, s.maySetUp c = true ↔
        (s.svc c).lost = false ∧ ((s.svc c).state = .outOfService ∨ (s.svc c).state = .offline)) ∧
      (∀ c st, s.inState c st = true ↔ (s.svc c).lost = false ∧ (s.svc c).state = st) ∧
      (s.openCheck = none ↔
        s.plan.write = none ∧ s.plan.edition ≠ 0 ∧ s.clock.isSet = true ∧
          all (fun c => s.inState c .standby = true) ∧ ready ∧ ∀ p ∈ s.plan.committed.pairs, s.occupiedPair p = false) ∧
      (s.reopenCheck = none ↔ s.clock.isSet = true ∧ heard ∧ ready) ∧ (s.resumeCheck = none ↔ heard ∧ ready))

/-- CLOSE_SITE without a running lift: every crane is taken through the entry to securing, ascending, the site is CLOSED,
and the wait entries of every crane that is not SECURING are denied with SERVICE. RETURN_TO_SETUP with every crane
OUT_OF_SERVICE or OFFLINE and no resume withheld: the booking table and the wait list are empty, every cell is FREE with
since at the site time and no origin (R70; log entry 12), every restricted set is empty, RESTRICTED and OFF_PATH are absent,
OUT_OF_SERVICE cranes are STANDBY, the site is SETUP, and the answer counts the bookings, in one byte (the model's choice:
log entry 8); stop sets, wind records and crane records stay. -/
def Obligations.SiteClosedAndSetUp : Prop :=
  (∀ s : State, s.running = true → s.site = .opened ∨ s.site = .storm → (∀ b ∈ s.bookings, b.running = false) →
      let u := (allCranes.foldl State.enterSecuring (s.asked .closeSite)).withSite .closed
      exec .closeSite s =
        .next ((u.denyWaits (fun w => !u.inState w.crane .securing) .service).replied .closeSite (answer .ok))) ∧
  (∀ s : State, s.running = true → s.site = .closed → (∀ c, s.maySetUp c = true) →
      (∀ c, (s.svc c).withheld = false) →
      ∃ t : State, exec .returnToSetup s = .next (t.replied .returnToSetup (okWith [f1 s.bookings.length])) ∧
        t.site = .setup ∧ t.bookings = [] ∧ t.waits = [] ∧
        (∀ q, t.cell q = ⟨.free, s.clock.site, none, none⟩) ∧
        (∀ c, tget t.restricted c = [] ∧ c ∉ (t.alert .restricted).cranes ∧ c ∉ (t.alert .offPath).cranes) ∧
        t.stops = s.stops ∧ t.wind = s.wind ∧ t.cranes = s.cranes ∧
        (∀ c, s.inState c .outOfService = true →
          t.svc c = { s.svc c with state := .standby, order := .remainSecured, withheld := false }))

/-! ### Bookings -/

/-- Admission answers the first failure of its steps: the crane, the field ranges, the window, reach and rated load, the
restrictions over the window, the conflicts with live records, and the limits of 64 and 16 records; where both limits are
met the answer names the table (the model's choice: log entry 30), and a reach that no chart point covers is OVERWEIGHT (log
entry 15). That FULL names its limit in one byte, and that the supervisor's answers have the layout of Table 12-7 too, are
the model's choice (log entries 8 and 33). The rated load at a reach is the load of the first chart point, in chart order,
whose radius is at least the reach; a chart without such a point gives none. The field ranges of a lift: window length
1..240, mass 1..65534, area class A0..A3, reach 1..900, and a path of 1..8 distinct sectors in the order given; the tag is
kept, or absent. -/
def Obligations.AdmissionSteps : Prop :=
  (∀ (s : State) (c : Crane) (f : LiftFields) (a : Option Nat),
      let p := s.plan.committed
      let n := s.clock.site / 60
      let others := s.bookings.filter (fun b => decide (some b.id ≠ a))
      let fails := fun (r : Answer) => s.admission c f a = .failed r
      let e := s.entry c
      (s.present c = false → fails (answer .notPermitted)) ∧
      (s.present c = true →
        (liftOf f = none → fails (answer .badValue)) ∧
        ∀ d, liftOf f = some d →
          (d.start < n → fails (answer .tooLate)) ∧
          (n + 10080 < d.start ∨ n ≤ d.start ∧ 71582788 < d.start + d.length - 1 → fails (answer .badValue)) ∧
          (n ≤ d.start → d.start ≤ n + 10080 → d.start + d.length - 1 ≤ 71582788 →
            (e.reach < d.reach → fails (answer .outOfReach)) ∧
            (d.reach ≤ e.reach → ratedLoad (tget p.charts c) d.reach = none → fails ⟨.overweight, [f2 65535]⟩) ∧
            ∀ load, d.reach ≤ e.reach → ratedLoad (tget p.charts c) d.reach = some load →
              (load < d.mass → fails ⟨.overweight, [f2 load]⟩) ∧
              (d.mass ≤ load →
                let limits := fun (x : Sector) (t : Nat) =>
                  d.start ≤ t ∧ t < d.start + d.length ∧ p.restrictionAt ⟨c, x⟩ t ≠ .unrestricted
                (∀ before x after t, d.path = before ++ x :: after → (∀ y ∈ before, ∀ u, ¬ limits y u) →
                  limits x t → (∀ u, u < t → ¬ limits x u) → fails ⟨.restricted, [fSector x, f4 t]⟩) ∧
                ((∀ x ∈ d.path, ∀ t, ¬ limits x t) →
                  let clash := fun (b : Booking) =>
                    d.start < b.data.start + b.data.length ∧ b.data.start < d.start + d.length ∧
                      (b.crane = c ∨
                        ∃ x ∈ d.path, ∃ r ∈ p.partners ⟨c, x⟩, r.2.crane = b.crane ∧ r.2.sector ∈ b.data.path)
                  (∀ before b after, others = before ++ b :: after → (∀ r ∈ before, ¬ clash r) → clash b →
                    fails ⟨.conflict, [f2 b.id]⟩) ∧
                  ((∀ b ∈ others, ¬ clash b) →
                    (a = none → 64 ≤ others.length → fails ⟨.full, [f1 0]⟩) ∧
                    (a = none → others.length < 64 → 16 ≤ (others.filter (fun b => decide (b.crane = c))).length →
                      fails ⟨.full, [f1 1]⟩) ∧
                    (a ≠ none ∨ others.length < 64 ∧ (others.filter (fun b => decide (b.crane = c))).length < 16 →
                      s.admission c f a = .admitted d))))))) ∧
  (∀ (chart : List ChartPoint) (reach : Nat),
      (∀ before p after, chart = before ++ p :: after → (∀ k ∈ before, k.radius < reach) → reach ≤ p.radius →
        ratedLoad chart reach = some p.load) ∧
      ((∀ k ∈ chart, k.radius < reach) → ratedLoad chart reach = none)) ∧
  (∀ f : LiftFields, f.path.length = 8 →
      let ok := 1 ≤ f.length ∧ f.length ≤ 240 ∧ 1 ≤ f.mass ∧ f.mass ≤ 65534 ∧ f.areaClass ≤ 3 ∧ 1 ≤ f.reach ∧
        f.reach ≤ 900 ∧ 1 ≤ f.pathCount ∧ f.pathCount ≤ 8 ∧ (∀ x ∈ f.path.take f.pathCount, x ≤ 15) ∧
        (f.path.take f.pathCount).Nodup
      (ok → ∃ cls path,
        liftOf f = some ⟨f.start, f.length, f.mass, cls, f.reach, path, if f.tagPresent = 0 then none else some f.tag⟩ ∧
          cls.code = f.areaClass ∧ path.map Fin.val = f.path.take f.pathCount) ∧
      (¬ ok → liftOf f = none))

/-- PROPOSE_LIFT: with the clock set and the lift admitted a PENDING record is created under the counter's next free id,
with a confirm deadline 60 000 ms from now; BAD_VALUE, CLOCK_UNSET and the admission's failures change nothing. The id taken
is the first value from the counter on, 65535 being followed by 1, that no live record holds; with at most 64 records one is
found within 65 values. A record that joins the table stands in it at its place in ascending id. -/
def Obligations.ProposeCreatesPending : Prop :=
  (∀ (s : State) (q : Requester) (n : Nat) (f : LiftFields), q.heard s →
      let i := Instr.proposeLift q n f
      let v := q.asked i s
      let refuse := fun (a : Answer) => exec i s = .next (q.replied i a v)
      (q = .supervisor → 8 ≤ n → refuse (answer .badValue)) ∧
      ∀ c : Crane, (q = .crane c ∨ q = .supervisor ∧ n = c.val) →
        (s.clock.isSet = false → refuse (answer .clockUnset)) ∧
        (s.clock.isSet = true →
          (∀ a, s.admission c f none = .failed a → refuse a) ∧
          (∀ d, s.admission c f none = .admitted d →
            let id := freeId s.bookings s.nextId 65
            let b : Booking :=
              { id := id, crane := c, state := .pending (s.clock.mono + 60000), data := d, originator := q, locked := false,
                due := false, overrun := false, changedAt := s.clock.site, changedBy := q }
            exec i s = .next (q.replied i (okWith [f2 id, f4 60000])
              ((v.withBookings (insertLift b s.bookings)).withNextId (if id = 65535 then 1 else id + 1)))))) ∧
  (∀ (table : List Booking) (n : Nat), table.length ≤ 64 → 1 ≤ n → n ≤ 65535 →
      let value := fun (k : Nat) => (n - 1 + k) % 65535 + 1
      ∃ k, k < 65 ∧ freeId table n 65 = value k ∧ (∀ b ∈ table, b.id ≠ value k) ∧
        (∀ j, j < k → ∃ b ∈ table, b.id = value j)) ∧
  (∀ (b : Booking) (table : List Booking),
      (∀ r, r ∈ insertLift b table ↔ r = b ∨ r ∈ table) ∧ (insertLift b table).length = table.length + 1 ∧
      (table.Pairwise (fun x y => x.id < y.id) → (∀ r ∈ table, r.id ≠ b.id) →
        (insertLift b table).Pairwise (fun x y => x.id < y.id)))

/-- CONFIRM_LIFT: a PENDING record of the requester becomes BOOKED and is tested as at a minute event: past its window it is
freed and the answer is TOO_LATE, and at or after its start it is due, with a notice; refusals change nothing. The confirm
deadline of a PENDING record that is reached frees it with a LAPSED notice; nothing happens before, to a record in another
state, or to an id no record has (log entry 3). -/
def Obligations.ConfirmBooks : Prop :=
  (∀ (s : State) (q : Requester) (id : Nat), q.heard s →
      let i := Instr.confirmLift q id
      let v := q.asked i s
      let n := s.clock.site / 60
      let answers := fun (t : State) (a : Answer) => exec i s = .next (q.replied i a t)
      (s.findLift id = none → answers v (answer .notFound)) ∧
      ∀ b, s.findLift id = some b →
        (q ≠ .supervisor → b.originator ≠ q → answers v (answer .notPermitted)) ∧
        (q = .supervisor ∨ b.originator = q →
          ((∀ t, b.state ≠ .pending t) → answers v (answer .badState)) ∧
          (∀ t, b.state = .pending t →
            let booked := { b with state := .booked, changedAt := s.clock.site, changedBy := q }
            (b.data.start + b.data.length ≤ n → answers (v.freeLift id) ⟨.tooLate, [f1 7]⟩) ∧
            (n < b.data.start → answers (v.putLift booked) (okWith [f1 1])) ∧
            (b.data.start ≤ n → n < b.data.start + b.data.length →
              answers (((v.putLift booked).putLift { booked with due := true }).notifyLift booked .due []) (okWith [f1 1]))))) ∧
  (∀ (s : State) (id : Nat), s.running = true →
      (s.findLift id = none → exec (.confirmDeadline id) s = .next s) ∧
      ∀ b, s.findLift id = some b →
        (∀ t, b.state = .pending t →
          (t ≤ s.clock.mono →
            exec (.confirmDeadline id) s =
              .next ((s.withBookings (s.bookings.filter (fun r => decide (r.id ≠ b.id)))).notify b.crane
                (.liftNotice b.id .lapsed []))) ∧
          (s.clock.mono < t → exec (.confirmDeadline id) s = .next s)) ∧
        ((∀ t, b.state ≠ .pending t) → exec (.confirmDeadline id) s = .next s))

/-- AMEND_LIFT: an admitted amendment of a BOOKED record replaces its window, mass, class, reach, path and tag, clears due,
and makes it due again at once when its start is now; the refusals, in their order, change nothing. -/
def Obligations.AmendReplaces : Prop :=
  ∀ (s : State) (q : Requester) (id : Nat) (f : LiftFields), q.heard s →
    let i := Instr.amendLift q id f
    let v := q.asked i s
    let answers := fun (t : State) (a : Answer) => exec i s = .next (q.replied i a t)
    (s.clock.isSet = false → answers v (answer .clockUnset)) ∧
    (s.clock.isSet = true → s.findLift id = none → answers v (answer .notFound)) ∧
    ∀ b, s.clock.isSet = true → s.findLift id = some b →
      (b.allows q = false → answers v (answer .notPermitted)) ∧
      (b.allows q = true → b.state ≠ .booked → answers v (answer .badState)) ∧
      (b.allows q = true → b.state = .booked → q ≠ .supervisor → b.locked = true → answers v (answer .locked)) ∧
      (b.allows q = true → b.state = .booked → q = .supervisor ∨ b.locked = false →
        (∀ a, s.admission b.crane f (some id) = .failed a → answers v a) ∧
        (∀ d, s.admission b.crane f (some id) = .admitted d →
          let r := { b with data := d, due := false, changedAt := s.clock.site, changedBy := q }
          (s.clock.site / 60 < d.start → answers (v.putLift r) (okWith [f2 id])) ∧
          (d.start = s.clock.site / 60 →
            answers (((v.putLift r).putLift { r with due := true }).notifyLift r .due []) (okWith [f2 id]))))

/-- CANCEL_LIFT frees a PENDING or BOOKED record, with a notice when the supervisor cancels; LOCK_LIFT and UNLOCK_LIFT set
and clear the locked flag in any live state, for the supervisor alone; the refusals change nothing. Who may name a record:
the supervisor, and its crane. The record of an id is the first of the table with it, a crane's running lift its first that
is ACTIVE or SUSPENDED; a record is replaced and freed by its id; and a lift notice goes to the record's crane, with its id. -/
def Obligations.CancelAndLock : Prop :=
  (∀ (s : State) (q : Requester) (id : Nat), q.heard s →
      let answers := fun (i : Instr) (t : State) (a : Answer) => exec i s = .next (q.replied i a t)
      let cancel := Instr.cancelLift q id
      let v := fun (i : Instr) => q.asked i s
      let lock := fun (on : Bool) => if on then Instr.lockLift q id else Instr.unlockLift q id
      (s.findLift id = none → answers cancel (v cancel) (answer .notFound) ∧
        ∀ on, answers (lock on) (v (lock on)) (answer (if q = .supervisor then .notFound else .notPermitted))) ∧
      ∀ b, s.findLift id = some b →
        (b.allows q = false → answers cancel (v cancel) (answer .notPermitted)) ∧
        (b.allows q = true → b.running = true → answers cancel (v cancel) (answer .badState)) ∧
        (b.allows q = true → b.running = false → q ≠ .supervisor → b.locked = true →
          answers cancel (v cancel) (answer .locked)) ∧
        (b.allows q = true → b.running = false → q ≠ .supervisor → b.locked = false →
          answers cancel ((v cancel).freeLift id) (okWith [f1 6])) ∧
        (b.running = false → q = .supervisor →
          answers cancel (((v cancel).freeLift id).notifyLift b .cancelledBySupervisor []) (okWith [f1 6])) ∧
        (∀ on, q ≠ .supervisor → answers (lock on) (v (lock on)) (answer .notPermitted)) ∧
        (∀ on, q = .supervisor →
          answers (lock on) ((v (lock on)).putLift { b with locked := on, changedAt := s.clock.site, changedBy := q })
            (okWith [fFlag on]))) ∧
  ((∀ (b : Booking) (q : Requester), b.allows q = true ↔ q = .supervisor ∨ q = .crane b.crane) ∧
    (∀ b : Booking, (b.running = true ↔ b.state = .active ∨ ∃ rs, b.state = .suspended rs) ∧
      (∀ rs, b.state = .suspended rs → b.reasons = rs) ∧ ((∀ rs, b.state ≠ .suspended rs) → b.reasons = [])) ∧
    ∀ s : State,
      (∀ id, (s.findLift id = none ↔ ∀ b ∈ s.bookings, b.id ≠ id) ∧
        ∀ before b after, s.bookings = before ++ b :: after → b.id = id → (∀ r ∈ before, r.id ≠ id) →
          s.findLift id = some b) ∧
      (∀ c, (s.runningLift c = none ↔ ∀ b ∈ s.bookings, b.crane = c → b.running = false) ∧
        ∀ before b after, s.bookings = before ++ b :: after → b.crane = c → b.running = true →
          (∀ r ∈ before, r.crane = c → r.running = false) → s.runningLift c = some b) ∧
      (∀ b : Booking, s.putLift b = s.withBookings (s.bookings.map (fun r => if r.id = b.id then b else r))) ∧
      (∀ id, s.freeLift id = s.withBookings (s.bookings.filter (fun r => decide (r.id ≠ id)))) ∧
      (∀ (b : Booking) e rs, s.notifyLift b e rs = s.notify b.crane (.liftNotice b.id e rs)))

/-- START_LIFT from the crane of a BOOKED record: every check passed, the record is ACTIVE, stamped with the site time and
the crane, the last conformance is absent, and the answer is OK; the supervisor is NOT_PERMITTED, an unknown id NOT_FOUND.
The checks of START_LIFT on a BOOKED record, in their order: the window with the early start allowance, the site OPEN, the
crane IN_SERVICE and not stopped, no other running lift, the wind test, and no path cell busy. -/
def Obligations.StartMakesActive : Prop :=
  (∀ (s : State) (q : Requester) (id : Nat), q.heard s →
      let i := Instr.startLift q id
      let v := q.asked i s
      let answers := fun (t : State) (a : Answer) => exec i s = .next (q.replied i a t)
      (q = .supervisor → answers v (answer .notPermitted)) ∧
      ∀ c, q = .crane c →
        (s.findLift id = none → answers v (answer .notFound)) ∧
        ∀ b, s.findLift id = some b →
          (b.crane ≠ c → answers v (answer .notPermitted)) ∧
          (b.crane = c → b.state ≠ .booked → answers v ⟨.badState, [f2 0]⟩) ∧
          (b.crane = c → b.state = .booked →
            (∀ a, s.startCheck c b = some a → answers v a) ∧
            (s.startCheck c b = none →
              answers ((v.putLift { b with state := .active, changedAt := s.clock.site, changedBy := q }).setLastConf c none)
                (okWith [f2 id])))) ∧
  (∀ (s : State) (c : Crane) (b : Booking),
      let n := s.clock.site / 60
      let d := b.data
      let w := s.windRec c
      let limit := (s.entry c).classLimit d.cls
      let fails := fun (a : Answer) => s.startCheck c b = some a
      let timely := d.start ≤ n + s.plan.committed.site.early ∧ n < d.start + d.length
      let serving := s.site = .opened ∧ s.inState c .inService = true ∧ s.stopSet c = []
      let calm := w.unknown = false ∧ (w.state = .calm ∨ w.state = .caution) ∧ w.gust < limit
      let busy := fun (p : PairKind × CellId) => s.blocks p = true ∨ s.onRunningPath p.2 = true
      (n + s.plan.committed.site.early < d.start → fails ⟨.badState, [f2 0]⟩) ∧
      (d.start ≤ n + s.plan.committed.site.early → d.start + d.length ≤ n → fails (answer .tooLate)) ∧
      (timely → s.site ≠ .opened → fails (answer .siteClosed)) ∧
      (timely → s.site = .opened → s.inState c .inService = false → fails ⟨.badState, [f2 0]⟩) ∧
      (timely → s.site = .opened → s.inState c .inService = true → s.stopSet c ≠ [] → fails (answer .stopped)) ∧
      (timely → serving → ∀ r, s.runningLift c = some r → fails ⟨.badState, [f2 r.id]⟩) ∧
      (timely → serving → s.runningLift c = none → ¬ calm → fails ⟨.wind, [f2 w.gust, f2 limit]⟩) ∧
      (timely → serving → s.runningLift c = none → calm →
        (∀ before x after, d.path = before ++ x :: after → (∀ y ∈ before, ∀ p ∈ s.partners ⟨c, y⟩, ¬ busy p) →
          ∀ front p back, s.partners ⟨c, x⟩ = front ++ p :: back → (∀ r ∈ front, ¬ busy r) → busy p →
            fails ⟨.pathBusy, [fSector x, fCrane p.2.crane]⟩) ∧
        ((∀ x ∈ d.path, ∀ p ∈ s.partners ⟨c, x⟩, ¬ busy p) → s.startCheck c b = none)))

/-- FINISH_LIFT and LAND_LIFT of a running booking free it, make the last conformance absent, withdraw NONCONFORM and
OVERRUN, re-evaluate OFF_PATH and run arbitration; the answer gives COMPLETED or ABANDONED. The refusals change nothing. -/
def Obligations.RunningLiftEnds : Prop :=
  ∀ (s : State) (q : Requester) (id : Nat), q.heard s →
    let answers := fun (i : Instr) (t : State) (a : Answer) => exec i s = .next (q.replied i a t)
    let both := fun (t : Instr → State) (a : Nat → Answer) =>
      (q ≠ .supervisor → answers (.finishLift q id) (t (.finishLift q id)) (a 4)) ∧
        answers (.landLift q id) (t (.landLift q id)) (a 5)
    let v := fun (i : Instr) => q.asked i s
    (q = .supervisor → answers (.finishLift q id) (v (.finishLift q id)) (answer .notPermitted)) ∧
    (s.findLift id = none → both v (fun _ => answer .notFound)) ∧
    ∀ b, s.findLift id = some b →
      (b.allows q = false → both v (fun _ => answer .notPermitted)) ∧
      (b.allows q = true → b.running = false → both v (fun _ => answer .badState)) ∧
      (b.allows q = true → b.running = true →
        both
          (fun i =>
            ((((((v i).withBookings (s.bookings.filter (fun r => decide (r.id ≠ b.id)))).setLastConf b.crane none).withdraw
              .nonconform b.crane).withdraw .overrun b.crane).reviewOffPath b.crane).arbitrate)
          (fun code => okWith [f1 code]))

/-- SUSPEND_LIFT, for the supervisor: an ACTIVE lift is SUSPENDED with SUPERVISOR and a notice, a SUSPENDED one gains the
reason, and the record is stamped; the refusals change nothing. RESUME_LIFT of a SUSPENDED lift takes off the requester's
own reason, SUPERVISOR or, with a conforming last report, NONCONFORM; left without a reason the lift is ACTIVE, and
otherwise SUSPENDED with those left. The refusals change nothing. The reason set in the supervisor's answer, empty beside
ACTIVE, is the model's choice (log entry 33). -/
def Obligations.SuspendAndResume : Prop :=
  (∀ (s : State) (q : Requester) (id : Nat), q.heard s →
      let i := Instr.suspendLift q id
      let v := q.asked i s
      let answers := fun (t : State) (a : Answer) => exec i s = .next (q.replied i a t)
      (q ≠ .supervisor → answers v (answer .notPermitted)) ∧
      (q = .supervisor →
        (s.findLift id = none → answers v (answer .notFound)) ∧
        ∀ b, s.findLift id = some b →
          let r := { b with changedAt := s.clock.site, changedBy := q }
          (b.running = false → answers v (answer .badState)) ∧
          (b.state = .active →
            answers (((v.putLift r).putLift { r with state := .suspended [.supervisor] }).notifyLift r .suspended [.supervisor])
              (okWith [f1 3, fSusps [.supervisor]])) ∧
          (∀ rs, b.state = .suspended rs →
            let set := setAdd SuspReason.all .supervisor rs
            answers ((v.putLift r).putLift { r with state := .suspended set }) (okWith [f1 3, fSusps set])))) ∧
  (∀ (s : State) (q : Requester) (id : Nat), q.heard s →
      let i := Instr.resumeLift q id
      let v := q.asked i s
      let answers := fun (t : State) (a : Answer) => exec i s = .next (q.replied i a t)
      (s.findLift id = none → answers v (answer .notFound)) ∧
      ∀ b, s.findLift id = some b →
        (b.allows q = false → answers v (answer .notPermitted)) ∧
        (b.allows q = true → (∀ rs, b.state ≠ .suspended rs) → answers v (answer .badState)) ∧
        (∀ rs, b.allows q = true → b.state = .suspended rs →
          let own := fun (r : SuspReason) =>
            q = .supervisor ∧ r = .supervisor ∨
              q ≠ .supervisor ∧ r = .nonconform ∧ tget s.lastConf b.crane = some .conforms
          ∃ left, List.Sublist left rs ∧ (∀ r, r ∈ left ↔ r ∈ rs ∧ ¬ own r) ∧
            (left = [] →
              answers (v.putLift { b with state := .active, changedAt := s.clock.site, changedBy := q })
                (okWith [f1 2, fSusps []])) ∧
            (left ≠ [] →
              answers (v.putLift { b with state := .suspended left, changedAt := s.clock.site, changedBy := q })
                (okWith [f1 3, fSusps left]))))

/-- QUERY_LIFT and LIST_LIFTS change nothing but the answer: the record of a live id that the requester may read, field by
field, with the time to a PENDING one's deadline, the rated load at its reach and its class limit (the layout for the
supervisor and the empty reason set of a record that is not SUSPENDED are the model's choice: log entry 33; so are an absent
tag of all ones, the other absent values and the one-byte count of LIST_LIFTS: entry 8); up to eight matching ids in table
order, with the id to continue from when more match (a filter with none of bits 0 to 3 is BAD_VALUE and upper bits are
passed over: log entry 14); NOT_FOUND, NOT_PERMITTED or BAD_VALUE otherwise. -/
def Obligations.LiftsRead : Prop :=
  ∀ (s : State) (q : Requester), q.heard s →
    (∀ id,
      let i := Instr.queryLift q id
      let answers := fun (a : Answer) => exec i s = .next (q.replied i a (q.asked i s))
      (s.findLift id = none → answers (answer .notFound)) ∧
      ∀ b, s.findLift id = some b →
        (b.allows q = false → answers (answer .notPermitted)) ∧
        (b.allows q = true →
          let reasons := match b.state with | .suspended rs => rs | _ => []
          let left := match b.state with | .pending e => e - s.clock.mono | _ => 4294967295
          let load := (ratedLoad (tget s.plan.committed.charts b.crane) b.data.reach).getD 65535
          let d := b.data
          let number := fun (r : Requester) => match r with | .crane c => c.val | .supervisor => 254
          answers (okWith
            ([f2 b.id, f1 b.crane.val, f1 b.state.code, f4 d.start, f1 d.length, f2 d.mass, f1 d.cls.code, f2 d.reach,
                f1 d.path.length] ++ d.path.map (fun x => f1 x.val) ++ List.replicate (8 - d.path.length) (f1 255) ++
              [f1 (if d.tag = none then 0 else 1), f4 (d.tag.getD 4294967295), f1 (number b.originator),
                f1 (flag b.locked + 2 * flag b.due + 4 * flag b.overrun), fSusps reasons,
                f4 left, f4 b.changedAt, f1 (number b.changedBy), f2 load, f2 ((s.entry b.crane).classLimit b.data.cls)])))) ∧
    (∀ sel flt n,
      let i := Instr.listLifts q sel flt n
      let answers := fun (a : Answer) => exec i s = .next (q.replied i a (q.asked i s))
      let chosen := fun (c : Crane) => q = .crane c ∨ q = .supervisor ∧ (sel = 255 ∨ sel = c.val)
      (flt % 16 = 0 ∨ n = 0 ∨ q = .supervisor ∧ 8 ≤ sel ∧ sel ≠ 255 → answers (answer .badValue)) ∧
      (flt % 16 ≠ 0 → n ≠ 0 → (q = .supervisor → sel < 8 ∨ sel = 255) →
        ∃ found : List Nat, List.Sublist found (s.bookings.map Booking.id) ∧
          (∀ k, k ∈ found ↔
            ∃ b ∈ s.bookings, b.id = k ∧ n ≤ b.id ∧ flt.testBit b.state.code = true ∧ chosen b.crane) ∧
          (found.length ≤ 8 → answers (okWith (f1 found.length :: found.map f2 ++ [f2 0]))) ∧
          (∀ k, 8 < found.length → found[7]? = some k →
            answers (okWith (f1 8 :: (found.take 8).map f2 ++ [f2 (k + 1)])))))

/-! ### The supervisor port and the frames -/

/-- A request's answer is framed for the response slot: each response frame carries the kind, the code, its index with bit 7
on the last, and a run of at most 59 bytes of the fields, in order (a field may be cut between two frames: log entry 32); up
to 472 bytes of fields are all carried, in at most eight frames. FETCH: MISO carries 0x00 twice, then the oldest unread
frame and 0x00 beyond it; the frame is read once its last byte has been clocked, and RDY stays asserted while another is
unread. After the transaction MISO is at high impedance. Only the port changes; a FETCH of no bytes changes nothing. That
the request buffer is kept over a FETCH, and the record of the bytes MISO carried, are the model's (log entry 21). The bytes
of a transaction that are no FETCH and no good request are a bad frame: answered by its kind byte and BAD_VALUE, with the
first 64 bytes in the request buffer, and nothing else changes. Bytes that are no bad frame are none here (log entry 23).
How requests are taken: a supervisor request is kept in the request buffer while MISO carries 0x00, and is answered from the
response slot; a crane's lift request, a good frame (log entry 7), withdraws FRAME_ERROR, and is answered by an ANSWER of
its kind on the crane's link. The record of the bytes MISO carried is the model's (log entry 21). -/
def Obligations.SupervisorPort : Prop :=
  (∀ (s : State) (i : Instr) (a : Answer),
      let t := s.replied i a
      Touches [.port] s t ∧ t.port.rdy = true ∧ t.port.slot = responseFrames (requestKind i) a ∧
      ((fieldBytes a.fields).length ≤ 472 →
        ∃ parts : List (List Byte), parts.flatten = fieldBytes a.fields ∧ 1 ≤ parts.length ∧ parts.length ≤ 8 ∧
          (∀ p ∈ parts, p.length ≤ 59) ∧ t.port.slot.length = parts.length ∧
          ∀ k p, parts[k]? = some p →
            t.port.slot[k]? = some (frameBytes (requestKind i)
              (BitVec.ofNat 8 a.code.number ::
                BitVec.ofNat 8 (if k + 1 = parts.length then 128 + k else k) :: p)))) ∧
  (∀ (s : State) (n : Nat), s.running = true →
      let leaves := fun (slot : List (List Byte)) (rdy : Bool) (out : List Byte) =>
        exec (.fetch n) s = .next (s.withPort ⟨s.port.request, slot, rdy, .highImpedance, out⟩)
      (n = 0 → exec (.fetch n) s = .next s) ∧
      (1 ≤ n →
        (s.port.slot = [] → leaves [] false (List.replicate n 0#8)) ∧
        (∀ frame rest, s.port.slot = frame :: rest →
          (n < frame.length + 2 → leaves s.port.slot true ((0#8 :: 0#8 :: frame).take n)) ∧
          (frame.length + 2 ≤ n →
            leaves rest (decide (rest ≠ []))
              (0#8 :: 0#8 :: frame ++ List.replicate (n - (frame.length + 2)) 0#8))))) ∧
  (∀ (s : State) (k : Byte) (rest : List Byte), s.running = true →
      let bytes := k :: rest
      (k ≠ 0#8 → checkRequest bytes = none →
        exec (.supervisorBadFrame bytes) s =
          .next (s.withPort ⟨bytes.take 64, responseFrames k.toNat (answer .badValue), true,
            .highImpedance, List.replicate bytes.length 0#8⟩)) ∧
      (k = 0#8 → exec (.supervisorBadFrame bytes) s = .next s) ∧
      (∀ i, checkRequest bytes = some i → exec (.supervisorBadFrame bytes) s = .next s) ∧
      exec (.supervisorBadFrame []) s = .next s) ∧
  (∀ (s : State) (i : Instr) (a : Answer),
      let bytes := requestBytes i
      s.asked i =
        s.withPort ⟨bytes.take 64, s.port.slot, s.port.rdy, .highImpedance, List.replicate bytes.length 0#8⟩ ∧
      s.replied i a =
        s.withPort ⟨s.port.request, responseFrames (requestKind i) a, true, s.port.miso, s.port.lastOut⟩ ∧
      (Requester.supervisor.asked i s = s.asked i ∧ Requester.supervisor.replied i a s = s.replied i a) ∧
      ∀ c, (Requester.crane c).asked i s = s.withdraw .frameError c ∧
        (Requester.crane c).replied i a s = s.queueAnswer c (.answer i.linkKind a) ∧
        ∀ f : LinkFrame, (f.command c).linkKind = f.kind)

/-- The lookups answer from the records as they stand and change nothing but the port; one that names a crane above C7 is
BAD_VALUE. What the lookups answer, each in the order of its rule: QUERY_SITE, QUERY_CRANE, QUERY_CELLS, QUERY_WAITS,
QUERY_CONFORMANCE, QUERY_WIND and QUERY_ALERTS, field by field from the records. Counts, the widths of Table 12-1's gaps,
yes-or-no items (the states of ALERT# and SIREN among them) and absent values are the model's choice (log entry 8), as are a
negative figure (entry 16), the limits of an absent crane (entry 29) and the order of register entries and of alert records
(entry 31). What IDENTIFY and READ_CLOCK answer: the record of Table 12-10, 39 bytes in one response frame, and the site
time, minute, minute of day, weekday, clock-set flag, clock-set record and monotonic time. The fields of answers and notices
on the wire: each as many bytes as its width, the least significant first; a set as one bit for each member, at its number;
a value that is absent with every bit set. The numbers of the named values (Tables 12-2 and 12-9), and the places of the
configurable alert kinds (Table 1-5). -/
def Obligations.LookupsChangeNothing : Prop :=
  (∀ (s : State) (i : Instr), s.running = true →
      (∀ a, lookupAnswer s i = some a → exec i s = .next ((s.asked i).replied i a)) ∧
      (∀ n, 8 ≤ n →
        i = .queryCrane n ∨ i = .queryCells n ∨ i = .queryConformance n ∨ i = .queryWind n →
        exec i s = .next ((s.asked i).replied i (answer .badValue)))) ∧
  (∀ s : State,
      let opt := fun (w : Nat) (v : Option Nat) => (⟨w, v.getD (256 ^ w - 1)⟩ : Field)
      let left := fun (t : Option Nat) => opt 4 (t.map (fun e => e - s.clock.mono))
      let has := fun (k : AlertKind) (c : Crane) => fFlag (decide (c ∈ (s.alert k).cranes))
      let entries := fun (es : List (CellId × List Crane)) =>
        f1 es.length :: es.flatMap (fun e => [f1 e.1.number, f1 (craneMask e.2)])
      (siteReading s = okWith ([f1 s.site.code, fFlag (s.alert .storm).flag] ++ allCranes.flatMap (fun c =>
        let r := s.svc c
        [fFlag (s.present c), f1 (s.entry c).vane.code, f1 (if r.lost = true then 6 else r.state.code),
          f1 (if r.lost = true then r.state.code else 255), f1 r.order.code, f1 (s.standingOrder c).code, fFlag r.withheld,
          left r.timer] ++ s.readinessFields c ++ s.vaneFields c))) ∧
      (∀ c,
        let r := s.svc c
        let holds := fun (p : Pair) => p.kind = .struct ∧ ∃ o : CellId,
          (p.lo.crane = c ∧ p.hi = o ∨ p.hi.crane = c ∧ p.lo = o) ∧ o.crane ≠ c ∧
            ((s.cell o).state = .held ∨ (s.cell o).state = .clearing ∨ (s.cell o).state = .seized ∨
              (s.cell o).state = .parked)
        (∀ k, r.lost = false → r.state = .securing → r.readiness = some k → s.readinessFields c =
          [fFlag k.loadLanded, fFlag k.securedAtRest, fFlag k.noLift, fFlag k.inPark]) ∧
        (r.lost = true ∨ r.state ≠ .securing ∨ r.readiness = none →
          s.readinessFields c = [f1 255, f1 255, f1 255, f1 255]) ∧
        (r.lost = true ∨ r.state ≠ .vaneWait → s.vaneFields c = [f1 255, f1 255, f1 255]) ∧
        (r.lost = false → r.state = .vaneWait →
          (s.vanePermitted c = true → s.vaneFields c = [f1 1, f1 255, f1 255]) ∧
          (∀ before p after, s.plan.committed.pairs = before ++ p :: after → holds p → (∀ q ∈ before, ¬ holds q) →
            s.vaneFields c = [f1 0, f1 p.lo.number, f1 p.hi.number]))) ∧
      (∀ c,
        let r := s.craneRec c
        let k := r.contents
        let q := (s.link c).queue
        craneReading c s = okWith
          [fFlag (s.present c), f1 r.presence.code, opt 4 (r.lastReport.map (fun t => s.clock.mono - t)), left r.bound,
            opt 2 (k.map Contents.angle), opt 2 (k.map Contents.radius), opt 2 (k.bind Contents.load),
            opt 2 (k.bind Contents.wind), opt 1 (k.map (fun k => flag k.secured)),
            opt 1 (k.map (fun k => flag k.vaneEngaged)), opt 1 (k.map (fun k => flag k.atRest)), f1 r.noReading,
            f1 q.length, f1 (q.filter (fun f => !f.isNotice)).length]) ∧
      (∀ c, cellsReading c s = okWith (allSectors.flatMap (fun x =>
        let q : CellId := ⟨c, x⟩
        let k := s.cell q
        [f1 k.state.code, f4 k.since, opt 1 (k.origin.map Origin.code),
          left (if k.state = .clearing then k.clearEnd else none), f1 (s.restriction q).code, fFlag (s.blocked q),
          fFlag (s.reserved q)]) ++
        [f1 (allSectors.filter (fun x => decide ((s.cell ⟨c, x⟩).state = .held))).length,
          f2 (sectorMask (tget s.restricted c)), has .offPath c, has .restricted c])) ∧
      (waitsReading s = okWith (f1 s.waits.length :: s.waits.flatMap (fun w =>
        let q : CellId := ⟨w.crane, w.sector⟩
        [f1 w.crane.val, f1 w.sector.val, f6 w.arrival, f4 (w.deadline - s.clock.mono), fFlag (!s.blocked q),
          fFlag (!s.reserved q), fFlag (decide (s.heldCount w.crane < 4)),
          fFlag (decide (s.restriction q ≠ .barred ∧ (s.restriction q = .noLoad → s.loadIsZero w.crane = true)))]))) ∧
      (∀ c,
        let set := s.stopSet c
        let partners := fun (q : CellId) =>
          ((s.register.find? (fun e => decide (e.cell = q))).map RegEntry.partners).getD []
        let others := s.register.filter (fun e => decide (e.cell.crane ≠ c) && decide (c ∈ e.partners))
        conformanceReading c s = okWith
          ([opt 2 ((tget s.occupied c).map (fun o => sectorMask (occupiedSectors (some o)))), f2 (stopMask set)] ++
            set.map (fun r => fFlag (s.stopEnded c r)) ++
            entries ((s.sectorsIn c .seized).map (fun x => (⟨c, x⟩, partners ⟨c, x⟩))) ++
            entries (others.map (fun e => (e.cell, e.partners))) ++
            [has .intrusion c, has .conflict c, has .nonconform c, opt 1 ((tget s.lastConf c).map Conformance.code)])) ∧
      (∀ c,
        let r := s.windRec c
        let e := s.entry c
        let cw := e.lw * 80 / 100
        let less := fun (a b : Nat) => f2 (if b ≤ a then a - b else Config.negativeFigure a b)
        let limits := fun (k : AreaClass) => [f2 (e.classLimit k), less (e.classLimit k) e.hw]
        let lift := match s.runningLift c with
          | some b => [f2 b.id, f1 b.data.cls.code, f1 (r.verdict e b.data.cls).code]
          | none => [f2 0, f1 255, f1 255]
        windReading c s = okWith
          ([fFlag r.heard, fFlag r.unknown, f1 r.state.code, f1 r.window.length] ++ r.window.map f2 ++
            [f2 r.gust, f4 r.acc, f2 r.mean, f1 (s.craneRec c).noReading, opt 1 (r.dwell.map (fun d => d.step.code)),
              left (r.dwell.map Dwell.ends), f2 e.lw, f2 e.sw, f2 e.mw, f2 e.hw, f2 cw, less e.sw e.hw, less e.lw e.hw,
              less cw e.hw] ++
            limits .a0 ++ limits .a1 ++ limits .a2 ++ limits .a3 ++ lift)) ∧
      alertsReading s = okWith (AlertKind.all.flatMap (fun k =>
        let r := s.alert k
        [f1 k.code.val, f1 r.mode.code, if k.siteScoped = true then fFlag r.flag else f1 (craneMask r.cranes),
          f1 (craneMask r.involved), fFlag r.latch.isSome, opt 4 r.latch]) ++
        [fFlag s.lines.alert, fFlag s.lines.siren, fFlag s.sirenDue, f1 s.params.cadence.code])) ∧
  (∀ s : State,
      let t := s.clock.site
      let some_ := fun (w : Nat) (v : Option Nat) => leBytes w (v.getD (256 ^ w - 1))
      let r := s.clock.record
      fieldBytes (identity s).fields =
          [0x61#8, 0x2B#8, 0xE8#8, 0x08#8, 1#8, 8#8, 16#8, 0x00#8, 0x04#8, 8#8, 8#8, 4#8, 16#8, 2#8, 64#8, 16#8, 8#8, 240#8,
            0x60#8, 0x27#8, 60#8, 250#8, 0#8, 0xD0#8, 0x07#8, 0x10#8, 0x27#8, 3#8, 6#8, 0x90#8, 0x01#8, 60#8] ++
          leBytes 2 s.plan.edition ++ leBytes 4 s.plan.stamp ++ [if s.clock.isSet then 1#8 else 0#8] ∧
        (identity s).code = .ok ∧ (responseFrames 1 (identity s)).length = 1 ∧
        (clockReading s).code = .ok ∧
        fieldBytes (clockReading s).fields =
          leBytes 4 t ++ leBytes 4 (t / 60) ++ leBytes 2 (t / 60 % 1440) ++ leBytes 1 (t / 60 / 1440 % 7) ++
            [if s.clock.isSet then 1#8 else 0#8] ++ some_ 4 (r.map ClockRecord.oldTime) ++
            some_ 4 (r.map ClockRecord.newTime) ++ some_ 1 (r.map (fun k => if k.wasSet then 1 else 0)) ++
            some_ 6 (r.map ClockRecord.stamp) ++ leBytes 6 s.clock.mono) ∧
  ((∀ v, leBytes 0 v = []) ∧ (∀ w v, leBytes (w + 1) v = BitVec.ofNat 8 v :: leBytes w (v / 256)) ∧
    (∀ f : Field, fieldBytes [f] = leBytes f.width f.value) ∧
    (∀ fs gs, fieldBytes (fs ++ gs) = fieldBytes fs ++ fieldBytes gs) ∧
    (∀ v, f1 v = ⟨1, v⟩ ∧ f2 v = ⟨2, v⟩ ∧ f4 v = ⟨4, v⟩ ∧ f6 v = ⟨6, v⟩) ∧
    (∀ w, (∀ v, fOpt w (some v) = ⟨w, v⟩) ∧ fOpt w none = ⟨w, 256 ^ w - 1⟩) ∧
    (fFlag true = f1 1 ∧ fFlag false = f1 0 ∧ flag true = 1 ∧ flag false = 0) ∧
    (∀ (c : Crane) (x : Sector), fCrane c = f1 c.val ∧ fSector x = f1 x.val ∧ fCell ⟨c, x⟩ = f1 (16 * c.val + x.val) ∧
      (⟨c, x⟩ : CellId).number = 16 * c.val + x.val) ∧
    (∀ xs cs rs ss, fSectors xs = f2 (sectorMask xs) ∧ fCranes cs = f1 (craneMask cs) ∧ fStops rs = f2 (stopMask rs) ∧
      fSusps ss = f1 (suspMask ss)) ∧
    (∀ (bits : List Nat) n, (maskOf bits).testBit n = true ↔ n ∈ bits) ∧
    (∀ xs : List Sector, sectorMask xs = maskOf (xs.map Fin.val)) ∧
    (∀ cs : List Crane, craneMask cs = maskOf (cs.map Fin.val)) ∧
    (∀ rs : List StopReason, stopMask rs = maskOf (rs.map StopReason.bit)) ∧
    (∀ rs : List SuspReason, suspMask rs = maskOf (rs.map SuspReason.bit)) ∧
    (∀ k, answer k = ⟨k, []⟩) ∧ ∀ fs, okWith fs = ⟨.ok, fs⟩) ∧
  (allCranes = [0, 1, 2, 3, 4, 5, 6, 7] ∧ allSectors = [0, 1, 2, 3, 4, 5, 6, 7, 8, 9, 10, 11, 12, 13, 14, 15] ∧
    [SiteState.setup, .opened, .storm, .closed].map SiteState.code = [0, 1, 2, 3] ∧
    [SvcState.offline, .standby, .inService, .securing, .vaneWait, .outOfService].map SvcState.code = [0, 1, 2, 3, 4, 5] ∧
    [Order.work, .stop, .secure, .vaneRelease, .park, .remainSecured, .rejoinRequired].map Order.code =
      [0, 1, 2, 3, 4, 5, 6] ∧
    [WindState.calm, .caution, .hold, .storm].map WindState.code = [0, 1, 2, 3] ∧
    [CellState.free, .held, .clearing, .seized, .vane, .parked].map CellState.code = [0, 1, 2, 3, 4, 5] ∧
    (∀ t rs, [BookingState.pending t, .booked, .active, .suspended rs].map BookingState.code = [0, 1, 2, 3]) ∧
    [AreaClass.a0, .a1, .a2, .a3].map AreaClass.code = [0, 1, 2, 3] ∧
    StopReason.all =
      [.siteStop, .conflict, .intrusion, .offPath, .nonconform, .overrun, .restricted, .reportEarly, .supervisor] ∧
    StopReason.all.map StopReason.bit = [0, 1, 2, 3, 4, 5, 6, 7, 8] ∧
    SuspReason.all = [.wind, .storm, .stopOrder, .lost, .nonconform, .supervisor] ∧
    SuspReason.all.map SuspReason.bit = [0, 1, 2, 3, 4, 5] ∧
    [DenyReason.timeout, .stopped, .lost, .service].map DenyReason.code = [0, 1, 2, 3] ∧
    [NoticeEvent.due, .expired, .lapsed, .cancelledBySupervisor, .suspended, .resumable].map NoticeEvent.code =
      [0, 1, 2, 3, 4, 5] ∧
    AlertKind.all =
      [.conflict, .siteStop, .storm, .intrusion, .craneLost, .windHold, .windUnknown, .offPath, .nonconform, .overrun,
        .restricted, .planFault, .secureOverdue, .windCaution, .reportEarly, .frameError] ∧
    AlertKind.all.map AlertKind.code = [0, 1, 2, 3, 4, 5, 6, 7, 8, 9, 10, 11, 12, 13, 14, 15] ∧
    AlertKind.all.map AlertKind.slot =
      [none, none, none, some 0, some 1, some 2, some 3, some 4, some 5, some 6, some 7, some 8, some 9, some 10,
        some 11, some 12] ∧
    [AlertMode.stop, .warn, .quiet].map AlertMode.code = [0, 1, 2] ∧
    [VaneMode.free, .parked].map VaneMode.code = [0, 1] ∧
    [RestrClass.unrestricted, .noLoad, .barred].map RestrClass.code = [0, 1, 2] ∧
    [PairKind.struct, .hook].map PairKind.code = [0, 1] ∧ [Discipline.strict, .loose].map Discipline.code = [0, 1] ∧
    [Cadence.steady, .pulsed].map Cadence.code = [0, 1] ∧
    [StoreCondition.good, .fault].map StoreCondition.code = [0, 1] ∧
    [Presence.offline, .present, .lost].map Presence.code = [0, 1, 2] ∧
    [Origin.enter, .wait, .seed, .resume, .seize].map Origin.code = [0, 1, 2, 3, 4] ∧
    [Conformance.conforms, .nonconforms].map Conformance.code = [0, 1] ∧
    [DwellStep.stormToHold, .holdToCaution, .cautionToCalm].map DwellStep.code = [0, 1, 2] ∧
    [Verdict.overLimit, .clear, .steady].map Verdict.code = [0, 1, 2] ∧
    [Code.ok, .queued, .busy, .badState, .badValue, .notFound, .notPermitted, .conflict, .pathBusy, .restricted, .limit,
        .full, .wind, .locked, .stopped, .siteClosed, .outOfReach, .overweight, .tooLate, .offPath, .inUse, .protected_,
        .invalid, .clockUnset, .clockJump, .rejoinRequired, .liftsOpen].map Code.number = List.range 27)

/-- Every well-formed crane frame, with every field at every value its width admits, is read back from its bytes on the wire
as itself, and its length byte is one of Table 12-3. The CRC of the two bytes 0x01, 0x00 is 0xF4; it starts from 0x00, and
the CRC over bytes with their CRC appended is 0x00. Every well-formed supervisor request is read back from its bytes on the
port as itself, PLAN_COMMIT with PROTECT low (log entry 5); its frame has at most 64 bytes, and its transaction is taken as
that request. No other bytes are good frames: a kind and a payload spell a crane frame only when they are its own, with
every field in its width; and a transaction is taken as a request only when it is that request's frame, byte for byte. A
PLAN_SCHEDULE frame with an action byte of 1 to 255 is the removal of a schedule, with any weekday set, start and end; that
it is for 2 to 255 is the model's choice (log entry 20). The frames of cranes and the requests of the supervisor, each with
its kind code and its payload, field by field (Tables 12-3, 12-4, 12-5, 12-8 and 12-12). The frames the part sends, byte by
byte: the start byte, the kind and the length, the payload and the CRC. A STATUS_ACK carries the fields of Table 12-6, 20
bytes; an ANSWER the request's kind, the answer code and the fields; GRANT the sector, DENY the sector and the reason,
LIFT_NOTICE the id, the event and the suspension reasons. A link's line carries the frame being sent, and rests otherwise. -/
def Obligations.FramesDecode : Prop :=
  (∀ (c : Crane) (f : LinkFrame), (f.command c).wellFormed = true →
      checkLink (frameBytes f.kind f.payload) = some f ∧ f.payload.length ≤ 48 ∧
        f.bytes = 0xB4#8 :: frameBytes f.kind f.payload) ∧
  (crc8 [0x01#8, 0x00#8] = 0xF4#8 ∧ crc8 [] = 0x00#8 ∧ ∀ bytes : List Byte, crc8 (bytes ++ [crc8 bytes]) = 0x00#8) ∧
  (∀ i : Instr, i.wellFormed = true → requestParts i ≠ none →
      let j := match i with
        | .planCommit _ => Instr.planCommit false
        | _ => i
      checkRequest (requestBytes i) = some j ∧ transaction (requestBytes i) = some j ∧ (requestBytes i).length ≤ 64) ∧
  ((∀ (c : Crane) kind payload f, readLink kind payload = some f →
      f.kind = kind ∧ f.payload = payload ∧ (f.command c).wellFormed = true) ∧
    (∀ bytes i, checkRequest bytes = some i →
      i.wellFormed = true ∧ bytes = requestBytes i) ∧
    ∀ k a (rest : List Byte), k < 256 → 0 < a → a < 256 → rest.length = 5 →
      ∃ d s e, checkRequest (frameBytes 0x16 (BitVec.ofNat 8 k :: BitVec.ofNat 8 a :: rest)) =
        some (.planScheduleRemove k ⟨a, d, s, e⟩)) ∧
  (
    let b1 := fun (v : Nat) => [BitVec.ofNat 8 v]
    let b2 := fun (v : Nat) => [BitVec.ofNat 8 v, BitVec.ofNat 8 (v / 256)]
    let b4 := fun (v : Nat) =>
      [BitVec.ofNat 8 v, BitVec.ofNat 8 (v / 256), BitVec.ofNat 8 (v / 65536), BitVec.ofNat 8 (v / 16777216)]
    let report := fun (r : Report) => b2 r.angle ++ b2 r.radius ++ b2 r.load ++ b2 r.wind ++ b1 r.flags
    let lift := fun (f : LiftFields) =>
      b4 f.start ++ b1 f.length ++ b2 f.mass ++ b1 f.areaClass ++ b2 f.reach ++ b1 f.pathCount ++ f.path.flatMap b1 ++
        b1 f.tagPresent ++ b4 f.tag
    let frame := fun (f : LinkFrame) (kind : Nat) (payload : List Byte) => f.kind = kind ∧ f.payload = payload
    let request := fun (i : Instr) (kind : Nat) (payload : List Byte) =>
      requestKind i = kind ∧ requestBytes i = frameBytes kind payload
    let items := fun (is : List PairItem) => b1 is.length ++ is.flatMap (fun i => b1 i.first ++ b1 i.second ++ b1 i.kind)
    (∀ r, frame (.status r) 0x10 (report r) ∧ frame (.rejoin r) 0x11 (report r)) ∧
    (∀ x, frame (.enter x) 0x20 (b1 x) ∧ frame (.release x) 0x21 (b1 x)) ∧
    (∀ f, frame (.proposeLift f) 0x30 (lift f) ∧ ∀ id, frame (.amendLift id f) 0x32 (b2 id ++ lift f)) ∧
    (∀ id, frame (.confirmLift id) 0x31 (b2 id) ∧ frame (.cancelLift id) 0x33 (b2 id) ∧
      frame (.startLift id) 0x34 (b2 id) ∧ frame (.finishLift id) 0x35 (b2 id) ∧ frame (.landLift id) 0x36 (b2 id) ∧
      frame (.resumeLift id) 0x37 (b2 id) ∧ frame (.queryLift id) 0x38 (b2 id) ∧ frame (.lockLift id) 0x3A (b2 id) ∧
      frame (.unlockLift id) 0x3B (b2 id) ∧ frame (.suspendLift id) 0x3C (b2 id)) ∧
    (∀ sel flt n, frame (.listLifts sel flt n) 0x39 (b1 sel ++ b1 flt ++ b2 n)) ∧
    (request .identify 0x01 [] ∧ request .readClock 0x02 [] ∧ ∀ t, request (.setTime t) 0x03 (b4 t)) ∧
    (∀ c f, request (.planCrane c f) 0x10 (b1 c ++ b1 f.present ++ b2 f.reach ++ b2 f.margin ++ b1 f.vane ++ b1 f.park ++
      b2 f.lw ++ b2 f.sw ++ b2 f.mw ++ b2 f.hw)) ∧
    (∀ c ps, request (.planChart c ps) 0x11
      (b1 c ++ b1 ps.length ++ ps.flatMap (fun p => b2 p.radius ++ b2 p.load))) ∧
    (∀ is, request (.planConflicts is) 0x12 (items is) ∧ request (.planRemoveConflicts is) 0x13 (items is)) ∧
    request .planClearConflicts 0x14 [] ∧
    (∀ c m k r, request (.planCells c m k r) 0x15 (b1 c ++ b2 m ++ b1 k ++ b1 r)) ∧
    (∀ k d a b, request (.planScheduleDefine k d a b) 0x16 (b1 k ++ b1 0 ++ b1 d ++ b2 a ++ b2 b)) ∧
    (∀ k f, request (.planScheduleRemove k f) 0x16 (b1 k ++ b1 f.action ++ b1 f.days ++ b2 f.start ++ b2 f.stop)) ∧
    (∀ f, request (.planSite f) 0x17 (b1 f.dead ++ b1 f.wait ++ b1 f.tolerance ++ b1 f.early ++ b1 f.grace ++
      b1 f.securing ++ b1 f.discipline ++ b1 f.cadence)) ∧
    (∀ is, request (.planAlertModes is) 0x18 (b1 is.length ++ is.flatMap (fun i => b1 i.1 ++ b1 i.2))) ∧
    (∀ high, request (.planCommit high) 0x19 []) ∧ request .planDiscard 0x1A [] ∧
    (∀ p k n, request (.planRead p k n) 0x1B (b1 p ++ b1 k ++ b2 n)) ∧
    (request .openSite 0x20 [] ∧ request .closeSite 0x21 [] ∧ request .resumeSite 0x22 [] ∧
      request .returnToSetup 0x23 [] ∧ request .querySite 0x24 []) ∧
    (∀ c, request (.queryCrane c) 0x28 (b1 c) ∧ request (.queryCells c) 0x29 (b1 c) ∧
      request (.queryConformance c) 0x2B (b1 c) ∧ request (.queryWind c) 0x2C (b1 c) ∧ request (.stopCrane c) 0x2E (b1 c) ∧
      ∀ m, request (.forceRelease c m) 0x2D (b1 c ++ b2 m) ∧ request (.clearStop c m) 0x2F (b1 c ++ b2 m)) ∧
    request .queryWaits 0x2A [] ∧
    (∀ f, (∀ c, request (.proposeLift .supervisor c f) 0x30 (b1 c ++ lift f)) ∧
      ∀ id, request (.amendLift .supervisor id f) 0x32 (b2 id ++ lift f)) ∧
    (∀ id, request (.confirmLift .supervisor id) 0x31 (b2 id) ∧ request (.cancelLift .supervisor id) 0x33 (b2 id) ∧
      request (.lockLift .supervisor id) 0x34 (b2 id) ∧ request (.unlockLift .supervisor id) 0x35 (b2 id) ∧
      request (.suspendLift .supervisor id) 0x36 (b2 id) ∧ request (.resumeLift .supervisor id) 0x37 (b2 id) ∧
      request (.landLift .supervisor id) 0x38 (b2 id) ∧ request (.queryLift .supervisor id) 0x39 (b2 id) ∧
      request (.startLift .supervisor id) 0x3B (b2 id) ∧ request (.finishLift .supervisor id) 0x3C (b2 id)) ∧
    (∀ sel flt n, request (.listLifts .supervisor sel flt n) 0x3A (b1 sel ++ b1 flt ++ b2 n)) ∧
    (∀ ks, request (.clearAlerts ks) 0x40 (b1 ks.length ++ ks.flatMap b1)) ∧ request .queryAlerts 0x41 []) ∧
  (
    let b1 := fun (v : Nat) => [BitVec.ofNat 8 v]
    let b2 := fun (v : Nat) => [BitVec.ofNat 8 v, BitVec.ofNat 8 (v / 256)]
    let framed := fun (kind : Nat) (payload : List Byte) =>
      let body := BitVec.ofNat 8 kind :: BitVec.ofNat 8 payload.length :: payload
      0xB4#8 :: body ++ [crc8 body]
    (∀ a : StatusAck,
      let waiting := (a.waiting.map (fun x => BitVec.ofNat 8 x.val) ++ [0xFF#8, 0xFF#8]).take 2
      let payload := b1 a.code.number ++ b1 a.site.code ++ b1 a.service ++ b1 a.order.code ++
        b1 ((if a.stops = [] then 0 else 1) + if a.unknown = true then 2 else 0) ++ b2 (stopMask a.stops) ++
        b2 (sectorMask a.held) ++ b2 (sectorMask a.clearing) ++ b2 (sectorMask a.seized) ++ waiting ++ b2 a.lift ++
        b1 a.wind.code ++ b2 a.gust
      payload.length = 20 ∧ (TxFrame.statusAck a).bytes = framed 0x80 payload) ∧
    (∀ (kind : Nat) (a : Answer),
      (TxFrame.answer kind a).bytes = framed 0x81 (b1 kind ++ b1 a.code.number ++ fieldBytes a.fields)) ∧
    (∀ x : Sector, (TxFrame.grant x).bytes = framed 0x90 (b1 x.val)) ∧
    (∀ (x : Sector) (why : DenyReason), (TxFrame.deny x why).bytes = framed 0x91 (b1 x.val ++ b1 why.code)) ∧
    (∀ (id : Nat) (e : NoticeEvent) (rs : List SuspReason),
      (TxFrame.liftNotice id e rs).bytes = framed 0x92 (b2 id ++ b1 e.code ++ b1 (suspMask rs))) ∧
    (∀ ch : Channel, (ch.sending = none → ch.lineBytes = []) ∧ ∀ f, ch.sending = some f → ch.lineBytes = f.bytes) ∧
    (∀ kind payload, 0xB4#8 :: frameBytes kind payload = framed kind payload))

/-! ### What every step keeps -/

/-- The conflict register keeps its law: each entry's cell is SEIZED and listed once, its partners are other cranes and at
least one; CONFLICT is present for exactly the cranes in conflict, and INTRUSION for exactly those with a SEIZED cell. -/
def Obligations.StepKeepsRegister : Prop :=
  ∀ s t : State, RegisterLaw s → step s = .next t → RegisterLaw t

/-- Every wind record keeps its law: at most three samples of at most 600, an accumulator of at most 307 200, a state of
HOLD or STORM and no dwell while unknown, and a dwell whose step is that of the state. -/
def Obligations.StepKeepsWindRecords : Prop :=
  ∀ s t : State, WindLaw s → step s = .next t → WindLaw t

/-- Every transmit queue holds at most six frames. The wait list holds at most 16 entries, two of one crane, no crane and
sector twice, and no entry of a crane that is LOST, VANE_WAIT or OUT_OF_SERVICE, under the law of presence. The booking
table holds at most 64 records in ascending id and 16 of one crane, with ids and the counter in 1..65535; two records whose
windows overlap are of different cranes, with no pair between their path cells. -/
def Obligations.StepKeepsListLimits : Prop :=
  (∀ s t : State, QueueLaw s → step s = .next t → QueueLaw t) ∧
  (∀ s t : State, PresenceLaw s → WaitLaw s → step s = .next t → WaitLaw t) ∧
  (∀ s t : State, TableLaw s → step s = .next t → TableLaw t)

/-- The forms of the remaining records: clearing ends and origins of the cells, RDY and the response slot, MISO at high
impedance between transactions, site time and the times that wait to be set, and the alert modes of the committed plan. Last
report time and report bound are there exactly while a crane is PRESENT, and its service state is LOST, or OFFLINE, exactly
while its presence is. -/
def Obligations.StepKeepsRecordForms : Prop :=
  (∀ s t : State, step s = .next t →
      (CellLaw s → CellLaw t) ∧ (PortLaw s → PortLaw t) ∧ (TimeLaw s → TimeLaw t) ∧ (ModeLaw s → ModeLaw t)) ∧
  (∀ s t : State, PresenceLaw s → step s = .next t → PresenceLaw t)

/-- ALERT# and SIREN follow the latches, the modes and the cadence. -/
def Obligations.StepKeepsLines : Prop :=
  ∀ s t : State, LineLaw s → step s = .next t → LineLaw t

/-- The service records keep their law: while the site is OPEN no crane secures or waits for vane release and one
OUT_OF_SERVICE is withheld; a withheld resume means that; STANDBY and SETUP go together; an absent crane is OFFLINE; vane
release is of FREE mode. While the site is in SETUP every cell is FREE, the wait list is empty and no booking is running,
under the law of the service records. -/
def Obligations.StepKeepsService : Prop :=
  (∀ s t : State, ServiceLaw s → step s = .next t → ServiceLaw t) ∧
  (∀ s t : State, ServiceLaw s → SetupLaw s → step s = .next t → SetupLaw t)

/-- The laws of the cell table: no two granted cells joined by STRUCT, no two HELD or CLEARING cells joined by HOOK, four
HELD cells a crane at most, and no HELD or CLEARING cell joined to another crane's running path. And the law of vane
release: a VANE cell is a FREE-mode crane's that is, or remembers being, OUT_OF_SERVICE or VANE_WAIT, and a crane with the
order VANE_RELEASE has all its cells VANE. Every step keeps them, with the laws they rest on. -/
def Obligations.StepKeepsGrants : Prop :=
  ∀ s t : State, ServiceLaw s → SetupLaw s → TableLaw s → PresenceLaw s → WaitLaw s → VaneLaw s → GrantLaw s →
    step s = .next t → GrantLaw t ∧ VaneLaw t

/-- The running bookings keep their laws: one a crane, no two cranes' running paths joined by a pair, and a suspension
reason for each thing out of order. So every ACTIVE booking belongs to a crane that is IN_SERVICE with an empty stop set, on
a site that is OPEN, with a known wind of CALM or CAUTION and a gust below the class limit. -/
def Obligations.StepKeepsRunningLifts : Prop :=
  (∀ s t : State, ServiceLaw s → TableLaw s → RunningLaw s → step s = .next t → RunningLaw t) ∧
  ∀ s : State, ServiceLaw s → RunningLaw s → ∀ b ∈ s.bookings, b.state = .active →
    s.site = .opened ∧ s.inState b.crane .inService = true ∧ s.stopSet b.crane = [] ∧ (s.windRec b.crane).unknown = false ∧
      ((s.windRec b.crane).state = .calm ∨ (s.windRec b.crane).state = .caution) ∧
      (s.windRec b.crane).gust < (s.entry b.crane).classLimit b.data.cls

/-- The machine right after reset, with every record at its power-on value. Site plan: both plans empty, with the defaults
of Tables 1-4 and 1-5, edition and stamp 0, the store without image and FAULT. Clock: site time and monotonic time 0, the
first second boundary at 1000, the flag clear, no clock-set record. Links: hunting and idle with nothing queued. Cranes:
OFFLINE without a report. Cells: FREE, since 0. Wait list, restricted, occupied and stop sets, last conformances and
register empty or absent. Wind: not heard, unknown, HOLD, no sample, accumulator 0. Site: SETUP; service OFFLINE with
REMAIN_SECURED. Bookings: none, the next id 1. Alerts: PLAN_FAULT present and latched at 0, every other record without
condition and latch, in its default mode; ALERT# asserted, SIREN not. Port: request buffer and response slot empty, RDY
deasserted, MISO released (no transaction recorded: log entry 21). That the part runs, without an image, SITE_STOP#
deasserted and PROTECT low, is the model's choice (log entries 4, 5), as is the empty queue (log entry 28). All the laws are
kept. -/
def Obligations.ResetKeepsTheLaws : Prop :=
  let s := State.reset
  (WindLaw s ∧ QueueLaw s ∧ WaitLaw s ∧ TableLaw s ∧ PresenceLaw s ∧ LineLaw s ∧ CellLaw s ∧ PortLaw s ∧ TimeLaw s ∧
    ModeLaw s ∧ ServiceLaw s ∧ SetupLaw s ∧ VaneLaw s ∧ GrantLaw s ∧ RegisterLaw s ∧ RunningLaw s) ∧
  ((∀ p, p = s.plan.staging ∨ p = s.plan.committed →
      (∀ c, p.entry c = ⟨false, 0, 0, .free, 0, 0, 0, 0, 0⟩ ∧ tget p.charts c = [] ∧
        ∀ x, tget (tget p.cells c) x = ⟨.unrestricted, none⟩) ∧
      p.pairs = [] ∧ (∀ k, tget p.schedules k = none) ∧ p.site = ⟨5, 30, 10, 0, 10, 15, .strict, .steady⟩ ∧
      p.modes.toList =
        [.warn, .warn, .warn, .warn, .warn, .warn, .warn, .warn, .warn, .stop, .quiet, .quiet, .quiet]) ∧
    s.plan.edition = 0 ∧ s.plan.stamp = 0 ∧ s.plan.condition = .fault ∧ s.plan.write = none ∧ s.plan.image = none) ∧
  (s.clock = ⟨0, 0, 1000, false, none⟩ ∧ s.site = .setup ∧ s.waits = [] ∧ s.register = [] ∧ s.bookings = [] ∧ s.nextId = 1) ∧
  (∀ c, s.present c = false ∧ s.link c = ⟨.hunting, none, [], none⟩ ∧ s.craneRec c = ⟨.offline, none, none, none, 0⟩ ∧
    tget s.restricted c = [] ∧ tget s.occupied c = none ∧ s.stopSet c = [] ∧ tget s.lastConf c = none ∧
    s.windRec c = ⟨false, true, .hold, [], 0, none⟩ ∧ (s.windRec c).gust = 0 ∧ (s.windRec c).mean = 0 ∧
    s.svc c = ⟨.offline, false, .remainSecured, none, false, none⟩) ∧
  (∀ q, s.cell q = ⟨.free, 0, none, none⟩) ∧
  (s.alert .planFault = ⟨.warn, [], true, [], some 0⟩ ∧
    (∀ k ∈ [AlertKind.conflict, .siteStop, .storm, .secureOverdue], s.alert k = ⟨.stop, [], false, [], none⟩) ∧
    (∀ k ∈ [AlertKind.intrusion, .craneLost, .windHold, .windUnknown, .offPath, .nonconform, .overrun, .restricted],
      s.alert k = ⟨.warn, [], false, [], none⟩) ∧
    (∀ k ∈ [AlertKind.windCaution, .reportEarly, .frameError], s.alert k = ⟨.quiet, [], false, [], none⟩)) ∧
  s.lines = ⟨true, false, none⟩ ∧ s.port = ⟨[], [], false, .highImpedance, []⟩ ∧ s.pins = ⟨.running, false, false⟩ ∧
  s.pending = []
end

