-- ==== Sys2Proof/Laws/Frames.lean ====
section
/-!
SUPPORT. What each shared operation may change: one frame lemma per operation, `Touches ps s (op s)`, which a proof cites instead
of unfolding the operation. Every part outside `ps` is the same after it.
-/
set_option Elab.async false
namespace Sys2Proof.Machine

theorem Touches.refl (ps : List Part) (s : State) : Touches ps s s := by
  intro p _; cases p <;> rfl

theorem Same.trans {p : Part} {s t u : State} (h : Same p s t) (k : Same p t u) : Same p s u := by
  cases p <;> exact Eq.trans k h

/-- A frame followed by an operation with a smaller one. -/
theorem Touches.step {ps qs : List Part} {s t u : State} (h : Touches ps s t) (k : Touches qs t u)
    (hq : ∀ p ∈ qs, p ∈ ps) : Touches ps s u :=
  fun p hp => (h p hp).trans (k p (fun hm => hp (hq p hm)))

theorem Touches.mono {ps qs : List Part} {s t : State} (h : Touches qs s t) (hq : ∀ p ∈ qs, p ∈ ps) :
    Touches ps s t := fun p hp => h p (fun hm => hp (hq p hm))

/-- The same, the operation first: what `apply` is given. -/
theorem Touches.after {ps qs : List Part} {s t u : State} (k : Touches qs t u)
    (hq : qs.all (fun p => ps.contains p) = true) (h : Touches ps s t) : Touches ps s u :=
  h.step k (fun p hp => by simpa using List.all_eq_true.mp hq p hp)

theorem Touches.fold {α : Type} {ps : List Part} {s t : State} (h : Touches ps s t) (l : List α)
    (f : State → α → State) (hf : ∀ u a, Touches ps u (f u a)) : Touches ps s (l.foldl f t) := by
  induction l generalizing t with
  | nil => exact h
  | cons a l ih => exact ih (h.step (hf t a) (fun _ hm => hm))

/-! ### One write per field -/

theorem touches_withPlan (s : State) (v : PlanStore) : Touches [.plan] s (s.withPlan v) := by
  intro p hp; cases p <;> first | rfl | exact absurd (List.mem_singleton_self _) hp

theorem touches_withClock (s : State) (v : Clock) : Touches [.clock] s (s.withClock v) := by
  intro p hp; cases p <;> first | rfl | exact absurd (List.mem_singleton_self _) hp

theorem touches_withLinks (s : State) (v : Tab 8 Channel) : Touches [.links] s (s.withLinks v) := by
  intro p hp; cases p <;> first | rfl | exact absurd (List.mem_singleton_self _) hp

theorem touches_withCranes (s : State) (v : Tab 8 CraneRec) : Touches [.cranes] s (s.withCranes v) := by
  intro p hp; cases p <;> first | rfl | exact absurd (List.mem_singleton_self _) hp

theorem touches_withCells (s : State) (v : Tab 8 (Tab 16 Cell)) : Touches [.cells] s (s.withCells v) := by
  intro p hp; cases p <;> first | rfl | exact absurd (List.mem_singleton_self _) hp

theorem touches_withWaits (s : State) (v : List Wait) : Touches [.waits] s (s.withWaits v) := by
  intro p hp; cases p <;> first | rfl | exact absurd (List.mem_singleton_self _) hp

theorem touches_withRestricted (s : State) (v : Tab 8 (List Sector)) : Touches [.restricted] s (s.withRestricted v) := by
  intro p hp; cases p <;> first | rfl | exact absurd (List.mem_singleton_self _) hp

theorem touches_withOccupied (s : State) (v : Tab 8 (Option Occupied)) : Touches [.occupied] s (s.withOccupied v) := by
  intro p hp; cases p <;> first | rfl | exact absurd (List.mem_singleton_self _) hp

theorem touches_withStops (s : State) (v : Tab 8 (List StopReason)) : Touches [.stops] s (s.withStops v) := by
  intro p hp; cases p <;> first | rfl | exact absurd (List.mem_singleton_self _) hp

theorem touches_withLastConf (s : State) (v : Tab 8 (Option Conformance)) : Touches [.lastConf] s (s.withLastConf v) := by
  intro p hp; cases p <;> first | rfl | exact absurd (List.mem_singleton_self _) hp

theorem touches_withRegister (s : State) (v : List RegEntry) : Touches [.register] s (s.withRegister v) := by
  intro p hp; cases p <;> first | rfl | exact absurd (List.mem_singleton_self _) hp

theorem touches_withWind (s : State) (v : Tab 8 WindRec) : Touches [.wind] s (s.withWind v) := by
  intro p hp; cases p <;> first | rfl | exact absurd (List.mem_singleton_self _) hp

theorem touches_withSite (s : State) (v : SiteState) : Touches [.site] s (s.withSite v) := by
  intro p hp; cases p <;> first | rfl | exact absurd (List.mem_singleton_self _) hp

theorem touches_withService (s : State) (v : Tab 8 ServiceRec) : Touches [.service] s (s.withService v) := by
  intro p hp; cases p <;> first | rfl | exact absurd (List.mem_singleton_self _) hp

theorem touches_withBookings (s : State) (v : List Booking) : Touches [.bookings] s (s.withBookings v) := by
  intro p hp; cases p <;> first | rfl | exact absurd (List.mem_singleton_self _) hp

theorem touches_withNextId (s : State) (v : Nat) : Touches [.nextId] s (s.withNextId v) := by
  intro p hp; cases p <;> first | rfl | exact absurd (List.mem_singleton_self _) hp

theorem touches_withAlerts (s : State) (v : Tab 16 AlertRec) : Touches [.alerts] s (s.withAlerts v) := by
  intro p hp; cases p <;> first | rfl | exact absurd (List.mem_singleton_self _) hp

theorem touches_withLines (s : State) (v : Lines) : Touches [.lines] s (s.withLines v) := by
  intro p hp; cases p <;> first | rfl | exact absurd (List.mem_singleton_self _) hp

theorem touches_withPort (s : State) (v : Port) : Touches [.port] s (s.withPort v) := by
  intro p hp; cases p <;> first | rfl | exact absurd (List.mem_singleton_self _) hp

theorem touches_withPins (s : State) (v : Pins) : Touches [.pins] s (s.withPins v) := by
  intro p hp; cases p <;> first | rfl | exact absurd (List.mem_singleton_self _) hp

theorem touches_withDraws (s : State) (v : Nat) : Touches [.draws] s (s.withDraws v) := by
  intro p hp; cases p <;> first | rfl | exact absurd (List.mem_singleton_self _) hp

theorem touches_withPending (s : State) (v : List Instr) : Touches [.pending] s (s.withPending v) := by
  intro p hp; cases p <;> first | rfl | exact absurd (List.mem_singleton_self _) hp

/-! ### Machine/Ops -/

theorem touches_setLink (s : State) (c : Crane) (ch : Channel) :
    Touches [.links] s (s.setLink c ch) := by
  unfold State.setLink
  repeat' first
    | with_reducible apply Touches.refl
    | decide +kernel
    | with_reducible apply Touches.after (touches_withLinks _ _)
    | with_reducible apply Touches.fold
    | with_reducible intro _
    | dsimp only
    | split

theorem touches_setCrane (s : State) (c : Crane) (r : CraneRec) :
    Touches [.cranes] s (s.setCrane c r) := by
  unfold State.setCrane
  repeat' first
    | with_reducible apply Touches.refl
    | decide +kernel
    | with_reducible apply Touches.after (touches_withCranes _ _)
    | with_reducible apply Touches.fold
    | with_reducible intro _
    | dsimp only
    | split

theorem touches_setCell (s : State) (q : CellId) (r : Cell) :
    Touches [.cells] s (s.setCell q r) := by
  unfold State.setCell
  repeat' first
    | with_reducible apply Touches.refl
    | decide +kernel
    | with_reducible apply Touches.after (touches_withCells _ _)
    | with_reducible apply Touches.fold
    | with_reducible intro _
    | dsimp only
    | split

theorem touches_setSvc (s : State) (c : Crane) (r : ServiceRec) :
    Touches [.service] s (s.setSvc c r) := by
  unfold State.setSvc
  repeat' first
    | with_reducible apply Touches.refl
    | decide +kernel
    | with_reducible apply Touches.after (touches_withService _ _)
    | with_reducible apply Touches.fold
    | with_reducible intro _
    | dsimp only
    | split

theorem touches_setWind (s : State) (c : Crane) (r : WindRec) :
    Touches [.wind] s (s.setWind c r) := by
  unfold State.setWind
  repeat' first
    | with_reducible apply Touches.refl
    | decide +kernel
    | with_reducible apply Touches.after (touches_withWind _ _)
    | with_reducible apply Touches.fold
    | with_reducible intro _
    | dsimp only
    | split

theorem touches_setStops (s : State) (c : Crane) (rs : List StopReason) :
    Touches [.stops] s (s.setStops c rs) := by
  unfold State.setStops
  repeat' first
    | with_reducible apply Touches.refl
    | decide +kernel
    | with_reducible apply Touches.after (touches_withStops _ _)
    | with_reducible apply Touches.fold
    | with_reducible intro _
    | dsimp only
    | split

theorem touches_setRestricted (s : State) (c : Crane) (xs : List Sector) :
    Touches [.restricted] s (s.setRestricted c xs) := by
  unfold State.setRestricted
  repeat' first
    | with_reducible apply Touches.refl
    | decide +kernel
    | with_reducible apply Touches.after (touches_withRestricted _ _)
    | with_reducible apply Touches.fold
    | with_reducible intro _
    | dsimp only
    | split

theorem touches_setOccupied (s : State) (c : Crane) (o : Option Occupied) :
    Touches [.occupied] s (s.setOccupied c o) := by
  unfold State.setOccupied
  repeat' first
    | with_reducible apply Touches.refl
    | decide +kernel
    | with_reducible apply Touches.after (touches_withOccupied _ _)
    | with_reducible apply Touches.fold
    | with_reducible intro _
    | dsimp only
    | split

theorem touches_setLastConf (s : State) (c : Crane) (v : Option Conformance) :
    Touches [.lastConf] s (s.setLastConf c v) := by
  unfold State.setLastConf
  repeat' first
    | with_reducible apply Touches.refl
    | decide +kernel
    | with_reducible apply Touches.after (touches_withLastConf _ _)
    | with_reducible apply Touches.fold
    | with_reducible intro _
    | dsimp only
    | split

theorem touches_setAlert (s : State) (k : AlertKind) (r : AlertRec) :
    Touches [.alerts] s (s.setAlert k r) := by
  unfold State.setAlert
  repeat' first
    | with_reducible apply Touches.refl
    | decide +kernel
    | with_reducible apply Touches.after (touches_withAlerts _ _)
    | with_reducible apply Touches.fold
    | with_reducible intro _
    | dsimp only
    | split

theorem touches_notify (s : State) (c : Crane) (f : TxFrame) :
    Touches [.links] s (s.notify c f) := by
  unfold State.notify
  repeat' first
    | with_reducible apply Touches.refl
    | decide +kernel
    | with_reducible apply Touches.after (touches_setLink _ _ _)
    | with_reducible apply Touches.fold
    | with_reducible intro _
    | dsimp only
    | split

theorem touches_queueAnswer (s : State) (c : Crane) (f : TxFrame) :
    Touches [.links] s (s.queueAnswer c f) := by
  unfold State.queueAnswer
  repeat' first
    | with_reducible apply Touches.refl
    | decide +kernel
    | with_reducible apply Touches.after (touches_setLink _ _ _)
    | with_reducible apply Touches.fold
    | with_reducible intro _
    | dsimp only
    | split

theorem touches_gather (s : State) (bytes : List Byte) :
    Touches [.port] s (s.gather bytes) := by
  unfold State.gather
  repeat' first
    | with_reducible apply Touches.refl
    | decide +kernel
    | with_reducible apply Touches.after (touches_withPort _ _)
    | with_reducible apply Touches.fold
    | with_reducible intro _
    | dsimp only
    | split

theorem touches_respond (s : State) (kind : Nat) (a : Answer) :
    Touches [.port] s (s.respond kind a) := by
  unfold State.respond
  repeat' first
    | with_reducible apply Touches.refl
    | decide +kernel
    | with_reducible apply Touches.after (touches_withPort _ _)
    | with_reducible apply Touches.fold
    | with_reducible intro _
    | dsimp only
    | split

/-! ### Machine/Flags -/

theorem touches_evaluateLines (s : State) :
    Touches [.lines] s (s.evaluateLines) := by
  unfold State.evaluateLines
  repeat' first
    | with_reducible apply Touches.refl
    | decide +kernel
    | with_reducible apply Touches.after (touches_withLines _ _)
    | with_reducible apply Touches.fold
    | with_reducible intro _
    | dsimp only
    | split

/-! ### Machine/Alerts -/

theorem touches_withdraw (s : State) (k : AlertKind) (c : Crane) :
    Touches [.alerts] s (s.withdraw k c) := by
  unfold State.withdraw
  repeat' first
    | with_reducible apply Touches.refl
    | decide +kernel
    | with_reducible apply Touches.after (touches_setAlert _ _ _)
    | with_reducible apply Touches.fold
    | with_reducible intro _
    | dsimp only
    | split

theorem touches_withdrawSite (s : State) (k : AlertKind) :
    Touches [.alerts] s (s.withdrawSite k) := by
  unfold State.withdrawSite
  repeat' first
    | with_reducible apply Touches.refl
    | decide +kernel
    | with_reducible apply Touches.after (touches_setAlert _ _ _)
    | with_reducible apply Touches.fold
    | with_reducible intro _
    | dsimp only
    | split

theorem touches_putLift (s : State) (b : Booking) :
    Touches [.bookings] s (s.putLift b) := by
  unfold State.putLift
  repeat' first
    | with_reducible apply Touches.refl
    | decide +kernel
    | with_reducible apply Touches.after (touches_withBookings _ _)
    | with_reducible apply Touches.fold
    | with_reducible intro _
    | dsimp only
    | split

theorem touches_freeLift (s : State) (id : Nat) :
    Touches [.bookings] s (s.freeLift id) := by
  unfold State.freeLift
  repeat' first
    | with_reducible apply Touches.refl
    | decide +kernel
    | with_reducible apply Touches.after (touches_withBookings _ _)
    | with_reducible apply Touches.fold
    | with_reducible intro _
    | dsimp only
    | split

theorem touches_notifyLift (s : State) (b : Booking) (e : NoticeEvent) (reasons : List SuspReason) :
    Touches [.links] s (s.notifyLift b e reasons) := by
  unfold State.notifyLift
  repeat' first
    | with_reducible apply Touches.refl
    | decide +kernel
    | with_reducible apply Touches.after (touches_notify _ _ _)
    | with_reducible apply Touches.fold
    | with_reducible intro _
    | dsimp only
    | split

theorem touches_addReason (s : State) (b : Booking) (r : SuspReason) :
    Touches [.links, .bookings] s (s.addReason b r) := by
  unfold State.addReason
  repeat' first
    | with_reducible apply Touches.refl
    | decide +kernel
    | with_reducible apply Touches.after (touches_notifyLift _ _ _ _)
    | with_reducible apply Touches.after (touches_putLift _ _)
    | with_reducible apply Touches.fold
    | with_reducible intro _
    | dsimp only
    | split

theorem touches_addReasonTo (s : State) (c : Crane) (r : SuspReason) :
    Touches [.links, .bookings] s (s.addReasonTo c r) := by
  unfold State.addReasonTo
  repeat' first
    | with_reducible apply Touches.refl
    | decide +kernel
    | with_reducible apply Touches.after (touches_addReason _ _ _)
    | with_reducible apply Touches.fold
    | with_reducible intro _
    | dsimp only
    | split

theorem touches_removeReason (s : State) (b : Booking) (r : SuspReason) :
    Touches [.links, .bookings] s (s.removeReason b r) := by
  unfold State.removeReason
  repeat' first
    | with_reducible apply Touches.refl
    | decide +kernel
    | with_reducible apply Touches.after (touches_notifyLift _ _ _ _)
    | with_reducible apply Touches.after (touches_putLift _ _)
    | with_reducible apply Touches.fold
    | with_reducible intro _
    | dsimp only
    | split

theorem touches_removeReasonFrom (s : State) (c : Crane) (r : SuspReason) :
    Touches [.links, .bookings] s (s.removeReasonFrom c r) := by
  unfold State.removeReasonFrom
  repeat' first
    | with_reducible apply Touches.refl
    | decide +kernel
    | with_reducible apply Touches.after (touches_removeReason _ _ _)
    | with_reducible apply Touches.fold
    | with_reducible intro _
    | dsimp only
    | split

theorem touches_reviewOffPath (s : State) (c : Crane) :
    Touches [.alerts] s (s.reviewOffPath c) := by
  unfold State.reviewOffPath
  repeat' first
    | with_reducible apply Touches.refl
    | decide +kernel
    | with_reducible apply Touches.after (touches_withdraw _ _ _)
    | with_reducible apply Touches.fold
    | with_reducible intro _
    | dsimp only
    | split

theorem touches_denyWaits (s : State) (p : Wait → Bool) (why : DenyReason) :
    Touches [.links, .waits, .alerts] s (s.denyWaits p why) := by
  unfold State.denyWaits
  repeat' first
    | with_reducible apply Touches.refl
    | decide +kernel
    | with_reducible apply Touches.after (touches_notify _ _ _)
    | with_reducible apply Touches.after (touches_reviewOffPath _ _)
    | with_reducible apply Touches.after (touches_withWaits _ _)
    | with_reducible apply Touches.fold
    | with_reducible intro _
    | dsimp only
    | split

theorem touches_denyCrane (s : State) (c : Crane) (why : DenyReason) :
    Touches [.links, .waits, .alerts] s (s.denyCrane c why) := by
  unfold State.denyCrane
  repeat' first
    | with_reducible apply Touches.refl
    | decide +kernel
    | with_reducible apply Touches.after (touches_denyWaits _ _ _)
    | with_reducible apply Touches.fold
    | with_reducible intro _
    | dsimp only
    | split

theorem touches_addStop (s : State) (c : Crane) (r : StopReason) :
    Touches [.links, .waits, .stops, .bookings, .alerts] s (s.addStop c r) := by
  unfold State.addStop
  repeat' first
    | with_reducible apply Touches.refl
    | decide +kernel
    | with_reducible apply Touches.after (touches_addReasonTo _ _ _)
    | with_reducible apply Touches.after (touches_denyCrane _ _ _)
    | with_reducible apply Touches.after (touches_setStops _ _ _)
    | with_reducible apply Touches.fold
    | with_reducible intro _
    | dsimp only
    | split

theorem touches_latchAlert (s : State) (k : AlertKind) (c : Option Crane) :
    Touches [.alerts] s (s.latchAlert k c) := by
  unfold State.latchAlert
  repeat' first
    | with_reducible apply Touches.refl
    | decide +kernel
    | with_reducible apply Touches.after (touches_setAlert _ _ _)
    | with_reducible apply Touches.fold
    | with_reducible intro _
    | dsimp only
    | split

theorem touches_stopAction (s : State) (k : AlertKind) (c : Option Crane) :
    Touches [.links, .waits, .stops, .bookings, .alerts] s (s.stopAction k c) := by
  unfold State.stopAction
  repeat' first
    | with_reducible apply Touches.refl
    | decide +kernel
    | with_reducible apply Touches.after (touches_addStop _ _ _)
    | with_reducible apply Touches.fold
    | with_reducible intro _
    | dsimp only
    | split

theorem touches_raise (s : State) (k : AlertKind) (c : Option Crane) :
    Touches [.links, .waits, .stops, .bookings, .alerts, .lines] s (s.raise k c) := by
  unfold State.raise
  repeat' first
    | with_reducible apply Touches.refl
    | decide +kernel
    | with_reducible apply Touches.after (touches_evaluateLines _)
    | with_reducible apply Touches.after (touches_latchAlert _ _ _)
    | with_reducible apply Touches.after (touches_stopAction _ _ _)
    | with_reducible apply Touches.fold
    | with_reducible intro _
    | dsimp only
    | split

theorem touches_raiseFor (s : State) (k : AlertKind) (c : Crane) :
    Touches [.links, .waits, .stops, .bookings, .alerts, .lines] s (s.raiseFor k c) := by
  unfold State.raiseFor
  repeat' first
    | with_reducible apply Touches.refl
    | decide +kernel
    | with_reducible apply Touches.after (touches_raise _ _ _)
    | with_reducible apply Touches.fold
    | with_reducible intro _
    | dsimp only
    | split

/-! ### Machine/Zones -/

theorem touches_changeCell (s : State) (r : CellReq) :
    Touches [.cells] s (s.changeCell r) := by
  unfold State.changeCell
  repeat' first
    | with_reducible apply Touches.refl
    | decide +kernel
    | with_reducible apply Touches.after (touches_setCell _ _ _)
    | with_reducible apply Touches.fold
    | with_reducible intro _
    | dsimp only
    | split

theorem touches_changeCells (s : State) (rs : List CellReq) :
    Touches [.cells] s (s.changeCells rs) := by
  unfold State.changeCells
  repeat' first
    | with_reducible apply Touches.refl
    | decide +kernel
    | with_reducible apply Touches.after (touches_changeCell _ _)
    | with_reducible apply Touches.fold
    | with_reducible intro _
    | dsimp only
    | split

theorem touches_dropRestricted (s : State) (q : CellId) :
    Touches [.restricted, .alerts] s (s.dropRestricted q) := by
  unfold State.dropRestricted
  repeat' first
    | with_reducible apply Touches.refl
    | decide +kernel
    | with_reducible apply Touches.after (touches_setRestricted _ _ _)
    | with_reducible apply Touches.after (touches_withdraw _ _ _)
    | with_reducible apply Touches.fold
    | with_reducible intro _
    | dsimp only
    | split

theorem touches_ownConditions (s : State) (chg : List Change) :
    Touches [.restricted, .alerts] s (s.ownConditions chg) := by
  unfold State.ownConditions
  repeat' first
    | with_reducible apply Touches.refl
    | decide +kernel
    | with_reducible apply Touches.after (touches_dropRestricted _ _)
    | with_reducible apply Touches.after (touches_reviewOffPath _ _)
    | with_reducible apply Touches.fold
    | with_reducible intro _
    | dsimp only
    | split

theorem touches_seizureEnded (s : State) (q : CellId) :
    Touches [.register, .alerts] s (s.seizureEnded q) := by
  unfold State.seizureEnded
  repeat' first
    | with_reducible apply Touches.refl
    | decide +kernel
    | with_reducible apply Touches.after (touches_withRegister _ _)
    | with_reducible apply Touches.after (touches_withdraw _ _ _)
    | with_reducible apply Touches.fold
    | with_reducible intro _
    | dsimp only
    | split

theorem touches_endSeizures (s : State) (chg : List Change) :
    Touches [.register, .alerts] s (s.endSeizures chg) := by
  unfold State.endSeizures
  repeat' first
    | with_reducible apply Touches.refl
    | decide +kernel
    | with_reducible apply Touches.after (touches_seizureEnded _ _)
    | with_reducible apply Touches.fold
    | with_reducible intro _
    | dsimp only
    | split

theorem touches_ownAndSeized (s : State) (chg : List Change) :
    Touches [.restricted, .register, .alerts] s (s.ownAndSeized chg) := by
  unfold State.ownAndSeized
  repeat' first
    | with_reducible apply Touches.refl
    | decide +kernel
    | with_reducible apply Touches.after (touches_endSeizures _ _)
    | with_reducible apply Touches.after (touches_ownConditions _ _)
    | with_reducible apply Touches.fold
    | with_reducible intro _
    | dsimp only
    | split

theorem touches_dropWait (s : State) (c : Crane) (x : Sector) :
    Touches [.waits] s (s.dropWait c x) := by
  unfold State.dropWait
  repeat' first
    | with_reducible apply Touches.refl
    | decide +kernel
    | with_reducible apply Touches.after (touches_withWaits _ _)
    | with_reducible apply Touches.fold
    | with_reducible intro _
    | dsimp only
    | split

theorem touches_tryGrant (s : State) (w : Wait) :
    Touches [.links, .cells, .waits, .restricted, .register, .alerts] s (s.tryGrant w) := by
  unfold State.tryGrant
  repeat' first
    | with_reducible apply Touches.refl
    | decide +kernel
    | with_reducible apply Touches.after (touches_changeCells _ _)
    | with_reducible apply Touches.after (touches_dropWait _ _ _)
    | with_reducible apply Touches.after (touches_notify _ _ _)
    | with_reducible apply Touches.after (touches_ownAndSeized _ _)
    | with_reducible apply Touches.fold
    | with_reducible intro _
    | dsimp only
    | split

theorem touches_walk (s : State) :
    Touches [.links, .cells, .waits, .restricted, .register, .alerts] s (s.walk) := by
  unfold State.walk
  repeat' first
    | with_reducible apply Touches.refl
    | decide +kernel
    | with_reducible apply Touches.after (touches_tryGrant _ _)
    | with_reducible apply Touches.fold
    | with_reducible intro _
    | dsimp only
    | split

theorem touches_toService (s : State) (c : Crane) :
    Touches [.service, .alerts] s (s.toService c) := by
  unfold State.toService
  repeat' first
    | with_reducible apply Touches.refl
    | decide +kernel
    | with_reducible apply Touches.after (touches_setSvc _ _ _)
    | with_reducible apply Touches.after (touches_withdraw _ _ _)
    | with_reducible apply Touches.fold
    | with_reducible intro _
    | dsimp only
    | split

theorem touches_outOfService (s : State) (c : Crane) (o : Order) (withheld : Bool) :
    Touches [.links, .waits, .service, .alerts] s (s.outOfService c o withheld) := by
  unfold State.outOfService
  repeat' first
    | with_reducible apply Touches.refl
    | decide +kernel
    | with_reducible apply Touches.after (touches_denyCrane _ _ _)
    | with_reducible apply Touches.after (touches_setSvc _ _ _)
    | with_reducible apply Touches.after (touches_withdraw _ _ _)
    | with_reducible apply Touches.fold
    | with_reducible intro _
    | dsimp only
    | split

theorem touches_resumeChange (s : State) (c : Crane) :
    Touches [.links, .cells, .waits, .service, .alerts] s (s.resumeChange c) := by
  unfold State.resumeChange
  repeat' first
    | with_reducible apply Touches.refl
    | decide +kernel
    | with_reducible apply Touches.after (touches_changeCells _ _)
    | with_reducible apply Touches.after (touches_outOfService _ _ _ _)
    | with_reducible apply Touches.after (touches_toService _ _)
    | with_reducible apply Touches.fold
    | with_reducible intro _
    | dsimp only
    | split

theorem touches_retryOne {recheck : State → State} (h : ∀ s, Touches [.links, .cells, .waits, .restricted, .register, .service, .alerts] s (recheck s)) (p : State × Bool)
    (c : Crane) : Touches [.links, .cells, .waits, .restricted, .register, .service, .alerts] p.1 (retryOne recheck p c).1 := by
  unfold retryOne followThree
  split
  · dsimp only
    split
    · exact (((touches_resumeChange _ _).mono (by decide +kernel)).step (touches_ownAndSeized _ _) (by decide +kernel)).step (h _)
        (fun _ hm => hm)
    · exact ((touches_resumeChange _ _).mono (by decide +kernel)).step (touches_ownAndSeized _ _) (by decide +kernel)
  · exact Touches.refl _ _

theorem touches_retryPass {recheck : State → State} (h : ∀ s, Touches [.links, .cells, .waits, .restricted, .register, .service, .alerts] s (recheck s)) (s : State) :
    Touches [.links, .cells, .waits, .restricted, .register, .service, .alerts] s (retryPass recheck s).1 := by
  suffices H : ∀ (l : List Crane) (p : State × Bool),
      Touches [.links, .cells, .waits, .restricted, .register, .service, .alerts] s p.1 → Touches [.links, .cells, .waits, .restricted, .register, .service, .alerts] s (l.foldl (retryOne recheck) p).1 from H _ _ (Touches.refl _ _)
  intro l
  induction l with
  | nil => exact fun _ hp => hp
  | cons c l ih => exact fun p hp => ih _ (hp.step (touches_retryOne h p c) (fun _ hm => hm))

theorem touches_arbitrateLoop {retry : State → State × Bool} (h : ∀ s, Touches [.links, .cells, .waits, .restricted, .register, .service, .alerts] s (retry s).1) (n : Nat)
    (s : State) : Touches [.links, .cells, .waits, .restricted, .register, .service, .alerts] s (arbitrateLoop retry n s) := by
  induction n generalizing s with
  | zero => exact Touches.refl _ _
  | succ n ih =>
    have h1 : Touches [.links, .cells, .waits, .restricted, .register, .service, .alerts] s (retry s.walk).1 :=
      ((touches_walk s).mono (by decide +kernel)).step (h _) (fun _ hm => hm)
    unfold arbitrateLoop
    dsimp only
    split
    · exact h1.step (ih _) (fun _ hm => hm)
    · exact h1

theorem touches_arbitrateWith {recheck : State → State} (h : ∀ s, Touches [.links, .cells, .waits, .restricted, .register, .service, .alerts] s (recheck s)) (s : State) :
    Touches [.links, .cells, .waits, .restricted, .register, .service, .alerts] s (arbitrateWith recheck s) := touches_arbitrateLoop (touches_retryPass h) _ _

theorem touches_followThree {recheck : State → State} (h : ∀ s, Touches [.links, .cells, .waits, .restricted, .register, .service, .alerts] s (recheck s)) (chg : List Change)
    (s : State) : Touches [.links, .cells, .waits, .restricted, .register, .service, .alerts] s (followThree recheck chg s) := by
  unfold followThree
  dsimp only
  split
  · exact ((touches_ownAndSeized _ _).mono (by decide +kernel)).step (h _) (fun _ hm => hm)
  · exact (touches_ownAndSeized _ _).mono (by decide +kernel)

theorem touches_followWith {recheck : State → State} (h : ∀ s, Touches [.links, .cells, .waits, .restricted, .register, .service, .alerts] s (recheck s)) (chg : List Change)
    (s : State) : Touches [.links, .cells, .waits, .restricted, .register, .service, .alerts] s (followWith recheck chg s) := by
  unfold followWith
  dsimp only
  split
  · exact (touches_followThree h _ _).step (touches_arbitrateWith h _) (fun _ hm => hm)
  · exact touches_followThree h _ _

theorem touches_releaseVaneWith {recheck : State → State} (h : ∀ s, Touches [.links, .cells, .waits, .restricted, .register, .service, .alerts] s (recheck s)) (s : State)
    (c : Crane) : Touches [.links, .cells, .waits, .restricted, .register, .service, .alerts] s (releaseVaneWith recheck s c) :=
  (((touches_changeCells _ _).mono (by decide +kernel)).step (touches_outOfService _ _ _ _) (by decide +kernel)).step
    (touches_followWith h _ _) (fun _ hm => hm)

theorem touches_recheckN (n : Nat) (s : State) : Touches [.links, .cells, .waits, .restricted, .register, .service, .alerts] s (recheckN n s) := by
  induction n generalizing s with
  | zero => exact Touches.refl _ _
  | succ n ih =>
    refine (Touches.refl _ s).fold _ _ (fun u c => ?_)
    unfold recheckOne
    split
    · exact touches_releaseVaneWith ih u c
    · exact Touches.refl _ _

theorem touches_recheckVane (s : State) : Touches [.links, .cells, .waits, .restricted, .register, .service, .alerts] s s.recheckVane := touches_recheckN 8 s

theorem touches_arbitrate (s : State) : Touches [.links, .cells, .waits, .restricted, .register, .service, .alerts] s s.arbitrate := touches_arbitrateWith touches_recheckVane s

theorem touches_follow (s : State) (chg : List Change) : Touches [.links, .cells, .waits, .restricted, .register, .service, .alerts] s (s.follow chg) :=
  touches_followWith touches_recheckVane chg s

theorem touches_testVane (s : State) (c : Crane) : Touches [.links, .cells, .waits, .restricted, .register, .service, .alerts] s (s.testVane c) := by
  unfold State.testVane
  split
  · exact touches_releaseVaneWith touches_recheckVane s c
  · exact Touches.refl _ _

theorem touches_convert (s : State) (rs : List CellReq) :
    Touches [.links, .cells, .waits, .restricted, .register, .service, .alerts] s (s.convert rs) := by
  unfold State.convert
  repeat' first
    | with_reducible apply Touches.refl
    | decide +kernel
    | with_reducible apply Touches.after (touches_changeCells _ _)
    | with_reducible apply Touches.after (touches_follow _ _)
    | with_reducible apply Touches.fold
    | with_reducible intro _
    | dsimp only
    | split

theorem touches_resumeCrane (s : State) (c : Crane) :
    Touches [.links, .cells, .waits, .restricted, .register, .service, .alerts] s (s.resumeCrane c) := by
  unfold State.resumeCrane
  repeat' first
    | with_reducible apply Touches.refl
    | decide +kernel
    | with_reducible apply Touches.after (touches_follow _ _)
    | with_reducible apply Touches.after (touches_resumeChange _ _)
    | with_reducible apply Touches.fold
    | with_reducible intro _
    | dsimp only
    | split

theorem touches_holdCell (s : State) (q : CellId) (o : OriginRule) :
    Touches [.links, .cells, .waits, .restricted, .register, .service, .alerts] s (s.holdCell q o) := by
  unfold State.holdCell
  repeat' first
    | with_reducible apply Touches.refl
    | decide +kernel
    | with_reducible apply Touches.after (touches_changeCells _ _)
    | with_reducible apply Touches.after (touches_dropWait _ _ _)
    | with_reducible apply Touches.after (touches_follow _ _)
    | with_reducible apply Touches.after (touches_notify _ _ _)
    | with_reducible apply Touches.fold
    | with_reducible intro _
    | dsimp only
    | split

/-! ### Machine/Service -/

theorem touches_toSecuring (s : State) (c : Crane) :
    Touches [.service] s (s.toSecuring c) := by
  unfold State.toSecuring
  repeat' first
    | with_reducible apply Touches.refl
    | decide +kernel
    | with_reducible apply Touches.after (touches_setSvc _ _ _)
    | with_reducible apply Touches.fold
    | with_reducible intro _
    | dsimp only
    | split

theorem touches_withheldToVaneWait (s : State) (c : Crane) :
    Touches [.links, .waits, .service, .alerts] s (s.withheldToVaneWait c) := by
  unfold State.withheldToVaneWait
  repeat' first
    | with_reducible apply Touches.refl
    | decide +kernel
    | with_reducible apply Touches.after (touches_denyCrane _ _ _)
    | with_reducible apply Touches.after (touches_setSvc _ _ _)
    | with_reducible apply Touches.fold
    | with_reducible intro _
    | dsimp only
    | split

theorem touches_enterSecuring (s : State) (c : Crane) :
    Touches [.links, .cells, .waits, .restricted, .register, .service, .alerts] s (s.enterSecuring c) := by
  unfold State.enterSecuring
  repeat' first
    | with_reducible apply Touches.refl
    | decide +kernel
    | with_reducible apply Touches.after (touches_setSvc _ _ _)
    | with_reducible apply Touches.after (touches_testVane _ _)
    | with_reducible apply Touches.after (touches_toSecuring _ _)
    | with_reducible apply Touches.after (touches_withheldToVaneWait _ _)
    | with_reducible apply Touches.fold
    | with_reducible intro _
    | dsimp only
    | split

theorem touches_enterSecuringAll (s : State) :
    Touches [.links, .cells, .waits, .restricted, .register, .service, .alerts] s (s.enterSecuringAll) := by
  unfold State.enterSecuringAll
  repeat' first
    | with_reducible apply Touches.refl
    | decide +kernel
    | with_reducible apply Touches.after (touches_enterSecuring _ _)
    | with_reducible apply Touches.fold
    | with_reducible intro _
    | dsimp only
    | split

theorem touches_addReasonAll (s : State) (r : SuspReason) :
    Touches [.links, .bookings] s (s.addReasonAll r) := by
  unfold State.addReasonAll
  repeat' first
    | with_reducible apply Touches.refl
    | decide +kernel
    | with_reducible apply Touches.after (touches_addReason _ _ _)
    | with_reducible apply Touches.fold
    | with_reducible intro _
    | dsimp only
    | split

theorem touches_enterStorm (s : State) (c : Crane) :
    Touches [.links, .cells, .waits, .restricted, .stops, .register, .site, .service, .bookings, .alerts, .lines] s (s.enterStorm c) := by
  unfold State.enterStorm
  repeat' first
    | with_reducible apply Touches.refl
    | decide +kernel
    | with_reducible apply Touches.after (touches_addReasonAll _ _)
    | with_reducible apply Touches.after (touches_enterSecuringAll _)
    | with_reducible apply Touches.after (touches_raiseFor _ _ _)
    | with_reducible apply Touches.after (touches_withSite _ _)
    | with_reducible apply Touches.fold
    | with_reducible intro _
    | dsimp only
    | split

theorem touches_reportStorm (s : State) (c : Crane) :
    Touches [.links, .cells, .waits, .restricted, .stops, .register, .site, .service, .bookings, .alerts, .lines] s (s.reportStorm c) := by
  unfold State.reportStorm
  repeat' first
    | with_reducible apply Touches.refl
    | decide +kernel
    | with_reducible apply Touches.after (touches_enterStorm _ _)
    | with_reducible apply Touches.after (touches_raiseFor _ _ _)
    | with_reducible apply Touches.fold
    | with_reducible intro _
    | dsimp only
    | split

theorem touches_parkCrane (s : State) (c : Crane) :
    Touches [.links, .cells, .waits, .restricted, .register, .service, .alerts] s (s.parkCrane c) := by
  unfold State.parkCrane
  repeat' first
    | with_reducible apply Touches.refl
    | decide +kernel
    | with_reducible apply Touches.after (touches_convert _ _)
    | with_reducible apply Touches.after (touches_denyCrane _ _ _)
    | with_reducible apply Touches.after (touches_setSvc _ _ _)
    | with_reducible apply Touches.after (touches_withdraw _ _ _)
    | with_reducible apply Touches.fold
    | with_reducible intro _
    | dsimp only
    | split

theorem touches_toVaneWait (s : State) (c : Crane) :
    Touches [.links, .cells, .waits, .restricted, .register, .service, .alerts] s (s.toVaneWait c) := by
  unfold State.toVaneWait
  repeat' first
    | with_reducible apply Touches.refl
    | decide +kernel
    | with_reducible apply Touches.after (touches_denyCrane _ _ _)
    | with_reducible apply Touches.after (touches_setSvc _ _ _)
    | with_reducible apply Touches.after (touches_testVane _ _)
    | with_reducible apply Touches.fold
    | with_reducible intro _
    | dsimp only
    | split

theorem touches_securingStage (s : State) (c : Crane) :
    Touches [.links, .cells, .waits, .restricted, .register, .service, .alerts] s (s.securingStage c) := by
  unfold State.securingStage
  repeat' first
    | with_reducible apply Touches.refl
    | decide +kernel
    | with_reducible apply Touches.after (touches_parkCrane _ _)
    | with_reducible apply Touches.after (touches_setSvc _ _ _)
    | with_reducible apply Touches.after (touches_toVaneWait _ _)
    | with_reducible apply Touches.fold
    | with_reducible intro _
    | dsimp only
    | split

theorem touches_rejoinService (s : State) (c : Crane) :
    Touches [.links, .cells, .waits, .restricted, .register, .service, .alerts] s (s.rejoinService c) := by
  unfold State.rejoinService
  repeat' first
    | with_reducible apply Touches.refl
    | decide +kernel
    | with_reducible apply Touches.after (touches_setSvc _ _ _)
    | with_reducible apply Touches.after (touches_testVane _ _)
    | with_reducible apply Touches.fold
    | with_reducible intro _
    | dsimp only
    | split

/-! ### Machine/Wind -/

theorem touches_keepInStep (s : State) (k : AlertKind) (c : Crane) (holds : Bool) :
    Touches [.links, .waits, .stops, .bookings, .alerts, .lines] s (s.keepInStep k c holds) := by
  unfold State.keepInStep
  repeat' first
    | with_reducible apply Touches.refl
    | decide +kernel
    | with_reducible apply Touches.after (touches_raiseFor _ _ _)
    | with_reducible apply Touches.after (touches_withdraw _ _ _)
    | with_reducible apply Touches.fold
    | with_reducible intro _
    | dsimp only
    | split

theorem touches_windConditions (s : State) (c : Crane) :
    Touches [.links, .waits, .stops, .bookings, .alerts, .lines] s (s.windConditions c) := by
  unfold State.windConditions
  repeat' first
    | with_reducible apply Touches.refl
    | decide +kernel
    | with_reducible apply Touches.after (touches_keepInStep _ _ _ _)
    | with_reducible apply Touches.fold
    | with_reducible intro _
    | dsimp only
    | split

theorem touches_actOnVerdict (s : State) (b : Booking) (v : Verdict) :
    Touches [.links, .bookings] s (s.actOnVerdict b v) := by
  unfold State.actOnVerdict
  repeat' first
    | with_reducible apply Touches.refl
    | decide +kernel
    | with_reducible apply Touches.after (touches_addReason _ _ _)
    | with_reducible apply Touches.after (touches_removeReason _ _ _)
    | with_reducible apply Touches.fold
    | with_reducible intro _
    | dsimp only
    | split

theorem touches_handVerdict (s : State) (c : Crane) :
    Touches [.links, .bookings] s (s.handVerdict c) := by
  unfold State.handVerdict
  repeat' first
    | with_reducible apply Touches.refl
    | decide +kernel
    | with_reducible apply Touches.after (touches_actOnVerdict _ _ _)
    | with_reducible apply Touches.fold
    | with_reducible intro _
    | dsimp only
    | split

theorem touches_windStage (s : State) (c : Crane) (wind : Option Nat) :
    Touches [.links, .cells, .waits, .restricted, .stops, .register, .wind, .site, .service, .bookings, .alerts, .lines] s (s.windStage c wind) := by
  unfold State.windStage
  repeat' first
    | with_reducible apply Touches.refl
    | decide +kernel
    | with_reducible apply Touches.after (touches_handVerdict _ _)
    | with_reducible apply Touches.after (touches_reportStorm _ _)
    | with_reducible apply Touches.after (touches_setWind _ _ _)
    | with_reducible apply Touches.after (touches_windConditions _ _)
    | with_reducible apply Touches.fold
    | with_reducible intro _
    | dsimp only
    | split

theorem touches_windLost (s : State) (c : Crane) :
    Touches [.links, .waits, .stops, .wind, .bookings, .alerts, .lines] s (s.windLost c) := by
  unfold State.windLost
  repeat' first
    | with_reducible apply Touches.refl
    | decide +kernel
    | with_reducible apply Touches.after (touches_setWind _ _ _)
    | with_reducible apply Touches.after (touches_windConditions _ _)
    | with_reducible apply Touches.fold
    | with_reducible intro _
    | dsimp only
    | split

/-! ### Machine/Conformance -/

theorem touches_register_ (s : State) (q : CellId) (ds : List Crane) :
    Touches [.register] s (s.register_ q ds) := by
  unfold State.register_
  repeat' first
    | with_reducible apply Touches.refl
    | decide +kernel
    | with_reducible apply Touches.after (touches_withRegister _ _)
    | with_reducible apply Touches.fold
    | with_reducible intro _
    | dsimp only
    | split

theorem touches_intrude (s : State) (q : CellId) :
    Touches [.links, .waits, .stops, .register, .bookings, .alerts, .lines] s (s.intrude q) := by
  unfold State.intrude
  repeat' first
    | with_reducible apply Touches.refl
    | decide +kernel
    | with_reducible apply Touches.after (touches_raiseFor _ _ _)
    | with_reducible apply Touches.after (touches_register_ _ _ _)
    | with_reducible apply Touches.fold
    | with_reducible intro _
    | dsimp only
    | split

theorem touches_seize (s : State) (q : CellId) :
    Touches [.links, .cells, .waits, .restricted, .stops, .register, .service, .bookings, .alerts, .lines] s (s.seize q) := by
  unfold State.seize
  repeat' first
    | with_reducible apply Touches.refl
    | decide +kernel
    | with_reducible apply Touches.after (touches_convert _ _)
    | with_reducible apply Touches.after (touches_intrude _ _)
    | with_reducible apply Touches.fold
    | with_reducible intro _
    | dsimp only
    | split

theorem touches_checkOccupied (s : State) (q : CellId) :
    Touches [.links, .cells, .waits, .restricted, .stops, .register, .service, .bookings, .alerts, .lines] s (s.checkOccupied q) := by
  unfold State.checkOccupied
  repeat' first
    | with_reducible apply Touches.refl
    | decide +kernel
    | with_reducible apply Touches.after (touches_holdCell _ _ _)
    | with_reducible apply Touches.after (touches_seize _ _)
    | with_reducible apply Touches.fold
    | with_reducible intro _
    | dsimp only
    | split

theorem touches_checkLeft (s : State) (q : CellId) :
    Touches [.links, .cells, .waits, .restricted, .register, .service, .alerts] s (s.checkLeft q) := by
  unfold State.checkLeft
  repeat' first
    | with_reducible apply Touches.refl
    | decide +kernel
    | with_reducible apply Touches.after (touches_convert _ _)
    | with_reducible apply Touches.fold
    | with_reducible intro _
    | dsimp only
    | split

theorem touches_checkPosition (s : State) (c : Crane) :
    Touches [.links, .cells, .waits, .restricted, .stops, .register, .service, .bookings, .alerts, .lines] s (s.checkPosition c) := by
  unfold State.checkPosition
  repeat' first
    | with_reducible apply Touches.refl
    | decide +kernel
    | with_reducible apply Touches.after (touches_checkLeft _ _)
    | with_reducible apply Touches.after (touches_checkOccupied _ _)
    | with_reducible apply Touches.fold
    | with_reducible intro _
    | dsimp only
    | split

theorem touches_positionStage (s : State) (c : Crane) (angle : Nat) :
    Touches [.links, .cells, .waits, .restricted, .occupied, .stops, .register, .service, .bookings, .alerts, .lines] s (s.positionStage c angle) := by
  unfold State.positionStage
  repeat' first
    | with_reducible apply Touches.refl
    | decide +kernel
    | with_reducible apply Touches.after (touches_checkPosition _ _)
    | with_reducible apply Touches.after (touches_setOccupied _ _ _)
    | with_reducible apply Touches.fold
    | with_reducible intro _
    | dsimp only
    | split

theorem touches_liftStage (s : State) (c : Crane) (load : Option Nat) (radius : Nat) :
    Touches [.links, .waits, .stops, .lastConf, .bookings, .alerts, .lines] s (s.liftStage c load radius) := by
  unfold State.liftStage
  repeat' first
    | with_reducible apply Touches.refl
    | decide +kernel
    | with_reducible apply Touches.after (touches_addReasonTo _ _ _)
    | with_reducible apply Touches.after (touches_raiseFor _ _ _)
    | with_reducible apply Touches.after (touches_setLastConf _ _ _)
    | with_reducible apply Touches.after (touches_withdraw _ _ _)
    | with_reducible apply Touches.fold
    | with_reducible intro _
    | dsimp only
    | split

theorem touches_loadDrop (s : State) (c : Crane) :
    Touches [.links, .cells, .waits, .restricted, .register, .service, .alerts] s (s.loadDrop c) := by
  unfold State.loadDrop
  repeat' first
    | with_reducible apply Touches.refl
    | decide +kernel
    | with_reducible apply Touches.after (touches_arbitrate _)
    | with_reducible apply Touches.after (touches_setRestricted _ _ _)
    | with_reducible apply Touches.after (touches_withdraw _ _ _)
    | with_reducible apply Touches.fold
    | with_reducible intro _
    | dsimp only
    | split

/-! ### Machine/Bookings -/

theorem touches_testBooked (s : State) (n : Nat) (id : Nat) :
    Touches [.links, .bookings] s (s.testBooked n id) := by
  unfold State.testBooked
  repeat' first
    | with_reducible apply Touches.refl
    | decide +kernel
    | with_reducible apply Touches.after (touches_freeLift _ _)
    | with_reducible apply Touches.after (touches_notifyLift _ _ _ _)
    | with_reducible apply Touches.after (touches_putLift _ _)
    | with_reducible apply Touches.fold
    | with_reducible intro _
    | dsimp only
    | split

theorem touches_testOverrun (s : State) (n : Nat) (id : Nat) :
    Touches [.links, .waits, .stops, .bookings, .alerts, .lines] s (s.testOverrun n id) := by
  unfold State.testOverrun
  repeat' first
    | with_reducible apply Touches.refl
    | decide +kernel
    | with_reducible apply Touches.after (touches_putLift _ _)
    | with_reducible apply Touches.after (touches_raiseFor _ _ _)
    | with_reducible apply Touches.fold
    | with_reducible intro _
    | dsimp only
    | split

theorem touches_bookingMinute (s : State) (n : Nat) :
    Touches [.links, .waits, .stops, .bookings, .alerts, .lines] s (s.bookingMinute n) := by
  unfold State.bookingMinute
  repeat' first
    | with_reducible apply Touches.refl
    | decide +kernel
    | with_reducible apply Touches.after (touches_testBooked _ _ _)
    | with_reducible apply Touches.after (touches_testOverrun _ _ _)
    | with_reducible apply Touches.fold
    | with_reducible intro _
    | dsimp only
    | split

theorem touches_formRestricted (s : State) (n : Nat) (c : Crane) :
    Touches [.links, .waits, .restricted, .stops, .bookings, .alerts, .lines] s (s.formRestricted n c) := by
  unfold State.formRestricted
  repeat' first
    | with_reducible apply Touches.refl
    | decide +kernel
    | with_reducible apply Touches.after (touches_raiseFor _ _ _)
    | with_reducible apply Touches.after (touches_setRestricted _ _ _)
    | with_reducible apply Touches.after (touches_withdraw _ _ _)
    | with_reducible apply Touches.fold
    | with_reducible intro _
    | dsimp only
    | split

theorem touches_zoneMinute (s : State) (n : Nat) :
    Touches [.links, .waits, .restricted, .stops, .bookings, .alerts, .lines] s (s.zoneMinute n) := by
  unfold State.zoneMinute
  repeat' first
    | with_reducible apply Touches.refl
    | decide +kernel
    | with_reducible apply Touches.after (touches_formRestricted _ _ _)
    | with_reducible apply Touches.fold
    | with_reducible intro _
    | dsimp only
    | split

theorem touches_minuteEvent (s : State) (n : Nat) :
    Touches [.links, .waits, .restricted, .stops, .bookings, .alerts, .lines] s (s.minuteEvent n) := by
  unfold State.minuteEvent
  repeat' first
    | with_reducible apply Touches.refl
    | decide +kernel
    | with_reducible apply Touches.after (touches_bookingMinute _ _)
    | with_reducible apply Touches.after (touches_zoneMinute _ _)
    | with_reducible apply Touches.fold
    | with_reducible intro _
    | dsimp only
    | split

theorem touches_moveTime (s : State) (t : Nat) :
    Touches [.clock, .links, .waits, .restricted, .stops, .bookings, .alerts, .lines] s (s.moveTime t) := by
  unfold State.moveTime
  repeat' first
    | with_reducible apply Touches.refl
    | decide +kernel
    | with_reducible apply Touches.after (touches_minuteEvent _ _)
    | with_reducible apply Touches.after (touches_withClock _ _)
    | with_reducible apply Touches.fold
    | with_reducible intro _
    | dsimp only
    | split

theorem touches_endLift (s : State) (b : Booking) :
    Touches [.links, .cells, .waits, .restricted, .lastConf, .register, .service, .bookings, .alerts] s (s.endLift b) := by
  unfold State.endLift
  repeat' first
    | with_reducible apply Touches.refl
    | decide +kernel
    | with_reducible apply Touches.after (touches_arbitrate _)
    | with_reducible apply Touches.after (touches_freeLift _ _)
    | with_reducible apply Touches.after (touches_reviewOffPath _ _)
    | with_reducible apply Touches.after (touches_setLastConf _ _ _)
    | with_reducible apply Touches.after (touches_withdraw _ _ _)
    | with_reducible apply Touches.fold
    | with_reducible intro _
    | dsimp only
    | split

/-! ### Machine/LiftRequests -/

theorem touches_propose (q : Requester) (crane : Nat) (f : LiftFields) (s : State) :
    Touches [.bookings, .nextId] s (propose q crane f s).1 := by
  unfold propose
  repeat' first
    | with_reducible apply Touches.refl
    | decide +kernel
    | with_reducible apply Touches.after (touches_withBookings _ _)
    | with_reducible apply Touches.after (touches_withNextId _ _)
    | with_reducible apply Touches.fold
    | with_reducible intro _
    | dsimp only
    | split

theorem touches_testDue (s : State) (b : Booking) :
    Touches [.links, .bookings] s (s.testDue b) := by
  unfold State.testDue
  repeat' first
    | with_reducible apply Touches.refl
    | decide +kernel
    | with_reducible apply Touches.after (touches_notifyLift _ _ _ _)
    | with_reducible apply Touches.after (touches_putLift _ _)
    | with_reducible apply Touches.fold
    | with_reducible intro _
    | dsimp only
    | split

theorem touches_confirm (q : Requester) (id : Nat) (s : State) :
    Touches [.links, .bookings] s (confirm q id s).1 := by
  unfold confirm
  repeat' first
    | with_reducible apply Touches.refl
    | decide +kernel
    | with_reducible apply Touches.after (touches_freeLift _ _)
    | with_reducible apply Touches.after (touches_putLift _ _)
    | with_reducible apply Touches.after (touches_testDue _ _)
    | with_reducible apply Touches.fold
    | with_reducible intro _
    | dsimp only
    | split

theorem touches_amend (q : Requester) (id : Nat) (f : LiftFields) (s : State) :
    Touches [.links, .bookings] s (amend q id f s).1 := by
  unfold amend
  repeat' first
    | with_reducible apply Touches.refl
    | decide +kernel
    | with_reducible apply Touches.after (touches_putLift _ _)
    | with_reducible apply Touches.after (touches_testDue _ _)
    | with_reducible apply Touches.fold
    | with_reducible intro _
    | dsimp only
    | split

theorem touches_cancel (q : Requester) (id : Nat) (s : State) :
    Touches [.links, .bookings] s (cancel q id s).1 := by
  unfold cancel
  repeat' first
    | with_reducible apply Touches.refl
    | decide +kernel
    | with_reducible apply Touches.after (touches_freeLift _ _)
    | with_reducible apply Touches.after (touches_notifyLift _ _ _ _)
    | with_reducible apply Touches.fold
    | with_reducible intro _
    | dsimp only
    | split

theorem touches_setLock (locked : Bool) (q : Requester) (id : Nat) (s : State) :
    Touches [.bookings] s (setLock locked q id s).1 := by
  unfold setLock
  repeat' first
    | with_reducible apply Touches.refl
    | decide +kernel
    | with_reducible apply Touches.after (touches_putLift _ _)
    | with_reducible apply Touches.fold
    | with_reducible intro _
    | dsimp only
    | split

theorem touches_queryRecord (q : Requester) (id : Nat) (s : State) :
    Touches [] s (queryRecord q id s).1 := by
  unfold queryRecord
  repeat' first
    | with_reducible apply Touches.refl
    | decide +kernel
    | with_reducible apply Touches.fold
    | with_reducible intro _
    | dsimp only
    | split

theorem touches_listRecords (q : Requester) (selector : Nat) (filter : Nat) (fromId : Nat) (s : State) :
    Touches [] s (listRecords q selector filter fromId s).1 := by
  unfold listRecords
  repeat' first
    | with_reducible apply Touches.refl
    | decide +kernel
    | with_reducible apply Touches.fold
    | with_reducible intro _
    | dsimp only
    | split

theorem touches_start (q : Requester) (id : Nat) (s : State) :
    Touches [.lastConf, .bookings] s (start q id s).1 := by
  unfold start
  repeat' first
    | with_reducible apply Touches.refl
    | decide +kernel
    | with_reducible apply Touches.after (touches_putLift _ _)
    | with_reducible apply Touches.after (touches_setLastConf _ _ _)
    | with_reducible apply Touches.fold
    | with_reducible intro _
    | dsimp only
    | split

theorem touches_endRunning (terminal : Nat) (q : Requester) (id : Nat) (s : State) :
    Touches [.links, .cells, .waits, .restricted, .lastConf, .register, .service, .bookings, .alerts] s (endRunning terminal q id s).1 := by
  unfold endRunning
  repeat' first
    | with_reducible apply Touches.refl
    | decide +kernel
    | with_reducible apply Touches.after (touches_endLift _ _)
    | with_reducible apply Touches.fold
    | with_reducible intro _
    | dsimp only
    | split

theorem touches_finish (q : Requester) (id : Nat) (s : State) :
    Touches [.links, .cells, .waits, .restricted, .lastConf, .register, .service, .bookings, .alerts] s (finish q id s).1 := by
  unfold finish
  repeat' first
    | with_reducible apply Touches.refl
    | decide +kernel
    | with_reducible apply Touches.after (touches_endRunning _ _ _ _)
    | with_reducible apply Touches.fold
    | with_reducible intro _
    | dsimp only
    | split

theorem touches_land (q : Requester) (id : Nat) (s : State) :
    Touches [.links, .cells, .waits, .restricted, .lastConf, .register, .service, .bookings, .alerts] s (land q id s).1 := by
  unfold land
  repeat' first
    | with_reducible apply Touches.refl
    | decide +kernel
    | with_reducible apply Touches.after (touches_endRunning _ _ _ _)
    | with_reducible apply Touches.fold
    | with_reducible intro _
    | dsimp only
    | split

theorem touches_suspend (q : Requester) (id : Nat) (s : State) :
    Touches [.links, .bookings] s (suspend q id s).1 := by
  unfold suspend
  repeat' first
    | with_reducible apply Touches.refl
    | decide +kernel
    | with_reducible apply Touches.after (touches_addReason _ _ _)
    | with_reducible apply Touches.after (touches_putLift _ _)
    | with_reducible apply Touches.fold
    | with_reducible intro _
    | dsimp only
    | split

theorem touches_resume (q : Requester) (id : Nat) (s : State) :
    Touches [.bookings] s (resume q id s).1 := by
  unfold resume
  repeat' first
    | with_reducible apply Touches.refl
    | decide +kernel
    | with_reducible apply Touches.after (touches_putLift _ _)
    | with_reducible apply Touches.fold
    | with_reducible intro _
    | dsimp only
    | split

/-! ### Machine/ZoneRequests -/

theorem touches_appendWait (s : State) (c : Crane) (x : Sector) :
    Touches [.waits, .alerts] s (s.appendWait c x) := by
  unfold State.appendWait
  repeat' first
    | with_reducible apply Touches.refl
    | decide +kernel
    | with_reducible apply Touches.after (touches_reviewOffPath _ _)
    | with_reducible apply Touches.after (touches_withWaits _ _)
    | with_reducible apply Touches.fold
    | with_reducible intro _
    | dsimp only
    | split

theorem touches_enterCell (s : State) (q : CellId) :
    Touches [.links, .cells, .waits, .restricted, .register, .service, .alerts] s (s.enterCell q).1 := by
  unfold State.enterCell
  repeat' first
    | with_reducible apply Touches.refl
    | decide +kernel
    | with_reducible apply Touches.after (touches_appendWait _ _ _)
    | with_reducible apply Touches.after (touches_convert _ _)
    | with_reducible apply Touches.fold
    | with_reducible intro _
    | dsimp only
    | split

theorem touches_enterPassed (s : State) (q : CellId) :
    Touches [.links, .cells, .waits, .restricted, .stops, .register, .service, .bookings, .alerts, .lines] s (s.enterPassed q).1 := by
  unfold State.enterPassed
  repeat' first
    | with_reducible apply Touches.refl
    | decide +kernel
    | with_reducible apply Touches.after (touches_enterCell _ _)
    | with_reducible apply Touches.after (touches_raiseFor _ _ _)
    | with_reducible apply Touches.fold
    | with_reducible intro _
    | dsimp only
    | split

theorem touches_enterZone (c : Crane) (n : Nat) (s : State) :
    Touches [.links, .cells, .waits, .restricted, .stops, .register, .service, .bookings, .alerts, .lines] s (enterZone c n s).1 := by
  unfold enterZone
  repeat' first
    | with_reducible apply Touches.refl
    | decide +kernel
    | with_reducible apply Touches.after (touches_enterPassed _ _)
    | with_reducible apply Touches.fold
    | with_reducible intro _
    | dsimp only
    | split

theorem touches_releaseZone (c : Crane) (n : Nat) (s : State) :
    Touches [.links, .cells, .waits, .restricted, .register, .service, .alerts] s (releaseZone c n s).1 := by
  unfold releaseZone
  repeat' first
    | with_reducible apply Touches.refl
    | decide +kernel
    | with_reducible apply Touches.after (touches_convert _ _)
    | with_reducible apply Touches.after (touches_dropWait _ _ _)
    | with_reducible apply Touches.after (touches_reviewOffPath _ _)
    | with_reducible apply Touches.fold
    | with_reducible intro _
    | dsimp only
    | split

/-! ### Machine/Links -/

theorem touches_recordReport (s : State) (c : Crane) (r : Report) (n : Nat) :
    Touches [.cranes] s (s.recordReport c r n) := by
  unfold State.recordReport
  repeat' first
    | with_reducible apply Touches.refl
    | decide +kernel
    | with_reducible apply Touches.after (touches_setCrane _ _ _)
    | with_reducible apply Touches.fold
    | with_reducible intro _
    | dsimp only
    | split

theorem touches_deliver (s : State) (c : Crane) (r : Report) (rejoining : Bool) (wasZero : Bool) :
    Touches [.links, .cells, .waits, .restricted, .occupied, .stops, .lastConf, .register, .wind, .site, .service, .bookings, .alerts, .lines] s (s.deliver c r rejoining wasZero) := by
  unfold State.deliver
  repeat' first
    | with_reducible apply Touches.refl
    | decide +kernel
    | with_reducible apply Touches.after (touches_liftStage _ _ _ _)
    | with_reducible apply Touches.after (touches_loadDrop _ _)
    | with_reducible apply Touches.after (touches_positionStage _ _ _)
    | with_reducible apply Touches.after (touches_removeReasonFrom _ _ _)
    | with_reducible apply Touches.after (touches_securingStage _ _)
    | with_reducible apply Touches.after (touches_windStage _ _ _)
    | with_reducible apply Touches.fold
    | with_reducible intro _
    | dsimp only
    | split

theorem touches_acknowledge (s : State) (c : Crane) (code : Code) :
    Touches [.links] s (s.acknowledge c code) := by
  unfold State.acknowledge
  repeat' first
    | with_reducible apply Touches.refl
    | decide +kernel
    | with_reducible apply Touches.after (touches_queueAnswer _ _ _)
    | with_reducible apply Touches.fold
    | with_reducible intro _
    | dsimp only
    | split

theorem touches_acceptStatus (s : State) (c : Crane) (r : Report) :
    Touches [.links, .cranes, .cells, .waits, .restricted, .occupied, .stops, .lastConf, .register, .wind, .site, .service, .bookings, .alerts, .lines] s (s.acceptStatus c r) := by
  unfold State.acceptStatus
  repeat' first
    | with_reducible apply Touches.refl
    | decide +kernel
    | with_reducible apply Touches.after (touches_acknowledge _ _ _)
    | with_reducible apply Touches.after (touches_deliver _ _ _ _ _)
    | with_reducible apply Touches.after (touches_raiseFor _ _ _)
    | with_reducible apply Touches.after (touches_recordReport _ _ _ _)
    | with_reducible apply Touches.after (touches_withdraw _ _ _)
    | with_reducible apply Touches.fold
    | with_reducible intro _
    | dsimp only
    | split

theorem touches_acceptRejoin (s : State) (c : Crane) (r : Report) :
    Touches [.links, .cranes, .cells, .waits, .restricted, .occupied, .stops, .lastConf, .register, .wind, .site, .service, .bookings, .alerts, .lines] s (s.acceptRejoin c r) := by
  unfold State.acceptRejoin
  repeat' first
    | with_reducible apply Touches.refl
    | decide +kernel
    | with_reducible apply Touches.after (touches_acknowledge _ _ _)
    | with_reducible apply Touches.after (touches_deliver _ _ _ _ _)
    | with_reducible apply Touches.after (touches_recordReport _ _ _ _)
    | with_reducible apply Touches.after (touches_rejoinService _ _)
    | with_reducible apply Touches.after (touches_withdraw _ _ _)
    | with_reducible apply Touches.fold
    | with_reducible intro _
    | dsimp only
    | split

theorem touches_becomeLost (s : State) (c : Crane) :
    Touches [.links, .cranes, .waits, .stops, .wind, .service, .bookings, .alerts, .lines] s (s.becomeLost c) := by
  unfold State.becomeLost
  repeat' first
    | with_reducible apply Touches.refl
    | decide +kernel
    | with_reducible apply Touches.after (touches_addReasonTo _ _ _)
    | with_reducible apply Touches.after (touches_denyCrane _ _ _)
    | with_reducible apply Touches.after (touches_raiseFor _ _ _)
    | with_reducible apply Touches.after (touches_setCrane _ _ _)
    | with_reducible apply Touches.after (touches_setSvc _ _ _)
    | with_reducible apply Touches.after (touches_windLost _ _)
    | with_reducible apply Touches.fold
    | with_reducible intro _
    | dsimp only
    | split

theorem touches_runLinkRequest (c : Crane) (f : LinkFrame) (s : State) :
    Touches [.links, .cells, .waits, .restricted, .stops, .lastConf, .register, .service, .bookings, .nextId, .alerts, .lines] s (runLinkRequest c f s).1 := by
  unfold runLinkRequest
  repeat' first
    | with_reducible apply Touches.refl
    | decide +kernel
    | with_reducible apply Touches.after (touches_amend _ _ _ _)
    | with_reducible apply Touches.after (touches_cancel _ _ _)
    | with_reducible apply Touches.after (touches_confirm _ _ _)
    | with_reducible apply Touches.after (touches_enterZone _ _ _)
    | with_reducible apply Touches.after (touches_finish _ _ _)
    | with_reducible apply Touches.after (touches_land _ _ _)
    | with_reducible apply Touches.after (touches_listRecords _ _ _ _ _)
    | with_reducible apply Touches.after (touches_propose _ _ _ _)
    | with_reducible apply Touches.after (touches_queryRecord _ _ _)
    | with_reducible apply Touches.after (touches_releaseZone _ _ _)
    | with_reducible apply Touches.after (touches_resume _ _ _)
    | with_reducible apply Touches.after (touches_setLock _ _ _ _)
    | with_reducible apply Touches.after (touches_start _ _ _)
    | with_reducible apply Touches.after (touches_suspend _ _ _)
    | with_reducible apply Touches.fold
    | with_reducible intro _
    | dsimp only
    | split

theorem touches_answerLink (s : State) (c : Crane) (f : LinkFrame) (a : Answer) :
    Touches [.links] s (s.answerLink c f a) := by
  unfold State.answerLink
  repeat' first
    | with_reducible apply Touches.refl
    | decide +kernel
    | with_reducible apply Touches.after (touches_queueAnswer _ _ _)
    | with_reducible apply Touches.fold
    | with_reducible intro _
    | dsimp only
    | split

theorem touches_takeFrame (s : State) (c : Crane) (f : LinkFrame) :
    Touches [.links, .cranes, .cells, .waits, .restricted, .occupied, .stops, .lastConf, .register, .wind, .site, .service, .bookings, .nextId, .alerts, .lines] s (s.takeFrame c f) := by
  unfold State.takeFrame
  repeat' first
    | with_reducible apply Touches.refl
    | decide +kernel
    | with_reducible apply Touches.after (touches_acceptRejoin _ _ _)
    | with_reducible apply Touches.after (touches_acceptStatus _ _ _)
    | with_reducible apply Touches.after (touches_acknowledge _ _ _)
    | with_reducible apply Touches.after (touches_answerLink _ _ _ _)
    | with_reducible apply Touches.after (touches_runLinkRequest _ _ _)
    | with_reducible apply Touches.fold
    | with_reducible intro _
    | dsimp only
    | split

theorem touches_badFrame (s : State) (c : Crane) :
    Touches [.links, .waits, .stops, .bookings, .alerts, .lines] s (s.badFrame c) := by
  unfold State.badFrame
  repeat' first
    | with_reducible apply Touches.refl
    | decide +kernel
    | with_reducible apply Touches.after (touches_raiseFor _ _ _)
    | with_reducible apply Touches.after (touches_setLink _ _ _)
    | with_reducible apply Touches.fold
    | with_reducible intro _
    | dsimp only
    | split

theorem touches_arrive (s : State) (c : Crane) (f : LinkFrame) :
    Touches [.links, .cranes, .cells, .waits, .restricted, .occupied, .stops, .lastConf, .register, .wind, .site, .service, .bookings, .nextId, .alerts, .lines] s (s.arrive c f) := by
  unfold State.arrive
  repeat' first
    | with_reducible apply Touches.refl
    | decide +kernel
    | with_reducible apply Touches.after (touches_badFrame _ _)
    | with_reducible apply Touches.after (touches_setLink _ _ _)
    | with_reducible apply Touches.after (touches_takeFrame _ _ _)
    | with_reducible apply Touches.after (touches_withdraw _ _ _)
    | with_reducible apply Touches.fold
    | with_reducible intro _
    | dsimp only
    | split

theorem touches_frameSent (s : State) (c : Crane) :
    Touches [.links, .cranes, .cells, .waits, .restricted, .occupied, .stops, .lastConf, .register, .wind, .site, .service, .bookings, .nextId, .alerts, .lines] s (s.frameSent c) := by
  unfold State.frameSent
  repeat' first
    | with_reducible apply Touches.refl
    | decide +kernel
    | with_reducible apply Touches.after (touches_setLink _ _ _)
    | with_reducible apply Touches.after (touches_takeFrame _ _ _)
    | with_reducible apply Touches.fold
    | with_reducible intro _
    | dsimp only
    | split

theorem touches_receiveByte (s : State) (c : Crane) (b : Byte) (stopGood : Bool) :
    Touches [.links, .cranes, .cells, .waits, .restricted, .occupied, .stops, .lastConf, .register, .wind, .site, .service, .bookings, .nextId, .alerts, .lines] s (s.receiveByte c b stopGood) := by
  unfold State.receiveByte
  repeat' first
    | with_reducible apply Touches.refl
    | decide +kernel
    | with_reducible apply Touches.after (touches_arrive _ _ _)
    | with_reducible apply Touches.after (touches_badFrame _ _)
    | with_reducible apply Touches.after (touches_setLink _ _ _)
    | with_reducible apply Touches.fold
    | with_reducible intro _
    | dsimp only
    | split

/-! ### Machine/Power -/

theorem touches_cutWrite (s : State) :
    Touches [.plan] s (s.cutWrite) := by
  unfold State.cutWrite
  repeat' first
    | with_reducible apply Touches.refl
    | decide +kernel
    | with_reducible apply Touches.after (touches_withPlan _ _)
    | with_reducible apply Touches.fold
    | with_reducible intro _
    | dsimp only
    | split

theorem touches_raiseSiteStop (s : State) :
    Touches [.links, .waits, .stops, .bookings, .alerts, .lines] s (s.raiseSiteStop) := by
  unfold State.raiseSiteStop
  repeat' first
    | with_reducible apply Touches.refl
    | decide +kernel
    | with_reducible apply Touches.after (touches_addStop _ _ _)
    | with_reducible apply Touches.after (touches_raise _ _ _)
    | with_reducible apply Touches.fold
    | with_reducible intro _
    | dsimp only
    | split

theorem touches_startUp (s : State) : Touches [.plan, .clock, .links, .cranes, .cells, .waits, .restricted, .occupied, .stops, .lastConf, .register, .wind, .site, .service, .bookings, .nextId, .alerts, .lines, .port, .pins] s s.startUp := by
  intro p hp; cases p <;> first | rfl | exact absurd (by decide +kernel) hp

theorem touches_startRaisings (s : State) :
    Touches [.links, .waits, .stops, .bookings, .alerts, .lines] s (s.startRaisings) := by
  unfold State.startRaisings
  repeat' first
    | with_reducible apply Touches.refl
    | decide +kernel
    | with_reducible apply Touches.after (touches_raise _ _ _)
    | with_reducible apply Touches.after (touches_raiseSiteStop _)
    | with_reducible apply Touches.fold
    | with_reducible intro _
    | dsimp only
    | split

theorem touches_halt (s : State) (p : Power) :
    Touches [.plan, .links, .lines, .port, .pins] s (s.halt p) := by
  unfold State.halt
  repeat' first
    | with_reducible apply Touches.refl
    | decide +kernel
    | with_reducible apply Touches.after (touches_cutWrite _)
    | with_reducible apply Touches.after (touches_withLines _ _)
    | with_reducible apply Touches.after (touches_withLinks _ _)
    | with_reducible apply Touches.after (touches_withPins _ _)
    | with_reducible apply Touches.after (touches_withPort _ _)
    | with_reducible apply Touches.fold
    | with_reducible intro _
    | dsimp only
    | split

/-! ### Machine/Timers -/

theorem touches_passSecond (s : State) :
    Touches [.clock, .links, .waits, .restricted, .stops, .bookings, .alerts, .lines] s (s.passSecond) := by
  unfold State.passSecond
  repeat' first
    | with_reducible apply Touches.refl
    | decide +kernel
    | with_reducible apply Touches.after (touches_moveTime _ _)
    | with_reducible apply Touches.after (touches_withClock _ _)
    | with_reducible apply Touches.fold
    | with_reducible intro _
    | dsimp only
    | split

theorem touches_endWrite (s : State) (good : Bool) :
    Touches [.plan, .links, .waits, .stops, .bookings, .alerts, .lines] s (s.endWrite good) := by
  unfold State.endWrite
  repeat' first
    | with_reducible apply Touches.refl
    | decide +kernel
    | with_reducible apply Touches.after (touches_raise _ _ _)
    | with_reducible apply Touches.after (touches_withPlan _ _)
    | with_reducible apply Touches.after (touches_withdrawSite _ _)
    | with_reducible apply Touches.fold
    | with_reducible intro _
    | dsimp only
    | split

theorem touches_expireClearing (s : State) (q : CellId) :
    Touches [.links, .cells, .waits, .restricted, .register, .service, .alerts] s (s.expireClearing q) := by
  unfold State.expireClearing
  repeat' first
    | with_reducible apply Touches.refl
    | decide +kernel
    | with_reducible apply Touches.after (touches_convert _ _)
    | with_reducible apply Touches.fold
    | with_reducible intro _
    | dsimp only
    | split

theorem touches_expireWait (s : State) (c : Crane) (x : Sector) :
    Touches [.links, .waits, .alerts] s (s.expireWait c x) := by
  unfold State.expireWait
  repeat' first
    | with_reducible apply Touches.refl
    | decide +kernel
    | with_reducible apply Touches.after (touches_dropWait _ _ _)
    | with_reducible apply Touches.after (touches_notify _ _ _)
    | with_reducible apply Touches.after (touches_reviewOffPath _ _)
    | with_reducible apply Touches.fold
    | with_reducible intro _
    | dsimp only
    | split

theorem touches_lapse (s : State) (b : Booking) :
    Touches [.links, .bookings] s (s.lapse b) := by
  unfold State.lapse
  repeat' first
    | with_reducible apply Touches.refl
    | decide +kernel
    | with_reducible apply Touches.after (touches_freeLift _ _)
    | with_reducible apply Touches.after (touches_notifyLift _ _ _ _)
    | with_reducible apply Touches.fold
    | with_reducible intro _
    | dsimp only
    | split

theorem touches_completeDwell (s : State) (c : Crane) :
    Touches [.links, .waits, .stops, .wind, .bookings, .alerts, .lines] s (s.completeDwell c) := by
  unfold State.completeDwell
  repeat' first
    | with_reducible apply Touches.refl
    | decide +kernel
    | with_reducible apply Touches.after (touches_setWind _ _ _)
    | with_reducible apply Touches.after (touches_windConditions _ _)
    | with_reducible apply Touches.fold
    | with_reducible intro _
    | dsimp only
    | split

theorem touches_expireTimer (s : State) (c : Crane) :
    Touches [.links, .waits, .stops, .service, .bookings, .alerts, .lines] s (s.expireTimer c) := by
  unfold State.expireTimer
  repeat' first
    | with_reducible apply Touches.refl
    | decide +kernel
    | with_reducible apply Touches.after (touches_raiseFor _ _ _)
    | with_reducible apply Touches.after (touches_setSvc _ _ _)
    | with_reducible apply Touches.fold
    | with_reducible intro _
    | dsimp only
    | split

theorem touches_turnSiren (s : State) :
    Touches [.lines] s (s.turnSiren) := by
  unfold State.turnSiren
  repeat' first
    | with_reducible apply Touches.refl
    | decide +kernel
    | with_reducible apply Touches.after (touches_withLines _ _)
    | with_reducible apply Touches.fold
    | with_reducible intro _
    | dsimp only
    | split

/-! ### Machine/PortCommands -/

theorem touches_answerBadFrame (s : State) (bytes : List Byte) :
    Touches [.port] s (s.answerBadFrame bytes) := by
  unfold State.answerBadFrame
  repeat' first
    | with_reducible apply Touches.refl
    | decide +kernel
    | with_reducible apply Touches.after (touches_gather _ _)
    | with_reducible apply Touches.after (touches_respond _ _ _)
    | with_reducible apply Touches.fold
    | with_reducible intro _
    | dsimp only
    | split

theorem touches_fetchBytes (s : State) (n : Nat) :
    Touches [.port] s (s.fetchBytes n) := by
  unfold State.fetchBytes
  repeat' first
    | with_reducible apply Touches.refl
    | decide +kernel
    | with_reducible apply Touches.after (touches_withPort _ _)
    | with_reducible apply Touches.fold
    | with_reducible intro _
    | dsimp only
    | split

theorem touches_acceptTime (s : State) (t : Nat) :
    Touches [.clock, .links, .waits, .restricted, .stops, .bookings, .alerts, .lines] s (s.acceptTime t) := by
  unfold State.acceptTime
  repeat' first
    | with_reducible apply Touches.refl
    | decide +kernel
    | with_reducible apply Touches.after (touches_moveTime _ _)
    | with_reducible apply Touches.after (touches_withClock _ _)
    | with_reducible apply Touches.fold
    | with_reducible intro _
    | dsimp only
    | split

theorem touches_setClock (t : Nat) (s : State) :
    Touches [.clock, .links, .waits, .restricted, .stops, .bookings, .alerts, .lines] s (setClock t s).1 := by
  unfold setClock
  repeat' first
    | with_reducible apply Touches.refl
    | decide +kernel
    | with_reducible apply Touches.after (touches_acceptTime _ _)
    | with_reducible apply Touches.fold
    | with_reducible intro _
    | dsimp only
    | split

/-! ### Machine/PlanCommands -/

theorem touches_setStaging (s : State) (p : Plan) :
    Touches [.plan] s (s.setStaging p) := by
  unfold State.setStaging
  repeat' first
    | with_reducible apply Touches.refl
    | decide +kernel
    | with_reducible apply Touches.after (touches_withPlan _ _)
    | with_reducible apply Touches.fold
    | with_reducible intro _
    | dsimp only
    | split

theorem touches_adoptPlan (s : State) :
    Touches [.plan] s (s.adoptPlan) := by
  unfold State.adoptPlan
  repeat' first
    | with_reducible apply Touches.refl
    | decide +kernel
    | with_reducible apply Touches.after (touches_withPlan _ _)
    | with_reducible apply Touches.fold
    | with_reducible intro _
    | dsimp only
    | split

theorem touches_craneLeaves (s : State) (c : Crane) :
    Touches [.cranes, .occupied, .stops, .wind, .service, .alerts] s (s.craneLeaves c) := by
  unfold State.craneLeaves
  repeat' first
    | with_reducible apply Touches.refl
    | decide +kernel
    | with_reducible apply Touches.after (touches_setCrane _ _ _)
    | with_reducible apply Touches.after (touches_setOccupied _ _ _)
    | with_reducible apply Touches.after (touches_setStops _ _ _)
    | with_reducible apply Touches.after (touches_setSvc _ _ _)
    | with_reducible apply Touches.after (touches_setWind _ _ _)
    | with_reducible apply Touches.after (touches_withdraw _ _ _)
    | with_reducible apply Touches.fold
    | with_reducible intro _
    | dsimp only
    | split

theorem touches_craneJoins (s : State) (c : Crane) :
    Touches [.links, .cranes, .waits, .stops, .wind, .service, .bookings, .alerts] s (s.craneJoins c) := by
  unfold State.craneJoins
  repeat' first
    | with_reducible apply Touches.refl
    | decide +kernel
    | with_reducible apply Touches.after (touches_addStop _ _ _)
    | with_reducible apply Touches.after (touches_setCrane _ _ _)
    | with_reducible apply Touches.after (touches_setStops _ _ _)
    | with_reducible apply Touches.after (touches_setSvc _ _ _)
    | with_reducible apply Touches.after (touches_setWind _ _ _)
    | with_reducible apply Touches.fold
    | with_reducible intro _
    | dsimp only
    | split

theorem touches_followPresence (old : Plan) (s : State) (c : Crane) :
    Touches [.links, .cranes, .waits, .occupied, .stops, .wind, .service, .bookings, .alerts] s (s.followPresence old c) := by
  unfold State.followPresence
  repeat' first
    | with_reducible apply Touches.refl
    | decide +kernel
    | with_reducible apply Touches.after (touches_craneJoins _ _)
    | with_reducible apply Touches.after (touches_craneLeaves _ _)
    | with_reducible apply Touches.fold
    | with_reducible intro _
    | dsimp only
    | split

theorem touches_writeModes (s : State) :
    Touches [.alerts] s (s.writeModes) := by
  unfold State.writeModes
  repeat' first
    | with_reducible apply Touches.refl
    | decide +kernel
    | with_reducible apply Touches.after (touches_setAlert _ _ _)
    | with_reducible apply Touches.fold
    | with_reducible intro _
    | dsimp only
    | split

theorem touches_handModeStops (s : State) :
    Touches [.links, .waits, .stops, .bookings, .alerts] s (s.handModeStops) := by
  unfold State.handModeStops
  repeat' first
    | with_reducible apply Touches.refl
    | decide +kernel
    | with_reducible apply Touches.after (touches_stopAction _ _ _)
    | with_reducible apply Touches.fold
    | with_reducible intro _
    | dsimp only
    | split

theorem touches_applyModes (s : State) :
    Touches [.links, .waits, .stops, .bookings, .alerts, .lines] s (s.applyModes) := by
  unfold State.applyModes
  repeat' first
    | with_reducible apply Touches.refl
    | decide +kernel
    | with_reducible apply Touches.after (touches_evaluateLines _)
    | with_reducible apply Touches.after (touches_handModeStops _)
    | with_reducible apply Touches.after (touches_writeModes _)
    | with_reducible apply Touches.fold
    | with_reducible intro _
    | dsimp only
    | split

theorem touches_beginWrite (s : State) :
    Touches [.plan] s (s.beginWrite) := by
  unfold State.beginWrite
  repeat' first
    | with_reducible apply Touches.refl
    | decide +kernel
    | with_reducible apply Touches.after (touches_withPlan _ _)
    | with_reducible apply Touches.fold
    | with_reducible intro _
    | dsimp only
    | split

theorem touches_commit (s : State) :
    Touches [.plan, .links, .cranes, .waits, .occupied, .stops, .wind, .service, .bookings, .alerts, .lines] s (s.commit) := by
  unfold State.commit
  repeat' first
    | with_reducible apply Touches.refl
    | decide +kernel
    | with_reducible apply Touches.after (touches_adoptPlan _)
    | with_reducible apply Touches.after (touches_applyModes _)
    | with_reducible apply Touches.after (touches_beginWrite _)
    | with_reducible apply Touches.after (touches_followPresence _ _ _)
    | with_reducible apply Touches.fold
    | with_reducible intro _
    | dsimp only
    | split

theorem touches_commitPlan (protect : Bool) (s : State) :
    Touches [.plan, .links, .cranes, .waits, .occupied, .stops, .wind, .service, .bookings, .alerts, .lines, .pins] s (commitPlan protect s).1 := by
  unfold commitPlan
  repeat' first
    | with_reducible apply Touches.refl
    | decide +kernel
    | with_reducible apply Touches.after (touches_commit _)
    | with_reducible apply Touches.after (touches_withPins _ _)
    | with_reducible apply Touches.fold
    | with_reducible intro _
    | dsimp only
    | split

theorem touches_discardPlan (s : State) :
    Touches [.plan] s (discardPlan s).1 := by
  unfold discardPlan
  repeat' first
    | with_reducible apply Touches.refl
    | decide +kernel
    | with_reducible apply Touches.after (touches_setStaging _ _)
    | with_reducible apply Touches.fold
    | with_reducible intro _
    | dsimp only
    | split

/-! ### Machine/SiteCommands -/

theorem touches_startService (s : State) (c : Crane) :
    Touches [.service] s (s.startService c) := by
  unfold State.startService
  repeat' first
    | with_reducible apply Touches.refl
    | decide +kernel
    | with_reducible apply Touches.after (touches_setSvc _ _ _)
    | with_reducible apply Touches.fold
    | with_reducible intro _
    | dsimp only
    | split

theorem touches_openFromSetup (s : State) :
    Touches [.links, .cells, .waits, .restricted, .register, .site, .service, .alerts] s (s.openFromSetup) := by
  unfold State.openFromSetup
  repeat' first
    | with_reducible apply Touches.refl
    | decide +kernel
    | with_reducible apply Touches.after (touches_convert _ _)
    | with_reducible apply Touches.after (touches_startService _ _)
    | with_reducible apply Touches.after (touches_withSite _ _)
    | with_reducible apply Touches.after (touches_withdrawSite _ _)
    | with_reducible apply Touches.fold
    | with_reducible intro _
    | dsimp only
    | split

theorem touches_returnCrane (s : State) (c : Crane) :
    Touches [.service, .alerts] s (s.returnCrane c) := by
  unfold State.returnCrane
  repeat' first
    | with_reducible apply Touches.refl
    | decide +kernel
    | with_reducible apply Touches.after (touches_toService _ _)
    | with_reducible apply Touches.fold
    | with_reducible intro _
    | dsimp only
    | split

theorem touches_convertCrane (s : State) (c : Crane) :
    Touches [.links, .cells, .waits, .restricted, .register, .service, .alerts] s (s.convertCrane c) := by
  unfold State.convertCrane
  repeat' first
    | with_reducible apply Touches.refl
    | decide +kernel
    | with_reducible apply Touches.after (touches_resumeCrane _ _)
    | with_reducible apply Touches.fold
    | with_reducible intro _
    | dsimp only
    | split

theorem touches_bringBack (s : State) :
    Touches [.links, .cells, .waits, .restricted, .register, .service, .alerts] s (s.bringBack) := by
  unfold State.bringBack
  repeat' first
    | with_reducible apply Touches.refl
    | decide +kernel
    | with_reducible apply Touches.after (touches_convertCrane _ _)
    | with_reducible apply Touches.after (touches_returnCrane _ _)
    | with_reducible apply Touches.fold
    | with_reducible intro _
    | dsimp only
    | split

theorem touches_removeReasonAll (s : State) (r : SuspReason) :
    Touches [.links, .bookings] s (s.removeReasonAll r) := by
  unfold State.removeReasonAll
  repeat' first
    | with_reducible apply Touches.refl
    | decide +kernel
    | with_reducible apply Touches.after (touches_removeReason _ _ _)
    | with_reducible apply Touches.fold
    | with_reducible intro _
    | dsimp only
    | split

theorem touches_resumeFromStorm (s : State) :
    Touches [.links, .cells, .waits, .restricted, .register, .site, .service, .bookings, .alerts] s (s.resumeFromStorm) := by
  unfold State.resumeFromStorm
  repeat' first
    | with_reducible apply Touches.refl
    | decide +kernel
    | with_reducible apply Touches.after (touches_bringBack _)
    | with_reducible apply Touches.after (touches_removeReasonAll _ _)
    | with_reducible apply Touches.after (touches_withSite _ _)
    | with_reducible apply Touches.after (touches_withdrawSite _ _)
    | with_reducible apply Touches.fold
    | with_reducible intro _
    | dsimp only
    | split

theorem touches_reopen (s : State) :
    Touches [.links, .cells, .waits, .restricted, .register, .site, .service, .alerts] s (s.reopen) := by
  unfold State.reopen
  repeat' first
    | with_reducible apply Touches.refl
    | decide +kernel
    | with_reducible apply Touches.after (touches_bringBack _)
    | with_reducible apply Touches.after (touches_withSite _ _)
    | with_reducible apply Touches.after (touches_withdrawSite _ _)
    | with_reducible apply Touches.fold
    | with_reducible intro _
    | dsimp only
    | split

theorem touches_openTheSite (s : State) :
    Touches [.links, .cells, .waits, .restricted, .register, .site, .service, .alerts] s (openTheSite s).1 := by
  unfold openTheSite
  repeat' first
    | with_reducible apply Touches.refl
    | decide +kernel
    | with_reducible apply Touches.after (touches_openFromSetup _)
    | with_reducible apply Touches.after (touches_reopen _)
    | with_reducible apply Touches.fold
    | with_reducible intro _
    | dsimp only
    | split

theorem touches_close (s : State) :
    Touches [.links, .cells, .waits, .restricted, .register, .site, .service, .alerts] s (s.close) := by
  unfold State.close
  repeat' first
    | with_reducible apply Touches.refl
    | decide +kernel
    | with_reducible apply Touches.after (touches_denyWaits _ _ _)
    | with_reducible apply Touches.after (touches_enterSecuringAll _)
    | with_reducible apply Touches.after (touches_withSite _ _)
    | with_reducible apply Touches.fold
    | with_reducible intro _
    | dsimp only
    | split

theorem touches_closeTheSite (s : State) :
    Touches [.links, .cells, .waits, .restricted, .register, .site, .service, .alerts] s (closeTheSite s).1 := by
  unfold closeTheSite
  repeat' first
    | with_reducible apply Touches.refl
    | decide +kernel
    | with_reducible apply Touches.after (touches_close _)
    | with_reducible apply Touches.fold
    | with_reducible intro _
    | dsimp only
    | split

theorem touches_resumeTheSite (s : State) :
    Touches [.links, .cells, .waits, .restricted, .register, .site, .service, .bookings, .alerts] s (resumeTheSite s).1 := by
  unfold resumeTheSite
  repeat' first
    | with_reducible apply Touches.refl
    | decide +kernel
    | with_reducible apply Touches.after (touches_resumeFromStorm _)
    | with_reducible apply Touches.fold
    | with_reducible intro _
    | dsimp only
    | split

theorem touches_cancelAll (s : State) :
    Touches [.links, .bookings] s (s.cancelAll) := by
  unfold State.cancelAll
  repeat' first
    | with_reducible apply Touches.refl
    | decide +kernel
    | with_reducible apply Touches.after (touches_freeLift _ _)
    | with_reducible apply Touches.after (touches_notifyLift _ _ _ _)
    | with_reducible apply Touches.fold
    | with_reducible intro _
    | dsimp only
    | split

theorem touches_freeAllCells (s : State) : Touches [.cells] s s.freeAllCells := touches_withCells _ _

theorem touches_setupReset (s : State) :
    Touches [.links, .cells, .waits, .restricted, .register, .service, .alerts] s (s.setupReset) := by
  unfold State.setupReset
  repeat' first
    | with_reducible apply Touches.refl
    | decide +kernel
    | with_reducible apply Touches.after (touches_follow _ _)
    | with_reducible apply Touches.after (touches_freeAllCells _)
    | with_reducible apply Touches.after (touches_withRestricted _ _)
    | with_reducible apply Touches.after (touches_withdraw _ _ _)
    | with_reducible apply Touches.fold
    | with_reducible intro _
    | dsimp only
    | split

theorem touches_toStandby (s : State) (c : Crane) :
    Touches [.service] s (s.toStandby c) := by
  unfold State.toStandby
  repeat' first
    | with_reducible apply Touches.refl
    | decide +kernel
    | with_reducible apply Touches.after (touches_setSvc _ _ _)
    | with_reducible apply Touches.fold
    | with_reducible intro _
    | dsimp only
    | split

theorem touches_toSetup (s : State) :
    Touches [.links, .cells, .waits, .restricted, .register, .site, .service, .bookings, .alerts] s (s.toSetup) := by
  unfold State.toSetup
  repeat' first
    | with_reducible apply Touches.refl
    | decide +kernel
    | with_reducible apply Touches.after (touches_cancelAll _)
    | with_reducible apply Touches.after (touches_denyWaits _ _ _)
    | with_reducible apply Touches.after (touches_setupReset _)
    | with_reducible apply Touches.after (touches_toStandby _ _)
    | with_reducible apply Touches.after (touches_withSite _ _)
    | with_reducible apply Touches.fold
    | with_reducible intro _
    | dsimp only
    | split

theorem touches_returnSiteToSetup (s : State) :
    Touches [.links, .cells, .waits, .restricted, .register, .site, .service, .bookings, .alerts] s (returnSiteToSetup s).1 := by
  unfold returnSiteToSetup
  repeat' first
    | with_reducible apply Touches.refl
    | decide +kernel
    | with_reducible apply Touches.after (touches_toSetup _)
    | with_reducible apply Touches.fold
    | with_reducible intro _
    | dsimp only
    | split

/-! ### Machine/CraneCommands -/

theorem touches_forceService (s : State) (c : Crane) (named : List Sector) :
    Touches [.service] s (s.forceService c named) := by
  unfold State.forceService
  repeat' first
    | with_reducible apply Touches.refl
    | decide +kernel
    | with_reducible apply Touches.after (touches_setSvc _ _ _)
    | with_reducible apply Touches.fold
    | with_reducible intro _
    | dsimp only
    | split

theorem touches_forceClear (s : State) (c : Crane) (named : List Sector) :
    Touches [.links, .cells, .waits, .restricted, .register, .service, .alerts] s (s.forceClear c named) := by
  unfold State.forceClear
  repeat' first
    | with_reducible apply Touches.refl
    | decide +kernel
    | with_reducible apply Touches.after (touches_convert _ _)
    | with_reducible apply Touches.after (touches_forceService _ _ _)
    | with_reducible apply Touches.fold
    | with_reducible intro _
    | dsimp only
    | split

theorem touches_forceCells (crane : Nat) (sectors : Nat) (s : State) :
    Touches [.links, .cells, .waits, .restricted, .register, .service, .alerts] s (forceCells crane sectors s).1 := by
  unfold forceCells
  repeat' first
    | with_reducible apply Touches.refl
    | decide +kernel
    | with_reducible apply Touches.after (touches_forceClear _ _ _)
    | with_reducible apply Touches.fold
    | with_reducible intro _
    | dsimp only
    | split

theorem touches_stopTheCrane (crane : Nat) (s : State) :
    Touches [.links, .waits, .stops, .bookings, .alerts] s (stopTheCrane crane s).1 := by
  unfold stopTheCrane
  repeat' first
    | with_reducible apply Touches.refl
    | decide +kernel
    | with_reducible apply Touches.after (touches_addStop _ _ _)
    | with_reducible apply Touches.fold
    | with_reducible intro _
    | dsimp only
    | split

theorem touches_clearStops (s : State) (c : Crane) (named : List StopReason) :
    Touches [.links, .stops, .bookings] s (s.clearStops c named) := by
  unfold State.clearStops
  repeat' first
    | with_reducible apply Touches.refl
    | decide +kernel
    | with_reducible apply Touches.after (touches_removeReasonFrom _ _ _)
    | with_reducible apply Touches.after (touches_setStops _ _ _)
    | with_reducible apply Touches.fold
    | with_reducible intro _
    | dsimp only
    | split

theorem touches_clearTheStops (crane : Nat) (reasons : Nat) (s : State) :
    Touches [.links, .stops, .bookings] s (clearTheStops crane reasons s).1 := by
  unfold clearTheStops
  repeat' first
    | with_reducible apply Touches.refl
    | decide +kernel
    | with_reducible apply Touches.after (touches_clearStops _ _ _)
    | with_reducible apply Touches.fold
    | with_reducible intro _
    | dsimp only
    | split

theorem touches_clearKind (s : State) (k : AlertKind) :
    Touches [.alerts] s (s.clearKind k) := by
  unfold State.clearKind
  repeat' first
    | with_reducible apply Touches.refl
    | decide +kernel
    | with_reducible apply Touches.after (touches_setAlert _ _ _)
    | with_reducible apply Touches.fold
    | with_reducible intro _
    | dsimp only
    | split

theorem touches_clearKinds (s : State) (ks : List AlertKind) :
    Touches [.alerts, .lines] s (s.clearKinds ks) := by
  unfold State.clearKinds
  repeat' first
    | with_reducible apply Touches.refl
    | decide +kernel
    | with_reducible apply Touches.after (touches_clearKind _ _)
    | with_reducible apply Touches.after (touches_evaluateLines _)
    | with_reducible apply Touches.fold
    | with_reducible intro _
    | dsimp only
    | split

theorem touches_clearTheAlerts (kinds : List Nat) (s : State) :
    Touches [.alerts, .lines] s (clearTheAlerts kinds s).1 := by
  unfold clearTheAlerts
  repeat' first
    | with_reducible apply Touches.refl
    | decide +kernel
    | with_reducible apply Touches.after (touches_clearKinds _ _)
    | with_reducible apply Touches.fold
    | with_reducible intro _
    | dsimp only
    | split

/-! ### Machine/Time -/

theorem touches_tick (s : State) :
    Touches [.clock] s (s.tick) := by
  unfold State.tick
  repeat' first
    | with_reducible apply Touches.refl
    | decide +kernel
    | with_reducible apply Touches.after (touches_withClock _ _)
    | with_reducible apply Touches.fold
    | with_reducible intro _
    | dsimp only
    | split

theorem touches_queueDue (s : State) :
    Touches [.draws, .pending] s (s.queueDue) := by
  unfold State.queueDue
  repeat' first
    | with_reducible apply Touches.refl
    | decide +kernel
    | with_reducible apply Touches.after (touches_withDraws _ _)
    | with_reducible apply Touches.after (touches_withPending _ _)
    | with_reducible apply Touches.fold
    | with_reducible intro _
    | dsimp only
    | split

theorem touches_idle (s : State) :
    Touches [.clock, .draws, .pending] s (s.idle) := by
  unfold State.idle
  repeat' first
    | with_reducible apply Touches.refl
    | decide +kernel
    | with_reducible apply Touches.after (touches_queueDue _)
    | with_reducible apply Touches.after (touches_tick _)
    | with_reducible apply Touches.fold
    | with_reducible intro _
    | dsimp only
    | split

end Sys2Proof.Machine
end

