-- ==== Sys2Proof/Laws/Framed.lean ====
section
/-!
SUPPORT. Reading a table after a write, and relations between two states that depend on some parts of State alone: how they
chain through operations, and pass every operation that does not touch those parts.
-/
set_option Elab.async false
namespace Sys2Proof

theorem tget_tput {n : Nat} {α : Type} (t : Tab n α) (i j : Fin n) (x : α) :
    tget (tput t i x) j = if i = j then x else tget t j := by
  unfold tget tput
  rw [Vector.getElem_set]
  simp only [Fin.ext_iff]

@[simp] theorem tget_tput_same {n : Nat} {α : Type} (t : Tab n α) (i : Fin n) (x : α) : tget (tput t i x) i = x := by
  rw [tget_tput, if_pos rfl]

theorem tget_tput_ne {n : Nat} {α : Type} (t : Tab n α) {i j : Fin n} (x : α) (h : i ≠ j) :
    tget (tput t i x) j = tget t j := by
  rw [tget_tput, if_neg h]

@[simp] theorem tget_tconst {n : Nat} {α : Type} (x : α) (i : Fin n) : tget (tconst n x) i = x := by
  unfold tget tconst; simp

/-- Writing back what a place holds changes nothing. -/
@[simp] theorem tput_tget {n : Nat} {α : Type} (t : Tab n α) (i : Fin n) : tput t i (tget t i) = t := by
  unfold tget tput; simp

/-- Two tables that agree everywhere are one. -/
theorem tab_ext {n : Nat} {α : Type} {t u : Tab n α} (h : ∀ i, tget t i = tget u i) : t = u := by
  apply Vector.ext
  intro i hi
  exact h ⟨i, hi⟩

end Sys2Proof

namespace Sys2Proof.Machine

/-- A relation that holds whenever the parts `ps` are the same, and chains. -/
structure Framed (R : State → State → Prop) (ps : List Part) : Prop where
  trans : ∀ {s t u}, R s t → R t u → R s u
  same : ∀ {s t}, (∀ p ∈ ps, Same p s t) → R s t

theorem Framed.refl {R : State → State → Prop} {ps : List Part} (f : Framed R ps) (s : State) : R s s :=
  f.same (fun p _ => by cases p <;> rfl)

theorem Framed.after {R : State → State → Prop} {ps : List Part} (f : Framed R ps) {s t u : State} (k : R t u)
    (h : R s t) : R s u := f.trans h k

/-- An operation that touches other parts only. -/
theorem Framed.of {R : State → State → Prop} {ps qs : List Part} (f : Framed R ps) {t u : State}
    (k : Touches qs t u) (hq : ps.all (fun p => !qs.contains p) = true) : R t u :=
  f.same (fun p hp => k p (fun hm => by simpa [hm] using List.all_eq_true.mp hq p hp))

theorem Framed.frame {R : State → State → Prop} {ps qs : List Part} (f : Framed R ps) {s t u : State}
    (k : Touches qs t u) (hq : ps.all (fun p => !qs.contains p) = true) (h : R s t) : R s u :=
  f.trans h (f.of k hq)

theorem Framed.fold {R : State → State → Prop} {ps : List Part} (f : Framed R ps) {α : Type} {s t : State} (h : R s t)
    (l : List α) (g : State → α → State) (hg : ∀ u a, R u (g u a)) : R s (l.foldl g t) := by
  induction l generalizing t with
  | nil => exact h
  | cons a l ih => exact ih (f.trans h (hg t a))

end Sys2Proof.Machine
end

