-- ==== Sys2Proof/Laws/KeepsCells.lean ====
section
/-!
SUPPORT. Every operation keeps the law of the cell records (R50, R52).
-/
set_option Elab.async false
namespace Sys2Proof.Machine

/-- The cell table keeps the law of its records. -/
def KeepsCells (s t : State) : Prop := CellLaw s → CellLaw t

theorem framedCells : Framed KeepsCells [.cells] where
  trans h k := fun w => k (h w)
  same h := fun w q => by
    have hc := h .cells (by decide)
    simp only [Same] at hc
    simpa only [State.cell, hc] using w q

theorem cell_setCell (s : State) (q r : CellId) (k : Cell) :
    (s.setCell q k).cell r = if q = r then k else s.cell r := by
  unfold State.cell State.setCell State.withCells
  dsimp only
  rw [tget_tput]
  by_cases hc : q.crane = r.crane
  · rw [if_pos hc, tget_tput]
    by_cases hs : q.sector = r.sector
    · rw [if_pos hs, if_pos]
      cases q; cases r; simp_all
    · rw [if_neg hs, if_neg, hc]
      intro h; exact hs (h ▸ rfl)
  · rw [if_neg hc, if_neg]
    intro h; exact hc (h ▸ rfl)

/-- A changed record is lawful (R52). -/
theorem changedCell_lawful (s : State) (r : CellReq) :
    ((s.changedCell r).state = .clearing ↔ (s.changedCell r).clearEnd.isSome = true) ∧
      ((s.changedCell r).state = .free → (s.changedCell r).origin = none) := by
  unfold State.changedCell
  dsimp only
  constructor
  · split <;> simp_all
  · intro h; simp [h]


theorem cells_changeCell (s : State) (r : CellReq) :
    KeepsCells s (s.changeCell r) := by
  unfold State.changeCell
  split
  · exact framedCells.refl s
  · intro w q
    rw [cell_setCell]
    split
    · exact changedCell_lawful s r
    · exact w q

theorem cells_changeCells (s : State) (rs : List CellReq) :
    KeepsCells s (s.changeCells rs) := by
  unfold State.changeCells
  repeat' first
    | with_reducible apply framedCells.refl
    | decide +kernel
    | with_reducible apply framedCells.after (cells_changeCell _ _)
    | with_reducible apply framedCells.fold
    | with_reducible intro _
    | dsimp only
    | split

theorem cells_tryGrant (s : State) (w : Wait) :
    KeepsCells s (s.tryGrant w) := by
  unfold State.tryGrant
  repeat' first
    | with_reducible apply framedCells.refl
    | decide +kernel
    | with_reducible apply framedCells.after (cells_changeCells _ _)
    | with_reducible apply framedCells.frame (touches_dropWait _ _ _)
    | with_reducible apply framedCells.frame (touches_notify _ _ _)
    | with_reducible apply framedCells.frame (touches_ownAndSeized _ _)
    | with_reducible apply framedCells.fold
    | with_reducible intro _
    | dsimp only
    | split

theorem cells_walk (s : State) :
    KeepsCells s (s.walk) := by
  unfold State.walk
  repeat' first
    | with_reducible apply framedCells.refl
    | decide +kernel
    | with_reducible apply framedCells.after (cells_tryGrant _ _)
    | with_reducible apply framedCells.fold
    | with_reducible intro _
    | dsimp only
    | split

theorem cells_resumeChange (s : State) (c : Crane) :
    KeepsCells s (s.resumeChange c) := by
  unfold State.resumeChange
  repeat' first
    | with_reducible apply framedCells.refl
    | decide +kernel
    | with_reducible apply framedCells.after (cells_changeCells _ _)
    | with_reducible apply framedCells.frame (touches_outOfService _ _ _ _)
    | with_reducible apply framedCells.frame (touches_toService _ _)
    | with_reducible apply framedCells.fold
    | with_reducible intro _
    | dsimp only
    | split

theorem cells_retryOne {recheck : State → State} (h : ∀ s, KeepsCells s (recheck s)) (p : State × Bool) (c : Crane) :
    KeepsCells p.1 (retryOne recheck p c).1 := by
  unfold retryOne followThree
  split
  · dsimp only
    split
    · exact framedCells.after (h _) ((framedCells).frame (touches_ownAndSeized _ _) (by decide +kernel) ((framedCells).after (cells_resumeChange _ _) (framedCells.refl _)))
    · exact ((framedCells).frame (touches_ownAndSeized _ _) (by decide +kernel) ((framedCells).after (cells_resumeChange _ _) (framedCells.refl _)))
  · exact framedCells.refl _

theorem cells_retryPass {recheck : State → State} (h : ∀ s, KeepsCells s (recheck s)) (s : State) :
    KeepsCells s (retryPass recheck s).1 := by
  suffices H : ∀ (l : List Crane) (p : State × Bool), KeepsCells s p.1 → KeepsCells s (l.foldl (retryOne recheck) p).1 from
    H _ _ (framedCells.refl _)
  intro l
  induction l with
  | nil => exact fun _ hp => hp
  | cons c l ih => exact fun p hp => ih _ (framedCells.trans hp (cells_retryOne h p c))

theorem cells_arbitrateLoop {retry : State → State × Bool} (h : ∀ s, KeepsCells s (retry s).1) (n : Nat) (s : State) :
    KeepsCells s (arbitrateLoop retry n s) := by
  induction n generalizing s with
  | zero => exact framedCells.refl _
  | succ n ih =>
    have h1 : KeepsCells s (retry s.walk).1 := framedCells.after (h _) ((framedCells).after (cells_walk _) (framedCells.refl _))
    unfold arbitrateLoop
    dsimp only
    split
    · exact framedCells.trans h1 (ih _)
    · exact h1

theorem cells_arbitrateWith {recheck : State → State} (h : ∀ s, KeepsCells s (recheck s)) (s : State) :
    KeepsCells s (arbitrateWith recheck s) := cells_arbitrateLoop (cells_retryPass h) _ _

theorem cells_followThree {recheck : State → State} (h : ∀ s, KeepsCells s (recheck s)) (chg : List Change) (s : State) :
    KeepsCells s (followThree recheck chg s) := by
  unfold followThree
  dsimp only
  split
  · exact framedCells.after (h _) ((framedCells).frame (touches_ownAndSeized _ _) (by decide +kernel) (framedCells.refl _))
  · exact ((framedCells).frame (touches_ownAndSeized _ _) (by decide +kernel) (framedCells.refl _))

theorem cells_followWith {recheck : State → State} (h : ∀ s, KeepsCells s (recheck s)) (chg : List Change) (s : State) :
    KeepsCells s (followWith recheck chg s) := by
  unfold followWith
  dsimp only
  split
  · exact framedCells.after (cells_arbitrateWith h _) (cells_followThree h _ _)
  · exact cells_followThree h _ _

theorem cells_releaseVaneWith {recheck : State → State} (h : ∀ s, KeepsCells s (recheck s)) (s : State) (c : Crane) :
    KeepsCells s (releaseVaneWith recheck s c) :=
  framedCells.after (cells_followWith h _ _) ((framedCells).frame (touches_outOfService _ _ _ _) (by decide +kernel) ((framedCells).after (cells_changeCells _ _) (framedCells.refl _)))

theorem cells_recheckN (n : Nat) (s : State) : KeepsCells s (recheckN n s) := by
  induction n generalizing s with
  | zero => exact framedCells.refl _
  | succ n ih =>
    refine framedCells.fold (framedCells.refl s) _ _ (fun u c => ?_)
    unfold recheckOne
    split
    · exact cells_releaseVaneWith ih u c
    · exact framedCells.refl _

theorem cells_recheckVane (s : State) : KeepsCells s s.recheckVane := cells_recheckN 8 s

theorem cells_arbitrate (s : State) : KeepsCells s s.arbitrate := cells_arbitrateWith cells_recheckVane s

theorem cells_follow (s : State) (chg : List Change) : KeepsCells s (s.follow chg) := cells_followWith cells_recheckVane chg s

theorem cells_testVane (s : State) (c : Crane) : KeepsCells s (s.testVane c) := by
  unfold State.testVane
  split
  · exact cells_releaseVaneWith cells_recheckVane s c
  · exact framedCells.refl _

theorem cells_convert (s : State) (rs : List CellReq) :
    KeepsCells s (s.convert rs) := by
  unfold State.convert
  repeat' first
    | with_reducible apply framedCells.refl
    | decide +kernel
    | with_reducible apply framedCells.after (cells_changeCells _ _)
    | with_reducible apply framedCells.after (cells_follow _ _)
    | with_reducible apply framedCells.fold
    | with_reducible intro _
    | dsimp only
    | split

theorem cells_resumeCrane (s : State) (c : Crane) :
    KeepsCells s (s.resumeCrane c) := by
  unfold State.resumeCrane
  repeat' first
    | with_reducible apply framedCells.refl
    | decide +kernel
    | with_reducible apply framedCells.after (cells_follow _ _)
    | with_reducible apply framedCells.after (cells_resumeChange _ _)
    | with_reducible apply framedCells.fold
    | with_reducible intro _
    | dsimp only
    | split

theorem cells_holdCell (s : State) (q : CellId) (o : OriginRule) :
    KeepsCells s (s.holdCell q o) := by
  unfold State.holdCell
  repeat' first
    | with_reducible apply framedCells.refl
    | decide +kernel
    | with_reducible apply framedCells.after (cells_changeCells _ _)
    | with_reducible apply framedCells.frame (touches_dropWait _ _ _)
    | with_reducible apply framedCells.after (cells_follow _ _)
    | with_reducible apply framedCells.frame (touches_notify _ _ _)
    | with_reducible apply framedCells.fold
    | with_reducible intro _
    | dsimp only
    | split

theorem cells_enterSecuring (s : State) (c : Crane) :
    KeepsCells s (s.enterSecuring c) := by
  unfold State.enterSecuring
  repeat' first
    | with_reducible apply framedCells.refl
    | decide +kernel
    | with_reducible apply framedCells.frame (touches_setSvc _ _ _)
    | with_reducible apply framedCells.after (cells_testVane _ _)
    | with_reducible apply framedCells.frame (touches_toSecuring _ _)
    | with_reducible apply framedCells.frame (touches_withheldToVaneWait _ _)
    | with_reducible apply framedCells.fold
    | with_reducible intro _
    | dsimp only
    | split

theorem cells_enterSecuringAll (s : State) :
    KeepsCells s (s.enterSecuringAll) := by
  unfold State.enterSecuringAll
  repeat' first
    | with_reducible apply framedCells.refl
    | decide +kernel
    | with_reducible apply framedCells.after (cells_enterSecuring _ _)
    | with_reducible apply framedCells.fold
    | with_reducible intro _
    | dsimp only
    | split

theorem cells_enterStorm (s : State) (c : Crane) :
    KeepsCells s (s.enterStorm c) := by
  unfold State.enterStorm
  repeat' first
    | with_reducible apply framedCells.refl
    | decide +kernel
    | with_reducible apply framedCells.frame (touches_addReasonAll _ _)
    | with_reducible apply framedCells.after (cells_enterSecuringAll _)
    | with_reducible apply framedCells.frame (touches_raiseFor _ _ _)
    | with_reducible apply framedCells.frame (touches_withSite _ _)
    | with_reducible apply framedCells.fold
    | with_reducible intro _
    | dsimp only
    | split

theorem cells_reportStorm (s : State) (c : Crane) :
    KeepsCells s (s.reportStorm c) := by
  unfold State.reportStorm
  repeat' first
    | with_reducible apply framedCells.refl
    | decide +kernel
    | with_reducible apply framedCells.after (cells_enterStorm _ _)
    | with_reducible apply framedCells.frame (touches_raiseFor _ _ _)
    | with_reducible apply framedCells.fold
    | with_reducible intro _
    | dsimp only
    | split

theorem cells_parkCrane (s : State) (c : Crane) :
    KeepsCells s (s.parkCrane c) := by
  unfold State.parkCrane
  repeat' first
    | with_reducible apply framedCells.refl
    | decide +kernel
    | with_reducible apply framedCells.after (cells_convert _ _)
    | with_reducible apply framedCells.frame (touches_denyCrane _ _ _)
    | with_reducible apply framedCells.frame (touches_setSvc _ _ _)
    | with_reducible apply framedCells.frame (touches_withdraw _ _ _)
    | with_reducible apply framedCells.fold
    | with_reducible intro _
    | dsimp only
    | split

theorem cells_toVaneWait (s : State) (c : Crane) :
    KeepsCells s (s.toVaneWait c) := by
  unfold State.toVaneWait
  repeat' first
    | with_reducible apply framedCells.refl
    | decide +kernel
    | with_reducible apply framedCells.frame (touches_denyCrane _ _ _)
    | with_reducible apply framedCells.frame (touches_setSvc _ _ _)
    | with_reducible apply framedCells.after (cells_testVane _ _)
    | with_reducible apply framedCells.fold
    | with_reducible intro _
    | dsimp only
    | split

theorem cells_securingStage (s : State) (c : Crane) :
    KeepsCells s (s.securingStage c) := by
  unfold State.securingStage
  repeat' first
    | with_reducible apply framedCells.refl
    | decide +kernel
    | with_reducible apply framedCells.after (cells_parkCrane _ _)
    | with_reducible apply framedCells.frame (touches_setSvc _ _ _)
    | with_reducible apply framedCells.after (cells_toVaneWait _ _)
    | with_reducible apply framedCells.fold
    | with_reducible intro _
    | dsimp only
    | split

theorem cells_rejoinService (s : State) (c : Crane) :
    KeepsCells s (s.rejoinService c) := by
  unfold State.rejoinService
  repeat' first
    | with_reducible apply framedCells.refl
    | decide +kernel
    | with_reducible apply framedCells.frame (touches_setSvc _ _ _)
    | with_reducible apply framedCells.after (cells_testVane _ _)
    | with_reducible apply framedCells.fold
    | with_reducible intro _
    | dsimp only
    | split

theorem cells_windStage (s : State) (c : Crane) (wind : Option Nat) :
    KeepsCells s (s.windStage c wind) := by
  unfold State.windStage
  repeat' first
    | with_reducible apply framedCells.refl
    | decide +kernel
    | with_reducible apply framedCells.frame (touches_handVerdict _ _)
    | with_reducible apply framedCells.after (cells_reportStorm _ _)
    | with_reducible apply framedCells.frame (touches_setWind _ _ _)
    | with_reducible apply framedCells.frame (touches_windConditions _ _)
    | with_reducible apply framedCells.fold
    | with_reducible intro _
    | dsimp only
    | split

theorem cells_seize (s : State) (q : CellId) :
    KeepsCells s (s.seize q) := by
  unfold State.seize
  repeat' first
    | with_reducible apply framedCells.refl
    | decide +kernel
    | with_reducible apply framedCells.after (cells_convert _ _)
    | with_reducible apply framedCells.frame (touches_intrude _ _)
    | with_reducible apply framedCells.fold
    | with_reducible intro _
    | dsimp only
    | split

theorem cells_checkOccupied (s : State) (q : CellId) :
    KeepsCells s (s.checkOccupied q) := by
  unfold State.checkOccupied
  repeat' first
    | with_reducible apply framedCells.refl
    | decide +kernel
    | with_reducible apply framedCells.after (cells_holdCell _ _ _)
    | with_reducible apply framedCells.after (cells_seize _ _)
    | with_reducible apply framedCells.fold
    | with_reducible intro _
    | dsimp only
    | split

theorem cells_checkLeft (s : State) (q : CellId) :
    KeepsCells s (s.checkLeft q) := by
  unfold State.checkLeft
  repeat' first
    | with_reducible apply framedCells.refl
    | decide +kernel
    | with_reducible apply framedCells.after (cells_convert _ _)
    | with_reducible apply framedCells.fold
    | with_reducible intro _
    | dsimp only
    | split

theorem cells_checkPosition (s : State) (c : Crane) :
    KeepsCells s (s.checkPosition c) := by
  unfold State.checkPosition
  repeat' first
    | with_reducible apply framedCells.refl
    | decide +kernel
    | with_reducible apply framedCells.after (cells_checkLeft _ _)
    | with_reducible apply framedCells.after (cells_checkOccupied _ _)
    | with_reducible apply framedCells.fold
    | with_reducible intro _
    | dsimp only
    | split

theorem cells_positionStage (s : State) (c : Crane) (angle : Nat) :
    KeepsCells s (s.positionStage c angle) := by
  unfold State.positionStage
  repeat' first
    | with_reducible apply framedCells.refl
    | decide +kernel
    | with_reducible apply framedCells.after (cells_checkPosition _ _)
    | with_reducible apply framedCells.frame (touches_setOccupied _ _ _)
    | with_reducible apply framedCells.fold
    | with_reducible intro _
    | dsimp only
    | split

theorem cells_loadDrop (s : State) (c : Crane) :
    KeepsCells s (s.loadDrop c) := by
  unfold State.loadDrop
  repeat' first
    | with_reducible apply framedCells.refl
    | decide +kernel
    | with_reducible apply framedCells.after (cells_arbitrate _)
    | with_reducible apply framedCells.frame (touches_setRestricted _ _ _)
    | with_reducible apply framedCells.frame (touches_withdraw _ _ _)
    | with_reducible apply framedCells.fold
    | with_reducible intro _
    | dsimp only
    | split

theorem cells_endLift (s : State) (b : Booking) :
    KeepsCells s (s.endLift b) := by
  unfold State.endLift
  repeat' first
    | with_reducible apply framedCells.refl
    | decide +kernel
    | with_reducible apply framedCells.after (cells_arbitrate _)
    | with_reducible apply framedCells.frame (touches_freeLift _ _)
    | with_reducible apply framedCells.frame (touches_reviewOffPath _ _)
    | with_reducible apply framedCells.frame (touches_setLastConf _ _ _)
    | with_reducible apply framedCells.frame (touches_withdraw _ _ _)
    | with_reducible apply framedCells.fold
    | with_reducible intro _
    | dsimp only
    | split

theorem cells_endRunning (terminal : Nat) (q : Requester) (id : Nat) (s : State) :
    KeepsCells s (endRunning terminal q id s).1 := by
  unfold endRunning
  repeat' first
    | with_reducible apply framedCells.refl
    | decide +kernel
    | with_reducible apply framedCells.after (cells_endLift _ _)
    | with_reducible apply framedCells.fold
    | with_reducible intro _
    | dsimp only
    | split

theorem cells_finish (q : Requester) (id : Nat) (s : State) :
    KeepsCells s (finish q id s).1 := by
  unfold finish
  repeat' first
    | with_reducible apply framedCells.refl
    | decide +kernel
    | with_reducible apply framedCells.after (cells_endRunning _ _ _ _)
    | with_reducible apply framedCells.fold
    | with_reducible intro _
    | dsimp only
    | split

theorem cells_land (q : Requester) (id : Nat) (s : State) :
    KeepsCells s (land q id s).1 := by
  unfold land
  repeat' first
    | with_reducible apply framedCells.refl
    | decide +kernel
    | with_reducible apply framedCells.after (cells_endRunning _ _ _ _)
    | with_reducible apply framedCells.fold
    | with_reducible intro _
    | dsimp only
    | split

theorem cells_enterCell (s : State) (q : CellId) :
    KeepsCells s (s.enterCell q).1 := by
  unfold State.enterCell
  repeat' first
    | with_reducible apply framedCells.refl
    | decide +kernel
    | with_reducible apply framedCells.frame (touches_appendWait _ _ _)
    | with_reducible apply framedCells.after (cells_convert _ _)
    | with_reducible apply framedCells.fold
    | with_reducible intro _
    | dsimp only
    | split

theorem cells_enterPassed (s : State) (q : CellId) :
    KeepsCells s (s.enterPassed q).1 := by
  unfold State.enterPassed
  repeat' first
    | with_reducible apply framedCells.refl
    | decide +kernel
    | with_reducible apply framedCells.after (cells_enterCell _ _)
    | with_reducible apply framedCells.frame (touches_raiseFor _ _ _)
    | with_reducible apply framedCells.fold
    | with_reducible intro _
    | dsimp only
    | split

theorem cells_enterZone (c : Crane) (n : Nat) (s : State) :
    KeepsCells s (enterZone c n s).1 := by
  unfold enterZone
  repeat' first
    | with_reducible apply framedCells.refl
    | decide +kernel
    | with_reducible apply framedCells.after (cells_enterPassed _ _)
    | with_reducible apply framedCells.fold
    | with_reducible intro _
    | dsimp only
    | split

theorem cells_releaseZone (c : Crane) (n : Nat) (s : State) :
    KeepsCells s (releaseZone c n s).1 := by
  unfold releaseZone
  repeat' first
    | with_reducible apply framedCells.refl
    | decide +kernel
    | with_reducible apply framedCells.after (cells_convert _ _)
    | with_reducible apply framedCells.frame (touches_dropWait _ _ _)
    | with_reducible apply framedCells.frame (touches_reviewOffPath _ _)
    | with_reducible apply framedCells.fold
    | with_reducible intro _
    | dsimp only
    | split

theorem cells_deliver (s : State) (c : Crane) (r : Report) (rejoining : Bool) (wasZero : Bool) :
    KeepsCells s (s.deliver c r rejoining wasZero) := by
  unfold State.deliver
  repeat' first
    | with_reducible apply framedCells.refl
    | decide +kernel
    | with_reducible apply framedCells.frame (touches_liftStage _ _ _ _)
    | with_reducible apply framedCells.after (cells_loadDrop _ _)
    | with_reducible apply framedCells.after (cells_positionStage _ _ _)
    | with_reducible apply framedCells.frame (touches_removeReasonFrom _ _ _)
    | with_reducible apply framedCells.after (cells_securingStage _ _)
    | with_reducible apply framedCells.after (cells_windStage _ _ _)
    | with_reducible apply framedCells.fold
    | with_reducible intro _
    | dsimp only
    | split

theorem cells_acceptStatus (s : State) (c : Crane) (r : Report) :
    KeepsCells s (s.acceptStatus c r) := by
  unfold State.acceptStatus
  repeat' first
    | with_reducible apply framedCells.refl
    | decide +kernel
    | with_reducible apply framedCells.frame (touches_acknowledge _ _ _)
    | with_reducible apply framedCells.after (cells_deliver _ _ _ _ _)
    | with_reducible apply framedCells.frame (touches_raiseFor _ _ _)
    | with_reducible apply framedCells.frame (touches_recordReport _ _ _ _)
    | with_reducible apply framedCells.frame (touches_withdraw _ _ _)
    | with_reducible apply framedCells.fold
    | with_reducible intro _
    | dsimp only
    | split

theorem cells_acceptRejoin (s : State) (c : Crane) (r : Report) :
    KeepsCells s (s.acceptRejoin c r) := by
  unfold State.acceptRejoin
  repeat' first
    | with_reducible apply framedCells.refl
    | decide +kernel
    | with_reducible apply framedCells.frame (touches_acknowledge _ _ _)
    | with_reducible apply framedCells.after (cells_deliver _ _ _ _ _)
    | with_reducible apply framedCells.frame (touches_recordReport _ _ _ _)
    | with_reducible apply framedCells.after (cells_rejoinService _ _)
    | with_reducible apply framedCells.frame (touches_withdraw _ _ _)
    | with_reducible apply framedCells.fold
    | with_reducible intro _
    | dsimp only
    | split

theorem cells_runLinkRequest (c : Crane) (f : LinkFrame) (s : State) :
    KeepsCells s (runLinkRequest c f s).1 := by
  unfold runLinkRequest
  repeat' first
    | with_reducible apply framedCells.refl
    | decide +kernel
    | with_reducible apply framedCells.frame (touches_amend _ _ _ _)
    | with_reducible apply framedCells.frame (touches_cancel _ _ _)
    | with_reducible apply framedCells.frame (touches_confirm _ _ _)
    | with_reducible apply framedCells.after (cells_enterZone _ _ _)
    | with_reducible apply framedCells.after (cells_finish _ _ _)
    | with_reducible apply framedCells.after (cells_land _ _ _)
    | with_reducible apply framedCells.frame (touches_listRecords _ _ _ _ _)
    | with_reducible apply framedCells.frame (touches_propose _ _ _ _)
    | with_reducible apply framedCells.frame (touches_queryRecord _ _ _)
    | with_reducible apply framedCells.after (cells_releaseZone _ _ _)
    | with_reducible apply framedCells.frame (touches_resume _ _ _)
    | with_reducible apply framedCells.frame (touches_setLock _ _ _ _)
    | with_reducible apply framedCells.frame (touches_start _ _ _)
    | with_reducible apply framedCells.frame (touches_suspend _ _ _)
    | with_reducible apply framedCells.fold
    | with_reducible intro _
    | dsimp only
    | split

theorem cells_takeFrame (s : State) (c : Crane) (f : LinkFrame) :
    KeepsCells s (s.takeFrame c f) := by
  unfold State.takeFrame
  repeat' first
    | with_reducible apply framedCells.refl
    | decide +kernel
    | with_reducible apply framedCells.after (cells_acceptRejoin _ _ _)
    | with_reducible apply framedCells.after (cells_acceptStatus _ _ _)
    | with_reducible apply framedCells.frame (touches_acknowledge _ _ _)
    | with_reducible apply framedCells.frame (touches_answerLink _ _ _ _)
    | with_reducible apply framedCells.after (cells_runLinkRequest _ _ _)
    | with_reducible apply framedCells.fold
    | with_reducible intro _
    | dsimp only
    | split

theorem cells_arrive (s : State) (c : Crane) (f : LinkFrame) :
    KeepsCells s (s.arrive c f) := by
  unfold State.arrive
  repeat' first
    | with_reducible apply framedCells.refl
    | decide +kernel
    | with_reducible apply framedCells.frame (touches_badFrame _ _)
    | with_reducible apply framedCells.frame (touches_setLink _ _ _)
    | with_reducible apply framedCells.after (cells_takeFrame _ _ _)
    | with_reducible apply framedCells.frame (touches_withdraw _ _ _)
    | with_reducible apply framedCells.fold
    | with_reducible intro _
    | dsimp only
    | split

theorem cells_frameSent (s : State) (c : Crane) :
    KeepsCells s (s.frameSent c) := by
  unfold State.frameSent
  repeat' first
    | with_reducible apply framedCells.refl
    | decide +kernel
    | with_reducible apply framedCells.frame (touches_setLink _ _ _)
    | with_reducible apply framedCells.after (cells_takeFrame _ _ _)
    | with_reducible apply framedCells.fold
    | with_reducible intro _
    | dsimp only
    | split

theorem cells_receiveByte (s : State) (c : Crane) (b : Byte) (stopGood : Bool) :
    KeepsCells s (s.receiveByte c b stopGood) := by
  unfold State.receiveByte
  repeat' first
    | with_reducible apply framedCells.refl
    | decide +kernel
    | with_reducible apply framedCells.after (cells_arrive _ _ _)
    | with_reducible apply framedCells.frame (touches_badFrame _ _)
    | with_reducible apply framedCells.frame (touches_setLink _ _ _)
    | with_reducible apply framedCells.fold
    | with_reducible intro _
    | dsimp only
    | split

theorem cells_startUp (s : State) :
    KeepsCells s (s.startUp) := by
  intro _ q
  simp [State.cell, State.startUp, State.reset, Cell.initial]

theorem cells_expireClearing (s : State) (q : CellId) :
    KeepsCells s (s.expireClearing q) := by
  unfold State.expireClearing
  repeat' first
    | with_reducible apply framedCells.refl
    | decide +kernel
    | with_reducible apply framedCells.after (cells_convert _ _)
    | with_reducible apply framedCells.fold
    | with_reducible intro _
    | dsimp only
    | split

theorem cells_openFromSetup (s : State) :
    KeepsCells s (s.openFromSetup) := by
  unfold State.openFromSetup
  repeat' first
    | with_reducible apply framedCells.refl
    | decide +kernel
    | with_reducible apply framedCells.after (cells_convert _ _)
    | with_reducible apply framedCells.frame (touches_startService _ _)
    | with_reducible apply framedCells.frame (touches_withSite _ _)
    | with_reducible apply framedCells.frame (touches_withdrawSite _ _)
    | with_reducible apply framedCells.fold
    | with_reducible intro _
    | dsimp only
    | split

theorem cells_convertCrane (s : State) (c : Crane) :
    KeepsCells s (s.convertCrane c) := by
  unfold State.convertCrane
  repeat' first
    | with_reducible apply framedCells.refl
    | decide +kernel
    | with_reducible apply framedCells.after (cells_resumeCrane _ _)
    | with_reducible apply framedCells.fold
    | with_reducible intro _
    | dsimp only
    | split

theorem cells_bringBack (s : State) :
    KeepsCells s (s.bringBack) := by
  unfold State.bringBack
  repeat' first
    | with_reducible apply framedCells.refl
    | decide +kernel
    | with_reducible apply framedCells.after (cells_convertCrane _ _)
    | with_reducible apply framedCells.frame (touches_returnCrane _ _)
    | with_reducible apply framedCells.fold
    | with_reducible intro _
    | dsimp only
    | split

theorem cells_resumeFromStorm (s : State) :
    KeepsCells s (s.resumeFromStorm) := by
  unfold State.resumeFromStorm
  repeat' first
    | with_reducible apply framedCells.refl
    | decide +kernel
    | with_reducible apply framedCells.after (cells_bringBack _)
    | with_reducible apply framedCells.frame (touches_removeReasonAll _ _)
    | with_reducible apply framedCells.frame (touches_withSite _ _)
    | with_reducible apply framedCells.frame (touches_withdrawSite _ _)
    | with_reducible apply framedCells.fold
    | with_reducible intro _
    | dsimp only
    | split

theorem cells_reopen (s : State) :
    KeepsCells s (s.reopen) := by
  unfold State.reopen
  repeat' first
    | with_reducible apply framedCells.refl
    | decide +kernel
    | with_reducible apply framedCells.after (cells_bringBack _)
    | with_reducible apply framedCells.frame (touches_withSite _ _)
    | with_reducible apply framedCells.frame (touches_withdrawSite _ _)
    | with_reducible apply framedCells.fold
    | with_reducible intro _
    | dsimp only
    | split

theorem cells_openTheSite (s : State) :
    KeepsCells s (openTheSite s).1 := by
  unfold openTheSite
  repeat' first
    | with_reducible apply framedCells.refl
    | decide +kernel
    | with_reducible apply framedCells.after (cells_openFromSetup _)
    | with_reducible apply framedCells.after (cells_reopen _)
    | with_reducible apply framedCells.fold
    | with_reducible intro _
    | dsimp only
    | split

theorem cells_close (s : State) :
    KeepsCells s (s.close) := by
  unfold State.close
  repeat' first
    | with_reducible apply framedCells.refl
    | decide +kernel
    | with_reducible apply framedCells.frame (touches_denyWaits _ _ _)
    | with_reducible apply framedCells.after (cells_enterSecuringAll _)
    | with_reducible apply framedCells.frame (touches_withSite _ _)
    | with_reducible apply framedCells.fold
    | with_reducible intro _
    | dsimp only
    | split

theorem cells_closeTheSite (s : State) :
    KeepsCells s (closeTheSite s).1 := by
  unfold closeTheSite
  repeat' first
    | with_reducible apply framedCells.refl
    | decide +kernel
    | with_reducible apply framedCells.after (cells_close _)
    | with_reducible apply framedCells.fold
    | with_reducible intro _
    | dsimp only
    | split

theorem cells_resumeTheSite (s : State) :
    KeepsCells s (resumeTheSite s).1 := by
  unfold resumeTheSite
  repeat' first
    | with_reducible apply framedCells.refl
    | decide +kernel
    | with_reducible apply framedCells.after (cells_resumeFromStorm _)
    | with_reducible apply framedCells.fold
    | with_reducible intro _
    | dsimp only
    | split

/-- Every cell after `freeAllCells` is FREE, stamped with the site time (R70). -/
theorem cell_freeAllCells (s : State) (q : CellId) : s.freeAllCells.cell q = ⟨.free, s.clock.site, none, none⟩ := by
  unfold State.freeAllCells State.cell State.withCells
  dsimp only
  rw [tget_tconst, tget_tconst]

theorem cells_freeAllCells (s : State) : KeepsCells s s.freeAllCells := by
  intro _ q
  rw [cell_freeAllCells]
  exact ⟨⟨nofun, nofun⟩, fun _ => rfl⟩

theorem cells_setupReset (s : State) :
    KeepsCells s (s.setupReset) := by
  unfold State.setupReset
  repeat' first
    | with_reducible apply framedCells.refl
    | decide +kernel
    | with_reducible apply framedCells.after (cells_follow _ _)
    | with_reducible apply framedCells.after (cells_freeAllCells _)
    | with_reducible apply framedCells.frame (touches_withRestricted _ _)
    | with_reducible apply framedCells.frame (touches_withdraw _ _ _)
    | with_reducible apply framedCells.fold
    | with_reducible intro _
    | dsimp only
    | split

theorem cells_toSetup (s : State) :
    KeepsCells s (s.toSetup) := by
  unfold State.toSetup
  repeat' first
    | with_reducible apply framedCells.refl
    | decide +kernel
    | with_reducible apply framedCells.frame (touches_cancelAll _)
    | with_reducible apply framedCells.frame (touches_denyWaits _ _ _)
    | with_reducible apply framedCells.after (cells_setupReset _)
    | with_reducible apply framedCells.frame (touches_toStandby _ _)
    | with_reducible apply framedCells.frame (touches_withSite _ _)
    | with_reducible apply framedCells.fold
    | with_reducible intro _
    | dsimp only
    | split

theorem cells_returnSiteToSetup (s : State) :
    KeepsCells s (returnSiteToSetup s).1 := by
  unfold returnSiteToSetup
  repeat' first
    | with_reducible apply framedCells.refl
    | decide +kernel
    | with_reducible apply framedCells.after (cells_toSetup _)
    | with_reducible apply framedCells.fold
    | with_reducible intro _
    | dsimp only
    | split

theorem cells_forceClear (s : State) (c : Crane) (named : List Sector) :
    KeepsCells s (s.forceClear c named) := by
  unfold State.forceClear
  repeat' first
    | with_reducible apply framedCells.refl
    | decide +kernel
    | with_reducible apply framedCells.after (cells_convert _ _)
    | with_reducible apply framedCells.frame (touches_forceService _ _ _)
    | with_reducible apply framedCells.fold
    | with_reducible intro _
    | dsimp only
    | split

theorem cells_forceCells (crane : Nat) (sectors : Nat) (s : State) :
    KeepsCells s (forceCells crane sectors s).1 := by
  unfold forceCells
  repeat' first
    | with_reducible apply framedCells.refl
    | decide +kernel
    | with_reducible apply framedCells.after (cells_forceClear _ _ _)
    | with_reducible apply framedCells.fold
    | with_reducible intro _
    | dsimp only
    | split

end Sys2Proof.Machine
end

