-- ==== Sys2Proof/Laws/CellTable.lean ====
section
/-!
SUPPORT. The cell table: which cells are partners, and the follow-ups that a change without walk and vane re-check comes down to.
-/
set_option Elab.async false
namespace Sys2Proof.Machine

/-- The partners of a cell are the far ends of the pairs that touch it and lead to another crane. -/
theorem mem_partners (p : Plan) (q : CellId) (k : PairKind) (o : CellId) :
    (k, o) ∈ p.partners q ↔
      ∃ r ∈ p.pairs, (r.lo = q ∧ r.hi = o ∨ r.hi = q ∧ r.lo = o) ∧ o.crane ≠ q.crane ∧ r.kind = k := by
  unfold Plan.partners Pair.other
  rw [List.mem_filterMap]
  constructor
  · rintro ⟨r, hr, h⟩
    refine ⟨r, hr, ?_⟩
    by_cases h1 : r.lo = q
    · simp only [h1, if_true] at h
      split at h
      · simp at h
      · rename_i hn
        simp at h
        obtain ⟨rfl, rfl⟩ := h
        exact ⟨Or.inl ⟨h1, rfl⟩, hn, rfl⟩
    · simp only [h1, if_false] at h
      by_cases h2 : r.hi = q
      · simp only [h2, if_true] at h
        split at h
        · simp at h
        · rename_i hn
          simp at h
          obtain ⟨rfl, rfl⟩ := h
          exact ⟨Or.inr ⟨h2, rfl⟩, hn, rfl⟩
      · simp [h2] at h
  · rintro ⟨r, hr, h, hc, rfl⟩
    refine ⟨r, hr, ?_⟩
    rcases h with ⟨rfl, rfl⟩ | ⟨rfl, rfl⟩
    · simp [hc]
    · by_cases h1 : r.lo = r.hi
      · exact absurd (by rw [h1]) hc
      · simp [h1, hc]

/-- Being partners goes both ways. -/
theorem partners_symm {p : Plan} {q o : CellId} {k : PairKind} (h : (k, o) ∈ p.partners q) : (k, q) ∈ p.partners o := by
  obtain ⟨r, hr, h, hc, hk⟩ := (mem_partners _ _ _ _).mp h
  refine (mem_partners _ _ _ _).mpr ⟨r, hr, ?_, fun e => hc e.symm, hk⟩
  rcases h with ⟨h1, h2⟩ | ⟨h1, h2⟩
  · exact Or.inr ⟨h2, h1⟩
  · exact Or.inl ⟨h2, h1⟩

/-- A change that wakes neither the vane re-check nor the walk has the first two follow-ups alone (R53). -/
theorem follow_quiet (s : State) (chg : List Change) (h1 : chg.any Change.wakesVane = false)
    (h2 : chg.any Change.wakesWalk = false) : s.follow chg = s.ownAndSeized chg := by
  unfold State.follow followWith followThree
  simp only [h1, h2]; rfl

end Sys2Proof.Machine
end

