-- ==== Sys2Proof/Laws/CommandFrames.lean ====
section
/-!
SUPPORT. The frames of what a command goes through: a raising that hands no stop reason, the taking of a crane frame, and a
supervisor request.
-/
set_option Elab.async false
namespace Sys2Proof.Machine

/-! ### Raisings that hand no stop reason (R165) -/

theorem raise_quiet {s : State} {k : AlertKind} {c : Option Crane} (h : k.stopReason = none) :
    s.raise k c = (s.latchAlert k c).evaluateLines := by
  unfold State.raise State.stopAction
  simp only [h]

theorem touches_raise_quiet (s : State) (k : AlertKind) (c : Option Crane) (h : k.stopReason = none) :
    Touches [.alerts, .lines] s (s.raise k c) := by
  rw [raise_quiet h]
  exact ((touches_latchAlert s k c).mono (by decide)).step (touches_evaluateLines _) (by decide)

theorem touches_keepInStep_quiet (s : State) (k : AlertKind) (c : Crane) (b : Bool) (h : k.stopReason = none) :
    Touches [.alerts, .lines] s (s.keepInStep k c b) := by
  unfold State.keepInStep State.raiseFor
  split <;> split
  · exact Touches.refl _ _
  · exact touches_raise_quiet _ _ _ h
  · exact (touches_withdraw _ _ _).mono (by decide)
  · exact Touches.refl _ _

theorem touches_windConditions_quiet (s : State) (c : Crane) : Touches [.alerts, .lines] s (s.windConditions c) := by
  unfold State.windConditions
  dsimp only
  split
  · exact ((touches_keepInStep_quiet _ _ _ _ rfl).step (touches_keepInStep_quiet _ _ _ _ rfl) (fun _ h => h)).step
      (touches_keepInStep_quiet _ _ _ _ rfl) (fun _ h => h)
  · exact Touches.refl _ _

theorem touches_completeDwell_quiet (s : State) (c : Crane) : Touches [.wind, .alerts, .lines] s (s.completeDwell c) := by
  unfold State.completeDwell
  split
  · exact ((touches_setWind _ _ _).mono (by decide)).step (touches_windConditions_quiet _ _) (by decide)
  · exact Touches.refl _ _

theorem touches_expireTimer_quiet (s : State) (c : Crane) : Touches [.service, .alerts, .lines] s (s.expireTimer c) := by
  unfold State.expireTimer
  dsimp only
  split
  · exact ((touches_raise_quiet _ .secureOverdue (some c) rfl).mono (by decide)).step (touches_setSvc _ _ _) (by decide)
  · exact ((touches_raise_quiet _ .secureOverdue (some c) rfl).mono (by decide)).step (touches_setSvc _ _ _) (by decide)
  all_goals exact (touches_setSvc _ _ _).mono (by decide)

theorem touches_endWrite_quiet (s : State) (good : Bool) : Touches [.plan, .alerts, .lines] s (s.endWrite good) := by
  unfold State.endWrite
  split
  · exact ((touches_withPlan _ _).mono (by decide)).step (touches_withdrawSite _ _) (by decide)
  · exact ((touches_withPlan _ _).mono (by decide)).step (touches_raise_quiet _ _ _ rfl) (by decide)

theorem touches_badFrame_quiet (s : State) (c : Crane) : Touches [.links, .alerts, .lines] s (s.badFrame c) := by
  unfold State.badFrame
  dsimp only
  split
  · exact ((touches_setLink _ _ _).mono (by decide)).step (touches_raise_quiet _ _ _ rfl) (by decide)
  · exact (touches_setLink _ _ _).mono (by decide)

/-! ### Crane frames (R33 to R35) -/

/-- A crane frame that is no report changes what its request changes, the link, and the lines and alerts of FRAME_ERROR. -/
theorem touches_arrive_request {ps : List Part} {c : Crane} {f : LinkFrame} (hs : ∀ r, f ≠ .status r) (hr : ∀ r, f ≠ .rejoin r)
    (h : ∀ s, Touches ps s (runLinkRequest c f s).1) (s : State) :
    Touches (.links :: .alerts :: .lines :: ps) s (s.arrive c f) := by
  have hl : ∀ u (a : Answer), Touches (.links :: .alerts :: .lines :: ps) u (u.answerLink c f a) :=
    fun u a => (touches_answerLink u c f a).mono (by simp)
  have ht : ∀ u, Touches (.links :: .alerts :: .lines :: ps) u (u.takeFrame c f) := by
    intro u
    unfold State.takeFrame
    split
    · exact hl _ _
    · split
      · split
        · rename_i r; exact absurd rfl (hs r)
        · refine Touches.step ((h u).mono ?_) (hl _ _) (fun _ hm => hm)
          intro p hp; simp [hp]
      · split
        · rename_i r; exact absurd rfl (hs r)
        · rename_i r; exact absurd rfl (hr r)
        · exact hl _ _
      · split
        · rename_i r; exact absurd rfl (hs r)
        · rename_i r; exact absurd rfl (hr r)
        · exact hl _ _
  unfold State.arrive
  split
  · exact (touches_badFrame_quiet s c).mono (by simp)
  · dsimp only
    have hw : Touches (.links :: .alerts :: .lines :: ps) s (s.withdraw .frameError c) :=
      (touches_withdraw _ _ _).mono (by simp)
    split
    · exact hw.step (ht _) (fun _ hm => hm)
    · exact hw.step (touches_setLink _ _ _) (by simp)

/-! ### Supervisor requests (R172) -/

theorem touches_serve {ps : List Part} {run : State → State × Answer} (h : ∀ s, Touches ps s (run s).1) (s : State)
    (i : Instr) : Touches (.port :: ps) s (s.serve i run) := by
  unfold State.serve
  refine Touches.step (Touches.step ((touches_gather _ _).mono ?_) (h _) ?_) (touches_respond _ _ _) ?_ <;> simp
  exact fun p hp => Or.inr hp

theorem touches_looking (look : State → Answer) (s : State) : Touches [] s (looking look s).1 := Touches.refl _ _

theorem touches_edit (change : Plan → Option (Plan × Answer)) (s : State) : Touches [.plan] s (s.edit change).1 := by
  unfold State.edit
  split
  · exact Touches.refl _ _
  · split
    · exact Touches.refl _ _
    · split
      · exact Touches.refl _ _
      · exact touches_setStaging _ _

/-- What a command does only while the part runs. -/
theorem touches_whileRunning {ps : List Part} {s t : State} {f : State → State} (h : Touches ps s (f s))
    (hx : s.whileRunning f = .next t) : Touches ps s t := by
  unfold State.whileRunning at hx
  cases hx
  split
  · exact h
  · exact Touches.refl _ _

end Sys2Proof.Machine
end

