-- ==== Sys2Proof/Laws/KeepsIds.lean ====
section
/-!
SUPPORT. Every operation but PROPOSE_LIFT's adds no record to the booking table (R131).
-/
set_option Elab.async false
namespace Sys2Proof.Machine

/-- The booking table loses records and gains none; those left keep their ids and their order. -/
def KeepsIds (s t : State) : Prop := (t.bookings.map Booking.id).Sublist (s.bookings.map Booking.id)

theorem framedIds : Framed KeepsIds [.bookings] where
  trans h k := k.trans h
  same h := by
    have hw := h .bookings (by decide)
    simp only [Same] at hw
    simp only [KeepsIds, hw]
    exact List.Sublist.refl _


theorem ids_putLift (s : State) (b : Booking) :
    KeepsIds s (s.putLift b) := by
  have h : (s.bookings.map (fun r => if r.id = b.id then b else r)).map Booking.id = s.bookings.map Booking.id := by
    rw [List.map_map]
    apply List.map_congr_left
    intro r _
    simp only [Function.comp]
    split
    · rename_i h; exact h.symm
    · rfl
  exact Eq.subst (motive := fun l => List.Sublist l (s.bookings.map Booking.id)) h.symm (List.Sublist.refl _)

theorem ids_freeLift (s : State) (id : Nat) :
    KeepsIds s (s.freeLift id) := by
  exact List.filter_sublist.map _

theorem ids_addReason (s : State) (b : Booking) (r : SuspReason) :
    KeepsIds s (s.addReason b r) := by
  unfold State.addReason
  repeat' first
    | with_reducible apply framedIds.refl
    | decide +kernel
    | with_reducible apply framedIds.frame (touches_notifyLift _ _ _ _)
    | with_reducible apply framedIds.after (ids_putLift _ _)
    | with_reducible apply framedIds.fold
    | with_reducible intro _
    | dsimp only
    | split

theorem ids_addReasonTo (s : State) (c : Crane) (r : SuspReason) :
    KeepsIds s (s.addReasonTo c r) := by
  unfold State.addReasonTo
  repeat' first
    | with_reducible apply framedIds.refl
    | decide +kernel
    | with_reducible apply framedIds.after (ids_addReason _ _ _)
    | with_reducible apply framedIds.fold
    | with_reducible intro _
    | dsimp only
    | split

theorem ids_removeReason (s : State) (b : Booking) (r : SuspReason) :
    KeepsIds s (s.removeReason b r) := by
  unfold State.removeReason
  repeat' first
    | with_reducible apply framedIds.refl
    | decide +kernel
    | with_reducible apply framedIds.frame (touches_notifyLift _ _ _ _)
    | with_reducible apply framedIds.after (ids_putLift _ _)
    | with_reducible apply framedIds.fold
    | with_reducible intro _
    | dsimp only
    | split

theorem ids_removeReasonFrom (s : State) (c : Crane) (r : SuspReason) :
    KeepsIds s (s.removeReasonFrom c r) := by
  unfold State.removeReasonFrom
  repeat' first
    | with_reducible apply framedIds.refl
    | decide +kernel
    | with_reducible apply framedIds.after (ids_removeReason _ _ _)
    | with_reducible apply framedIds.fold
    | with_reducible intro _
    | dsimp only
    | split

theorem ids_addStop (s : State) (c : Crane) (r : StopReason) :
    KeepsIds s (s.addStop c r) := by
  unfold State.addStop
  repeat' first
    | with_reducible apply framedIds.refl
    | decide +kernel
    | with_reducible apply framedIds.after (ids_addReasonTo _ _ _)
    | with_reducible apply framedIds.frame (touches_denyCrane _ _ _)
    | with_reducible apply framedIds.frame (touches_setStops _ _ _)
    | with_reducible apply framedIds.fold
    | with_reducible intro _
    | dsimp only
    | split

theorem ids_stopAction (s : State) (k : AlertKind) (c : Option Crane) :
    KeepsIds s (s.stopAction k c) := by
  unfold State.stopAction
  repeat' first
    | with_reducible apply framedIds.refl
    | decide +kernel
    | with_reducible apply framedIds.after (ids_addStop _ _ _)
    | with_reducible apply framedIds.fold
    | with_reducible intro _
    | dsimp only
    | split

theorem ids_raise (s : State) (k : AlertKind) (c : Option Crane) :
    KeepsIds s (s.raise k c) := by
  unfold State.raise
  repeat' first
    | with_reducible apply framedIds.refl
    | decide +kernel
    | with_reducible apply framedIds.frame (touches_evaluateLines _)
    | with_reducible apply framedIds.frame (touches_latchAlert _ _ _)
    | with_reducible apply framedIds.after (ids_stopAction _ _ _)
    | with_reducible apply framedIds.fold
    | with_reducible intro _
    | dsimp only
    | split

theorem ids_raiseFor (s : State) (k : AlertKind) (c : Crane) :
    KeepsIds s (s.raiseFor k c) := by
  unfold State.raiseFor
  repeat' first
    | with_reducible apply framedIds.refl
    | decide +kernel
    | with_reducible apply framedIds.after (ids_raise _ _ _)
    | with_reducible apply framedIds.fold
    | with_reducible intro _
    | dsimp only
    | split

theorem ids_addReasonAll (s : State) (r : SuspReason) :
    KeepsIds s (s.addReasonAll r) := by
  unfold State.addReasonAll
  repeat' first
    | with_reducible apply framedIds.refl
    | decide +kernel
    | with_reducible apply framedIds.after (ids_addReason _ _ _)
    | with_reducible apply framedIds.fold
    | with_reducible intro _
    | dsimp only
    | split

theorem ids_enterStorm (s : State) (c : Crane) :
    KeepsIds s (s.enterStorm c) := by
  unfold State.enterStorm
  repeat' first
    | with_reducible apply framedIds.refl
    | decide +kernel
    | with_reducible apply framedIds.after (ids_addReasonAll _ _)
    | with_reducible apply framedIds.frame (touches_enterSecuringAll _)
    | with_reducible apply framedIds.after (ids_raiseFor _ _ _)
    | with_reducible apply framedIds.frame (touches_withSite _ _)
    | with_reducible apply framedIds.fold
    | with_reducible intro _
    | dsimp only
    | split

theorem ids_reportStorm (s : State) (c : Crane) :
    KeepsIds s (s.reportStorm c) := by
  unfold State.reportStorm
  repeat' first
    | with_reducible apply framedIds.refl
    | decide +kernel
    | with_reducible apply framedIds.after (ids_enterStorm _ _)
    | with_reducible apply framedIds.after (ids_raiseFor _ _ _)
    | with_reducible apply framedIds.fold
    | with_reducible intro _
    | dsimp only
    | split

theorem ids_keepInStep (s : State) (k : AlertKind) (c : Crane) (holds : Bool) :
    KeepsIds s (s.keepInStep k c holds) := by
  unfold State.keepInStep
  repeat' first
    | with_reducible apply framedIds.refl
    | decide +kernel
    | with_reducible apply framedIds.after (ids_raiseFor _ _ _)
    | with_reducible apply framedIds.frame (touches_withdraw _ _ _)
    | with_reducible apply framedIds.fold
    | with_reducible intro _
    | dsimp only
    | split

theorem ids_windConditions (s : State) (c : Crane) :
    KeepsIds s (s.windConditions c) := by
  unfold State.windConditions
  repeat' first
    | with_reducible apply framedIds.refl
    | decide +kernel
    | with_reducible apply framedIds.after (ids_keepInStep _ _ _ _)
    | with_reducible apply framedIds.fold
    | with_reducible intro _
    | dsimp only
    | split

theorem ids_actOnVerdict (s : State) (b : Booking) (v : Verdict) :
    KeepsIds s (s.actOnVerdict b v) := by
  unfold State.actOnVerdict
  repeat' first
    | with_reducible apply framedIds.refl
    | decide +kernel
    | with_reducible apply framedIds.after (ids_addReason _ _ _)
    | with_reducible apply framedIds.after (ids_removeReason _ _ _)
    | with_reducible apply framedIds.fold
    | with_reducible intro _
    | dsimp only
    | split

theorem ids_handVerdict (s : State) (c : Crane) :
    KeepsIds s (s.handVerdict c) := by
  unfold State.handVerdict
  repeat' first
    | with_reducible apply framedIds.refl
    | decide +kernel
    | with_reducible apply framedIds.after (ids_actOnVerdict _ _ _)
    | with_reducible apply framedIds.fold
    | with_reducible intro _
    | dsimp only
    | split

theorem ids_windStage (s : State) (c : Crane) (wind : Option Nat) :
    KeepsIds s (s.windStage c wind) := by
  unfold State.windStage
  repeat' first
    | with_reducible apply framedIds.refl
    | decide +kernel
    | with_reducible apply framedIds.after (ids_handVerdict _ _)
    | with_reducible apply framedIds.after (ids_reportStorm _ _)
    | with_reducible apply framedIds.frame (touches_setWind _ _ _)
    | with_reducible apply framedIds.after (ids_windConditions _ _)
    | with_reducible apply framedIds.fold
    | with_reducible intro _
    | dsimp only
    | split

theorem ids_windLost (s : State) (c : Crane) :
    KeepsIds s (s.windLost c) := by
  unfold State.windLost
  repeat' first
    | with_reducible apply framedIds.refl
    | decide +kernel
    | with_reducible apply framedIds.frame (touches_setWind _ _ _)
    | with_reducible apply framedIds.after (ids_windConditions _ _)
    | with_reducible apply framedIds.fold
    | with_reducible intro _
    | dsimp only
    | split

theorem ids_intrude (s : State) (q : CellId) :
    KeepsIds s (s.intrude q) := by
  unfold State.intrude
  repeat' first
    | with_reducible apply framedIds.refl
    | decide +kernel
    | with_reducible apply framedIds.after (ids_raiseFor _ _ _)
    | with_reducible apply framedIds.frame (touches_register_ _ _ _)
    | with_reducible apply framedIds.fold
    | with_reducible intro _
    | dsimp only
    | split

theorem ids_seize (s : State) (q : CellId) :
    KeepsIds s (s.seize q) := by
  unfold State.seize
  repeat' first
    | with_reducible apply framedIds.refl
    | decide +kernel
    | with_reducible apply framedIds.frame (touches_convert _ _)
    | with_reducible apply framedIds.after (ids_intrude _ _)
    | with_reducible apply framedIds.fold
    | with_reducible intro _
    | dsimp only
    | split

theorem ids_checkOccupied (s : State) (q : CellId) :
    KeepsIds s (s.checkOccupied q) := by
  unfold State.checkOccupied
  repeat' first
    | with_reducible apply framedIds.refl
    | decide +kernel
    | with_reducible apply framedIds.frame (touches_holdCell _ _ _)
    | with_reducible apply framedIds.after (ids_seize _ _)
    | with_reducible apply framedIds.fold
    | with_reducible intro _
    | dsimp only
    | split

theorem ids_checkPosition (s : State) (c : Crane) :
    KeepsIds s (s.checkPosition c) := by
  unfold State.checkPosition
  repeat' first
    | with_reducible apply framedIds.refl
    | decide +kernel
    | with_reducible apply framedIds.frame (touches_checkLeft _ _)
    | with_reducible apply framedIds.after (ids_checkOccupied _ _)
    | with_reducible apply framedIds.fold
    | with_reducible intro _
    | dsimp only
    | split

theorem ids_positionStage (s : State) (c : Crane) (angle : Nat) :
    KeepsIds s (s.positionStage c angle) := by
  unfold State.positionStage
  repeat' first
    | with_reducible apply framedIds.refl
    | decide +kernel
    | with_reducible apply framedIds.after (ids_checkPosition _ _)
    | with_reducible apply framedIds.frame (touches_setOccupied _ _ _)
    | with_reducible apply framedIds.fold
    | with_reducible intro _
    | dsimp only
    | split

theorem ids_liftStage (s : State) (c : Crane) (load : Option Nat) (radius : Nat) :
    KeepsIds s (s.liftStage c load radius) := by
  unfold State.liftStage
  repeat' first
    | with_reducible apply framedIds.refl
    | decide +kernel
    | with_reducible apply framedIds.after (ids_addReasonTo _ _ _)
    | with_reducible apply framedIds.after (ids_raiseFor _ _ _)
    | with_reducible apply framedIds.frame (touches_setLastConf _ _ _)
    | with_reducible apply framedIds.frame (touches_withdraw _ _ _)
    | with_reducible apply framedIds.fold
    | with_reducible intro _
    | dsimp only
    | split

theorem ids_testBooked (s : State) (n : Nat) (id : Nat) :
    KeepsIds s (s.testBooked n id) := by
  unfold State.testBooked
  repeat' first
    | with_reducible apply framedIds.refl
    | decide +kernel
    | with_reducible apply framedIds.after (ids_freeLift _ _)
    | with_reducible apply framedIds.frame (touches_notifyLift _ _ _ _)
    | with_reducible apply framedIds.after (ids_putLift _ _)
    | with_reducible apply framedIds.fold
    | with_reducible intro _
    | dsimp only
    | split

theorem ids_testOverrun (s : State) (n : Nat) (id : Nat) :
    KeepsIds s (s.testOverrun n id) := by
  unfold State.testOverrun
  repeat' first
    | with_reducible apply framedIds.refl
    | decide +kernel
    | with_reducible apply framedIds.after (ids_putLift _ _)
    | with_reducible apply framedIds.after (ids_raiseFor _ _ _)
    | with_reducible apply framedIds.fold
    | with_reducible intro _
    | dsimp only
    | split

theorem ids_bookingMinute (s : State) (n : Nat) :
    KeepsIds s (s.bookingMinute n) := by
  unfold State.bookingMinute
  repeat' first
    | with_reducible apply framedIds.refl
    | decide +kernel
    | with_reducible apply framedIds.after (ids_testBooked _ _ _)
    | with_reducible apply framedIds.after (ids_testOverrun _ _ _)
    | with_reducible apply framedIds.fold
    | with_reducible intro _
    | dsimp only
    | split

theorem ids_formRestricted (s : State) (n : Nat) (c : Crane) :
    KeepsIds s (s.formRestricted n c) := by
  unfold State.formRestricted
  repeat' first
    | with_reducible apply framedIds.refl
    | decide +kernel
    | with_reducible apply framedIds.after (ids_raiseFor _ _ _)
    | with_reducible apply framedIds.frame (touches_setRestricted _ _ _)
    | with_reducible apply framedIds.frame (touches_withdraw _ _ _)
    | with_reducible apply framedIds.fold
    | with_reducible intro _
    | dsimp only
    | split

theorem ids_zoneMinute (s : State) (n : Nat) :
    KeepsIds s (s.zoneMinute n) := by
  unfold State.zoneMinute
  repeat' first
    | with_reducible apply framedIds.refl
    | decide +kernel
    | with_reducible apply framedIds.after (ids_formRestricted _ _ _)
    | with_reducible apply framedIds.fold
    | with_reducible intro _
    | dsimp only
    | split

theorem ids_minuteEvent (s : State) (n : Nat) :
    KeepsIds s (s.minuteEvent n) := by
  unfold State.minuteEvent
  repeat' first
    | with_reducible apply framedIds.refl
    | decide +kernel
    | with_reducible apply framedIds.after (ids_bookingMinute _ _)
    | with_reducible apply framedIds.after (ids_zoneMinute _ _)
    | with_reducible apply framedIds.fold
    | with_reducible intro _
    | dsimp only
    | split

theorem ids_moveTime (s : State) (t : Nat) :
    KeepsIds s (s.moveTime t) := by
  unfold State.moveTime
  repeat' first
    | with_reducible apply framedIds.refl
    | decide +kernel
    | with_reducible apply framedIds.after (ids_minuteEvent _ _)
    | with_reducible apply framedIds.frame (touches_withClock _ _)
    | with_reducible apply framedIds.fold
    | with_reducible intro _
    | dsimp only
    | split

theorem ids_endLift (s : State) (b : Booking) :
    KeepsIds s (s.endLift b) := by
  unfold State.endLift
  repeat' first
    | with_reducible apply framedIds.refl
    | decide +kernel
    | with_reducible apply framedIds.frame (touches_arbitrate _)
    | with_reducible apply framedIds.after (ids_freeLift _ _)
    | with_reducible apply framedIds.frame (touches_reviewOffPath _ _)
    | with_reducible apply framedIds.frame (touches_setLastConf _ _ _)
    | with_reducible apply framedIds.frame (touches_withdraw _ _ _)
    | with_reducible apply framedIds.fold
    | with_reducible intro _
    | dsimp only
    | split

theorem ids_testDue (s : State) (b : Booking) :
    KeepsIds s (s.testDue b) := by
  unfold State.testDue
  repeat' first
    | with_reducible apply framedIds.refl
    | decide +kernel
    | with_reducible apply framedIds.frame (touches_notifyLift _ _ _ _)
    | with_reducible apply framedIds.after (ids_putLift _ _)
    | with_reducible apply framedIds.fold
    | with_reducible intro _
    | dsimp only
    | split

theorem ids_confirm (q : Requester) (id : Nat) (s : State) :
    KeepsIds s (confirm q id s).1 := by
  unfold confirm
  repeat' first
    | with_reducible apply framedIds.refl
    | decide +kernel
    | with_reducible apply framedIds.after (ids_freeLift _ _)
    | with_reducible apply framedIds.after (ids_putLift _ _)
    | with_reducible apply framedIds.after (ids_testDue _ _)
    | with_reducible apply framedIds.fold
    | with_reducible intro _
    | dsimp only
    | split

theorem ids_amend (q : Requester) (id : Nat) (f : LiftFields) (s : State) :
    KeepsIds s (amend q id f s).1 := by
  unfold amend
  repeat' first
    | with_reducible apply framedIds.refl
    | decide +kernel
    | with_reducible apply framedIds.after (ids_putLift _ _)
    | with_reducible apply framedIds.after (ids_testDue _ _)
    | with_reducible apply framedIds.fold
    | with_reducible intro _
    | dsimp only
    | split

theorem ids_cancel (q : Requester) (id : Nat) (s : State) :
    KeepsIds s (cancel q id s).1 := by
  unfold cancel
  repeat' first
    | with_reducible apply framedIds.refl
    | decide +kernel
    | with_reducible apply framedIds.after (ids_freeLift _ _)
    | with_reducible apply framedIds.frame (touches_notifyLift _ _ _ _)
    | with_reducible apply framedIds.fold
    | with_reducible intro _
    | dsimp only
    | split

theorem ids_setLock (locked : Bool) (q : Requester) (id : Nat) (s : State) :
    KeepsIds s (setLock locked q id s).1 := by
  unfold setLock
  repeat' first
    | with_reducible apply framedIds.refl
    | decide +kernel
    | with_reducible apply framedIds.after (ids_putLift _ _)
    | with_reducible apply framedIds.fold
    | with_reducible intro _
    | dsimp only
    | split

theorem ids_start (q : Requester) (id : Nat) (s : State) :
    KeepsIds s (start q id s).1 := by
  unfold start
  repeat' first
    | with_reducible apply framedIds.refl
    | decide +kernel
    | with_reducible apply framedIds.after (ids_putLift _ _)
    | with_reducible apply framedIds.frame (touches_setLastConf _ _ _)
    | with_reducible apply framedIds.fold
    | with_reducible intro _
    | dsimp only
    | split

theorem ids_endRunning (terminal : Nat) (q : Requester) (id : Nat) (s : State) :
    KeepsIds s (endRunning terminal q id s).1 := by
  unfold endRunning
  repeat' first
    | with_reducible apply framedIds.refl
    | decide +kernel
    | with_reducible apply framedIds.after (ids_endLift _ _)
    | with_reducible apply framedIds.fold
    | with_reducible intro _
    | dsimp only
    | split

theorem ids_finish (q : Requester) (id : Nat) (s : State) :
    KeepsIds s (finish q id s).1 := by
  unfold finish
  repeat' first
    | with_reducible apply framedIds.refl
    | decide +kernel
    | with_reducible apply framedIds.after (ids_endRunning _ _ _ _)
    | with_reducible apply framedIds.fold
    | with_reducible intro _
    | dsimp only
    | split

theorem ids_land (q : Requester) (id : Nat) (s : State) :
    KeepsIds s (land q id s).1 := by
  unfold land
  repeat' first
    | with_reducible apply framedIds.refl
    | decide +kernel
    | with_reducible apply framedIds.after (ids_endRunning _ _ _ _)
    | with_reducible apply framedIds.fold
    | with_reducible intro _
    | dsimp only
    | split

theorem ids_suspend (q : Requester) (id : Nat) (s : State) :
    KeepsIds s (suspend q id s).1 := by
  unfold suspend
  repeat' first
    | with_reducible apply framedIds.refl
    | decide +kernel
    | with_reducible apply framedIds.after (ids_addReason _ _ _)
    | with_reducible apply framedIds.after (ids_putLift _ _)
    | with_reducible apply framedIds.fold
    | with_reducible intro _
    | dsimp only
    | split

theorem ids_resume (q : Requester) (id : Nat) (s : State) :
    KeepsIds s (resume q id s).1 := by
  unfold resume
  repeat' first
    | with_reducible apply framedIds.refl
    | decide +kernel
    | with_reducible apply framedIds.after (ids_putLift _ _)
    | with_reducible apply framedIds.fold
    | with_reducible intro _
    | dsimp only
    | split

theorem ids_enterPassed (s : State) (q : CellId) :
    KeepsIds s (s.enterPassed q).1 := by
  unfold State.enterPassed
  repeat' first
    | with_reducible apply framedIds.refl
    | decide +kernel
    | with_reducible apply framedIds.frame (touches_enterCell _ _)
    | with_reducible apply framedIds.after (ids_raiseFor _ _ _)
    | with_reducible apply framedIds.fold
    | with_reducible intro _
    | dsimp only
    | split

theorem ids_enterZone (c : Crane) (n : Nat) (s : State) :
    KeepsIds s (enterZone c n s).1 := by
  unfold enterZone
  repeat' first
    | with_reducible apply framedIds.refl
    | decide +kernel
    | with_reducible apply framedIds.after (ids_enterPassed _ _)
    | with_reducible apply framedIds.fold
    | with_reducible intro _
    | dsimp only
    | split

theorem ids_deliver (s : State) (c : Crane) (r : Report) (rejoining : Bool) (wasZero : Bool) :
    KeepsIds s (s.deliver c r rejoining wasZero) := by
  unfold State.deliver
  repeat' first
    | with_reducible apply framedIds.refl
    | decide +kernel
    | with_reducible apply framedIds.after (ids_liftStage _ _ _ _)
    | with_reducible apply framedIds.frame (touches_loadDrop _ _)
    | with_reducible apply framedIds.after (ids_positionStage _ _ _)
    | with_reducible apply framedIds.after (ids_removeReasonFrom _ _ _)
    | with_reducible apply framedIds.frame (touches_securingStage _ _)
    | with_reducible apply framedIds.after (ids_windStage _ _ _)
    | with_reducible apply framedIds.fold
    | with_reducible intro _
    | dsimp only
    | split

theorem ids_acceptStatus (s : State) (c : Crane) (r : Report) :
    KeepsIds s (s.acceptStatus c r) := by
  unfold State.acceptStatus
  repeat' first
    | with_reducible apply framedIds.refl
    | decide +kernel
    | with_reducible apply framedIds.frame (touches_acknowledge _ _ _)
    | with_reducible apply framedIds.after (ids_deliver _ _ _ _ _)
    | with_reducible apply framedIds.after (ids_raiseFor _ _ _)
    | with_reducible apply framedIds.frame (touches_recordReport _ _ _ _)
    | with_reducible apply framedIds.frame (touches_withdraw _ _ _)
    | with_reducible apply framedIds.fold
    | with_reducible intro _
    | dsimp only
    | split

theorem ids_acceptRejoin (s : State) (c : Crane) (r : Report) :
    KeepsIds s (s.acceptRejoin c r) := by
  unfold State.acceptRejoin
  repeat' first
    | with_reducible apply framedIds.refl
    | decide +kernel
    | with_reducible apply framedIds.frame (touches_acknowledge _ _ _)
    | with_reducible apply framedIds.after (ids_deliver _ _ _ _ _)
    | with_reducible apply framedIds.frame (touches_recordReport _ _ _ _)
    | with_reducible apply framedIds.frame (touches_rejoinService _ _)
    | with_reducible apply framedIds.frame (touches_withdraw _ _ _)
    | with_reducible apply framedIds.fold
    | with_reducible intro _
    | dsimp only
    | split

theorem ids_becomeLost (s : State) (c : Crane) :
    KeepsIds s (s.becomeLost c) := by
  unfold State.becomeLost
  repeat' first
    | with_reducible apply framedIds.refl
    | decide +kernel
    | with_reducible apply framedIds.after (ids_addReasonTo _ _ _)
    | with_reducible apply framedIds.frame (touches_denyCrane _ _ _)
    | with_reducible apply framedIds.after (ids_raiseFor _ _ _)
    | with_reducible apply framedIds.frame (touches_setCrane _ _ _)
    | with_reducible apply framedIds.frame (touches_setSvc _ _ _)
    | with_reducible apply framedIds.after (ids_windLost _ _)
    | with_reducible apply framedIds.fold
    | with_reducible intro _
    | dsimp only
    | split

theorem ids_badFrame (s : State) (c : Crane) :
    KeepsIds s (s.badFrame c) := by
  unfold State.badFrame
  repeat' first
    | with_reducible apply framedIds.refl
    | decide +kernel
    | with_reducible apply framedIds.after (ids_raiseFor _ _ _)
    | with_reducible apply framedIds.frame (touches_setLink _ _ _)
    | with_reducible apply framedIds.fold
    | with_reducible intro _
    | dsimp only
    | split

theorem ids_raiseSiteStop (s : State) :
    KeepsIds s (s.raiseSiteStop) := by
  unfold State.raiseSiteStop
  repeat' first
    | with_reducible apply framedIds.refl
    | decide +kernel
    | with_reducible apply framedIds.after (ids_addStop _ _ _)
    | with_reducible apply framedIds.after (ids_raise _ _ _)
    | with_reducible apply framedIds.fold
    | with_reducible intro _
    | dsimp only
    | split

theorem ids_startUp (s : State) :
    KeepsIds s (s.startUp) := by
  exact List.nil_sublist _

theorem ids_startRaisings (s : State) :
    KeepsIds s (s.startRaisings) := by
  unfold State.startRaisings
  repeat' first
    | with_reducible apply framedIds.refl
    | decide +kernel
    | with_reducible apply framedIds.after (ids_raise _ _ _)
    | with_reducible apply framedIds.after (ids_raiseSiteStop _)
    | with_reducible apply framedIds.fold
    | with_reducible intro _
    | dsimp only
    | split

theorem ids_passSecond (s : State) :
    KeepsIds s (s.passSecond) := by
  unfold State.passSecond
  repeat' first
    | with_reducible apply framedIds.refl
    | decide +kernel
    | with_reducible apply framedIds.after (ids_moveTime _ _)
    | with_reducible apply framedIds.frame (touches_withClock _ _)
    | with_reducible apply framedIds.fold
    | with_reducible intro _
    | dsimp only
    | split

theorem ids_endWrite (s : State) (good : Bool) :
    KeepsIds s (s.endWrite good) := by
  unfold State.endWrite
  repeat' first
    | with_reducible apply framedIds.refl
    | decide +kernel
    | with_reducible apply framedIds.after (ids_raise _ _ _)
    | with_reducible apply framedIds.frame (touches_withPlan _ _)
    | with_reducible apply framedIds.frame (touches_withdrawSite _ _)
    | with_reducible apply framedIds.fold
    | with_reducible intro _
    | dsimp only
    | split

theorem ids_lapse (s : State) (b : Booking) :
    KeepsIds s (s.lapse b) := by
  unfold State.lapse
  repeat' first
    | with_reducible apply framedIds.refl
    | decide +kernel
    | with_reducible apply framedIds.after (ids_freeLift _ _)
    | with_reducible apply framedIds.frame (touches_notifyLift _ _ _ _)
    | with_reducible apply framedIds.fold
    | with_reducible intro _
    | dsimp only
    | split

theorem ids_completeDwell (s : State) (c : Crane) :
    KeepsIds s (s.completeDwell c) := by
  unfold State.completeDwell
  repeat' first
    | with_reducible apply framedIds.refl
    | decide +kernel
    | with_reducible apply framedIds.frame (touches_setWind _ _ _)
    | with_reducible apply framedIds.after (ids_windConditions _ _)
    | with_reducible apply framedIds.fold
    | with_reducible intro _
    | dsimp only
    | split

theorem ids_expireTimer (s : State) (c : Crane) :
    KeepsIds s (s.expireTimer c) := by
  unfold State.expireTimer
  repeat' first
    | with_reducible apply framedIds.refl
    | decide +kernel
    | with_reducible apply framedIds.after (ids_raiseFor _ _ _)
    | with_reducible apply framedIds.frame (touches_setSvc _ _ _)
    | with_reducible apply framedIds.fold
    | with_reducible intro _
    | dsimp only
    | split

theorem ids_acceptTime (s : State) (t : Nat) :
    KeepsIds s (s.acceptTime t) := by
  unfold State.acceptTime
  repeat' first
    | with_reducible apply framedIds.refl
    | decide +kernel
    | with_reducible apply framedIds.after (ids_moveTime _ _)
    | with_reducible apply framedIds.frame (touches_withClock _ _)
    | with_reducible apply framedIds.fold
    | with_reducible intro _
    | dsimp only
    | split

theorem ids_setClock (t : Nat) (s : State) :
    KeepsIds s (setClock t s).1 := by
  unfold setClock
  repeat' first
    | with_reducible apply framedIds.refl
    | decide +kernel
    | with_reducible apply framedIds.after (ids_acceptTime _ _)
    | with_reducible apply framedIds.fold
    | with_reducible intro _
    | dsimp only
    | split

theorem ids_craneJoins (s : State) (c : Crane) :
    KeepsIds s (s.craneJoins c) := by
  unfold State.craneJoins
  repeat' first
    | with_reducible apply framedIds.refl
    | decide +kernel
    | with_reducible apply framedIds.after (ids_addStop _ _ _)
    | with_reducible apply framedIds.frame (touches_setCrane _ _ _)
    | with_reducible apply framedIds.frame (touches_setStops _ _ _)
    | with_reducible apply framedIds.frame (touches_setSvc _ _ _)
    | with_reducible apply framedIds.frame (touches_setWind _ _ _)
    | with_reducible apply framedIds.fold
    | with_reducible intro _
    | dsimp only
    | split

theorem ids_followPresence (old : Plan) (s : State) (c : Crane) :
    KeepsIds s (s.followPresence old c) := by
  unfold State.followPresence
  repeat' first
    | with_reducible apply framedIds.refl
    | decide +kernel
    | with_reducible apply framedIds.after (ids_craneJoins _ _)
    | with_reducible apply framedIds.frame (touches_craneLeaves _ _)
    | with_reducible apply framedIds.fold
    | with_reducible intro _
    | dsimp only
    | split

theorem ids_handModeStops (s : State) :
    KeepsIds s (s.handModeStops) := by
  unfold State.handModeStops
  repeat' first
    | with_reducible apply framedIds.refl
    | decide +kernel
    | with_reducible apply framedIds.after (ids_stopAction _ _ _)
    | with_reducible apply framedIds.fold
    | with_reducible intro _
    | dsimp only
    | split

theorem ids_applyModes (s : State) :
    KeepsIds s (s.applyModes) := by
  unfold State.applyModes
  repeat' first
    | with_reducible apply framedIds.refl
    | decide +kernel
    | with_reducible apply framedIds.frame (touches_evaluateLines _)
    | with_reducible apply framedIds.after (ids_handModeStops _)
    | with_reducible apply framedIds.frame (touches_writeModes _)
    | with_reducible apply framedIds.fold
    | with_reducible intro _
    | dsimp only
    | split

theorem ids_commit (s : State) :
    KeepsIds s (s.commit) := by
  unfold State.commit
  repeat' first
    | with_reducible apply framedIds.refl
    | decide +kernel
    | with_reducible apply framedIds.frame (touches_adoptPlan _)
    | with_reducible apply framedIds.after (ids_applyModes _)
    | with_reducible apply framedIds.frame (touches_beginWrite _)
    | with_reducible apply framedIds.after (ids_followPresence _ _ _)
    | with_reducible apply framedIds.fold
    | with_reducible intro _
    | dsimp only
    | split

theorem ids_commitPlan (protect : Bool) (s : State) :
    KeepsIds s (commitPlan protect s).1 := by
  unfold commitPlan
  repeat' first
    | with_reducible apply framedIds.refl
    | decide +kernel
    | with_reducible apply framedIds.after (ids_commit _)
    | with_reducible apply framedIds.frame (touches_withPins _ _)
    | with_reducible apply framedIds.fold
    | with_reducible intro _
    | dsimp only
    | split

theorem ids_removeReasonAll (s : State) (r : SuspReason) :
    KeepsIds s (s.removeReasonAll r) := by
  unfold State.removeReasonAll
  repeat' first
    | with_reducible apply framedIds.refl
    | decide +kernel
    | with_reducible apply framedIds.after (ids_removeReason _ _ _)
    | with_reducible apply framedIds.fold
    | with_reducible intro _
    | dsimp only
    | split

theorem ids_resumeFromStorm (s : State) :
    KeepsIds s (s.resumeFromStorm) := by
  unfold State.resumeFromStorm
  repeat' first
    | with_reducible apply framedIds.refl
    | decide +kernel
    | with_reducible apply framedIds.frame (touches_bringBack _)
    | with_reducible apply framedIds.after (ids_removeReasonAll _ _)
    | with_reducible apply framedIds.frame (touches_withSite _ _)
    | with_reducible apply framedIds.frame (touches_withdrawSite _ _)
    | with_reducible apply framedIds.fold
    | with_reducible intro _
    | dsimp only
    | split

theorem ids_resumeTheSite (s : State) :
    KeepsIds s (resumeTheSite s).1 := by
  unfold resumeTheSite
  repeat' first
    | with_reducible apply framedIds.refl
    | decide +kernel
    | with_reducible apply framedIds.after (ids_resumeFromStorm _)
    | with_reducible apply framedIds.fold
    | with_reducible intro _
    | dsimp only
    | split

theorem ids_cancelAll (s : State) :
    KeepsIds s (s.cancelAll) := by
  unfold State.cancelAll
  repeat' first
    | with_reducible apply framedIds.refl
    | decide +kernel
    | with_reducible apply framedIds.after (ids_freeLift _ _)
    | with_reducible apply framedIds.frame (touches_notifyLift _ _ _ _)
    | with_reducible apply framedIds.fold
    | with_reducible intro _
    | dsimp only
    | split

theorem ids_toSetup (s : State) :
    KeepsIds s (s.toSetup) := by
  unfold State.toSetup
  repeat' first
    | with_reducible apply framedIds.refl
    | decide +kernel
    | with_reducible apply framedIds.after (ids_cancelAll _)
    | with_reducible apply framedIds.frame (touches_denyWaits _ _ _)
    | with_reducible apply framedIds.frame (touches_setupReset _)
    | with_reducible apply framedIds.frame (touches_toStandby _ _)
    | with_reducible apply framedIds.frame (touches_withSite _ _)
    | with_reducible apply framedIds.fold
    | with_reducible intro _
    | dsimp only
    | split

theorem ids_returnSiteToSetup (s : State) :
    KeepsIds s (returnSiteToSetup s).1 := by
  unfold returnSiteToSetup
  repeat' first
    | with_reducible apply framedIds.refl
    | decide +kernel
    | with_reducible apply framedIds.after (ids_toSetup _)
    | with_reducible apply framedIds.fold
    | with_reducible intro _
    | dsimp only
    | split

theorem ids_stopTheCrane (crane : Nat) (s : State) :
    KeepsIds s (stopTheCrane crane s).1 := by
  unfold stopTheCrane
  repeat' first
    | with_reducible apply framedIds.refl
    | decide +kernel
    | with_reducible apply framedIds.after (ids_addStop _ _ _)
    | with_reducible apply framedIds.fold
    | with_reducible intro _
    | dsimp only
    | split

theorem ids_clearStops (s : State) (c : Crane) (named : List StopReason) :
    KeepsIds s (s.clearStops c named) := by
  unfold State.clearStops
  repeat' first
    | with_reducible apply framedIds.refl
    | decide +kernel
    | with_reducible apply framedIds.after (ids_removeReasonFrom _ _ _)
    | with_reducible apply framedIds.frame (touches_setStops _ _ _)
    | with_reducible apply framedIds.fold
    | with_reducible intro _
    | dsimp only
    | split

theorem ids_clearTheStops (crane : Nat) (reasons : Nat) (s : State) :
    KeepsIds s (clearTheStops crane reasons s).1 := by
  unfold clearTheStops
  repeat' first
    | with_reducible apply framedIds.refl
    | decide +kernel
    | with_reducible apply framedIds.after (ids_clearStops _ _ _)
    | with_reducible apply framedIds.fold
    | with_reducible intro _
    | dsimp only
    | split

end Sys2Proof.Machine
end

