-- ==== Sys2Proof/Laws/KeepsModes.lean ====
section
/-!
SUPPORT. Every operation but a commit keeps the modes of the alert kinds (R163).
-/
set_option Elab.async false
namespace Sys2Proof.Machine

/-- Every alert kind keeps its mode. -/
def KeepsModes (s t : State) : Prop := ∀ k, (t.alert k).mode = (s.alert k).mode

theorem framedModes : Framed KeepsModes [.alerts] where
  trans h k := fun a => (k a).trans (h a)
  same h := fun a => by
    have hc := h .alerts (by decide)
    simp only [Same] at hc
    simp only [State.alert, hc]

theorem alertCode_injective {j k : AlertKind} (h : j.code = k.code) : j = k := by
  revert h; cases j <;> cases k <;> decide

theorem alert_setAlert (s : State) (j k : AlertKind) (r : AlertRec) :
    (s.setAlert j r).alert k = if j = k then r else s.alert k := by
  unfold State.alert State.setAlert State.withAlerts
  dsimp only
  rw [tget_tput]
  by_cases h : j = k
  · rw [if_pos h, if_pos (h ▸ rfl)]
  · rw [if_neg h, if_neg (fun hc => h (alertCode_injective hc))]

theorem modes_setAlert {s : State} {k : AlertKind} {r : AlertRec} (h : r.mode = (s.alert k).mode) :
    KeepsModes s (s.setAlert k r) := by
  intro a
  rw [alert_setAlert]
  split
  · rename_i hk; rw [← hk]; exact h
  · rfl


theorem modes_withdraw (s : State) (k : AlertKind) (c : Crane) :
    KeepsModes s (s.withdraw k c) := by
  exact modes_setAlert rfl

theorem modes_withdrawSite (s : State) (k : AlertKind) :
    KeepsModes s (s.withdrawSite k) := by
  exact modes_setAlert rfl

theorem modes_reviewOffPath (s : State) (c : Crane) :
    KeepsModes s (s.reviewOffPath c) := by
  unfold State.reviewOffPath
  repeat' first
    | with_reducible apply framedModes.refl
    | decide +kernel
    | with_reducible apply framedModes.after (modes_withdraw _ _ _)
    | with_reducible apply framedModes.fold
    | with_reducible intro _
    | dsimp only
    | split

theorem modes_denyWaits (s : State) (p : Wait → Bool) (why : DenyReason) :
    KeepsModes s (s.denyWaits p why) := by
  unfold State.denyWaits
  repeat' first
    | with_reducible apply framedModes.refl
    | decide +kernel
    | with_reducible apply framedModes.frame (touches_notify _ _ _)
    | with_reducible apply framedModes.after (modes_reviewOffPath _ _)
    | with_reducible apply framedModes.frame (touches_withWaits _ _)
    | with_reducible apply framedModes.fold
    | with_reducible intro _
    | dsimp only
    | split

theorem modes_denyCrane (s : State) (c : Crane) (why : DenyReason) :
    KeepsModes s (s.denyCrane c why) := by
  unfold State.denyCrane
  repeat' first
    | with_reducible apply framedModes.refl
    | decide +kernel
    | with_reducible apply framedModes.after (modes_denyWaits _ _ _)
    | with_reducible apply framedModes.fold
    | with_reducible intro _
    | dsimp only
    | split

theorem modes_addStop (s : State) (c : Crane) (r : StopReason) :
    KeepsModes s (s.addStop c r) := by
  unfold State.addStop
  repeat' first
    | with_reducible apply framedModes.refl
    | decide +kernel
    | with_reducible apply framedModes.frame (touches_addReasonTo _ _ _)
    | with_reducible apply framedModes.after (modes_denyCrane _ _ _)
    | with_reducible apply framedModes.frame (touches_setStops _ _ _)
    | with_reducible apply framedModes.fold
    | with_reducible intro _
    | dsimp only
    | split

theorem modes_latchAlert (s : State) (k : AlertKind) (c : Option Crane) :
    KeepsModes s (s.latchAlert k c) := by
  exact modes_setAlert rfl

theorem modes_stopAction (s : State) (k : AlertKind) (c : Option Crane) :
    KeepsModes s (s.stopAction k c) := by
  unfold State.stopAction
  repeat' first
    | with_reducible apply framedModes.refl
    | decide +kernel
    | with_reducible apply framedModes.after (modes_addStop _ _ _)
    | with_reducible apply framedModes.fold
    | with_reducible intro _
    | dsimp only
    | split

theorem modes_raise (s : State) (k : AlertKind) (c : Option Crane) :
    KeepsModes s (s.raise k c) := by
  unfold State.raise
  repeat' first
    | with_reducible apply framedModes.refl
    | decide +kernel
    | with_reducible apply framedModes.frame (touches_evaluateLines _)
    | with_reducible apply framedModes.after (modes_latchAlert _ _ _)
    | with_reducible apply framedModes.after (modes_stopAction _ _ _)
    | with_reducible apply framedModes.fold
    | with_reducible intro _
    | dsimp only
    | split

theorem modes_raiseFor (s : State) (k : AlertKind) (c : Crane) :
    KeepsModes s (s.raiseFor k c) := by
  unfold State.raiseFor
  repeat' first
    | with_reducible apply framedModes.refl
    | decide +kernel
    | with_reducible apply framedModes.after (modes_raise _ _ _)
    | with_reducible apply framedModes.fold
    | with_reducible intro _
    | dsimp only
    | split

theorem modes_dropRestricted (s : State) (q : CellId) :
    KeepsModes s (s.dropRestricted q) := by
  unfold State.dropRestricted
  repeat' first
    | with_reducible apply framedModes.refl
    | decide +kernel
    | with_reducible apply framedModes.frame (touches_setRestricted _ _ _)
    | with_reducible apply framedModes.after (modes_withdraw _ _ _)
    | with_reducible apply framedModes.fold
    | with_reducible intro _
    | dsimp only
    | split

theorem modes_ownConditions (s : State) (chg : List Change) :
    KeepsModes s (s.ownConditions chg) := by
  unfold State.ownConditions
  repeat' first
    | with_reducible apply framedModes.refl
    | decide +kernel
    | with_reducible apply framedModes.after (modes_dropRestricted _ _)
    | with_reducible apply framedModes.after (modes_reviewOffPath _ _)
    | with_reducible apply framedModes.fold
    | with_reducible intro _
    | dsimp only
    | split

theorem modes_seizureEnded (s : State) (q : CellId) :
    KeepsModes s (s.seizureEnded q) := by
  unfold State.seizureEnded
  repeat' first
    | with_reducible apply framedModes.refl
    | decide +kernel
    | with_reducible apply framedModes.frame (touches_withRegister _ _)
    | with_reducible apply framedModes.after (modes_withdraw _ _ _)
    | with_reducible apply framedModes.fold
    | with_reducible intro _
    | dsimp only
    | split

theorem modes_endSeizures (s : State) (chg : List Change) :
    KeepsModes s (s.endSeizures chg) := by
  unfold State.endSeizures
  repeat' first
    | with_reducible apply framedModes.refl
    | decide +kernel
    | with_reducible apply framedModes.after (modes_seizureEnded _ _)
    | with_reducible apply framedModes.fold
    | with_reducible intro _
    | dsimp only
    | split

theorem modes_ownAndSeized (s : State) (chg : List Change) :
    KeepsModes s (s.ownAndSeized chg) := by
  unfold State.ownAndSeized
  repeat' first
    | with_reducible apply framedModes.refl
    | decide +kernel
    | with_reducible apply framedModes.after (modes_endSeizures _ _)
    | with_reducible apply framedModes.after (modes_ownConditions _ _)
    | with_reducible apply framedModes.fold
    | with_reducible intro _
    | dsimp only
    | split

theorem modes_tryGrant (s : State) (w : Wait) :
    KeepsModes s (s.tryGrant w) := by
  unfold State.tryGrant
  repeat' first
    | with_reducible apply framedModes.refl
    | decide +kernel
    | with_reducible apply framedModes.frame (touches_changeCells _ _)
    | with_reducible apply framedModes.frame (touches_dropWait _ _ _)
    | with_reducible apply framedModes.frame (touches_notify _ _ _)
    | with_reducible apply framedModes.after (modes_ownAndSeized _ _)
    | with_reducible apply framedModes.fold
    | with_reducible intro _
    | dsimp only
    | split

theorem modes_walk (s : State) :
    KeepsModes s (s.walk) := by
  unfold State.walk
  repeat' first
    | with_reducible apply framedModes.refl
    | decide +kernel
    | with_reducible apply framedModes.after (modes_tryGrant _ _)
    | with_reducible apply framedModes.fold
    | with_reducible intro _
    | dsimp only
    | split

theorem modes_toService (s : State) (c : Crane) :
    KeepsModes s (s.toService c) := by
  unfold State.toService
  repeat' first
    | with_reducible apply framedModes.refl
    | decide +kernel
    | with_reducible apply framedModes.frame (touches_setSvc _ _ _)
    | with_reducible apply framedModes.after (modes_withdraw _ _ _)
    | with_reducible apply framedModes.fold
    | with_reducible intro _
    | dsimp only
    | split

theorem modes_outOfService (s : State) (c : Crane) (o : Order) (withheld : Bool) :
    KeepsModes s (s.outOfService c o withheld) := by
  unfold State.outOfService
  repeat' first
    | with_reducible apply framedModes.refl
    | decide +kernel
    | with_reducible apply framedModes.after (modes_denyCrane _ _ _)
    | with_reducible apply framedModes.frame (touches_setSvc _ _ _)
    | with_reducible apply framedModes.after (modes_withdraw _ _ _)
    | with_reducible apply framedModes.fold
    | with_reducible intro _
    | dsimp only
    | split

theorem modes_resumeChange (s : State) (c : Crane) :
    KeepsModes s (s.resumeChange c) := by
  unfold State.resumeChange
  repeat' first
    | with_reducible apply framedModes.refl
    | decide +kernel
    | with_reducible apply framedModes.frame (touches_changeCells _ _)
    | with_reducible apply framedModes.after (modes_outOfService _ _ _ _)
    | with_reducible apply framedModes.after (modes_toService _ _)
    | with_reducible apply framedModes.fold
    | with_reducible intro _
    | dsimp only
    | split

theorem modes_retryOne {recheck : State → State} (h : ∀ s, KeepsModes s (recheck s)) (p : State × Bool) (c : Crane) :
    KeepsModes p.1 (retryOne recheck p c).1 := by
  unfold retryOne followThree
  split
  · dsimp only
    split
    · exact framedModes.after (h _) ((framedModes).after (modes_ownAndSeized _ _) ((framedModes).after (modes_resumeChange _ _) (framedModes.refl _)))
    · exact ((framedModes).after (modes_ownAndSeized _ _) ((framedModes).after (modes_resumeChange _ _) (framedModes.refl _)))
  · exact framedModes.refl _

theorem modes_retryPass {recheck : State → State} (h : ∀ s, KeepsModes s (recheck s)) (s : State) :
    KeepsModes s (retryPass recheck s).1 := by
  suffices H : ∀ (l : List Crane) (p : State × Bool), KeepsModes s p.1 → KeepsModes s (l.foldl (retryOne recheck) p).1 from
    H _ _ (framedModes.refl _)
  intro l
  induction l with
  | nil => exact fun _ hp => hp
  | cons c l ih => exact fun p hp => ih _ (framedModes.trans hp (modes_retryOne h p c))

theorem modes_arbitrateLoop {retry : State → State × Bool} (h : ∀ s, KeepsModes s (retry s).1) (n : Nat) (s : State) :
    KeepsModes s (arbitrateLoop retry n s) := by
  induction n generalizing s with
  | zero => exact framedModes.refl _
  | succ n ih =>
    have h1 : KeepsModes s (retry s.walk).1 := framedModes.after (h _) ((framedModes).after (modes_walk _) (framedModes.refl _))
    unfold arbitrateLoop
    dsimp only
    split
    · exact framedModes.trans h1 (ih _)
    · exact h1

theorem modes_arbitrateWith {recheck : State → State} (h : ∀ s, KeepsModes s (recheck s)) (s : State) :
    KeepsModes s (arbitrateWith recheck s) := modes_arbitrateLoop (modes_retryPass h) _ _

theorem modes_followThree {recheck : State → State} (h : ∀ s, KeepsModes s (recheck s)) (chg : List Change) (s : State) :
    KeepsModes s (followThree recheck chg s) := by
  unfold followThree
  dsimp only
  split
  · exact framedModes.after (h _) ((framedModes).after (modes_ownAndSeized _ _) (framedModes.refl _))
  · exact ((framedModes).after (modes_ownAndSeized _ _) (framedModes.refl _))

theorem modes_followWith {recheck : State → State} (h : ∀ s, KeepsModes s (recheck s)) (chg : List Change) (s : State) :
    KeepsModes s (followWith recheck chg s) := by
  unfold followWith
  dsimp only
  split
  · exact framedModes.after (modes_arbitrateWith h _) (modes_followThree h _ _)
  · exact modes_followThree h _ _

theorem modes_releaseVaneWith {recheck : State → State} (h : ∀ s, KeepsModes s (recheck s)) (s : State) (c : Crane) :
    KeepsModes s (releaseVaneWith recheck s c) :=
  framedModes.after (modes_followWith h _ _) ((framedModes).after (modes_outOfService _ _ _ _) ((framedModes).frame (touches_changeCells _ _) (by decide +kernel) (framedModes.refl _)))

theorem modes_recheckN (n : Nat) (s : State) : KeepsModes s (recheckN n s) := by
  induction n generalizing s with
  | zero => exact framedModes.refl _
  | succ n ih =>
    refine framedModes.fold (framedModes.refl s) _ _ (fun u c => ?_)
    unfold recheckOne
    split
    · exact modes_releaseVaneWith ih u c
    · exact framedModes.refl _

theorem modes_recheckVane (s : State) : KeepsModes s s.recheckVane := modes_recheckN 8 s

theorem modes_arbitrate (s : State) : KeepsModes s s.arbitrate := modes_arbitrateWith modes_recheckVane s

theorem modes_follow (s : State) (chg : List Change) : KeepsModes s (s.follow chg) := modes_followWith modes_recheckVane chg s

theorem modes_testVane (s : State) (c : Crane) : KeepsModes s (s.testVane c) := by
  unfold State.testVane
  split
  · exact modes_releaseVaneWith modes_recheckVane s c
  · exact framedModes.refl _

theorem modes_convert (s : State) (rs : List CellReq) :
    KeepsModes s (s.convert rs) := by
  unfold State.convert
  repeat' first
    | with_reducible apply framedModes.refl
    | decide +kernel
    | with_reducible apply framedModes.frame (touches_changeCells _ _)
    | with_reducible apply framedModes.after (modes_follow _ _)
    | with_reducible apply framedModes.fold
    | with_reducible intro _
    | dsimp only
    | split

theorem modes_resumeCrane (s : State) (c : Crane) :
    KeepsModes s (s.resumeCrane c) := by
  unfold State.resumeCrane
  repeat' first
    | with_reducible apply framedModes.refl
    | decide +kernel
    | with_reducible apply framedModes.after (modes_follow _ _)
    | with_reducible apply framedModes.after (modes_resumeChange _ _)
    | with_reducible apply framedModes.fold
    | with_reducible intro _
    | dsimp only
    | split

theorem modes_holdCell (s : State) (q : CellId) (o : OriginRule) :
    KeepsModes s (s.holdCell q o) := by
  unfold State.holdCell
  repeat' first
    | with_reducible apply framedModes.refl
    | decide +kernel
    | with_reducible apply framedModes.frame (touches_changeCells _ _)
    | with_reducible apply framedModes.frame (touches_dropWait _ _ _)
    | with_reducible apply framedModes.after (modes_follow _ _)
    | with_reducible apply framedModes.frame (touches_notify _ _ _)
    | with_reducible apply framedModes.fold
    | with_reducible intro _
    | dsimp only
    | split

theorem modes_withheldToVaneWait (s : State) (c : Crane) :
    KeepsModes s (s.withheldToVaneWait c) := by
  unfold State.withheldToVaneWait
  repeat' first
    | with_reducible apply framedModes.refl
    | decide +kernel
    | with_reducible apply framedModes.after (modes_denyCrane _ _ _)
    | with_reducible apply framedModes.frame (touches_setSvc _ _ _)
    | with_reducible apply framedModes.fold
    | with_reducible intro _
    | dsimp only
    | split

theorem modes_enterSecuring (s : State) (c : Crane) :
    KeepsModes s (s.enterSecuring c) := by
  unfold State.enterSecuring
  repeat' first
    | with_reducible apply framedModes.refl
    | decide +kernel
    | with_reducible apply framedModes.frame (touches_setSvc _ _ _)
    | with_reducible apply framedModes.after (modes_testVane _ _)
    | with_reducible apply framedModes.frame (touches_toSecuring _ _)
    | with_reducible apply framedModes.after (modes_withheldToVaneWait _ _)
    | with_reducible apply framedModes.fold
    | with_reducible intro _
    | dsimp only
    | split

theorem modes_enterSecuringAll (s : State) :
    KeepsModes s (s.enterSecuringAll) := by
  unfold State.enterSecuringAll
  repeat' first
    | with_reducible apply framedModes.refl
    | decide +kernel
    | with_reducible apply framedModes.after (modes_enterSecuring _ _)
    | with_reducible apply framedModes.fold
    | with_reducible intro _
    | dsimp only
    | split

theorem modes_enterStorm (s : State) (c : Crane) :
    KeepsModes s (s.enterStorm c) := by
  unfold State.enterStorm
  repeat' first
    | with_reducible apply framedModes.refl
    | decide +kernel
    | with_reducible apply framedModes.frame (touches_addReasonAll _ _)
    | with_reducible apply framedModes.after (modes_enterSecuringAll _)
    | with_reducible apply framedModes.after (modes_raiseFor _ _ _)
    | with_reducible apply framedModes.frame (touches_withSite _ _)
    | with_reducible apply framedModes.fold
    | with_reducible intro _
    | dsimp only
    | split

theorem modes_reportStorm (s : State) (c : Crane) :
    KeepsModes s (s.reportStorm c) := by
  unfold State.reportStorm
  repeat' first
    | with_reducible apply framedModes.refl
    | decide +kernel
    | with_reducible apply framedModes.after (modes_enterStorm _ _)
    | with_reducible apply framedModes.after (modes_raiseFor _ _ _)
    | with_reducible apply framedModes.fold
    | with_reducible intro _
    | dsimp only
    | split

theorem modes_parkCrane (s : State) (c : Crane) :
    KeepsModes s (s.parkCrane c) := by
  unfold State.parkCrane
  repeat' first
    | with_reducible apply framedModes.refl
    | decide +kernel
    | with_reducible apply framedModes.after (modes_convert _ _)
    | with_reducible apply framedModes.after (modes_denyCrane _ _ _)
    | with_reducible apply framedModes.frame (touches_setSvc _ _ _)
    | with_reducible apply framedModes.after (modes_withdraw _ _ _)
    | with_reducible apply framedModes.fold
    | with_reducible intro _
    | dsimp only
    | split

theorem modes_toVaneWait (s : State) (c : Crane) :
    KeepsModes s (s.toVaneWait c) := by
  unfold State.toVaneWait
  repeat' first
    | with_reducible apply framedModes.refl
    | decide +kernel
    | with_reducible apply framedModes.after (modes_denyCrane _ _ _)
    | with_reducible apply framedModes.frame (touches_setSvc _ _ _)
    | with_reducible apply framedModes.after (modes_testVane _ _)
    | with_reducible apply framedModes.fold
    | with_reducible intro _
    | dsimp only
    | split

theorem modes_securingStage (s : State) (c : Crane) :
    KeepsModes s (s.securingStage c) := by
  unfold State.securingStage
  repeat' first
    | with_reducible apply framedModes.refl
    | decide +kernel
    | with_reducible apply framedModes.after (modes_parkCrane _ _)
    | with_reducible apply framedModes.frame (touches_setSvc _ _ _)
    | with_reducible apply framedModes.after (modes_toVaneWait _ _)
    | with_reducible apply framedModes.fold
    | with_reducible intro _
    | dsimp only
    | split

theorem modes_rejoinService (s : State) (c : Crane) :
    KeepsModes s (s.rejoinService c) := by
  unfold State.rejoinService
  repeat' first
    | with_reducible apply framedModes.refl
    | decide +kernel
    | with_reducible apply framedModes.frame (touches_setSvc _ _ _)
    | with_reducible apply framedModes.after (modes_testVane _ _)
    | with_reducible apply framedModes.fold
    | with_reducible intro _
    | dsimp only
    | split

theorem modes_keepInStep (s : State) (k : AlertKind) (c : Crane) (holds : Bool) :
    KeepsModes s (s.keepInStep k c holds) := by
  unfold State.keepInStep
  repeat' first
    | with_reducible apply framedModes.refl
    | decide +kernel
    | with_reducible apply framedModes.after (modes_raiseFor _ _ _)
    | with_reducible apply framedModes.after (modes_withdraw _ _ _)
    | with_reducible apply framedModes.fold
    | with_reducible intro _
    | dsimp only
    | split

theorem modes_windConditions (s : State) (c : Crane) :
    KeepsModes s (s.windConditions c) := by
  unfold State.windConditions
  repeat' first
    | with_reducible apply framedModes.refl
    | decide +kernel
    | with_reducible apply framedModes.after (modes_keepInStep _ _ _ _)
    | with_reducible apply framedModes.fold
    | with_reducible intro _
    | dsimp only
    | split

theorem modes_windStage (s : State) (c : Crane) (wind : Option Nat) :
    KeepsModes s (s.windStage c wind) := by
  unfold State.windStage
  repeat' first
    | with_reducible apply framedModes.refl
    | decide +kernel
    | with_reducible apply framedModes.frame (touches_handVerdict _ _)
    | with_reducible apply framedModes.after (modes_reportStorm _ _)
    | with_reducible apply framedModes.frame (touches_setWind _ _ _)
    | with_reducible apply framedModes.after (modes_windConditions _ _)
    | with_reducible apply framedModes.fold
    | with_reducible intro _
    | dsimp only
    | split

theorem modes_windLost (s : State) (c : Crane) :
    KeepsModes s (s.windLost c) := by
  unfold State.windLost
  repeat' first
    | with_reducible apply framedModes.refl
    | decide +kernel
    | with_reducible apply framedModes.frame (touches_setWind _ _ _)
    | with_reducible apply framedModes.after (modes_windConditions _ _)
    | with_reducible apply framedModes.fold
    | with_reducible intro _
    | dsimp only
    | split

theorem modes_intrude (s : State) (q : CellId) :
    KeepsModes s (s.intrude q) := by
  unfold State.intrude
  repeat' first
    | with_reducible apply framedModes.refl
    | decide +kernel
    | with_reducible apply framedModes.after (modes_raiseFor _ _ _)
    | with_reducible apply framedModes.frame (touches_register_ _ _ _)
    | with_reducible apply framedModes.fold
    | with_reducible intro _
    | dsimp only
    | split

theorem modes_seize (s : State) (q : CellId) :
    KeepsModes s (s.seize q) := by
  unfold State.seize
  repeat' first
    | with_reducible apply framedModes.refl
    | decide +kernel
    | with_reducible apply framedModes.after (modes_convert _ _)
    | with_reducible apply framedModes.after (modes_intrude _ _)
    | with_reducible apply framedModes.fold
    | with_reducible intro _
    | dsimp only
    | split

theorem modes_checkOccupied (s : State) (q : CellId) :
    KeepsModes s (s.checkOccupied q) := by
  unfold State.checkOccupied
  repeat' first
    | with_reducible apply framedModes.refl
    | decide +kernel
    | with_reducible apply framedModes.after (modes_holdCell _ _ _)
    | with_reducible apply framedModes.after (modes_seize _ _)
    | with_reducible apply framedModes.fold
    | with_reducible intro _
    | dsimp only
    | split

theorem modes_checkLeft (s : State) (q : CellId) :
    KeepsModes s (s.checkLeft q) := by
  unfold State.checkLeft
  repeat' first
    | with_reducible apply framedModes.refl
    | decide +kernel
    | with_reducible apply framedModes.after (modes_convert _ _)
    | with_reducible apply framedModes.fold
    | with_reducible intro _
    | dsimp only
    | split

theorem modes_checkPosition (s : State) (c : Crane) :
    KeepsModes s (s.checkPosition c) := by
  unfold State.checkPosition
  repeat' first
    | with_reducible apply framedModes.refl
    | decide +kernel
    | with_reducible apply framedModes.after (modes_checkLeft _ _)
    | with_reducible apply framedModes.after (modes_checkOccupied _ _)
    | with_reducible apply framedModes.fold
    | with_reducible intro _
    | dsimp only
    | split

theorem modes_positionStage (s : State) (c : Crane) (angle : Nat) :
    KeepsModes s (s.positionStage c angle) := by
  unfold State.positionStage
  repeat' first
    | with_reducible apply framedModes.refl
    | decide +kernel
    | with_reducible apply framedModes.after (modes_checkPosition _ _)
    | with_reducible apply framedModes.frame (touches_setOccupied _ _ _)
    | with_reducible apply framedModes.fold
    | with_reducible intro _
    | dsimp only
    | split

theorem modes_liftStage (s : State) (c : Crane) (load : Option Nat) (radius : Nat) :
    KeepsModes s (s.liftStage c load radius) := by
  unfold State.liftStage
  repeat' first
    | with_reducible apply framedModes.refl
    | decide +kernel
    | with_reducible apply framedModes.frame (touches_addReasonTo _ _ _)
    | with_reducible apply framedModes.after (modes_raiseFor _ _ _)
    | with_reducible apply framedModes.frame (touches_setLastConf _ _ _)
    | with_reducible apply framedModes.after (modes_withdraw _ _ _)
    | with_reducible apply framedModes.fold
    | with_reducible intro _
    | dsimp only
    | split

theorem modes_loadDrop (s : State) (c : Crane) :
    KeepsModes s (s.loadDrop c) := by
  unfold State.loadDrop
  repeat' first
    | with_reducible apply framedModes.refl
    | decide +kernel
    | with_reducible apply framedModes.after (modes_arbitrate _)
    | with_reducible apply framedModes.frame (touches_setRestricted _ _ _)
    | with_reducible apply framedModes.after (modes_withdraw _ _ _)
    | with_reducible apply framedModes.fold
    | with_reducible intro _
    | dsimp only
    | split

theorem modes_testOverrun (s : State) (n : Nat) (id : Nat) :
    KeepsModes s (s.testOverrun n id) := by
  unfold State.testOverrun
  repeat' first
    | with_reducible apply framedModes.refl
    | decide +kernel
    | with_reducible apply framedModes.frame (touches_putLift _ _)
    | with_reducible apply framedModes.after (modes_raiseFor _ _ _)
    | with_reducible apply framedModes.fold
    | with_reducible intro _
    | dsimp only
    | split

theorem modes_bookingMinute (s : State) (n : Nat) :
    KeepsModes s (s.bookingMinute n) := by
  unfold State.bookingMinute
  repeat' first
    | with_reducible apply framedModes.refl
    | decide +kernel
    | with_reducible apply framedModes.frame (touches_testBooked _ _ _)
    | with_reducible apply framedModes.after (modes_testOverrun _ _ _)
    | with_reducible apply framedModes.fold
    | with_reducible intro _
    | dsimp only
    | split

theorem modes_formRestricted (s : State) (n : Nat) (c : Crane) :
    KeepsModes s (s.formRestricted n c) := by
  unfold State.formRestricted
  repeat' first
    | with_reducible apply framedModes.refl
    | decide +kernel
    | with_reducible apply framedModes.after (modes_raiseFor _ _ _)
    | with_reducible apply framedModes.frame (touches_setRestricted _ _ _)
    | with_reducible apply framedModes.after (modes_withdraw _ _ _)
    | with_reducible apply framedModes.fold
    | with_reducible intro _
    | dsimp only
    | split

theorem modes_zoneMinute (s : State) (n : Nat) :
    KeepsModes s (s.zoneMinute n) := by
  unfold State.zoneMinute
  repeat' first
    | with_reducible apply framedModes.refl
    | decide +kernel
    | with_reducible apply framedModes.after (modes_formRestricted _ _ _)
    | with_reducible apply framedModes.fold
    | with_reducible intro _
    | dsimp only
    | split

theorem modes_minuteEvent (s : State) (n : Nat) :
    KeepsModes s (s.minuteEvent n) := by
  unfold State.minuteEvent
  repeat' first
    | with_reducible apply framedModes.refl
    | decide +kernel
    | with_reducible apply framedModes.after (modes_bookingMinute _ _)
    | with_reducible apply framedModes.after (modes_zoneMinute _ _)
    | with_reducible apply framedModes.fold
    | with_reducible intro _
    | dsimp only
    | split

theorem modes_moveTime (s : State) (t : Nat) :
    KeepsModes s (s.moveTime t) := by
  unfold State.moveTime
  repeat' first
    | with_reducible apply framedModes.refl
    | decide +kernel
    | with_reducible apply framedModes.after (modes_minuteEvent _ _)
    | with_reducible apply framedModes.frame (touches_withClock _ _)
    | with_reducible apply framedModes.fold
    | with_reducible intro _
    | dsimp only
    | split

theorem modes_endLift (s : State) (b : Booking) :
    KeepsModes s (s.endLift b) := by
  unfold State.endLift
  repeat' first
    | with_reducible apply framedModes.refl
    | decide +kernel
    | with_reducible apply framedModes.after (modes_arbitrate _)
    | with_reducible apply framedModes.frame (touches_freeLift _ _)
    | with_reducible apply framedModes.after (modes_reviewOffPath _ _)
    | with_reducible apply framedModes.frame (touches_setLastConf _ _ _)
    | with_reducible apply framedModes.after (modes_withdraw _ _ _)
    | with_reducible apply framedModes.fold
    | with_reducible intro _
    | dsimp only
    | split

theorem modes_endRunning (terminal : Nat) (q : Requester) (id : Nat) (s : State) :
    KeepsModes s (endRunning terminal q id s).1 := by
  unfold endRunning
  repeat' first
    | with_reducible apply framedModes.refl
    | decide +kernel
    | with_reducible apply framedModes.after (modes_endLift _ _)
    | with_reducible apply framedModes.fold
    | with_reducible intro _
    | dsimp only
    | split

theorem modes_finish (q : Requester) (id : Nat) (s : State) :
    KeepsModes s (finish q id s).1 := by
  unfold finish
  repeat' first
    | with_reducible apply framedModes.refl
    | decide +kernel
    | with_reducible apply framedModes.after (modes_endRunning _ _ _ _)
    | with_reducible apply framedModes.fold
    | with_reducible intro _
    | dsimp only
    | split

theorem modes_land (q : Requester) (id : Nat) (s : State) :
    KeepsModes s (land q id s).1 := by
  unfold land
  repeat' first
    | with_reducible apply framedModes.refl
    | decide +kernel
    | with_reducible apply framedModes.after (modes_endRunning _ _ _ _)
    | with_reducible apply framedModes.fold
    | with_reducible intro _
    | dsimp only
    | split

theorem modes_appendWait (s : State) (c : Crane) (x : Sector) :
    KeepsModes s (s.appendWait c x) := by
  unfold State.appendWait
  repeat' first
    | with_reducible apply framedModes.refl
    | decide +kernel
    | with_reducible apply framedModes.after (modes_reviewOffPath _ _)
    | with_reducible apply framedModes.frame (touches_withWaits _ _)
    | with_reducible apply framedModes.fold
    | with_reducible intro _
    | dsimp only
    | split

theorem modes_enterCell (s : State) (q : CellId) :
    KeepsModes s (s.enterCell q).1 := by
  unfold State.enterCell
  repeat' first
    | with_reducible apply framedModes.refl
    | decide +kernel
    | with_reducible apply framedModes.after (modes_appendWait _ _ _)
    | with_reducible apply framedModes.after (modes_convert _ _)
    | with_reducible apply framedModes.fold
    | with_reducible intro _
    | dsimp only
    | split

theorem modes_enterPassed (s : State) (q : CellId) :
    KeepsModes s (s.enterPassed q).1 := by
  unfold State.enterPassed
  repeat' first
    | with_reducible apply framedModes.refl
    | decide +kernel
    | with_reducible apply framedModes.after (modes_enterCell _ _)
    | with_reducible apply framedModes.after (modes_raiseFor _ _ _)
    | with_reducible apply framedModes.fold
    | with_reducible intro _
    | dsimp only
    | split

theorem modes_enterZone (c : Crane) (n : Nat) (s : State) :
    KeepsModes s (enterZone c n s).1 := by
  unfold enterZone
  repeat' first
    | with_reducible apply framedModes.refl
    | decide +kernel
    | with_reducible apply framedModes.after (modes_enterPassed _ _)
    | with_reducible apply framedModes.fold
    | with_reducible intro _
    | dsimp only
    | split

theorem modes_releaseZone (c : Crane) (n : Nat) (s : State) :
    KeepsModes s (releaseZone c n s).1 := by
  unfold releaseZone
  repeat' first
    | with_reducible apply framedModes.refl
    | decide +kernel
    | with_reducible apply framedModes.after (modes_convert _ _)
    | with_reducible apply framedModes.frame (touches_dropWait _ _ _)
    | with_reducible apply framedModes.after (modes_reviewOffPath _ _)
    | with_reducible apply framedModes.fold
    | with_reducible intro _
    | dsimp only
    | split

theorem modes_deliver (s : State) (c : Crane) (r : Report) (rejoining : Bool) (wasZero : Bool) :
    KeepsModes s (s.deliver c r rejoining wasZero) := by
  unfold State.deliver
  repeat' first
    | with_reducible apply framedModes.refl
    | decide +kernel
    | with_reducible apply framedModes.after (modes_liftStage _ _ _ _)
    | with_reducible apply framedModes.after (modes_loadDrop _ _)
    | with_reducible apply framedModes.after (modes_positionStage _ _ _)
    | with_reducible apply framedModes.frame (touches_removeReasonFrom _ _ _)
    | with_reducible apply framedModes.after (modes_securingStage _ _)
    | with_reducible apply framedModes.after (modes_windStage _ _ _)
    | with_reducible apply framedModes.fold
    | with_reducible intro _
    | dsimp only
    | split

theorem modes_acceptStatus (s : State) (c : Crane) (r : Report) :
    KeepsModes s (s.acceptStatus c r) := by
  unfold State.acceptStatus
  repeat' first
    | with_reducible apply framedModes.refl
    | decide +kernel
    | with_reducible apply framedModes.frame (touches_acknowledge _ _ _)
    | with_reducible apply framedModes.after (modes_deliver _ _ _ _ _)
    | with_reducible apply framedModes.after (modes_raiseFor _ _ _)
    | with_reducible apply framedModes.frame (touches_recordReport _ _ _ _)
    | with_reducible apply framedModes.after (modes_withdraw _ _ _)
    | with_reducible apply framedModes.fold
    | with_reducible intro _
    | dsimp only
    | split

theorem modes_acceptRejoin (s : State) (c : Crane) (r : Report) :
    KeepsModes s (s.acceptRejoin c r) := by
  unfold State.acceptRejoin
  repeat' first
    | with_reducible apply framedModes.refl
    | decide +kernel
    | with_reducible apply framedModes.frame (touches_acknowledge _ _ _)
    | with_reducible apply framedModes.after (modes_deliver _ _ _ _ _)
    | with_reducible apply framedModes.frame (touches_recordReport _ _ _ _)
    | with_reducible apply framedModes.after (modes_rejoinService _ _)
    | with_reducible apply framedModes.after (modes_withdraw _ _ _)
    | with_reducible apply framedModes.fold
    | with_reducible intro _
    | dsimp only
    | split

theorem modes_becomeLost (s : State) (c : Crane) :
    KeepsModes s (s.becomeLost c) := by
  unfold State.becomeLost
  repeat' first
    | with_reducible apply framedModes.refl
    | decide +kernel
    | with_reducible apply framedModes.frame (touches_addReasonTo _ _ _)
    | with_reducible apply framedModes.after (modes_denyCrane _ _ _)
    | with_reducible apply framedModes.after (modes_raiseFor _ _ _)
    | with_reducible apply framedModes.frame (touches_setCrane _ _ _)
    | with_reducible apply framedModes.frame (touches_setSvc _ _ _)
    | with_reducible apply framedModes.after (modes_windLost _ _)
    | with_reducible apply framedModes.fold
    | with_reducible intro _
    | dsimp only
    | split

theorem modes_runLinkRequest (c : Crane) (f : LinkFrame) (s : State) :
    KeepsModes s (runLinkRequest c f s).1 := by
  unfold runLinkRequest
  repeat' first
    | with_reducible apply framedModes.refl
    | decide +kernel
    | with_reducible apply framedModes.frame (touches_amend _ _ _ _)
    | with_reducible apply framedModes.frame (touches_cancel _ _ _)
    | with_reducible apply framedModes.frame (touches_confirm _ _ _)
    | with_reducible apply framedModes.after (modes_enterZone _ _ _)
    | with_reducible apply framedModes.after (modes_finish _ _ _)
    | with_reducible apply framedModes.after (modes_land _ _ _)
    | with_reducible apply framedModes.frame (touches_listRecords _ _ _ _ _)
    | with_reducible apply framedModes.frame (touches_propose _ _ _ _)
    | with_reducible apply framedModes.frame (touches_queryRecord _ _ _)
    | with_reducible apply framedModes.after (modes_releaseZone _ _ _)
    | with_reducible apply framedModes.frame (touches_resume _ _ _)
    | with_reducible apply framedModes.frame (touches_setLock _ _ _ _)
    | with_reducible apply framedModes.frame (touches_start _ _ _)
    | with_reducible apply framedModes.frame (touches_suspend _ _ _)
    | with_reducible apply framedModes.fold
    | with_reducible intro _
    | dsimp only
    | split

theorem modes_takeFrame (s : State) (c : Crane) (f : LinkFrame) :
    KeepsModes s (s.takeFrame c f) := by
  unfold State.takeFrame
  repeat' first
    | with_reducible apply framedModes.refl
    | decide +kernel
    | with_reducible apply framedModes.after (modes_acceptRejoin _ _ _)
    | with_reducible apply framedModes.after (modes_acceptStatus _ _ _)
    | with_reducible apply framedModes.frame (touches_acknowledge _ _ _)
    | with_reducible apply framedModes.frame (touches_answerLink _ _ _ _)
    | with_reducible apply framedModes.after (modes_runLinkRequest _ _ _)
    | with_reducible apply framedModes.fold
    | with_reducible intro _
    | dsimp only
    | split

theorem modes_badFrame (s : State) (c : Crane) :
    KeepsModes s (s.badFrame c) := by
  unfold State.badFrame
  repeat' first
    | with_reducible apply framedModes.refl
    | decide +kernel
    | with_reducible apply framedModes.after (modes_raiseFor _ _ _)
    | with_reducible apply framedModes.frame (touches_setLink _ _ _)
    | with_reducible apply framedModes.fold
    | with_reducible intro _
    | dsimp only
    | split

theorem modes_arrive (s : State) (c : Crane) (f : LinkFrame) :
    KeepsModes s (s.arrive c f) := by
  unfold State.arrive
  repeat' first
    | with_reducible apply framedModes.refl
    | decide +kernel
    | with_reducible apply framedModes.after (modes_badFrame _ _)
    | with_reducible apply framedModes.frame (touches_setLink _ _ _)
    | with_reducible apply framedModes.after (modes_takeFrame _ _ _)
    | with_reducible apply framedModes.after (modes_withdraw _ _ _)
    | with_reducible apply framedModes.fold
    | with_reducible intro _
    | dsimp only
    | split

theorem modes_frameSent (s : State) (c : Crane) :
    KeepsModes s (s.frameSent c) := by
  unfold State.frameSent
  repeat' first
    | with_reducible apply framedModes.refl
    | decide +kernel
    | with_reducible apply framedModes.frame (touches_setLink _ _ _)
    | with_reducible apply framedModes.after (modes_takeFrame _ _ _)
    | with_reducible apply framedModes.fold
    | with_reducible intro _
    | dsimp only
    | split

theorem modes_receiveByte (s : State) (c : Crane) (b : Byte) (stopGood : Bool) :
    KeepsModes s (s.receiveByte c b stopGood) := by
  unfold State.receiveByte
  repeat' first
    | with_reducible apply framedModes.refl
    | decide +kernel
    | with_reducible apply framedModes.after (modes_arrive _ _ _)
    | with_reducible apply framedModes.after (modes_badFrame _ _)
    | with_reducible apply framedModes.frame (touches_setLink _ _ _)
    | with_reducible apply framedModes.fold
    | with_reducible intro _
    | dsimp only
    | split

theorem modes_raiseSiteStop (s : State) :
    KeepsModes s (s.raiseSiteStop) := by
  unfold State.raiseSiteStop
  repeat' first
    | with_reducible apply framedModes.refl
    | decide +kernel
    | with_reducible apply framedModes.after (modes_addStop _ _ _)
    | with_reducible apply framedModes.after (modes_raise _ _ _)
    | with_reducible apply framedModes.fold
    | with_reducible intro _
    | dsimp only
    | split

theorem modes_startRaisings (s : State) :
    KeepsModes s (s.startRaisings) := by
  unfold State.startRaisings
  repeat' first
    | with_reducible apply framedModes.refl
    | decide +kernel
    | with_reducible apply framedModes.after (modes_raise _ _ _)
    | with_reducible apply framedModes.after (modes_raiseSiteStop _)
    | with_reducible apply framedModes.fold
    | with_reducible intro _
    | dsimp only
    | split

theorem modes_passSecond (s : State) :
    KeepsModes s (s.passSecond) := by
  unfold State.passSecond
  repeat' first
    | with_reducible apply framedModes.refl
    | decide +kernel
    | with_reducible apply framedModes.after (modes_moveTime _ _)
    | with_reducible apply framedModes.frame (touches_withClock _ _)
    | with_reducible apply framedModes.fold
    | with_reducible intro _
    | dsimp only
    | split

theorem modes_endWrite (s : State) (good : Bool) :
    KeepsModes s (s.endWrite good) := by
  unfold State.endWrite
  repeat' first
    | with_reducible apply framedModes.refl
    | decide +kernel
    | with_reducible apply framedModes.after (modes_raise _ _ _)
    | with_reducible apply framedModes.frame (touches_withPlan _ _)
    | with_reducible apply framedModes.after (modes_withdrawSite _ _)
    | with_reducible apply framedModes.fold
    | with_reducible intro _
    | dsimp only
    | split

theorem modes_expireClearing (s : State) (q : CellId) :
    KeepsModes s (s.expireClearing q) := by
  unfold State.expireClearing
  repeat' first
    | with_reducible apply framedModes.refl
    | decide +kernel
    | with_reducible apply framedModes.after (modes_convert _ _)
    | with_reducible apply framedModes.fold
    | with_reducible intro _
    | dsimp only
    | split

theorem modes_expireWait (s : State) (c : Crane) (x : Sector) :
    KeepsModes s (s.expireWait c x) := by
  unfold State.expireWait
  repeat' first
    | with_reducible apply framedModes.refl
    | decide +kernel
    | with_reducible apply framedModes.frame (touches_dropWait _ _ _)
    | with_reducible apply framedModes.frame (touches_notify _ _ _)
    | with_reducible apply framedModes.after (modes_reviewOffPath _ _)
    | with_reducible apply framedModes.fold
    | with_reducible intro _
    | dsimp only
    | split

theorem modes_completeDwell (s : State) (c : Crane) :
    KeepsModes s (s.completeDwell c) := by
  unfold State.completeDwell
  repeat' first
    | with_reducible apply framedModes.refl
    | decide +kernel
    | with_reducible apply framedModes.frame (touches_setWind _ _ _)
    | with_reducible apply framedModes.after (modes_windConditions _ _)
    | with_reducible apply framedModes.fold
    | with_reducible intro _
    | dsimp only
    | split

theorem modes_expireTimer (s : State) (c : Crane) :
    KeepsModes s (s.expireTimer c) := by
  unfold State.expireTimer
  repeat' first
    | with_reducible apply framedModes.refl
    | decide +kernel
    | with_reducible apply framedModes.after (modes_raiseFor _ _ _)
    | with_reducible apply framedModes.frame (touches_setSvc _ _ _)
    | with_reducible apply framedModes.fold
    | with_reducible intro _
    | dsimp only
    | split

theorem modes_acceptTime (s : State) (t : Nat) :
    KeepsModes s (s.acceptTime t) := by
  unfold State.acceptTime
  repeat' first
    | with_reducible apply framedModes.refl
    | decide +kernel
    | with_reducible apply framedModes.after (modes_moveTime _ _)
    | with_reducible apply framedModes.frame (touches_withClock _ _)
    | with_reducible apply framedModes.fold
    | with_reducible intro _
    | dsimp only
    | split

theorem modes_setClock (t : Nat) (s : State) :
    KeepsModes s (setClock t s).1 := by
  unfold setClock
  repeat' first
    | with_reducible apply framedModes.refl
    | decide +kernel
    | with_reducible apply framedModes.after (modes_acceptTime _ _)
    | with_reducible apply framedModes.fold
    | with_reducible intro _
    | dsimp only
    | split

theorem modes_craneLeaves (s : State) (c : Crane) :
    KeepsModes s (s.craneLeaves c) := by
  unfold State.craneLeaves
  repeat' first
    | with_reducible apply framedModes.refl
    | decide +kernel
    | with_reducible apply framedModes.frame (touches_setCrane _ _ _)
    | with_reducible apply framedModes.frame (touches_setOccupied _ _ _)
    | with_reducible apply framedModes.frame (touches_setStops _ _ _)
    | with_reducible apply framedModes.frame (touches_setSvc _ _ _)
    | with_reducible apply framedModes.frame (touches_setWind _ _ _)
    | with_reducible apply framedModes.after (modes_withdraw _ _ _)
    | with_reducible apply framedModes.fold
    | with_reducible intro _
    | dsimp only
    | split

theorem modes_craneJoins (s : State) (c : Crane) :
    KeepsModes s (s.craneJoins c) := by
  unfold State.craneJoins
  repeat' first
    | with_reducible apply framedModes.refl
    | decide +kernel
    | with_reducible apply framedModes.after (modes_addStop _ _ _)
    | with_reducible apply framedModes.frame (touches_setCrane _ _ _)
    | with_reducible apply framedModes.frame (touches_setStops _ _ _)
    | with_reducible apply framedModes.frame (touches_setSvc _ _ _)
    | with_reducible apply framedModes.frame (touches_setWind _ _ _)
    | with_reducible apply framedModes.fold
    | with_reducible intro _
    | dsimp only
    | split

theorem modes_followPresence (old : Plan) (s : State) (c : Crane) :
    KeepsModes s (s.followPresence old c) := by
  unfold State.followPresence
  repeat' first
    | with_reducible apply framedModes.refl
    | decide +kernel
    | with_reducible apply framedModes.after (modes_craneJoins _ _)
    | with_reducible apply framedModes.after (modes_craneLeaves _ _)
    | with_reducible apply framedModes.fold
    | with_reducible intro _
    | dsimp only
    | split

theorem modes_handModeStops (s : State) :
    KeepsModes s (s.handModeStops) := by
  unfold State.handModeStops
  repeat' first
    | with_reducible apply framedModes.refl
    | decide +kernel
    | with_reducible apply framedModes.after (modes_stopAction _ _ _)
    | with_reducible apply framedModes.fold
    | with_reducible intro _
    | dsimp only
    | split

theorem modes_openFromSetup (s : State) :
    KeepsModes s (s.openFromSetup) := by
  unfold State.openFromSetup
  repeat' first
    | with_reducible apply framedModes.refl
    | decide +kernel
    | with_reducible apply framedModes.after (modes_convert _ _)
    | with_reducible apply framedModes.frame (touches_startService _ _)
    | with_reducible apply framedModes.frame (touches_withSite _ _)
    | with_reducible apply framedModes.after (modes_withdrawSite _ _)
    | with_reducible apply framedModes.fold
    | with_reducible intro _
    | dsimp only
    | split

theorem modes_returnCrane (s : State) (c : Crane) :
    KeepsModes s (s.returnCrane c) := by
  unfold State.returnCrane
  repeat' first
    | with_reducible apply framedModes.refl
    | decide +kernel
    | with_reducible apply framedModes.after (modes_toService _ _)
    | with_reducible apply framedModes.fold
    | with_reducible intro _
    | dsimp only
    | split

theorem modes_convertCrane (s : State) (c : Crane) :
    KeepsModes s (s.convertCrane c) := by
  unfold State.convertCrane
  repeat' first
    | with_reducible apply framedModes.refl
    | decide +kernel
    | with_reducible apply framedModes.after (modes_resumeCrane _ _)
    | with_reducible apply framedModes.fold
    | with_reducible intro _
    | dsimp only
    | split

theorem modes_bringBack (s : State) :
    KeepsModes s (s.bringBack) := by
  unfold State.bringBack
  repeat' first
    | with_reducible apply framedModes.refl
    | decide +kernel
    | with_reducible apply framedModes.after (modes_convertCrane _ _)
    | with_reducible apply framedModes.after (modes_returnCrane _ _)
    | with_reducible apply framedModes.fold
    | with_reducible intro _
    | dsimp only
    | split

theorem modes_resumeFromStorm (s : State) :
    KeepsModes s (s.resumeFromStorm) := by
  unfold State.resumeFromStorm
  repeat' first
    | with_reducible apply framedModes.refl
    | decide +kernel
    | with_reducible apply framedModes.after (modes_bringBack _)
    | with_reducible apply framedModes.frame (touches_removeReasonAll _ _)
    | with_reducible apply framedModes.frame (touches_withSite _ _)
    | with_reducible apply framedModes.after (modes_withdrawSite _ _)
    | with_reducible apply framedModes.fold
    | with_reducible intro _
    | dsimp only
    | split

theorem modes_reopen (s : State) :
    KeepsModes s (s.reopen) := by
  unfold State.reopen
  repeat' first
    | with_reducible apply framedModes.refl
    | decide +kernel
    | with_reducible apply framedModes.after (modes_bringBack _)
    | with_reducible apply framedModes.frame (touches_withSite _ _)
    | with_reducible apply framedModes.after (modes_withdrawSite _ _)
    | with_reducible apply framedModes.fold
    | with_reducible intro _
    | dsimp only
    | split

theorem modes_openTheSite (s : State) :
    KeepsModes s (openTheSite s).1 := by
  unfold openTheSite
  repeat' first
    | with_reducible apply framedModes.refl
    | decide +kernel
    | with_reducible apply framedModes.after (modes_openFromSetup _)
    | with_reducible apply framedModes.after (modes_reopen _)
    | with_reducible apply framedModes.fold
    | with_reducible intro _
    | dsimp only
    | split

theorem modes_close (s : State) :
    KeepsModes s (s.close) := by
  unfold State.close
  repeat' first
    | with_reducible apply framedModes.refl
    | decide +kernel
    | with_reducible apply framedModes.after (modes_denyWaits _ _ _)
    | with_reducible apply framedModes.after (modes_enterSecuringAll _)
    | with_reducible apply framedModes.frame (touches_withSite _ _)
    | with_reducible apply framedModes.fold
    | with_reducible intro _
    | dsimp only
    | split

theorem modes_closeTheSite (s : State) :
    KeepsModes s (closeTheSite s).1 := by
  unfold closeTheSite
  repeat' first
    | with_reducible apply framedModes.refl
    | decide +kernel
    | with_reducible apply framedModes.after (modes_close _)
    | with_reducible apply framedModes.fold
    | with_reducible intro _
    | dsimp only
    | split

theorem modes_resumeTheSite (s : State) :
    KeepsModes s (resumeTheSite s).1 := by
  unfold resumeTheSite
  repeat' first
    | with_reducible apply framedModes.refl
    | decide +kernel
    | with_reducible apply framedModes.after (modes_resumeFromStorm _)
    | with_reducible apply framedModes.fold
    | with_reducible intro _
    | dsimp only
    | split

theorem modes_setupReset (s : State) :
    KeepsModes s (s.setupReset) := by
  unfold State.setupReset
  repeat' first
    | with_reducible apply framedModes.refl
    | decide +kernel
    | with_reducible apply framedModes.after (modes_follow _ _)
    | with_reducible apply framedModes.frame (touches_freeAllCells _)
    | with_reducible apply framedModes.frame (touches_withRestricted _ _)
    | with_reducible apply framedModes.after (modes_withdraw _ _ _)
    | with_reducible apply framedModes.fold
    | with_reducible intro _
    | dsimp only
    | split

theorem modes_toSetup (s : State) :
    KeepsModes s (s.toSetup) := by
  unfold State.toSetup
  repeat' first
    | with_reducible apply framedModes.refl
    | decide +kernel
    | with_reducible apply framedModes.frame (touches_cancelAll _)
    | with_reducible apply framedModes.after (modes_denyWaits _ _ _)
    | with_reducible apply framedModes.after (modes_setupReset _)
    | with_reducible apply framedModes.frame (touches_toStandby _ _)
    | with_reducible apply framedModes.frame (touches_withSite _ _)
    | with_reducible apply framedModes.fold
    | with_reducible intro _
    | dsimp only
    | split

theorem modes_returnSiteToSetup (s : State) :
    KeepsModes s (returnSiteToSetup s).1 := by
  unfold returnSiteToSetup
  repeat' first
    | with_reducible apply framedModes.refl
    | decide +kernel
    | with_reducible apply framedModes.after (modes_toSetup _)
    | with_reducible apply framedModes.fold
    | with_reducible intro _
    | dsimp only
    | split

theorem modes_forceClear (s : State) (c : Crane) (named : List Sector) :
    KeepsModes s (s.forceClear c named) := by
  unfold State.forceClear
  repeat' first
    | with_reducible apply framedModes.refl
    | decide +kernel
    | with_reducible apply framedModes.after (modes_convert _ _)
    | with_reducible apply framedModes.frame (touches_forceService _ _ _)
    | with_reducible apply framedModes.fold
    | with_reducible intro _
    | dsimp only
    | split

theorem modes_forceCells (crane : Nat) (sectors : Nat) (s : State) :
    KeepsModes s (forceCells crane sectors s).1 := by
  unfold forceCells
  repeat' first
    | with_reducible apply framedModes.refl
    | decide +kernel
    | with_reducible apply framedModes.after (modes_forceClear _ _ _)
    | with_reducible apply framedModes.fold
    | with_reducible intro _
    | dsimp only
    | split

theorem modes_stopTheCrane (crane : Nat) (s : State) :
    KeepsModes s (stopTheCrane crane s).1 := by
  unfold stopTheCrane
  repeat' first
    | with_reducible apply framedModes.refl
    | decide +kernel
    | with_reducible apply framedModes.after (modes_addStop _ _ _)
    | with_reducible apply framedModes.fold
    | with_reducible intro _
    | dsimp only
    | split

theorem modes_clearKind (s : State) (k : AlertKind) :
    KeepsModes s (s.clearKind k) := by
  unfold State.clearKind
  split
  · refine modes_setAlert ?_
    unfold AlertRec.clear
    split <;> rfl
  · exact framedModes.refl s

theorem modes_clearKinds (s : State) (ks : List AlertKind) :
    KeepsModes s (s.clearKinds ks) := by
  unfold State.clearKinds
  repeat' first
    | with_reducible apply framedModes.refl
    | decide +kernel
    | with_reducible apply framedModes.after (modes_clearKind _ _)
    | with_reducible apply framedModes.frame (touches_evaluateLines _)
    | with_reducible apply framedModes.fold
    | with_reducible intro _
    | dsimp only
    | split

theorem modes_clearTheAlerts (kinds : List Nat) (s : State) :
    KeepsModes s (clearTheAlerts kinds s).1 := by
  unfold clearTheAlerts
  repeat' first
    | with_reducible apply framedModes.refl
    | decide +kernel
    | with_reducible apply framedModes.after (modes_clearKinds _ _)
    | with_reducible apply framedModes.fold
    | with_reducible intro _
    | dsimp only
    | split

end Sys2Proof.Machine
end

