-- ==== Sys2Proof/Laws/KeepsLines.lean ====
section
/-!
SUPPORT. Every operation but a commit, the power-on and the halt keeps the law of the lines (R166).
-/
set_option Elab.async false
namespace Sys2Proof.Machine

/-- The lines keep their law. -/
def KeepsLines (s t : State) : Prop := LineLaw s → LineLaw t

/-- The law reads the latches, the modes, the lines, the cadence and the supply alone. -/
theorem lineLaw_of {s t : State} (hl : ∀ k, (t.alert k).latch = (s.alert k).latch)
    (hm : ∀ k, (t.alert k).mode = (s.alert k).mode) (h1 : t.lines = s.lines)
    (h2 : t.params.cadence = s.params.cadence) (h3 : t.pins.power = s.pins.power) : KeepsLines s t := by
  have ha : t.alertDue = s.alertDue := by simp only [State.alertDue, AlertRec.latched, hl, hm]
  have hs : t.sirenDue = s.sirenDue := by simp only [State.sirenDue, AlertRec.latched, hl, hm]
  have hr : t.running = s.running := by simp only [State.running, h3]
  intro w
  refine ⟨?_, ?_, ?_, ?_⟩ <;> rw [hr] <;> intro r
  · rw [h1, ha]; exact w.alert r
  · rw [h1, hs]; exact w.quiet r
  · rw [h1, h2, hs]; exact w.steady r
  · rw [h1, h2, hs]; exact w.pulsed r

theorem framedLines : Framed KeepsLines [.plan, .alerts, .lines, .pins] where
  trans h k := fun w => k (h w)
  same h := by
    have h1 := h .plan (by decide)
    have h2 := h .alerts (by decide)
    have h3 := h .lines (by decide)
    have h4 := h .pins (by decide)
    simp only [Same] at h1 h2 h3 h4
    exact lineLaw_of (fun k => by simp only [State.alert, h2]) (fun k => by simp only [State.alert, h2]) h3
      (by simp only [State.params, h1]) (by rw [h4])

/-- Whatever the lines were, their evaluation establishes the law (R166). -/
theorem lineLaw_evaluateLines (s : State) : LineLaw s.evaluateLines := by
  have ha : s.evaluateLines.alertDue = s.alertDue := rfl
  have hs : s.evaluateLines.sirenDue = s.sirenDue := rfl
  have hp : s.evaluateLines.params.cadence = s.params.cadence := rfl
  refine ⟨fun _ => ?_, fun _ hd => ?_, fun _ hd hc => ?_, fun _ hd hc => ?_⟩
  · rw [ha]; rfl
  · rw [hs] at hd
    simp [State.evaluateLines, State.withLines, hd]
  · rw [hs] at hd; rw [hp] at hc
    simp [State.evaluateLines, State.withLines, hd, hc]
  · rw [hs] at hd; rw [hp] at hc
    unfold State.evaluateLines State.withLines
    simp only [hd, hc, if_true]
    cases s.lines.phase <;> rfl

theorem lines_setAlert {s : State} {k : AlertKind} {r : AlertRec} (hl : r.latch = (s.alert k).latch)
    (hm : r.mode = (s.alert k).mode) : KeepsLines s (s.setAlert k r) := by
  refine lineLaw_of (fun a => ?_) (fun a => ?_) rfl rfl rfl <;> rw [alert_setAlert] <;> split
  · rename_i h; rw [← h]; exact hl
  · rfl
  · rename_i h; rw [← h]; exact hm
  · rfl


theorem lines_evaluateLines (s : State) :
    KeepsLines s (s.evaluateLines) := by
  exact fun _ => lineLaw_evaluateLines s

theorem lines_withdraw (s : State) (k : AlertKind) (c : Crane) :
    KeepsLines s (s.withdraw k c) := by
  exact lines_setAlert rfl rfl

theorem lines_withdrawSite (s : State) (k : AlertKind) :
    KeepsLines s (s.withdrawSite k) := by
  exact lines_setAlert rfl rfl

theorem lines_reviewOffPath (s : State) (c : Crane) :
    KeepsLines s (s.reviewOffPath c) := by
  unfold State.reviewOffPath
  repeat' first
    | with_reducible apply framedLines.refl
    | decide +kernel
    | with_reducible apply framedLines.after (lines_withdraw _ _ _)
    | with_reducible apply framedLines.fold
    | with_reducible intro _
    | dsimp only
    | split

theorem lines_denyWaits (s : State) (p : Wait → Bool) (why : DenyReason) :
    KeepsLines s (s.denyWaits p why) := by
  unfold State.denyWaits
  repeat' first
    | with_reducible apply framedLines.refl
    | decide +kernel
    | with_reducible apply framedLines.frame (touches_notify _ _ _)
    | with_reducible apply framedLines.after (lines_reviewOffPath _ _)
    | with_reducible apply framedLines.frame (touches_withWaits _ _)
    | with_reducible apply framedLines.fold
    | with_reducible intro _
    | dsimp only
    | split

theorem lines_denyCrane (s : State) (c : Crane) (why : DenyReason) :
    KeepsLines s (s.denyCrane c why) := by
  unfold State.denyCrane
  repeat' first
    | with_reducible apply framedLines.refl
    | decide +kernel
    | with_reducible apply framedLines.after (lines_denyWaits _ _ _)
    | with_reducible apply framedLines.fold
    | with_reducible intro _
    | dsimp only
    | split

theorem lines_addStop (s : State) (c : Crane) (r : StopReason) :
    KeepsLines s (s.addStop c r) := by
  unfold State.addStop
  repeat' first
    | with_reducible apply framedLines.refl
    | decide +kernel
    | with_reducible apply framedLines.frame (touches_addReasonTo _ _ _)
    | with_reducible apply framedLines.after (lines_denyCrane _ _ _)
    | with_reducible apply framedLines.frame (touches_setStops _ _ _)
    | with_reducible apply framedLines.fold
    | with_reducible intro _
    | dsimp only
    | split

theorem lines_stopAction (s : State) (k : AlertKind) (c : Option Crane) :
    KeepsLines s (s.stopAction k c) := by
  unfold State.stopAction
  repeat' first
    | with_reducible apply framedLines.refl
    | decide +kernel
    | with_reducible apply framedLines.after (lines_addStop _ _ _)
    | with_reducible apply framedLines.fold
    | with_reducible intro _
    | dsimp only
    | split

theorem lines_raise (s : State) (k : AlertKind) (c : Option Crane) :
    KeepsLines s (s.raise k c) := by
  exact fun _ => lineLaw_evaluateLines _

theorem lines_raiseFor (s : State) (k : AlertKind) (c : Crane) :
    KeepsLines s (s.raiseFor k c) := by
  unfold State.raiseFor
  repeat' first
    | with_reducible apply framedLines.refl
    | decide +kernel
    | with_reducible apply framedLines.after (lines_raise _ _ _)
    | with_reducible apply framedLines.fold
    | with_reducible intro _
    | dsimp only
    | split

theorem lines_dropRestricted (s : State) (q : CellId) :
    KeepsLines s (s.dropRestricted q) := by
  unfold State.dropRestricted
  repeat' first
    | with_reducible apply framedLines.refl
    | decide +kernel
    | with_reducible apply framedLines.frame (touches_setRestricted _ _ _)
    | with_reducible apply framedLines.after (lines_withdraw _ _ _)
    | with_reducible apply framedLines.fold
    | with_reducible intro _
    | dsimp only
    | split

theorem lines_ownConditions (s : State) (chg : List Change) :
    KeepsLines s (s.ownConditions chg) := by
  unfold State.ownConditions
  repeat' first
    | with_reducible apply framedLines.refl
    | decide +kernel
    | with_reducible apply framedLines.after (lines_dropRestricted _ _)
    | with_reducible apply framedLines.after (lines_reviewOffPath _ _)
    | with_reducible apply framedLines.fold
    | with_reducible intro _
    | dsimp only
    | split

theorem lines_seizureEnded (s : State) (q : CellId) :
    KeepsLines s (s.seizureEnded q) := by
  unfold State.seizureEnded
  repeat' first
    | with_reducible apply framedLines.refl
    | decide +kernel
    | with_reducible apply framedLines.frame (touches_withRegister _ _)
    | with_reducible apply framedLines.after (lines_withdraw _ _ _)
    | with_reducible apply framedLines.fold
    | with_reducible intro _
    | dsimp only
    | split

theorem lines_endSeizures (s : State) (chg : List Change) :
    KeepsLines s (s.endSeizures chg) := by
  unfold State.endSeizures
  repeat' first
    | with_reducible apply framedLines.refl
    | decide +kernel
    | with_reducible apply framedLines.after (lines_seizureEnded _ _)
    | with_reducible apply framedLines.fold
    | with_reducible intro _
    | dsimp only
    | split

theorem lines_ownAndSeized (s : State) (chg : List Change) :
    KeepsLines s (s.ownAndSeized chg) := by
  unfold State.ownAndSeized
  repeat' first
    | with_reducible apply framedLines.refl
    | decide +kernel
    | with_reducible apply framedLines.after (lines_endSeizures _ _)
    | with_reducible apply framedLines.after (lines_ownConditions _ _)
    | with_reducible apply framedLines.fold
    | with_reducible intro _
    | dsimp only
    | split

theorem lines_tryGrant (s : State) (w : Wait) :
    KeepsLines s (s.tryGrant w) := by
  unfold State.tryGrant
  repeat' first
    | with_reducible apply framedLines.refl
    | decide +kernel
    | with_reducible apply framedLines.frame (touches_changeCells _ _)
    | with_reducible apply framedLines.frame (touches_dropWait _ _ _)
    | with_reducible apply framedLines.frame (touches_notify _ _ _)
    | with_reducible apply framedLines.after (lines_ownAndSeized _ _)
    | with_reducible apply framedLines.fold
    | with_reducible intro _
    | dsimp only
    | split

theorem lines_walk (s : State) :
    KeepsLines s (s.walk) := by
  unfold State.walk
  repeat' first
    | with_reducible apply framedLines.refl
    | decide +kernel
    | with_reducible apply framedLines.after (lines_tryGrant _ _)
    | with_reducible apply framedLines.fold
    | with_reducible intro _
    | dsimp only
    | split

theorem lines_toService (s : State) (c : Crane) :
    KeepsLines s (s.toService c) := by
  unfold State.toService
  repeat' first
    | with_reducible apply framedLines.refl
    | decide +kernel
    | with_reducible apply framedLines.frame (touches_setSvc _ _ _)
    | with_reducible apply framedLines.after (lines_withdraw _ _ _)
    | with_reducible apply framedLines.fold
    | with_reducible intro _
    | dsimp only
    | split

theorem lines_outOfService (s : State) (c : Crane) (o : Order) (withheld : Bool) :
    KeepsLines s (s.outOfService c o withheld) := by
  unfold State.outOfService
  repeat' first
    | with_reducible apply framedLines.refl
    | decide +kernel
    | with_reducible apply framedLines.after (lines_denyCrane _ _ _)
    | with_reducible apply framedLines.frame (touches_setSvc _ _ _)
    | with_reducible apply framedLines.after (lines_withdraw _ _ _)
    | with_reducible apply framedLines.fold
    | with_reducible intro _
    | dsimp only
    | split

theorem lines_resumeChange (s : State) (c : Crane) :
    KeepsLines s (s.resumeChange c) := by
  unfold State.resumeChange
  repeat' first
    | with_reducible apply framedLines.refl
    | decide +kernel
    | with_reducible apply framedLines.frame (touches_changeCells _ _)
    | with_reducible apply framedLines.after (lines_outOfService _ _ _ _)
    | with_reducible apply framedLines.after (lines_toService _ _)
    | with_reducible apply framedLines.fold
    | with_reducible intro _
    | dsimp only
    | split

theorem lines_retryOne {recheck : State → State} (h : ∀ s, KeepsLines s (recheck s)) (p : State × Bool) (c : Crane) :
    KeepsLines p.1 (retryOne recheck p c).1 := by
  unfold retryOne followThree
  split
  · dsimp only
    split
    · exact framedLines.after (h _) ((framedLines).after (lines_ownAndSeized _ _) ((framedLines).after (lines_resumeChange _ _) (framedLines.refl _)))
    · exact ((framedLines).after (lines_ownAndSeized _ _) ((framedLines).after (lines_resumeChange _ _) (framedLines.refl _)))
  · exact framedLines.refl _

theorem lines_retryPass {recheck : State → State} (h : ∀ s, KeepsLines s (recheck s)) (s : State) :
    KeepsLines s (retryPass recheck s).1 := by
  suffices H : ∀ (l : List Crane) (p : State × Bool), KeepsLines s p.1 → KeepsLines s (l.foldl (retryOne recheck) p).1 from
    H _ _ (framedLines.refl _)
  intro l
  induction l with
  | nil => exact fun _ hp => hp
  | cons c l ih => exact fun p hp => ih _ (framedLines.trans hp (lines_retryOne h p c))

theorem lines_arbitrateLoop {retry : State → State × Bool} (h : ∀ s, KeepsLines s (retry s).1) (n : Nat) (s : State) :
    KeepsLines s (arbitrateLoop retry n s) := by
  induction n generalizing s with
  | zero => exact framedLines.refl _
  | succ n ih =>
    have h1 : KeepsLines s (retry s.walk).1 := framedLines.after (h _) ((framedLines).after (lines_walk _) (framedLines.refl _))
    unfold arbitrateLoop
    dsimp only
    split
    · exact framedLines.trans h1 (ih _)
    · exact h1

theorem lines_arbitrateWith {recheck : State → State} (h : ∀ s, KeepsLines s (recheck s)) (s : State) :
    KeepsLines s (arbitrateWith recheck s) := lines_arbitrateLoop (lines_retryPass h) _ _

theorem lines_followThree {recheck : State → State} (h : ∀ s, KeepsLines s (recheck s)) (chg : List Change) (s : State) :
    KeepsLines s (followThree recheck chg s) := by
  unfold followThree
  dsimp only
  split
  · exact framedLines.after (h _) ((framedLines).after (lines_ownAndSeized _ _) (framedLines.refl _))
  · exact ((framedLines).after (lines_ownAndSeized _ _) (framedLines.refl _))

theorem lines_followWith {recheck : State → State} (h : ∀ s, KeepsLines s (recheck s)) (chg : List Change) (s : State) :
    KeepsLines s (followWith recheck chg s) := by
  unfold followWith
  dsimp only
  split
  · exact framedLines.after (lines_arbitrateWith h _) (lines_followThree h _ _)
  · exact lines_followThree h _ _

theorem lines_releaseVaneWith {recheck : State → State} (h : ∀ s, KeepsLines s (recheck s)) (s : State) (c : Crane) :
    KeepsLines s (releaseVaneWith recheck s c) :=
  framedLines.after (lines_followWith h _ _) ((framedLines).after (lines_outOfService _ _ _ _) ((framedLines).frame (touches_changeCells _ _) (by decide +kernel) (framedLines.refl _)))

theorem lines_recheckN (n : Nat) (s : State) : KeepsLines s (recheckN n s) := by
  induction n generalizing s with
  | zero => exact framedLines.refl _
  | succ n ih =>
    refine framedLines.fold (framedLines.refl s) _ _ (fun u c => ?_)
    unfold recheckOne
    split
    · exact lines_releaseVaneWith ih u c
    · exact framedLines.refl _

theorem lines_recheckVane (s : State) : KeepsLines s s.recheckVane := lines_recheckN 8 s

theorem lines_arbitrate (s : State) : KeepsLines s s.arbitrate := lines_arbitrateWith lines_recheckVane s

theorem lines_follow (s : State) (chg : List Change) : KeepsLines s (s.follow chg) := lines_followWith lines_recheckVane chg s

theorem lines_testVane (s : State) (c : Crane) : KeepsLines s (s.testVane c) := by
  unfold State.testVane
  split
  · exact lines_releaseVaneWith lines_recheckVane s c
  · exact framedLines.refl _

theorem lines_convert (s : State) (rs : List CellReq) :
    KeepsLines s (s.convert rs) := by
  unfold State.convert
  repeat' first
    | with_reducible apply framedLines.refl
    | decide +kernel
    | with_reducible apply framedLines.frame (touches_changeCells _ _)
    | with_reducible apply framedLines.after (lines_follow _ _)
    | with_reducible apply framedLines.fold
    | with_reducible intro _
    | dsimp only
    | split

theorem lines_resumeCrane (s : State) (c : Crane) :
    KeepsLines s (s.resumeCrane c) := by
  unfold State.resumeCrane
  repeat' first
    | with_reducible apply framedLines.refl
    | decide +kernel
    | with_reducible apply framedLines.after (lines_follow _ _)
    | with_reducible apply framedLines.after (lines_resumeChange _ _)
    | with_reducible apply framedLines.fold
    | with_reducible intro _
    | dsimp only
    | split

theorem lines_holdCell (s : State) (q : CellId) (o : OriginRule) :
    KeepsLines s (s.holdCell q o) := by
  unfold State.holdCell
  repeat' first
    | with_reducible apply framedLines.refl
    | decide +kernel
    | with_reducible apply framedLines.frame (touches_changeCells _ _)
    | with_reducible apply framedLines.frame (touches_dropWait _ _ _)
    | with_reducible apply framedLines.after (lines_follow _ _)
    | with_reducible apply framedLines.frame (touches_notify _ _ _)
    | with_reducible apply framedLines.fold
    | with_reducible intro _
    | dsimp only
    | split

theorem lines_withheldToVaneWait (s : State) (c : Crane) :
    KeepsLines s (s.withheldToVaneWait c) := by
  unfold State.withheldToVaneWait
  repeat' first
    | with_reducible apply framedLines.refl
    | decide +kernel
    | with_reducible apply framedLines.after (lines_denyCrane _ _ _)
    | with_reducible apply framedLines.frame (touches_setSvc _ _ _)
    | with_reducible apply framedLines.fold
    | with_reducible intro _
    | dsimp only
    | split

theorem lines_enterSecuring (s : State) (c : Crane) :
    KeepsLines s (s.enterSecuring c) := by
  unfold State.enterSecuring
  repeat' first
    | with_reducible apply framedLines.refl
    | decide +kernel
    | with_reducible apply framedLines.frame (touches_setSvc _ _ _)
    | with_reducible apply framedLines.after (lines_testVane _ _)
    | with_reducible apply framedLines.frame (touches_toSecuring _ _)
    | with_reducible apply framedLines.after (lines_withheldToVaneWait _ _)
    | with_reducible apply framedLines.fold
    | with_reducible intro _
    | dsimp only
    | split

theorem lines_enterSecuringAll (s : State) :
    KeepsLines s (s.enterSecuringAll) := by
  unfold State.enterSecuringAll
  repeat' first
    | with_reducible apply framedLines.refl
    | decide +kernel
    | with_reducible apply framedLines.after (lines_enterSecuring _ _)
    | with_reducible apply framedLines.fold
    | with_reducible intro _
    | dsimp only
    | split

theorem lines_enterStorm (s : State) (c : Crane) :
    KeepsLines s (s.enterStorm c) := by
  unfold State.enterStorm
  repeat' first
    | with_reducible apply framedLines.refl
    | decide +kernel
    | with_reducible apply framedLines.frame (touches_addReasonAll _ _)
    | with_reducible apply framedLines.after (lines_enterSecuringAll _)
    | with_reducible apply framedLines.after (lines_raiseFor _ _ _)
    | with_reducible apply framedLines.frame (touches_withSite _ _)
    | with_reducible apply framedLines.fold
    | with_reducible intro _
    | dsimp only
    | split

theorem lines_reportStorm (s : State) (c : Crane) :
    KeepsLines s (s.reportStorm c) := by
  unfold State.reportStorm
  repeat' first
    | with_reducible apply framedLines.refl
    | decide +kernel
    | with_reducible apply framedLines.after (lines_enterStorm _ _)
    | with_reducible apply framedLines.after (lines_raiseFor _ _ _)
    | with_reducible apply framedLines.fold
    | with_reducible intro _
    | dsimp only
    | split

theorem lines_parkCrane (s : State) (c : Crane) :
    KeepsLines s (s.parkCrane c) := by
  unfold State.parkCrane
  repeat' first
    | with_reducible apply framedLines.refl
    | decide +kernel
    | with_reducible apply framedLines.after (lines_convert _ _)
    | with_reducible apply framedLines.after (lines_denyCrane _ _ _)
    | with_reducible apply framedLines.frame (touches_setSvc _ _ _)
    | with_reducible apply framedLines.after (lines_withdraw _ _ _)
    | with_reducible apply framedLines.fold
    | with_reducible intro _
    | dsimp only
    | split

theorem lines_toVaneWait (s : State) (c : Crane) :
    KeepsLines s (s.toVaneWait c) := by
  unfold State.toVaneWait
  repeat' first
    | with_reducible apply framedLines.refl
    | decide +kernel
    | with_reducible apply framedLines.after (lines_denyCrane _ _ _)
    | with_reducible apply framedLines.frame (touches_setSvc _ _ _)
    | with_reducible apply framedLines.after (lines_testVane _ _)
    | with_reducible apply framedLines.fold
    | with_reducible intro _
    | dsimp only
    | split

theorem lines_securingStage (s : State) (c : Crane) :
    KeepsLines s (s.securingStage c) := by
  unfold State.securingStage
  repeat' first
    | with_reducible apply framedLines.refl
    | decide +kernel
    | with_reducible apply framedLines.after (lines_parkCrane _ _)
    | with_reducible apply framedLines.frame (touches_setSvc _ _ _)
    | with_reducible apply framedLines.after (lines_toVaneWait _ _)
    | with_reducible apply framedLines.fold
    | with_reducible intro _
    | dsimp only
    | split

theorem lines_rejoinService (s : State) (c : Crane) :
    KeepsLines s (s.rejoinService c) := by
  unfold State.rejoinService
  repeat' first
    | with_reducible apply framedLines.refl
    | decide +kernel
    | with_reducible apply framedLines.frame (touches_setSvc _ _ _)
    | with_reducible apply framedLines.after (lines_testVane _ _)
    | with_reducible apply framedLines.fold
    | with_reducible intro _
    | dsimp only
    | split

theorem lines_keepInStep (s : State) (k : AlertKind) (c : Crane) (holds : Bool) :
    KeepsLines s (s.keepInStep k c holds) := by
  unfold State.keepInStep
  repeat' first
    | with_reducible apply framedLines.refl
    | decide +kernel
    | with_reducible apply framedLines.after (lines_raiseFor _ _ _)
    | with_reducible apply framedLines.after (lines_withdraw _ _ _)
    | with_reducible apply framedLines.fold
    | with_reducible intro _
    | dsimp only
    | split

theorem lines_windConditions (s : State) (c : Crane) :
    KeepsLines s (s.windConditions c) := by
  unfold State.windConditions
  repeat' first
    | with_reducible apply framedLines.refl
    | decide +kernel
    | with_reducible apply framedLines.after (lines_keepInStep _ _ _ _)
    | with_reducible apply framedLines.fold
    | with_reducible intro _
    | dsimp only
    | split

theorem lines_windStage (s : State) (c : Crane) (wind : Option Nat) :
    KeepsLines s (s.windStage c wind) := by
  unfold State.windStage
  repeat' first
    | with_reducible apply framedLines.refl
    | decide +kernel
    | with_reducible apply framedLines.frame (touches_handVerdict _ _)
    | with_reducible apply framedLines.after (lines_reportStorm _ _)
    | with_reducible apply framedLines.frame (touches_setWind _ _ _)
    | with_reducible apply framedLines.after (lines_windConditions _ _)
    | with_reducible apply framedLines.fold
    | with_reducible intro _
    | dsimp only
    | split

theorem lines_windLost (s : State) (c : Crane) :
    KeepsLines s (s.windLost c) := by
  unfold State.windLost
  repeat' first
    | with_reducible apply framedLines.refl
    | decide +kernel
    | with_reducible apply framedLines.frame (touches_setWind _ _ _)
    | with_reducible apply framedLines.after (lines_windConditions _ _)
    | with_reducible apply framedLines.fold
    | with_reducible intro _
    | dsimp only
    | split

theorem lines_intrude (s : State) (q : CellId) :
    KeepsLines s (s.intrude q) := by
  unfold State.intrude
  repeat' first
    | with_reducible apply framedLines.refl
    | decide +kernel
    | with_reducible apply framedLines.after (lines_raiseFor _ _ _)
    | with_reducible apply framedLines.frame (touches_register_ _ _ _)
    | with_reducible apply framedLines.fold
    | with_reducible intro _
    | dsimp only
    | split

theorem lines_seize (s : State) (q : CellId) :
    KeepsLines s (s.seize q) := by
  unfold State.seize
  repeat' first
    | with_reducible apply framedLines.refl
    | decide +kernel
    | with_reducible apply framedLines.after (lines_convert _ _)
    | with_reducible apply framedLines.after (lines_intrude _ _)
    | with_reducible apply framedLines.fold
    | with_reducible intro _
    | dsimp only
    | split

theorem lines_checkOccupied (s : State) (q : CellId) :
    KeepsLines s (s.checkOccupied q) := by
  unfold State.checkOccupied
  repeat' first
    | with_reducible apply framedLines.refl
    | decide +kernel
    | with_reducible apply framedLines.after (lines_holdCell _ _ _)
    | with_reducible apply framedLines.after (lines_seize _ _)
    | with_reducible apply framedLines.fold
    | with_reducible intro _
    | dsimp only
    | split

theorem lines_checkLeft (s : State) (q : CellId) :
    KeepsLines s (s.checkLeft q) := by
  unfold State.checkLeft
  repeat' first
    | with_reducible apply framedLines.refl
    | decide +kernel
    | with_reducible apply framedLines.after (lines_convert _ _)
    | with_reducible apply framedLines.fold
    | with_reducible intro _
    | dsimp only
    | split

theorem lines_checkPosition (s : State) (c : Crane) :
    KeepsLines s (s.checkPosition c) := by
  unfold State.checkPosition
  repeat' first
    | with_reducible apply framedLines.refl
    | decide +kernel
    | with_reducible apply framedLines.after (lines_checkLeft _ _)
    | with_reducible apply framedLines.after (lines_checkOccupied _ _)
    | with_reducible apply framedLines.fold
    | with_reducible intro _
    | dsimp only
    | split

theorem lines_positionStage (s : State) (c : Crane) (angle : Nat) :
    KeepsLines s (s.positionStage c angle) := by
  unfold State.positionStage
  repeat' first
    | with_reducible apply framedLines.refl
    | decide +kernel
    | with_reducible apply framedLines.after (lines_checkPosition _ _)
    | with_reducible apply framedLines.frame (touches_setOccupied _ _ _)
    | with_reducible apply framedLines.fold
    | with_reducible intro _
    | dsimp only
    | split

theorem lines_liftStage (s : State) (c : Crane) (load : Option Nat) (radius : Nat) :
    KeepsLines s (s.liftStage c load radius) := by
  unfold State.liftStage
  repeat' first
    | with_reducible apply framedLines.refl
    | decide +kernel
    | with_reducible apply framedLines.frame (touches_addReasonTo _ _ _)
    | with_reducible apply framedLines.after (lines_raiseFor _ _ _)
    | with_reducible apply framedLines.frame (touches_setLastConf _ _ _)
    | with_reducible apply framedLines.after (lines_withdraw _ _ _)
    | with_reducible apply framedLines.fold
    | with_reducible intro _
    | dsimp only
    | split

theorem lines_loadDrop (s : State) (c : Crane) :
    KeepsLines s (s.loadDrop c) := by
  unfold State.loadDrop
  repeat' first
    | with_reducible apply framedLines.refl
    | decide +kernel
    | with_reducible apply framedLines.after (lines_arbitrate _)
    | with_reducible apply framedLines.frame (touches_setRestricted _ _ _)
    | with_reducible apply framedLines.after (lines_withdraw _ _ _)
    | with_reducible apply framedLines.fold
    | with_reducible intro _
    | dsimp only
    | split

theorem lines_testOverrun (s : State) (n : Nat) (id : Nat) :
    KeepsLines s (s.testOverrun n id) := by
  unfold State.testOverrun
  repeat' first
    | with_reducible apply framedLines.refl
    | decide +kernel
    | with_reducible apply framedLines.frame (touches_putLift _ _)
    | with_reducible apply framedLines.after (lines_raiseFor _ _ _)
    | with_reducible apply framedLines.fold
    | with_reducible intro _
    | dsimp only
    | split

theorem lines_bookingMinute (s : State) (n : Nat) :
    KeepsLines s (s.bookingMinute n) := by
  unfold State.bookingMinute
  repeat' first
    | with_reducible apply framedLines.refl
    | decide +kernel
    | with_reducible apply framedLines.frame (touches_testBooked _ _ _)
    | with_reducible apply framedLines.after (lines_testOverrun _ _ _)
    | with_reducible apply framedLines.fold
    | with_reducible intro _
    | dsimp only
    | split

theorem lines_formRestricted (s : State) (n : Nat) (c : Crane) :
    KeepsLines s (s.formRestricted n c) := by
  unfold State.formRestricted
  repeat' first
    | with_reducible apply framedLines.refl
    | decide +kernel
    | with_reducible apply framedLines.after (lines_raiseFor _ _ _)
    | with_reducible apply framedLines.frame (touches_setRestricted _ _ _)
    | with_reducible apply framedLines.after (lines_withdraw _ _ _)
    | with_reducible apply framedLines.fold
    | with_reducible intro _
    | dsimp only
    | split

theorem lines_zoneMinute (s : State) (n : Nat) :
    KeepsLines s (s.zoneMinute n) := by
  unfold State.zoneMinute
  repeat' first
    | with_reducible apply framedLines.refl
    | decide +kernel
    | with_reducible apply framedLines.after (lines_formRestricted _ _ _)
    | with_reducible apply framedLines.fold
    | with_reducible intro _
    | dsimp only
    | split

theorem lines_minuteEvent (s : State) (n : Nat) :
    KeepsLines s (s.minuteEvent n) := by
  unfold State.minuteEvent
  repeat' first
    | with_reducible apply framedLines.refl
    | decide +kernel
    | with_reducible apply framedLines.after (lines_bookingMinute _ _)
    | with_reducible apply framedLines.after (lines_zoneMinute _ _)
    | with_reducible apply framedLines.fold
    | with_reducible intro _
    | dsimp only
    | split

theorem lines_moveTime (s : State) (t : Nat) :
    KeepsLines s (s.moveTime t) := by
  unfold State.moveTime
  repeat' first
    | with_reducible apply framedLines.refl
    | decide +kernel
    | with_reducible apply framedLines.after (lines_minuteEvent _ _)
    | with_reducible apply framedLines.frame (touches_withClock _ _)
    | with_reducible apply framedLines.fold
    | with_reducible intro _
    | dsimp only
    | split

theorem lines_endLift (s : State) (b : Booking) :
    KeepsLines s (s.endLift b) := by
  unfold State.endLift
  repeat' first
    | with_reducible apply framedLines.refl
    | decide +kernel
    | with_reducible apply framedLines.after (lines_arbitrate _)
    | with_reducible apply framedLines.frame (touches_freeLift _ _)
    | with_reducible apply framedLines.after (lines_reviewOffPath _ _)
    | with_reducible apply framedLines.frame (touches_setLastConf _ _ _)
    | with_reducible apply framedLines.after (lines_withdraw _ _ _)
    | with_reducible apply framedLines.fold
    | with_reducible intro _
    | dsimp only
    | split

theorem lines_endRunning (terminal : Nat) (q : Requester) (id : Nat) (s : State) :
    KeepsLines s (endRunning terminal q id s).1 := by
  unfold endRunning
  repeat' first
    | with_reducible apply framedLines.refl
    | decide +kernel
    | with_reducible apply framedLines.after (lines_endLift _ _)
    | with_reducible apply framedLines.fold
    | with_reducible intro _
    | dsimp only
    | split

theorem lines_finish (q : Requester) (id : Nat) (s : State) :
    KeepsLines s (finish q id s).1 := by
  unfold finish
  repeat' first
    | with_reducible apply framedLines.refl
    | decide +kernel
    | with_reducible apply framedLines.after (lines_endRunning _ _ _ _)
    | with_reducible apply framedLines.fold
    | with_reducible intro _
    | dsimp only
    | split

theorem lines_land (q : Requester) (id : Nat) (s : State) :
    KeepsLines s (land q id s).1 := by
  unfold land
  repeat' first
    | with_reducible apply framedLines.refl
    | decide +kernel
    | with_reducible apply framedLines.after (lines_endRunning _ _ _ _)
    | with_reducible apply framedLines.fold
    | with_reducible intro _
    | dsimp only
    | split

theorem lines_appendWait (s : State) (c : Crane) (x : Sector) :
    KeepsLines s (s.appendWait c x) := by
  unfold State.appendWait
  repeat' first
    | with_reducible apply framedLines.refl
    | decide +kernel
    | with_reducible apply framedLines.after (lines_reviewOffPath _ _)
    | with_reducible apply framedLines.frame (touches_withWaits _ _)
    | with_reducible apply framedLines.fold
    | with_reducible intro _
    | dsimp only
    | split

theorem lines_enterCell (s : State) (q : CellId) :
    KeepsLines s (s.enterCell q).1 := by
  unfold State.enterCell
  repeat' first
    | with_reducible apply framedLines.refl
    | decide +kernel
    | with_reducible apply framedLines.after (lines_appendWait _ _ _)
    | with_reducible apply framedLines.after (lines_convert _ _)
    | with_reducible apply framedLines.fold
    | with_reducible intro _
    | dsimp only
    | split

theorem lines_enterPassed (s : State) (q : CellId) :
    KeepsLines s (s.enterPassed q).1 := by
  unfold State.enterPassed
  repeat' first
    | with_reducible apply framedLines.refl
    | decide +kernel
    | with_reducible apply framedLines.after (lines_enterCell _ _)
    | with_reducible apply framedLines.after (lines_raiseFor _ _ _)
    | with_reducible apply framedLines.fold
    | with_reducible intro _
    | dsimp only
    | split

theorem lines_enterZone (c : Crane) (n : Nat) (s : State) :
    KeepsLines s (enterZone c n s).1 := by
  unfold enterZone
  repeat' first
    | with_reducible apply framedLines.refl
    | decide +kernel
    | with_reducible apply framedLines.after (lines_enterPassed _ _)
    | with_reducible apply framedLines.fold
    | with_reducible intro _
    | dsimp only
    | split

theorem lines_releaseZone (c : Crane) (n : Nat) (s : State) :
    KeepsLines s (releaseZone c n s).1 := by
  unfold releaseZone
  repeat' first
    | with_reducible apply framedLines.refl
    | decide +kernel
    | with_reducible apply framedLines.after (lines_convert _ _)
    | with_reducible apply framedLines.frame (touches_dropWait _ _ _)
    | with_reducible apply framedLines.after (lines_reviewOffPath _ _)
    | with_reducible apply framedLines.fold
    | with_reducible intro _
    | dsimp only
    | split

theorem lines_deliver (s : State) (c : Crane) (r : Report) (rejoining : Bool) (wasZero : Bool) :
    KeepsLines s (s.deliver c r rejoining wasZero) := by
  unfold State.deliver
  repeat' first
    | with_reducible apply framedLines.refl
    | decide +kernel
    | with_reducible apply framedLines.after (lines_liftStage _ _ _ _)
    | with_reducible apply framedLines.after (lines_loadDrop _ _)
    | with_reducible apply framedLines.after (lines_positionStage _ _ _)
    | with_reducible apply framedLines.frame (touches_removeReasonFrom _ _ _)
    | with_reducible apply framedLines.after (lines_securingStage _ _)
    | with_reducible apply framedLines.after (lines_windStage _ _ _)
    | with_reducible apply framedLines.fold
    | with_reducible intro _
    | dsimp only
    | split

theorem lines_acceptStatus (s : State) (c : Crane) (r : Report) :
    KeepsLines s (s.acceptStatus c r) := by
  unfold State.acceptStatus
  repeat' first
    | with_reducible apply framedLines.refl
    | decide +kernel
    | with_reducible apply framedLines.frame (touches_acknowledge _ _ _)
    | with_reducible apply framedLines.after (lines_deliver _ _ _ _ _)
    | with_reducible apply framedLines.after (lines_raiseFor _ _ _)
    | with_reducible apply framedLines.frame (touches_recordReport _ _ _ _)
    | with_reducible apply framedLines.after (lines_withdraw _ _ _)
    | with_reducible apply framedLines.fold
    | with_reducible intro _
    | dsimp only
    | split

theorem lines_acceptRejoin (s : State) (c : Crane) (r : Report) :
    KeepsLines s (s.acceptRejoin c r) := by
  unfold State.acceptRejoin
  repeat' first
    | with_reducible apply framedLines.refl
    | decide +kernel
    | with_reducible apply framedLines.frame (touches_acknowledge _ _ _)
    | with_reducible apply framedLines.after (lines_deliver _ _ _ _ _)
    | with_reducible apply framedLines.frame (touches_recordReport _ _ _ _)
    | with_reducible apply framedLines.after (lines_rejoinService _ _)
    | with_reducible apply framedLines.after (lines_withdraw _ _ _)
    | with_reducible apply framedLines.fold
    | with_reducible intro _
    | dsimp only
    | split

theorem lines_becomeLost (s : State) (c : Crane) :
    KeepsLines s (s.becomeLost c) := by
  unfold State.becomeLost
  repeat' first
    | with_reducible apply framedLines.refl
    | decide +kernel
    | with_reducible apply framedLines.frame (touches_addReasonTo _ _ _)
    | with_reducible apply framedLines.after (lines_denyCrane _ _ _)
    | with_reducible apply framedLines.after (lines_raiseFor _ _ _)
    | with_reducible apply framedLines.frame (touches_setCrane _ _ _)
    | with_reducible apply framedLines.frame (touches_setSvc _ _ _)
    | with_reducible apply framedLines.after (lines_windLost _ _)
    | with_reducible apply framedLines.fold
    | with_reducible intro _
    | dsimp only
    | split

theorem lines_runLinkRequest (c : Crane) (f : LinkFrame) (s : State) :
    KeepsLines s (runLinkRequest c f s).1 := by
  unfold runLinkRequest
  repeat' first
    | with_reducible apply framedLines.refl
    | decide +kernel
    | with_reducible apply framedLines.frame (touches_amend _ _ _ _)
    | with_reducible apply framedLines.frame (touches_cancel _ _ _)
    | with_reducible apply framedLines.frame (touches_confirm _ _ _)
    | with_reducible apply framedLines.after (lines_enterZone _ _ _)
    | with_reducible apply framedLines.after (lines_finish _ _ _)
    | with_reducible apply framedLines.after (lines_land _ _ _)
    | with_reducible apply framedLines.frame (touches_listRecords _ _ _ _ _)
    | with_reducible apply framedLines.frame (touches_propose _ _ _ _)
    | with_reducible apply framedLines.frame (touches_queryRecord _ _ _)
    | with_reducible apply framedLines.after (lines_releaseZone _ _ _)
    | with_reducible apply framedLines.frame (touches_resume _ _ _)
    | with_reducible apply framedLines.frame (touches_setLock _ _ _ _)
    | with_reducible apply framedLines.frame (touches_start _ _ _)
    | with_reducible apply framedLines.frame (touches_suspend _ _ _)
    | with_reducible apply framedLines.fold
    | with_reducible intro _
    | dsimp only
    | split

theorem lines_takeFrame (s : State) (c : Crane) (f : LinkFrame) :
    KeepsLines s (s.takeFrame c f) := by
  unfold State.takeFrame
  repeat' first
    | with_reducible apply framedLines.refl
    | decide +kernel
    | with_reducible apply framedLines.after (lines_acceptRejoin _ _ _)
    | with_reducible apply framedLines.after (lines_acceptStatus _ _ _)
    | with_reducible apply framedLines.frame (touches_acknowledge _ _ _)
    | with_reducible apply framedLines.frame (touches_answerLink _ _ _ _)
    | with_reducible apply framedLines.after (lines_runLinkRequest _ _ _)
    | with_reducible apply framedLines.fold
    | with_reducible intro _
    | dsimp only
    | split

theorem lines_badFrame (s : State) (c : Crane) :
    KeepsLines s (s.badFrame c) := by
  unfold State.badFrame
  repeat' first
    | with_reducible apply framedLines.refl
    | decide +kernel
    | with_reducible apply framedLines.after (lines_raiseFor _ _ _)
    | with_reducible apply framedLines.frame (touches_setLink _ _ _)
    | with_reducible apply framedLines.fold
    | with_reducible intro _
    | dsimp only
    | split

theorem lines_arrive (s : State) (c : Crane) (f : LinkFrame) :
    KeepsLines s (s.arrive c f) := by
  unfold State.arrive
  repeat' first
    | with_reducible apply framedLines.refl
    | decide +kernel
    | with_reducible apply framedLines.after (lines_badFrame _ _)
    | with_reducible apply framedLines.frame (touches_setLink _ _ _)
    | with_reducible apply framedLines.after (lines_takeFrame _ _ _)
    | with_reducible apply framedLines.after (lines_withdraw _ _ _)
    | with_reducible apply framedLines.fold
    | with_reducible intro _
    | dsimp only
    | split

theorem lines_frameSent (s : State) (c : Crane) :
    KeepsLines s (s.frameSent c) := by
  unfold State.frameSent
  repeat' first
    | with_reducible apply framedLines.refl
    | decide +kernel
    | with_reducible apply framedLines.frame (touches_setLink _ _ _)
    | with_reducible apply framedLines.after (lines_takeFrame _ _ _)
    | with_reducible apply framedLines.fold
    | with_reducible intro _
    | dsimp only
    | split

theorem lines_receiveByte (s : State) (c : Crane) (b : Byte) (stopGood : Bool) :
    KeepsLines s (s.receiveByte c b stopGood) := by
  unfold State.receiveByte
  repeat' first
    | with_reducible apply framedLines.refl
    | decide +kernel
    | with_reducible apply framedLines.after (lines_arrive _ _ _)
    | with_reducible apply framedLines.after (lines_badFrame _ _)
    | with_reducible apply framedLines.frame (touches_setLink _ _ _)
    | with_reducible apply framedLines.fold
    | with_reducible intro _
    | dsimp only
    | split

theorem lines_cutWrite (s : State) :
    KeepsLines s (s.cutWrite) := by
  unfold State.cutWrite
  split
  · exact lineLaw_of (fun _ => rfl) (fun _ => rfl) rfl rfl rfl
  · exact framedLines.refl s

theorem lines_raiseSiteStop (s : State) :
    KeepsLines s (s.raiseSiteStop) := by
  unfold State.raiseSiteStop
  repeat' first
    | with_reducible apply framedLines.refl
    | decide +kernel
    | with_reducible apply framedLines.after (lines_addStop _ _ _)
    | with_reducible apply framedLines.after (lines_raise _ _ _)
    | with_reducible apply framedLines.fold
    | with_reducible intro _
    | dsimp only
    | split

theorem lines_startRaisings (s : State) :
    KeepsLines s (s.startRaisings) := by
  unfold State.startRaisings
  repeat' first
    | with_reducible apply framedLines.refl
    | decide +kernel
    | with_reducible apply framedLines.after (lines_raise _ _ _)
    | with_reducible apply framedLines.after (lines_raiseSiteStop _)
    | with_reducible apply framedLines.fold
    | with_reducible intro _
    | dsimp only
    | split

theorem lines_passSecond (s : State) :
    KeepsLines s (s.passSecond) := by
  unfold State.passSecond
  repeat' first
    | with_reducible apply framedLines.refl
    | decide +kernel
    | with_reducible apply framedLines.after (lines_moveTime _ _)
    | with_reducible apply framedLines.frame (touches_withClock _ _)
    | with_reducible apply framedLines.fold
    | with_reducible intro _
    | dsimp only
    | split

theorem lines_endWrite (s : State) (good : Bool) :
    KeepsLines s (s.endWrite good) := by
  unfold State.endWrite
  split
  · exact framedLines.after (lines_withdrawSite _ _)
      (lineLaw_of (fun _ => rfl) (fun _ => rfl) rfl rfl rfl)
  · exact fun _ => lineLaw_evaluateLines _

theorem lines_expireClearing (s : State) (q : CellId) :
    KeepsLines s (s.expireClearing q) := by
  unfold State.expireClearing
  repeat' first
    | with_reducible apply framedLines.refl
    | decide +kernel
    | with_reducible apply framedLines.after (lines_convert _ _)
    | with_reducible apply framedLines.fold
    | with_reducible intro _
    | dsimp only
    | split

theorem lines_expireWait (s : State) (c : Crane) (x : Sector) :
    KeepsLines s (s.expireWait c x) := by
  unfold State.expireWait
  repeat' first
    | with_reducible apply framedLines.refl
    | decide +kernel
    | with_reducible apply framedLines.frame (touches_dropWait _ _ _)
    | with_reducible apply framedLines.frame (touches_notify _ _ _)
    | with_reducible apply framedLines.after (lines_reviewOffPath _ _)
    | with_reducible apply framedLines.fold
    | with_reducible intro _
    | dsimp only
    | split

theorem lines_completeDwell (s : State) (c : Crane) :
    KeepsLines s (s.completeDwell c) := by
  unfold State.completeDwell
  repeat' first
    | with_reducible apply framedLines.refl
    | decide +kernel
    | with_reducible apply framedLines.frame (touches_setWind _ _ _)
    | with_reducible apply framedLines.after (lines_windConditions _ _)
    | with_reducible apply framedLines.fold
    | with_reducible intro _
    | dsimp only
    | split

theorem lines_expireTimer (s : State) (c : Crane) :
    KeepsLines s (s.expireTimer c) := by
  unfold State.expireTimer
  repeat' first
    | with_reducible apply framedLines.refl
    | decide +kernel
    | with_reducible apply framedLines.after (lines_raiseFor _ _ _)
    | with_reducible apply framedLines.frame (touches_setSvc _ _ _)
    | with_reducible apply framedLines.fold
    | with_reducible intro _
    | dsimp only
    | split

theorem lines_turnSiren (s : State) :
    KeepsLines s (s.turnSiren) := by
  unfold State.turnSiren
  split
  · rename_i e he
    intro w
    have hd : s.running = true → s.sirenDue = true := by
      intro hr
      cases h : s.sirenDue with
      | true => rfl
      | false => have := (w.quiet hr h).2; rw [he] at this; cases this
    refine ⟨fun hr => w.alert hr, fun hr hs => ?_, fun hr hs hc => ?_, fun _ _ _ => rfl⟩
    · have : s.sirenDue = false := hs
      rw [hd hr] at this; cases this
    · have := (w.steady hr hs hc).2; rw [he] at this; cases this
  · exact framedLines.refl s

theorem lines_acceptTime (s : State) (t : Nat) :
    KeepsLines s (s.acceptTime t) := by
  unfold State.acceptTime
  repeat' first
    | with_reducible apply framedLines.refl
    | decide +kernel
    | with_reducible apply framedLines.after (lines_moveTime _ _)
    | with_reducible apply framedLines.frame (touches_withClock _ _)
    | with_reducible apply framedLines.fold
    | with_reducible intro _
    | dsimp only
    | split

theorem lines_setClock (t : Nat) (s : State) :
    KeepsLines s (setClock t s).1 := by
  unfold setClock
  repeat' first
    | with_reducible apply framedLines.refl
    | decide +kernel
    | with_reducible apply framedLines.after (lines_acceptTime _ _)
    | with_reducible apply framedLines.fold
    | with_reducible intro _
    | dsimp only
    | split

theorem lines_setStaging (s : State) (p : Plan) :
    KeepsLines s (s.setStaging p) := by
  exact lineLaw_of (fun _ => rfl) (fun _ => rfl) rfl rfl rfl

theorem lines_craneLeaves (s : State) (c : Crane) :
    KeepsLines s (s.craneLeaves c) := by
  unfold State.craneLeaves
  repeat' first
    | with_reducible apply framedLines.refl
    | decide +kernel
    | with_reducible apply framedLines.frame (touches_setCrane _ _ _)
    | with_reducible apply framedLines.frame (touches_setOccupied _ _ _)
    | with_reducible apply framedLines.frame (touches_setStops _ _ _)
    | with_reducible apply framedLines.frame (touches_setSvc _ _ _)
    | with_reducible apply framedLines.frame (touches_setWind _ _ _)
    | with_reducible apply framedLines.after (lines_withdraw _ _ _)
    | with_reducible apply framedLines.fold
    | with_reducible intro _
    | dsimp only
    | split

theorem lines_craneJoins (s : State) (c : Crane) :
    KeepsLines s (s.craneJoins c) := by
  unfold State.craneJoins
  repeat' first
    | with_reducible apply framedLines.refl
    | decide +kernel
    | with_reducible apply framedLines.after (lines_addStop _ _ _)
    | with_reducible apply framedLines.frame (touches_setCrane _ _ _)
    | with_reducible apply framedLines.frame (touches_setStops _ _ _)
    | with_reducible apply framedLines.frame (touches_setSvc _ _ _)
    | with_reducible apply framedLines.frame (touches_setWind _ _ _)
    | with_reducible apply framedLines.fold
    | with_reducible intro _
    | dsimp only
    | split

theorem lines_followPresence (old : Plan) (s : State) (c : Crane) :
    KeepsLines s (s.followPresence old c) := by
  unfold State.followPresence
  repeat' first
    | with_reducible apply framedLines.refl
    | decide +kernel
    | with_reducible apply framedLines.after (lines_craneJoins _ _)
    | with_reducible apply framedLines.after (lines_craneLeaves _ _)
    | with_reducible apply framedLines.fold
    | with_reducible intro _
    | dsimp only
    | split

theorem lines_handModeStops (s : State) :
    KeepsLines s (s.handModeStops) := by
  unfold State.handModeStops
  repeat' first
    | with_reducible apply framedLines.refl
    | decide +kernel
    | with_reducible apply framedLines.after (lines_stopAction _ _ _)
    | with_reducible apply framedLines.fold
    | with_reducible intro _
    | dsimp only
    | split

theorem lines_beginWrite (s : State) :
    KeepsLines s (s.beginWrite) := by
  exact lineLaw_of (fun _ => rfl) (fun _ => rfl) rfl rfl rfl

theorem lines_discardPlan (s : State) :
    KeepsLines s (discardPlan s).1 := by
  unfold discardPlan
  repeat' first
    | with_reducible apply framedLines.refl
    | decide +kernel
    | with_reducible apply framedLines.after (lines_setStaging _ _)
    | with_reducible apply framedLines.fold
    | with_reducible intro _
    | dsimp only
    | split

theorem lines_openFromSetup (s : State) :
    KeepsLines s (s.openFromSetup) := by
  unfold State.openFromSetup
  repeat' first
    | with_reducible apply framedLines.refl
    | decide +kernel
    | with_reducible apply framedLines.after (lines_convert _ _)
    | with_reducible apply framedLines.frame (touches_startService _ _)
    | with_reducible apply framedLines.frame (touches_withSite _ _)
    | with_reducible apply framedLines.after (lines_withdrawSite _ _)
    | with_reducible apply framedLines.fold
    | with_reducible intro _
    | dsimp only
    | split

theorem lines_returnCrane (s : State) (c : Crane) :
    KeepsLines s (s.returnCrane c) := by
  unfold State.returnCrane
  repeat' first
    | with_reducible apply framedLines.refl
    | decide +kernel
    | with_reducible apply framedLines.after (lines_toService _ _)
    | with_reducible apply framedLines.fold
    | with_reducible intro _
    | dsimp only
    | split

theorem lines_convertCrane (s : State) (c : Crane) :
    KeepsLines s (s.convertCrane c) := by
  unfold State.convertCrane
  repeat' first
    | with_reducible apply framedLines.refl
    | decide +kernel
    | with_reducible apply framedLines.after (lines_resumeCrane _ _)
    | with_reducible apply framedLines.fold
    | with_reducible intro _
    | dsimp only
    | split

theorem lines_bringBack (s : State) :
    KeepsLines s (s.bringBack) := by
  unfold State.bringBack
  repeat' first
    | with_reducible apply framedLines.refl
    | decide +kernel
    | with_reducible apply framedLines.after (lines_convertCrane _ _)
    | with_reducible apply framedLines.after (lines_returnCrane _ _)
    | with_reducible apply framedLines.fold
    | with_reducible intro _
    | dsimp only
    | split

theorem lines_resumeFromStorm (s : State) :
    KeepsLines s (s.resumeFromStorm) := by
  unfold State.resumeFromStorm
  repeat' first
    | with_reducible apply framedLines.refl
    | decide +kernel
    | with_reducible apply framedLines.after (lines_bringBack _)
    | with_reducible apply framedLines.frame (touches_removeReasonAll _ _)
    | with_reducible apply framedLines.frame (touches_withSite _ _)
    | with_reducible apply framedLines.after (lines_withdrawSite _ _)
    | with_reducible apply framedLines.fold
    | with_reducible intro _
    | dsimp only
    | split

theorem lines_reopen (s : State) :
    KeepsLines s (s.reopen) := by
  unfold State.reopen
  repeat' first
    | with_reducible apply framedLines.refl
    | decide +kernel
    | with_reducible apply framedLines.after (lines_bringBack _)
    | with_reducible apply framedLines.frame (touches_withSite _ _)
    | with_reducible apply framedLines.after (lines_withdrawSite _ _)
    | with_reducible apply framedLines.fold
    | with_reducible intro _
    | dsimp only
    | split

theorem lines_openTheSite (s : State) :
    KeepsLines s (openTheSite s).1 := by
  unfold openTheSite
  repeat' first
    | with_reducible apply framedLines.refl
    | decide +kernel
    | with_reducible apply framedLines.after (lines_openFromSetup _)
    | with_reducible apply framedLines.after (lines_reopen _)
    | with_reducible apply framedLines.fold
    | with_reducible intro _
    | dsimp only
    | split

theorem lines_close (s : State) :
    KeepsLines s (s.close) := by
  unfold State.close
  repeat' first
    | with_reducible apply framedLines.refl
    | decide +kernel
    | with_reducible apply framedLines.after (lines_denyWaits _ _ _)
    | with_reducible apply framedLines.after (lines_enterSecuringAll _)
    | with_reducible apply framedLines.frame (touches_withSite _ _)
    | with_reducible apply framedLines.fold
    | with_reducible intro _
    | dsimp only
    | split

theorem lines_closeTheSite (s : State) :
    KeepsLines s (closeTheSite s).1 := by
  unfold closeTheSite
  repeat' first
    | with_reducible apply framedLines.refl
    | decide +kernel
    | with_reducible apply framedLines.after (lines_close _)
    | with_reducible apply framedLines.fold
    | with_reducible intro _
    | dsimp only
    | split

theorem lines_resumeTheSite (s : State) :
    KeepsLines s (resumeTheSite s).1 := by
  unfold resumeTheSite
  repeat' first
    | with_reducible apply framedLines.refl
    | decide +kernel
    | with_reducible apply framedLines.after (lines_resumeFromStorm _)
    | with_reducible apply framedLines.fold
    | with_reducible intro _
    | dsimp only
    | split

theorem lines_setupReset (s : State) :
    KeepsLines s (s.setupReset) := by
  unfold State.setupReset
  repeat' first
    | with_reducible apply framedLines.refl
    | decide +kernel
    | with_reducible apply framedLines.after (lines_follow _ _)
    | with_reducible apply framedLines.frame (touches_freeAllCells _)
    | with_reducible apply framedLines.frame (touches_withRestricted _ _)
    | with_reducible apply framedLines.after (lines_withdraw _ _ _)
    | with_reducible apply framedLines.fold
    | with_reducible intro _
    | dsimp only
    | split

theorem lines_toSetup (s : State) :
    KeepsLines s (s.toSetup) := by
  unfold State.toSetup
  repeat' first
    | with_reducible apply framedLines.refl
    | decide +kernel
    | with_reducible apply framedLines.frame (touches_cancelAll _)
    | with_reducible apply framedLines.after (lines_denyWaits _ _ _)
    | with_reducible apply framedLines.after (lines_setupReset _)
    | with_reducible apply framedLines.frame (touches_toStandby _ _)
    | with_reducible apply framedLines.frame (touches_withSite _ _)
    | with_reducible apply framedLines.fold
    | with_reducible intro _
    | dsimp only
    | split

theorem lines_returnSiteToSetup (s : State) :
    KeepsLines s (returnSiteToSetup s).1 := by
  unfold returnSiteToSetup
  repeat' first
    | with_reducible apply framedLines.refl
    | decide +kernel
    | with_reducible apply framedLines.after (lines_toSetup _)
    | with_reducible apply framedLines.fold
    | with_reducible intro _
    | dsimp only
    | split

theorem lines_forceClear (s : State) (c : Crane) (named : List Sector) :
    KeepsLines s (s.forceClear c named) := by
  unfold State.forceClear
  repeat' first
    | with_reducible apply framedLines.refl
    | decide +kernel
    | with_reducible apply framedLines.after (lines_convert _ _)
    | with_reducible apply framedLines.frame (touches_forceService _ _ _)
    | with_reducible apply framedLines.fold
    | with_reducible intro _
    | dsimp only
    | split

theorem lines_forceCells (crane : Nat) (sectors : Nat) (s : State) :
    KeepsLines s (forceCells crane sectors s).1 := by
  unfold forceCells
  repeat' first
    | with_reducible apply framedLines.refl
    | decide +kernel
    | with_reducible apply framedLines.after (lines_forceClear _ _ _)
    | with_reducible apply framedLines.fold
    | with_reducible intro _
    | dsimp only
    | split

theorem lines_stopTheCrane (crane : Nat) (s : State) :
    KeepsLines s (stopTheCrane crane s).1 := by
  unfold stopTheCrane
  repeat' first
    | with_reducible apply framedLines.refl
    | decide +kernel
    | with_reducible apply framedLines.after (lines_addStop _ _ _)
    | with_reducible apply framedLines.fold
    | with_reducible intro _
    | dsimp only
    | split

theorem lines_clearKinds (s : State) (ks : List AlertKind) :
    KeepsLines s (s.clearKinds ks) := by
  exact fun _ => lineLaw_evaluateLines _

theorem lines_clearTheAlerts (kinds : List Nat) (s : State) :
    KeepsLines s (clearTheAlerts kinds s).1 := by
  unfold clearTheAlerts
  repeat' first
    | with_reducible apply framedLines.refl
    | decide +kernel
    | with_reducible apply framedLines.after (lines_clearKinds _ _)
    | with_reducible apply framedLines.fold
    | with_reducible intro _
    | dsimp only
    | split

end Sys2Proof.Machine
end

