-- ==== Sys2Proof/Laws/KeepsLost.lean ====
section
/-!
SUPPORT. Every operation but LOST, REJOIN, a commit and the power-on keeps the LOST marks (R114).
-/
set_option Elab.async false
namespace Sys2Proof.Machine

/-- The LOST marks of the service records stay as they are. -/
def KeepsLost (s t : State) : Prop := ∀ c, (t.svc c).lost = (s.svc c).lost

theorem framedLost : Framed KeepsLost [.service] where
  trans h k := fun a => (k a).trans (h a)
  same h := fun a => by
    have hc := h .service (by decide)
    simp only [Same] at hc
    simp only [State.svc, hc]

theorem svc_setSvc (s : State) (c d : Crane) (r : ServiceRec) :
    (s.setSvc c r).svc d = if c = d then r else s.svc d := by
  unfold State.svc State.setSvc State.withService
  exact tget_tput _ _ _ _

theorem lost_setSvc {s : State} {c : Crane} {r : ServiceRec} (h : r.lost = (s.svc c).lost) :
    KeepsLost s (s.setSvc c r) := by
  intro d
  rw [svc_setSvc]
  split
  · rename_i hd; rw [← hd]; exact h
  · rfl


theorem lost_toService (s : State) (c : Crane) :
    KeepsLost s (s.toService c) := by
  unfold State.toService
  repeat' first
    | with_reducible apply framedLost.refl
    | decide +kernel
    | rfl
    | with_reducible apply framedLost.after (lost_setSvc _)
    | with_reducible apply framedLost.frame (touches_withdraw _ _ _)
    | with_reducible apply framedLost.fold
    | with_reducible intro _
    | dsimp only
    | split

theorem lost_outOfService (s : State) (c : Crane) (o : Order) (withheld : Bool) :
    KeepsLost s (s.outOfService c o withheld) := by
  unfold State.outOfService
  repeat' first
    | with_reducible apply framedLost.refl
    | decide +kernel
    | rfl
    | with_reducible apply framedLost.after (lost_setSvc _)
    | with_reducible apply framedLost.frame (touches_withdraw _ _ _)
    | with_reducible apply framedLost.frame (touches_denyCrane _ _ _)
    | with_reducible apply framedLost.fold
    | with_reducible intro _
    | dsimp only
    | split

theorem lost_resumeChange (s : State) (c : Crane) :
    KeepsLost s (s.resumeChange c) := by
  unfold State.resumeChange
  repeat' first
    | with_reducible apply framedLost.refl
    | decide +kernel
    | with_reducible apply framedLost.frame (touches_changeCells _ _)
    | with_reducible apply framedLost.after (lost_outOfService _ _ _ _)
    | with_reducible apply framedLost.after (lost_toService _ _)
    | with_reducible apply framedLost.fold
    | with_reducible intro _
    | dsimp only
    | split

theorem lost_retryOne {recheck : State → State} (h : ∀ s, KeepsLost s (recheck s)) (p : State × Bool) (c : Crane) :
    KeepsLost p.1 (retryOne recheck p c).1 := by
  unfold retryOne followThree
  split
  · dsimp only
    split
    · exact framedLost.after (h _) ((framedLost).frame (touches_ownAndSeized _ _) (by decide +kernel) ((framedLost).after (lost_resumeChange _ _) (framedLost.refl _)))
    · exact ((framedLost).frame (touches_ownAndSeized _ _) (by decide +kernel) ((framedLost).after (lost_resumeChange _ _) (framedLost.refl _)))
  · exact framedLost.refl _

theorem lost_retryPass {recheck : State → State} (h : ∀ s, KeepsLost s (recheck s)) (s : State) :
    KeepsLost s (retryPass recheck s).1 := by
  suffices H : ∀ (l : List Crane) (p : State × Bool), KeepsLost s p.1 → KeepsLost s (l.foldl (retryOne recheck) p).1 from
    H _ _ (framedLost.refl _)
  intro l
  induction l with
  | nil => exact fun _ hp => hp
  | cons c l ih => exact fun p hp => ih _ (framedLost.trans hp (lost_retryOne h p c))

theorem lost_arbitrateLoop {retry : State → State × Bool} (h : ∀ s, KeepsLost s (retry s).1) (n : Nat) (s : State) :
    KeepsLost s (arbitrateLoop retry n s) := by
  induction n generalizing s with
  | zero => exact framedLost.refl _
  | succ n ih =>
    have h1 : KeepsLost s (retry s.walk).1 := framedLost.after (h _) ((framedLost).frame (touches_walk _) (by decide +kernel) (framedLost.refl _))
    unfold arbitrateLoop
    dsimp only
    split
    · exact framedLost.trans h1 (ih _)
    · exact h1

theorem lost_arbitrateWith {recheck : State → State} (h : ∀ s, KeepsLost s (recheck s)) (s : State) :
    KeepsLost s (arbitrateWith recheck s) := lost_arbitrateLoop (lost_retryPass h) _ _

theorem lost_followThree {recheck : State → State} (h : ∀ s, KeepsLost s (recheck s)) (chg : List Change) (s : State) :
    KeepsLost s (followThree recheck chg s) := by
  unfold followThree
  dsimp only
  split
  · exact framedLost.after (h _) ((framedLost).frame (touches_ownAndSeized _ _) (by decide +kernel) (framedLost.refl _))
  · exact ((framedLost).frame (touches_ownAndSeized _ _) (by decide +kernel) (framedLost.refl _))

theorem lost_followWith {recheck : State → State} (h : ∀ s, KeepsLost s (recheck s)) (chg : List Change) (s : State) :
    KeepsLost s (followWith recheck chg s) := by
  unfold followWith
  dsimp only
  split
  · exact framedLost.after (lost_arbitrateWith h _) (lost_followThree h _ _)
  · exact lost_followThree h _ _

theorem lost_releaseVaneWith {recheck : State → State} (h : ∀ s, KeepsLost s (recheck s)) (s : State) (c : Crane) :
    KeepsLost s (releaseVaneWith recheck s c) :=
  framedLost.after (lost_followWith h _ _) ((framedLost).after (lost_outOfService _ _ _ _) ((framedLost).frame (touches_changeCells _ _) (by decide +kernel) (framedLost.refl _)))

theorem lost_recheckN (n : Nat) (s : State) : KeepsLost s (recheckN n s) := by
  induction n generalizing s with
  | zero => exact framedLost.refl _
  | succ n ih =>
    refine framedLost.fold (framedLost.refl s) _ _ (fun u c => ?_)
    unfold recheckOne
    split
    · exact lost_releaseVaneWith ih u c
    · exact framedLost.refl _

theorem lost_recheckVane (s : State) : KeepsLost s s.recheckVane := lost_recheckN 8 s

theorem lost_arbitrate (s : State) : KeepsLost s s.arbitrate := lost_arbitrateWith lost_recheckVane s

theorem lost_follow (s : State) (chg : List Change) : KeepsLost s (s.follow chg) := lost_followWith lost_recheckVane chg s

theorem lost_testVane (s : State) (c : Crane) : KeepsLost s (s.testVane c) := by
  unfold State.testVane
  split
  · exact lost_releaseVaneWith lost_recheckVane s c
  · exact framedLost.refl _

theorem lost_convert (s : State) (rs : List CellReq) :
    KeepsLost s (s.convert rs) := by
  unfold State.convert
  repeat' first
    | with_reducible apply framedLost.refl
    | decide +kernel
    | with_reducible apply framedLost.frame (touches_changeCells _ _)
    | with_reducible apply framedLost.after (lost_follow _ _)
    | with_reducible apply framedLost.fold
    | with_reducible intro _
    | dsimp only
    | split

theorem lost_resumeCrane (s : State) (c : Crane) :
    KeepsLost s (s.resumeCrane c) := by
  unfold State.resumeCrane
  repeat' first
    | with_reducible apply framedLost.refl
    | decide +kernel
    | with_reducible apply framedLost.after (lost_follow _ _)
    | with_reducible apply framedLost.after (lost_resumeChange _ _)
    | with_reducible apply framedLost.fold
    | with_reducible intro _
    | dsimp only
    | split

theorem lost_holdCell (s : State) (q : CellId) (o : OriginRule) :
    KeepsLost s (s.holdCell q o) := by
  unfold State.holdCell
  repeat' first
    | with_reducible apply framedLost.refl
    | decide +kernel
    | with_reducible apply framedLost.frame (touches_changeCells _ _)
    | with_reducible apply framedLost.frame (touches_dropWait _ _ _)
    | with_reducible apply framedLost.after (lost_follow _ _)
    | with_reducible apply framedLost.frame (touches_notify _ _ _)
    | with_reducible apply framedLost.fold
    | with_reducible intro _
    | dsimp only
    | split

theorem lost_toSecuring (s : State) (c : Crane) :
    KeepsLost s (s.toSecuring c) := by
  unfold State.toSecuring
  repeat' first
    | with_reducible apply framedLost.refl
    | decide +kernel
    | rfl
    | with_reducible apply framedLost.after (lost_setSvc _)
    | with_reducible apply framedLost.fold
    | with_reducible intro _
    | dsimp only
    | split

theorem lost_withheldToVaneWait (s : State) (c : Crane) :
    KeepsLost s (s.withheldToVaneWait c) := by
  unfold State.withheldToVaneWait
  repeat' first
    | with_reducible apply framedLost.refl
    | decide +kernel
    | rfl
    | with_reducible apply framedLost.after (lost_setSvc _)
    | with_reducible apply framedLost.frame (touches_denyCrane _ _ _)
    | with_reducible apply framedLost.fold
    | with_reducible intro _
    | dsimp only
    | split

theorem lost_enterSecuring (s : State) (c : Crane) :
    KeepsLost s (s.enterSecuring c) := by
  unfold State.enterSecuring
  repeat' first
    | with_reducible apply framedLost.refl
    | decide +kernel
    | rfl
    | with_reducible apply framedLost.after (lost_setSvc _)
    | with_reducible apply framedLost.after (lost_toSecuring _ _)
    | with_reducible apply framedLost.after (lost_testVane _ _)
    | with_reducible apply framedLost.after (lost_withheldToVaneWait _ _)
    | with_reducible apply framedLost.fold
    | with_reducible intro _
    | dsimp only
    | split

theorem lost_enterSecuringAll (s : State) :
    KeepsLost s (s.enterSecuringAll) := by
  unfold State.enterSecuringAll
  repeat' first
    | with_reducible apply framedLost.refl
    | decide +kernel
    | with_reducible apply framedLost.after (lost_enterSecuring _ _)
    | with_reducible apply framedLost.fold
    | with_reducible intro _
    | dsimp only
    | split

theorem lost_enterStorm (s : State) (c : Crane) :
    KeepsLost s (s.enterStorm c) := by
  unfold State.enterStorm
  repeat' first
    | with_reducible apply framedLost.refl
    | decide +kernel
    | with_reducible apply framedLost.frame (touches_addReasonAll _ _)
    | with_reducible apply framedLost.after (lost_enterSecuringAll _)
    | with_reducible apply framedLost.frame (touches_raiseFor _ _ _)
    | with_reducible apply framedLost.frame (touches_withSite _ _)
    | with_reducible apply framedLost.fold
    | with_reducible intro _
    | dsimp only
    | split

theorem lost_reportStorm (s : State) (c : Crane) :
    KeepsLost s (s.reportStorm c) := by
  unfold State.reportStorm
  repeat' first
    | with_reducible apply framedLost.refl
    | decide +kernel
    | with_reducible apply framedLost.after (lost_enterStorm _ _)
    | with_reducible apply framedLost.frame (touches_raiseFor _ _ _)
    | with_reducible apply framedLost.fold
    | with_reducible intro _
    | dsimp only
    | split

theorem lost_parkCrane (s : State) (c : Crane) :
    KeepsLost s (s.parkCrane c) := by
  unfold State.parkCrane
  repeat' first
    | with_reducible apply framedLost.refl
    | decide +kernel
    | rfl
    | with_reducible apply framedLost.after (lost_setSvc _)
    | with_reducible apply framedLost.after (lost_convert _ _)
    | with_reducible apply framedLost.frame (touches_withdraw _ _ _)
    | with_reducible apply framedLost.frame (touches_denyCrane _ _ _)
    | with_reducible apply framedLost.fold
    | with_reducible intro _
    | dsimp only
    | split

theorem lost_toVaneWait (s : State) (c : Crane) :
    KeepsLost s (s.toVaneWait c) := by
  unfold State.toVaneWait
  repeat' first
    | with_reducible apply framedLost.refl
    | decide +kernel
    | rfl
    | with_reducible apply framedLost.after (lost_setSvc _)
    | with_reducible apply framedLost.after (lost_testVane _ _)
    | with_reducible apply framedLost.frame (touches_denyCrane _ _ _)
    | with_reducible apply framedLost.fold
    | with_reducible intro _
    | dsimp only
    | split

theorem lost_securingStage (s : State) (c : Crane) :
    KeepsLost s (s.securingStage c) := by
  unfold State.securingStage
  repeat' first
    | with_reducible apply framedLost.refl
    | decide +kernel
    | rfl
    | with_reducible apply framedLost.after (lost_setSvc _)
    | with_reducible apply framedLost.after (lost_parkCrane _ _)
    | with_reducible apply framedLost.after (lost_toVaneWait _ _)
    | with_reducible apply framedLost.fold
    | with_reducible intro _
    | dsimp only
    | split

theorem lost_windStage (s : State) (c : Crane) (wind : Option Nat) :
    KeepsLost s (s.windStage c wind) := by
  unfold State.windStage
  repeat' first
    | with_reducible apply framedLost.refl
    | decide +kernel
    | with_reducible apply framedLost.frame (touches_handVerdict _ _)
    | with_reducible apply framedLost.after (lost_reportStorm _ _)
    | with_reducible apply framedLost.frame (touches_setWind _ _ _)
    | with_reducible apply framedLost.frame (touches_windConditions _ _)
    | with_reducible apply framedLost.fold
    | with_reducible intro _
    | dsimp only
    | split

theorem lost_seize (s : State) (q : CellId) :
    KeepsLost s (s.seize q) := by
  unfold State.seize
  repeat' first
    | with_reducible apply framedLost.refl
    | decide +kernel
    | with_reducible apply framedLost.after (lost_convert _ _)
    | with_reducible apply framedLost.frame (touches_intrude _ _)
    | with_reducible apply framedLost.fold
    | with_reducible intro _
    | dsimp only
    | split

theorem lost_checkOccupied (s : State) (q : CellId) :
    KeepsLost s (s.checkOccupied q) := by
  unfold State.checkOccupied
  repeat' first
    | with_reducible apply framedLost.refl
    | decide +kernel
    | with_reducible apply framedLost.after (lost_holdCell _ _ _)
    | with_reducible apply framedLost.after (lost_seize _ _)
    | with_reducible apply framedLost.fold
    | with_reducible intro _
    | dsimp only
    | split

theorem lost_checkLeft (s : State) (q : CellId) :
    KeepsLost s (s.checkLeft q) := by
  unfold State.checkLeft
  repeat' first
    | with_reducible apply framedLost.refl
    | decide +kernel
    | with_reducible apply framedLost.after (lost_convert _ _)
    | with_reducible apply framedLost.fold
    | with_reducible intro _
    | dsimp only
    | split

theorem lost_checkPosition (s : State) (c : Crane) :
    KeepsLost s (s.checkPosition c) := by
  unfold State.checkPosition
  repeat' first
    | with_reducible apply framedLost.refl
    | decide +kernel
    | with_reducible apply framedLost.after (lost_checkLeft _ _)
    | with_reducible apply framedLost.after (lost_checkOccupied _ _)
    | with_reducible apply framedLost.fold
    | with_reducible intro _
    | dsimp only
    | split

theorem lost_positionStage (s : State) (c : Crane) (angle : Nat) :
    KeepsLost s (s.positionStage c angle) := by
  unfold State.positionStage
  repeat' first
    | with_reducible apply framedLost.refl
    | decide +kernel
    | with_reducible apply framedLost.after (lost_checkPosition _ _)
    | with_reducible apply framedLost.frame (touches_setOccupied _ _ _)
    | with_reducible apply framedLost.fold
    | with_reducible intro _
    | dsimp only
    | split

theorem lost_loadDrop (s : State) (c : Crane) :
    KeepsLost s (s.loadDrop c) := by
  unfold State.loadDrop
  repeat' first
    | with_reducible apply framedLost.refl
    | decide +kernel
    | with_reducible apply framedLost.after (lost_arbitrate _)
    | with_reducible apply framedLost.frame (touches_setRestricted _ _ _)
    | with_reducible apply framedLost.frame (touches_withdraw _ _ _)
    | with_reducible apply framedLost.fold
    | with_reducible intro _
    | dsimp only
    | split

theorem lost_endLift (s : State) (b : Booking) :
    KeepsLost s (s.endLift b) := by
  unfold State.endLift
  repeat' first
    | with_reducible apply framedLost.refl
    | decide +kernel
    | with_reducible apply framedLost.after (lost_arbitrate _)
    | with_reducible apply framedLost.frame (touches_freeLift _ _)
    | with_reducible apply framedLost.frame (touches_reviewOffPath _ _)
    | with_reducible apply framedLost.frame (touches_setLastConf _ _ _)
    | with_reducible apply framedLost.frame (touches_withdraw _ _ _)
    | with_reducible apply framedLost.fold
    | with_reducible intro _
    | dsimp only
    | split

theorem lost_endRunning (terminal : Nat) (q : Requester) (id : Nat) (s : State) :
    KeepsLost s (endRunning terminal q id s).1 := by
  unfold endRunning
  repeat' first
    | with_reducible apply framedLost.refl
    | decide +kernel
    | with_reducible apply framedLost.after (lost_endLift _ _)
    | with_reducible apply framedLost.fold
    | with_reducible intro _
    | dsimp only
    | split

theorem lost_finish (q : Requester) (id : Nat) (s : State) :
    KeepsLost s (finish q id s).1 := by
  unfold finish
  repeat' first
    | with_reducible apply framedLost.refl
    | decide +kernel
    | with_reducible apply framedLost.after (lost_endRunning _ _ _ _)
    | with_reducible apply framedLost.fold
    | with_reducible intro _
    | dsimp only
    | split

theorem lost_land (q : Requester) (id : Nat) (s : State) :
    KeepsLost s (land q id s).1 := by
  unfold land
  repeat' first
    | with_reducible apply framedLost.refl
    | decide +kernel
    | with_reducible apply framedLost.after (lost_endRunning _ _ _ _)
    | with_reducible apply framedLost.fold
    | with_reducible intro _
    | dsimp only
    | split

theorem lost_enterCell (s : State) (q : CellId) :
    KeepsLost s (s.enterCell q).1 := by
  unfold State.enterCell
  repeat' first
    | with_reducible apply framedLost.refl
    | decide +kernel
    | with_reducible apply framedLost.frame (touches_appendWait _ _ _)
    | with_reducible apply framedLost.after (lost_convert _ _)
    | with_reducible apply framedLost.fold
    | with_reducible intro _
    | dsimp only
    | split

theorem lost_enterPassed (s : State) (q : CellId) :
    KeepsLost s (s.enterPassed q).1 := by
  unfold State.enterPassed
  repeat' first
    | with_reducible apply framedLost.refl
    | decide +kernel
    | with_reducible apply framedLost.after (lost_enterCell _ _)
    | with_reducible apply framedLost.frame (touches_raiseFor _ _ _)
    | with_reducible apply framedLost.fold
    | with_reducible intro _
    | dsimp only
    | split

theorem lost_enterZone (c : Crane) (n : Nat) (s : State) :
    KeepsLost s (enterZone c n s).1 := by
  unfold enterZone
  repeat' first
    | with_reducible apply framedLost.refl
    | decide +kernel
    | with_reducible apply framedLost.after (lost_enterPassed _ _)
    | with_reducible apply framedLost.fold
    | with_reducible intro _
    | dsimp only
    | split

theorem lost_releaseZone (c : Crane) (n : Nat) (s : State) :
    KeepsLost s (releaseZone c n s).1 := by
  unfold releaseZone
  repeat' first
    | with_reducible apply framedLost.refl
    | decide +kernel
    | with_reducible apply framedLost.after (lost_convert _ _)
    | with_reducible apply framedLost.frame (touches_dropWait _ _ _)
    | with_reducible apply framedLost.frame (touches_reviewOffPath _ _)
    | with_reducible apply framedLost.fold
    | with_reducible intro _
    | dsimp only
    | split

theorem lost_deliver (s : State) (c : Crane) (r : Report) (rejoining : Bool) (wasZero : Bool) :
    KeepsLost s (s.deliver c r rejoining wasZero) := by
  unfold State.deliver
  repeat' first
    | with_reducible apply framedLost.refl
    | decide +kernel
    | with_reducible apply framedLost.frame (touches_liftStage _ _ _ _)
    | with_reducible apply framedLost.after (lost_loadDrop _ _)
    | with_reducible apply framedLost.after (lost_positionStage _ _ _)
    | with_reducible apply framedLost.frame (touches_removeReasonFrom _ _ _)
    | with_reducible apply framedLost.after (lost_securingStage _ _)
    | with_reducible apply framedLost.after (lost_windStage _ _ _)
    | with_reducible apply framedLost.fold
    | with_reducible intro _
    | dsimp only
    | split

theorem lost_acceptStatus (s : State) (c : Crane) (r : Report) :
    KeepsLost s (s.acceptStatus c r) := by
  unfold State.acceptStatus
  repeat' first
    | with_reducible apply framedLost.refl
    | decide +kernel
    | with_reducible apply framedLost.frame (touches_acknowledge _ _ _)
    | with_reducible apply framedLost.after (lost_deliver _ _ _ _ _)
    | with_reducible apply framedLost.frame (touches_raiseFor _ _ _)
    | with_reducible apply framedLost.frame (touches_recordReport _ _ _ _)
    | with_reducible apply framedLost.frame (touches_withdraw _ _ _)
    | with_reducible apply framedLost.fold
    | with_reducible intro _
    | dsimp only
    | split

theorem lost_runLinkRequest (c : Crane) (f : LinkFrame) (s : State) :
    KeepsLost s (runLinkRequest c f s).1 := by
  unfold runLinkRequest
  repeat' first
    | with_reducible apply framedLost.refl
    | decide +kernel
    | with_reducible apply framedLost.frame (touches_amend _ _ _ _)
    | with_reducible apply framedLost.frame (touches_cancel _ _ _)
    | with_reducible apply framedLost.frame (touches_confirm _ _ _)
    | with_reducible apply framedLost.after (lost_enterZone _ _ _)
    | with_reducible apply framedLost.after (lost_finish _ _ _)
    | with_reducible apply framedLost.after (lost_land _ _ _)
    | with_reducible apply framedLost.frame (touches_listRecords _ _ _ _ _)
    | with_reducible apply framedLost.frame (touches_propose _ _ _ _)
    | with_reducible apply framedLost.frame (touches_queryRecord _ _ _)
    | with_reducible apply framedLost.after (lost_releaseZone _ _ _)
    | with_reducible apply framedLost.frame (touches_resume _ _ _)
    | with_reducible apply framedLost.frame (touches_setLock _ _ _ _)
    | with_reducible apply framedLost.frame (touches_start _ _ _)
    | with_reducible apply framedLost.frame (touches_suspend _ _ _)
    | with_reducible apply framedLost.fold
    | with_reducible intro _
    | dsimp only
    | split

theorem lost_expireClearing (s : State) (q : CellId) :
    KeepsLost s (s.expireClearing q) := by
  unfold State.expireClearing
  repeat' first
    | with_reducible apply framedLost.refl
    | decide +kernel
    | with_reducible apply framedLost.after (lost_convert _ _)
    | with_reducible apply framedLost.fold
    | with_reducible intro _
    | dsimp only
    | split

theorem lost_expireTimer (s : State) (c : Crane) :
    KeepsLost s (s.expireTimer c) := by
  unfold State.expireTimer
  repeat' first
    | with_reducible apply framedLost.refl
    | decide +kernel
    | rfl
    | with_reducible apply framedLost.after (lost_setSvc _)
    | with_reducible apply framedLost.frame (touches_raiseFor _ _ _)
    | with_reducible apply framedLost.fold
    | with_reducible intro _
    | dsimp only
    | split

theorem lost_startService (s : State) (c : Crane) :
    KeepsLost s (s.startService c) := by
  unfold State.startService
  repeat' first
    | with_reducible apply framedLost.refl
    | decide +kernel
    | rfl
    | with_reducible apply framedLost.after (lost_setSvc _)
    | with_reducible apply framedLost.fold
    | with_reducible intro _
    | dsimp only
    | split

theorem lost_openFromSetup (s : State) :
    KeepsLost s (s.openFromSetup) := by
  unfold State.openFromSetup
  repeat' first
    | with_reducible apply framedLost.refl
    | decide +kernel
    | with_reducible apply framedLost.after (lost_convert _ _)
    | with_reducible apply framedLost.after (lost_startService _ _)
    | with_reducible apply framedLost.frame (touches_withSite _ _)
    | with_reducible apply framedLost.frame (touches_withdrawSite _ _)
    | with_reducible apply framedLost.fold
    | with_reducible intro _
    | dsimp only
    | split

theorem lost_returnCrane (s : State) (c : Crane) :
    KeepsLost s (s.returnCrane c) := by
  unfold State.returnCrane
  repeat' first
    | with_reducible apply framedLost.refl
    | decide +kernel
    | with_reducible apply framedLost.after (lost_toService _ _)
    | with_reducible apply framedLost.fold
    | with_reducible intro _
    | dsimp only
    | split

theorem lost_convertCrane (s : State) (c : Crane) :
    KeepsLost s (s.convertCrane c) := by
  unfold State.convertCrane
  repeat' first
    | with_reducible apply framedLost.refl
    | decide +kernel
    | with_reducible apply framedLost.after (lost_resumeCrane _ _)
    | with_reducible apply framedLost.fold
    | with_reducible intro _
    | dsimp only
    | split

theorem lost_bringBack (s : State) :
    KeepsLost s (s.bringBack) := by
  unfold State.bringBack
  repeat' first
    | with_reducible apply framedLost.refl
    | decide +kernel
    | with_reducible apply framedLost.after (lost_convertCrane _ _)
    | with_reducible apply framedLost.after (lost_returnCrane _ _)
    | with_reducible apply framedLost.fold
    | with_reducible intro _
    | dsimp only
    | split

theorem lost_resumeFromStorm (s : State) :
    KeepsLost s (s.resumeFromStorm) := by
  unfold State.resumeFromStorm
  repeat' first
    | with_reducible apply framedLost.refl
    | decide +kernel
    | with_reducible apply framedLost.after (lost_bringBack _)
    | with_reducible apply framedLost.frame (touches_removeReasonAll _ _)
    | with_reducible apply framedLost.frame (touches_withSite _ _)
    | with_reducible apply framedLost.frame (touches_withdrawSite _ _)
    | with_reducible apply framedLost.fold
    | with_reducible intro _
    | dsimp only
    | split

theorem lost_reopen (s : State) :
    KeepsLost s (s.reopen) := by
  unfold State.reopen
  repeat' first
    | with_reducible apply framedLost.refl
    | decide +kernel
    | with_reducible apply framedLost.after (lost_bringBack _)
    | with_reducible apply framedLost.frame (touches_withSite _ _)
    | with_reducible apply framedLost.frame (touches_withdrawSite _ _)
    | with_reducible apply framedLost.fold
    | with_reducible intro _
    | dsimp only
    | split

theorem lost_openTheSite (s : State) :
    KeepsLost s (openTheSite s).1 := by
  unfold openTheSite
  repeat' first
    | with_reducible apply framedLost.refl
    | decide +kernel
    | with_reducible apply framedLost.after (lost_openFromSetup _)
    | with_reducible apply framedLost.after (lost_reopen _)
    | with_reducible apply framedLost.fold
    | with_reducible intro _
    | dsimp only
    | split

theorem lost_close (s : State) :
    KeepsLost s (s.close) := by
  unfold State.close
  repeat' first
    | with_reducible apply framedLost.refl
    | decide +kernel
    | with_reducible apply framedLost.frame (touches_denyWaits _ _ _)
    | with_reducible apply framedLost.after (lost_enterSecuringAll _)
    | with_reducible apply framedLost.frame (touches_withSite _ _)
    | with_reducible apply framedLost.fold
    | with_reducible intro _
    | dsimp only
    | split

theorem lost_closeTheSite (s : State) :
    KeepsLost s (closeTheSite s).1 := by
  unfold closeTheSite
  repeat' first
    | with_reducible apply framedLost.refl
    | decide +kernel
    | with_reducible apply framedLost.after (lost_close _)
    | with_reducible apply framedLost.fold
    | with_reducible intro _
    | dsimp only
    | split

theorem lost_resumeTheSite (s : State) :
    KeepsLost s (resumeTheSite s).1 := by
  unfold resumeTheSite
  repeat' first
    | with_reducible apply framedLost.refl
    | decide +kernel
    | with_reducible apply framedLost.after (lost_resumeFromStorm _)
    | with_reducible apply framedLost.fold
    | with_reducible intro _
    | dsimp only
    | split

theorem lost_setupReset (s : State) :
    KeepsLost s (s.setupReset) := by
  unfold State.setupReset
  repeat' first
    | with_reducible apply framedLost.refl
    | decide +kernel
    | with_reducible apply framedLost.after (lost_follow _ _)
    | with_reducible apply framedLost.frame (touches_freeAllCells _)
    | with_reducible apply framedLost.frame (touches_withRestricted _ _)
    | with_reducible apply framedLost.frame (touches_withdraw _ _ _)
    | with_reducible apply framedLost.fold
    | with_reducible intro _
    | dsimp only
    | split

theorem lost_toStandby (s : State) (c : Crane) :
    KeepsLost s (s.toStandby c) := by
  unfold State.toStandby
  repeat' first
    | with_reducible apply framedLost.refl
    | decide +kernel
    | rfl
    | with_reducible apply framedLost.after (lost_setSvc _)
    | with_reducible apply framedLost.fold
    | with_reducible intro _
    | dsimp only
    | split

theorem lost_toSetup (s : State) :
    KeepsLost s (s.toSetup) := by
  unfold State.toSetup
  repeat' first
    | with_reducible apply framedLost.refl
    | decide +kernel
    | with_reducible apply framedLost.frame (touches_cancelAll _)
    | with_reducible apply framedLost.frame (touches_denyWaits _ _ _)
    | with_reducible apply framedLost.after (lost_setupReset _)
    | with_reducible apply framedLost.after (lost_toStandby _ _)
    | with_reducible apply framedLost.frame (touches_withSite _ _)
    | with_reducible apply framedLost.fold
    | with_reducible intro _
    | dsimp only
    | split

theorem lost_returnSiteToSetup (s : State) :
    KeepsLost s (returnSiteToSetup s).1 := by
  unfold returnSiteToSetup
  repeat' first
    | with_reducible apply framedLost.refl
    | decide +kernel
    | with_reducible apply framedLost.after (lost_toSetup _)
    | with_reducible apply framedLost.fold
    | with_reducible intro _
    | dsimp only
    | split

theorem lost_forceService (s : State) (c : Crane) (named : List Sector) :
    KeepsLost s (s.forceService c named) := by
  unfold State.forceService
  repeat' first
    | with_reducible apply framedLost.refl
    | decide +kernel
    | rfl
    | with_reducible apply framedLost.after (lost_setSvc _)
    | with_reducible apply framedLost.fold
    | with_reducible intro _
    | dsimp only
    | split

theorem lost_forceClear (s : State) (c : Crane) (named : List Sector) :
    KeepsLost s (s.forceClear c named) := by
  unfold State.forceClear
  repeat' first
    | with_reducible apply framedLost.refl
    | decide +kernel
    | with_reducible apply framedLost.after (lost_convert _ _)
    | with_reducible apply framedLost.after (lost_forceService _ _ _)
    | with_reducible apply framedLost.fold
    | with_reducible intro _
    | dsimp only
    | split

theorem lost_forceCells (crane : Nat) (sectors : Nat) (s : State) :
    KeepsLost s (forceCells crane sectors s).1 := by
  unfold forceCells
  repeat' first
    | with_reducible apply framedLost.refl
    | decide +kernel
    | with_reducible apply framedLost.after (lost_forceClear _ _ _)
    | with_reducible apply framedLost.fold
    | with_reducible intro _
    | dsimp only
    | split

end Sys2Proof.Machine
end

