-- ==== Sys2Proof/Laws/KeepsQueue.lean ====
section
/-!
SUPPORT. Every operation but the queueing of an answer keeps the law of the transmit queues and adds no answer to them
(R34, R46, R47).
-/
set_option Elab.async false
namespace Sys2Proof.Machine

/-- The transmit queues keep their law, and no link's queue gains an answer. -/
def KeepsQueue (s t : State) : Prop :=
  (QueueLaw s → QueueLaw t) ∧ ∀ c, answersIn (t.link c).queue ≤ answersIn (s.link c).queue

theorem framedQueue : Framed KeepsQueue [.links] where
  trans h k := ⟨fun w => k.1 (h.1 w), fun c => Nat.le_trans (k.2 c) (h.2 c)⟩
  same h := by
    have hl := h .links (by decide)
    simp only [Same] at hl
    simp only [KeepsQueue, QueueLaw, State.link, hl]
    exact ⟨fun w => w, fun _ => Nat.le_refl _⟩

/-! ### Queues -/

theorem answersIn_le (q : List TxFrame) : answersIn q ≤ q.length := List.length_filter_le _ _

theorem answersIn_append (q r : List TxFrame) : answersIn (q ++ r) = answersIn q + answersIn r := by
  simp [answersIn]

/-- Dropping the oldest notice takes no answer, and one frame of a queue that has a notice. -/
theorem dropOldestNotice_answers (q : List TxFrame) : answersIn (dropOldestNotice q) = answersIn q := by
  induction q with
  | nil => rfl
  | cons f q ih =>
    unfold dropOldestNotice
    split
    · rename_i h; simp [answersIn, h]
    · rename_i h
      have h' : f.isNotice = false := by simpa using h
      simp only [answersIn, List.filter_cons, h', Bool.not_false, if_true, List.length_cons] at ih ⊢
      exact congrArg (· + 1) ih

theorem dropOldestNotice_length (q : List TxFrame) (h : answersIn q < q.length) :
    (dropOldestNotice q).length + 1 = q.length := by
  induction q with
  | nil => simp at h
  | cons f q ih =>
    unfold dropOldestNotice
    split
    · rfl
    · rename_i hf
      have hf' : f.isNotice = false := by simpa using hf
      have : answersIn (f :: q) = answersIn q + 1 := by simp [answersIn, hf']
      simp only [List.length_cons] at h ⊢
      have := ih (by omega)
      omega

/-- A queue of at most six frames stays one under a notice, and gains no answer (R47). -/
theorem pushNotice_length {q : List TxFrame} {f : TxFrame} (h : q.length ≤ 6) : (pushNotice q f).length ≤ 6 := by
  unfold pushNotice
  have hm : Config.maxQueue = 6 := rfl
  rw [hm]
  split
  · simp; omega
  · split
    · exact h
    · have := dropOldestNotice_length q (by omega)
      simp; omega

theorem pushNotice_answers {q : List TxFrame} {f : TxFrame} (hf : f.isNotice = true) :
    answersIn (pushNotice q f) = answersIn q := by
  have h1 : answersIn [f] = 0 := by simp [answersIn, hf]
  unfold pushNotice
  split
  · rw [answersIn_append, h1]; rfl
  · split
    · rfl
    · rw [answersIn_append, h1, dropOldestNotice_answers]; rfl

/-- A queue of at most six frames with fewer than six answers stays one under an answer (R34, R47). -/
theorem pushAnswer_length {q : List TxFrame} {f : TxFrame} (h : q.length ≤ 6) (ha : answersIn q < 6) :
    (pushAnswer q f).length ≤ 6 := by
  unfold pushAnswer
  have hm : Config.maxQueue = 6 := rfl
  rw [hm]
  split
  · simp; omega
  · have := dropOldestNotice_length q (by omega)
    simp; omega

/-- The transmitter takes frames from the queue and adds none. -/
theorem pump_sub (ch : Channel) : ch.pump.queue.Sublist ch.queue := by
  unfold Channel.pump
  split
  · rename_i h; simp [h]
  · exact List.Sublist.refl _

theorem pump_length (ch : Channel) : ch.pump.queue.length ≤ ch.queue.length := (pump_sub ch).length_le

theorem pump_answers (ch : Channel) : answersIn ch.pump.queue ≤ answersIn ch.queue :=
  ((pump_sub ch).filter _).length_le

/-! ### Operations -/

theorem link_setLink_at (s : State) (c d : Crane) (ch : Channel) :
    (s.setLink c ch).link d = if c = d then ch else s.link d := by
  unfold State.link State.setLink State.withLinks
  exact tget_tput _ _ _ _

theorem queue_setLink {s : State} {c : Crane} {ch : Channel} (h : (s.link c).queue.length ≤ 6 → ch.queue.length ≤ 6)
    (ha : answersIn ch.queue ≤ answersIn (s.link c).queue) : KeepsQueue s (s.setLink c ch) := by
  refine ⟨fun w d => ?_, fun d => ?_⟩ <;> rw [link_setLink_at] <;> split
  · exact h (w c)
  · exact w d
  · rename_i hd; rw [← hd]; exact ha
  · exact Nat.le_refl _

/-- A notice, whole. -/
theorem queue_notice {s : State} {c : Crane} {f : TxFrame} (hf : f.isNotice = true) : KeepsQueue s (s.notify c f) := by
  unfold State.notify
  split
  · refine queue_setLink (fun h => ?_) ?_
    · exact Nat.le_trans (pump_length _) (pushNotice_length h)
    · exact Nat.le_trans (pump_answers _) (Nat.le_of_eq (pushNotice_answers hf))
  · exact framedQueue.refl s


theorem queue_notifyLift (s : State) (b : Booking) (e : NoticeEvent) (reasons : List SuspReason) :
    KeepsQueue s (s.notifyLift b e reasons) := by
  unfold State.notifyLift
  repeat' first
    | with_reducible apply framedQueue.refl
    | decide +kernel
    | rfl
    | with_reducible apply framedQueue.after (queue_notice _)
    | with_reducible apply framedQueue.fold
    | with_reducible intro _
    | dsimp only
    | split

theorem queue_addReason (s : State) (b : Booking) (r : SuspReason) :
    KeepsQueue s (s.addReason b r) := by
  unfold State.addReason
  repeat' first
    | with_reducible apply framedQueue.refl
    | decide +kernel
    | with_reducible apply framedQueue.after (queue_notifyLift _ _ _ _)
    | with_reducible apply framedQueue.frame (touches_putLift _ _)
    | with_reducible apply framedQueue.fold
    | with_reducible intro _
    | dsimp only
    | split

theorem queue_addReasonTo (s : State) (c : Crane) (r : SuspReason) :
    KeepsQueue s (s.addReasonTo c r) := by
  unfold State.addReasonTo
  repeat' first
    | with_reducible apply framedQueue.refl
    | decide +kernel
    | with_reducible apply framedQueue.after (queue_addReason _ _ _)
    | with_reducible apply framedQueue.fold
    | with_reducible intro _
    | dsimp only
    | split

theorem queue_removeReason (s : State) (b : Booking) (r : SuspReason) :
    KeepsQueue s (s.removeReason b r) := by
  unfold State.removeReason
  repeat' first
    | with_reducible apply framedQueue.refl
    | decide +kernel
    | with_reducible apply framedQueue.after (queue_notifyLift _ _ _ _)
    | with_reducible apply framedQueue.frame (touches_putLift _ _)
    | with_reducible apply framedQueue.fold
    | with_reducible intro _
    | dsimp only
    | split

theorem queue_removeReasonFrom (s : State) (c : Crane) (r : SuspReason) :
    KeepsQueue s (s.removeReasonFrom c r) := by
  unfold State.removeReasonFrom
  repeat' first
    | with_reducible apply framedQueue.refl
    | decide +kernel
    | with_reducible apply framedQueue.after (queue_removeReason _ _ _)
    | with_reducible apply framedQueue.fold
    | with_reducible intro _
    | dsimp only
    | split

theorem queue_denyWaits (s : State) (p : Wait → Bool) (why : DenyReason) :
    KeepsQueue s (s.denyWaits p why) := by
  unfold State.denyWaits
  repeat' first
    | with_reducible apply framedQueue.refl
    | decide +kernel
    | rfl
    | with_reducible apply framedQueue.after (queue_notice _)
    | with_reducible apply framedQueue.frame (touches_reviewOffPath _ _)
    | with_reducible apply framedQueue.frame (touches_withWaits _ _)
    | with_reducible apply framedQueue.fold
    | with_reducible intro _
    | dsimp only
    | split

theorem queue_denyCrane (s : State) (c : Crane) (why : DenyReason) :
    KeepsQueue s (s.denyCrane c why) := by
  unfold State.denyCrane
  repeat' first
    | with_reducible apply framedQueue.refl
    | decide +kernel
    | with_reducible apply framedQueue.after (queue_denyWaits _ _ _)
    | with_reducible apply framedQueue.fold
    | with_reducible intro _
    | dsimp only
    | split

theorem queue_addStop (s : State) (c : Crane) (r : StopReason) :
    KeepsQueue s (s.addStop c r) := by
  unfold State.addStop
  repeat' first
    | with_reducible apply framedQueue.refl
    | decide +kernel
    | with_reducible apply framedQueue.after (queue_addReasonTo _ _ _)
    | with_reducible apply framedQueue.after (queue_denyCrane _ _ _)
    | with_reducible apply framedQueue.frame (touches_setStops _ _ _)
    | with_reducible apply framedQueue.fold
    | with_reducible intro _
    | dsimp only
    | split

theorem queue_stopAction (s : State) (k : AlertKind) (c : Option Crane) :
    KeepsQueue s (s.stopAction k c) := by
  unfold State.stopAction
  repeat' first
    | with_reducible apply framedQueue.refl
    | decide +kernel
    | with_reducible apply framedQueue.after (queue_addStop _ _ _)
    | with_reducible apply framedQueue.fold
    | with_reducible intro _
    | dsimp only
    | split

theorem queue_raise (s : State) (k : AlertKind) (c : Option Crane) :
    KeepsQueue s (s.raise k c) := by
  unfold State.raise
  repeat' first
    | with_reducible apply framedQueue.refl
    | decide +kernel
    | with_reducible apply framedQueue.frame (touches_evaluateLines _)
    | with_reducible apply framedQueue.frame (touches_latchAlert _ _ _)
    | with_reducible apply framedQueue.after (queue_stopAction _ _ _)
    | with_reducible apply framedQueue.fold
    | with_reducible intro _
    | dsimp only
    | split

theorem queue_raiseFor (s : State) (k : AlertKind) (c : Crane) :
    KeepsQueue s (s.raiseFor k c) := by
  unfold State.raiseFor
  repeat' first
    | with_reducible apply framedQueue.refl
    | decide +kernel
    | with_reducible apply framedQueue.after (queue_raise _ _ _)
    | with_reducible apply framedQueue.fold
    | with_reducible intro _
    | dsimp only
    | split

theorem queue_tryGrant (s : State) (w : Wait) :
    KeepsQueue s (s.tryGrant w) := by
  unfold State.tryGrant
  repeat' first
    | with_reducible apply framedQueue.refl
    | decide +kernel
    | rfl
    | with_reducible apply framedQueue.after (queue_notice _)
    | with_reducible apply framedQueue.frame (touches_ownAndSeized _ _)
    | with_reducible apply framedQueue.frame (touches_dropWait _ _ _)
    | with_reducible apply framedQueue.frame (touches_changeCells _ _)
    | with_reducible apply framedQueue.fold
    | with_reducible intro _
    | dsimp only
    | split

theorem queue_walk (s : State) :
    KeepsQueue s (s.walk) := by
  unfold State.walk
  repeat' first
    | with_reducible apply framedQueue.refl
    | decide +kernel
    | with_reducible apply framedQueue.after (queue_tryGrant _ _)
    | with_reducible apply framedQueue.fold
    | with_reducible intro _
    | dsimp only
    | split

theorem queue_outOfService (s : State) (c : Crane) (o : Order) (withheld : Bool) :
    KeepsQueue s (s.outOfService c o withheld) := by
  unfold State.outOfService
  repeat' first
    | with_reducible apply framedQueue.refl
    | decide +kernel
    | with_reducible apply framedQueue.after (queue_denyCrane _ _ _)
    | with_reducible apply framedQueue.frame (touches_setSvc _ _ _)
    | with_reducible apply framedQueue.frame (touches_withdraw _ _ _)
    | with_reducible apply framedQueue.fold
    | with_reducible intro _
    | dsimp only
    | split

theorem queue_resumeChange (s : State) (c : Crane) :
    KeepsQueue s (s.resumeChange c) := by
  unfold State.resumeChange
  repeat' first
    | with_reducible apply framedQueue.refl
    | decide +kernel
    | with_reducible apply framedQueue.frame (touches_changeCells _ _)
    | with_reducible apply framedQueue.after (queue_outOfService _ _ _ _)
    | with_reducible apply framedQueue.frame (touches_toService _ _)
    | with_reducible apply framedQueue.fold
    | with_reducible intro _
    | dsimp only
    | split

theorem queue_retryOne {recheck : State → State} (h : ∀ s, KeepsQueue s (recheck s)) (p : State × Bool) (c : Crane) :
    KeepsQueue p.1 (retryOne recheck p c).1 := by
  unfold retryOne followThree
  split
  · dsimp only
    split
    · exact framedQueue.after (h _) ((framedQueue).frame (touches_ownAndSeized _ _) (by decide +kernel) ((framedQueue).after (queue_resumeChange _ _) (framedQueue.refl _)))
    · exact ((framedQueue).frame (touches_ownAndSeized _ _) (by decide +kernel) ((framedQueue).after (queue_resumeChange _ _) (framedQueue.refl _)))
  · exact framedQueue.refl _

theorem queue_retryPass {recheck : State → State} (h : ∀ s, KeepsQueue s (recheck s)) (s : State) :
    KeepsQueue s (retryPass recheck s).1 := by
  suffices H : ∀ (l : List Crane) (p : State × Bool), KeepsQueue s p.1 → KeepsQueue s (l.foldl (retryOne recheck) p).1 from
    H _ _ (framedQueue.refl _)
  intro l
  induction l with
  | nil => exact fun _ hp => hp
  | cons c l ih => exact fun p hp => ih _ (framedQueue.trans hp (queue_retryOne h p c))

theorem queue_arbitrateLoop {retry : State → State × Bool} (h : ∀ s, KeepsQueue s (retry s).1) (n : Nat) (s : State) :
    KeepsQueue s (arbitrateLoop retry n s) := by
  induction n generalizing s with
  | zero => exact framedQueue.refl _
  | succ n ih =>
    have h1 : KeepsQueue s (retry s.walk).1 := framedQueue.after (h _) ((framedQueue).after (queue_walk _) (framedQueue.refl _))
    unfold arbitrateLoop
    dsimp only
    split
    · exact framedQueue.trans h1 (ih _)
    · exact h1

theorem queue_arbitrateWith {recheck : State → State} (h : ∀ s, KeepsQueue s (recheck s)) (s : State) :
    KeepsQueue s (arbitrateWith recheck s) := queue_arbitrateLoop (queue_retryPass h) _ _

theorem queue_followThree {recheck : State → State} (h : ∀ s, KeepsQueue s (recheck s)) (chg : List Change) (s : State) :
    KeepsQueue s (followThree recheck chg s) := by
  unfold followThree
  dsimp only
  split
  · exact framedQueue.after (h _) ((framedQueue).frame (touches_ownAndSeized _ _) (by decide +kernel) (framedQueue.refl _))
  · exact ((framedQueue).frame (touches_ownAndSeized _ _) (by decide +kernel) (framedQueue.refl _))

theorem queue_followWith {recheck : State → State} (h : ∀ s, KeepsQueue s (recheck s)) (chg : List Change) (s : State) :
    KeepsQueue s (followWith recheck chg s) := by
  unfold followWith
  dsimp only
  split
  · exact framedQueue.after (queue_arbitrateWith h _) (queue_followThree h _ _)
  · exact queue_followThree h _ _

theorem queue_releaseVaneWith {recheck : State → State} (h : ∀ s, KeepsQueue s (recheck s)) (s : State) (c : Crane) :
    KeepsQueue s (releaseVaneWith recheck s c) :=
  framedQueue.after (queue_followWith h _ _) ((framedQueue).after (queue_outOfService _ _ _ _) ((framedQueue).frame (touches_changeCells _ _) (by decide +kernel) (framedQueue.refl _)))

theorem queue_recheckN (n : Nat) (s : State) : KeepsQueue s (recheckN n s) := by
  induction n generalizing s with
  | zero => exact framedQueue.refl _
  | succ n ih =>
    refine framedQueue.fold (framedQueue.refl s) _ _ (fun u c => ?_)
    unfold recheckOne
    split
    · exact queue_releaseVaneWith ih u c
    · exact framedQueue.refl _

theorem queue_recheckVane (s : State) : KeepsQueue s s.recheckVane := queue_recheckN 8 s

theorem queue_arbitrate (s : State) : KeepsQueue s s.arbitrate := queue_arbitrateWith queue_recheckVane s

theorem queue_follow (s : State) (chg : List Change) : KeepsQueue s (s.follow chg) := queue_followWith queue_recheckVane chg s

theorem queue_testVane (s : State) (c : Crane) : KeepsQueue s (s.testVane c) := by
  unfold State.testVane
  split
  · exact queue_releaseVaneWith queue_recheckVane s c
  · exact framedQueue.refl _

theorem queue_convert (s : State) (rs : List CellReq) :
    KeepsQueue s (s.convert rs) := by
  unfold State.convert
  repeat' first
    | with_reducible apply framedQueue.refl
    | decide +kernel
    | with_reducible apply framedQueue.frame (touches_changeCells _ _)
    | with_reducible apply framedQueue.after (queue_follow _ _)
    | with_reducible apply framedQueue.fold
    | with_reducible intro _
    | dsimp only
    | split

theorem queue_resumeCrane (s : State) (c : Crane) :
    KeepsQueue s (s.resumeCrane c) := by
  unfold State.resumeCrane
  repeat' first
    | with_reducible apply framedQueue.refl
    | decide +kernel
    | with_reducible apply framedQueue.after (queue_follow _ _)
    | with_reducible apply framedQueue.after (queue_resumeChange _ _)
    | with_reducible apply framedQueue.fold
    | with_reducible intro _
    | dsimp only
    | split

theorem queue_holdCell (s : State) (q : CellId) (o : OriginRule) :
    KeepsQueue s (s.holdCell q o) := by
  unfold State.holdCell
  repeat' first
    | with_reducible apply framedQueue.refl
    | decide +kernel
    | rfl
    | with_reducible apply framedQueue.after (queue_notice _)
    | with_reducible apply framedQueue.after (queue_follow _ _)
    | with_reducible apply framedQueue.frame (touches_dropWait _ _ _)
    | with_reducible apply framedQueue.frame (touches_changeCells _ _)
    | with_reducible apply framedQueue.fold
    | with_reducible intro _
    | dsimp only
    | split

theorem queue_withheldToVaneWait (s : State) (c : Crane) :
    KeepsQueue s (s.withheldToVaneWait c) := by
  unfold State.withheldToVaneWait
  repeat' first
    | with_reducible apply framedQueue.refl
    | decide +kernel
    | with_reducible apply framedQueue.after (queue_denyCrane _ _ _)
    | with_reducible apply framedQueue.frame (touches_setSvc _ _ _)
    | with_reducible apply framedQueue.fold
    | with_reducible intro _
    | dsimp only
    | split

theorem queue_enterSecuring (s : State) (c : Crane) :
    KeepsQueue s (s.enterSecuring c) := by
  unfold State.enterSecuring
  repeat' first
    | with_reducible apply framedQueue.refl
    | decide +kernel
    | with_reducible apply framedQueue.frame (touches_setSvc _ _ _)
    | with_reducible apply framedQueue.after (queue_testVane _ _)
    | with_reducible apply framedQueue.frame (touches_toSecuring _ _)
    | with_reducible apply framedQueue.after (queue_withheldToVaneWait _ _)
    | with_reducible apply framedQueue.fold
    | with_reducible intro _
    | dsimp only
    | split

theorem queue_enterSecuringAll (s : State) :
    KeepsQueue s (s.enterSecuringAll) := by
  unfold State.enterSecuringAll
  repeat' first
    | with_reducible apply framedQueue.refl
    | decide +kernel
    | with_reducible apply framedQueue.after (queue_enterSecuring _ _)
    | with_reducible apply framedQueue.fold
    | with_reducible intro _
    | dsimp only
    | split

theorem queue_addReasonAll (s : State) (r : SuspReason) :
    KeepsQueue s (s.addReasonAll r) := by
  unfold State.addReasonAll
  repeat' first
    | with_reducible apply framedQueue.refl
    | decide +kernel
    | with_reducible apply framedQueue.after (queue_addReason _ _ _)
    | with_reducible apply framedQueue.fold
    | with_reducible intro _
    | dsimp only
    | split

theorem queue_enterStorm (s : State) (c : Crane) :
    KeepsQueue s (s.enterStorm c) := by
  unfold State.enterStorm
  repeat' first
    | with_reducible apply framedQueue.refl
    | decide +kernel
    | with_reducible apply framedQueue.after (queue_addReasonAll _ _)
    | with_reducible apply framedQueue.after (queue_enterSecuringAll _)
    | with_reducible apply framedQueue.after (queue_raiseFor _ _ _)
    | with_reducible apply framedQueue.frame (touches_withSite _ _)
    | with_reducible apply framedQueue.fold
    | with_reducible intro _
    | dsimp only
    | split

theorem queue_reportStorm (s : State) (c : Crane) :
    KeepsQueue s (s.reportStorm c) := by
  unfold State.reportStorm
  repeat' first
    | with_reducible apply framedQueue.refl
    | decide +kernel
    | with_reducible apply framedQueue.after (queue_enterStorm _ _)
    | with_reducible apply framedQueue.after (queue_raiseFor _ _ _)
    | with_reducible apply framedQueue.fold
    | with_reducible intro _
    | dsimp only
    | split

theorem queue_parkCrane (s : State) (c : Crane) :
    KeepsQueue s (s.parkCrane c) := by
  unfold State.parkCrane
  repeat' first
    | with_reducible apply framedQueue.refl
    | decide +kernel
    | with_reducible apply framedQueue.after (queue_convert _ _)
    | with_reducible apply framedQueue.after (queue_denyCrane _ _ _)
    | with_reducible apply framedQueue.frame (touches_setSvc _ _ _)
    | with_reducible apply framedQueue.frame (touches_withdraw _ _ _)
    | with_reducible apply framedQueue.fold
    | with_reducible intro _
    | dsimp only
    | split

theorem queue_toVaneWait (s : State) (c : Crane) :
    KeepsQueue s (s.toVaneWait c) := by
  unfold State.toVaneWait
  repeat' first
    | with_reducible apply framedQueue.refl
    | decide +kernel
    | with_reducible apply framedQueue.after (queue_denyCrane _ _ _)
    | with_reducible apply framedQueue.frame (touches_setSvc _ _ _)
    | with_reducible apply framedQueue.after (queue_testVane _ _)
    | with_reducible apply framedQueue.fold
    | with_reducible intro _
    | dsimp only
    | split

theorem queue_securingStage (s : State) (c : Crane) :
    KeepsQueue s (s.securingStage c) := by
  unfold State.securingStage
  repeat' first
    | with_reducible apply framedQueue.refl
    | decide +kernel
    | with_reducible apply framedQueue.after (queue_parkCrane _ _)
    | with_reducible apply framedQueue.frame (touches_setSvc _ _ _)
    | with_reducible apply framedQueue.after (queue_toVaneWait _ _)
    | with_reducible apply framedQueue.fold
    | with_reducible intro _
    | dsimp only
    | split

theorem queue_rejoinService (s : State) (c : Crane) :
    KeepsQueue s (s.rejoinService c) := by
  unfold State.rejoinService
  repeat' first
    | with_reducible apply framedQueue.refl
    | decide +kernel
    | with_reducible apply framedQueue.frame (touches_setSvc _ _ _)
    | with_reducible apply framedQueue.after (queue_testVane _ _)
    | with_reducible apply framedQueue.fold
    | with_reducible intro _
    | dsimp only
    | split

theorem queue_keepInStep (s : State) (k : AlertKind) (c : Crane) (holds : Bool) :
    KeepsQueue s (s.keepInStep k c holds) := by
  unfold State.keepInStep
  repeat' first
    | with_reducible apply framedQueue.refl
    | decide +kernel
    | with_reducible apply framedQueue.after (queue_raiseFor _ _ _)
    | with_reducible apply framedQueue.frame (touches_withdraw _ _ _)
    | with_reducible apply framedQueue.fold
    | with_reducible intro _
    | dsimp only
    | split

theorem queue_windConditions (s : State) (c : Crane) :
    KeepsQueue s (s.windConditions c) := by
  unfold State.windConditions
  repeat' first
    | with_reducible apply framedQueue.refl
    | decide +kernel
    | with_reducible apply framedQueue.after (queue_keepInStep _ _ _ _)
    | with_reducible apply framedQueue.fold
    | with_reducible intro _
    | dsimp only
    | split

theorem queue_actOnVerdict (s : State) (b : Booking) (v : Verdict) :
    KeepsQueue s (s.actOnVerdict b v) := by
  unfold State.actOnVerdict
  repeat' first
    | with_reducible apply framedQueue.refl
    | decide +kernel
    | with_reducible apply framedQueue.after (queue_addReason _ _ _)
    | with_reducible apply framedQueue.after (queue_removeReason _ _ _)
    | with_reducible apply framedQueue.fold
    | with_reducible intro _
    | dsimp only
    | split

theorem queue_handVerdict (s : State) (c : Crane) :
    KeepsQueue s (s.handVerdict c) := by
  unfold State.handVerdict
  repeat' first
    | with_reducible apply framedQueue.refl
    | decide +kernel
    | with_reducible apply framedQueue.after (queue_actOnVerdict _ _ _)
    | with_reducible apply framedQueue.fold
    | with_reducible intro _
    | dsimp only
    | split

theorem queue_windStage (s : State) (c : Crane) (wind : Option Nat) :
    KeepsQueue s (s.windStage c wind) := by
  unfold State.windStage
  repeat' first
    | with_reducible apply framedQueue.refl
    | decide +kernel
    | with_reducible apply framedQueue.after (queue_handVerdict _ _)
    | with_reducible apply framedQueue.after (queue_reportStorm _ _)
    | with_reducible apply framedQueue.frame (touches_setWind _ _ _)
    | with_reducible apply framedQueue.after (queue_windConditions _ _)
    | with_reducible apply framedQueue.fold
    | with_reducible intro _
    | dsimp only
    | split

theorem queue_windLost (s : State) (c : Crane) :
    KeepsQueue s (s.windLost c) := by
  unfold State.windLost
  repeat' first
    | with_reducible apply framedQueue.refl
    | decide +kernel
    | with_reducible apply framedQueue.frame (touches_setWind _ _ _)
    | with_reducible apply framedQueue.after (queue_windConditions _ _)
    | with_reducible apply framedQueue.fold
    | with_reducible intro _
    | dsimp only
    | split

theorem queue_intrude (s : State) (q : CellId) :
    KeepsQueue s (s.intrude q) := by
  unfold State.intrude
  repeat' first
    | with_reducible apply framedQueue.refl
    | decide +kernel
    | with_reducible apply framedQueue.after (queue_raiseFor _ _ _)
    | with_reducible apply framedQueue.frame (touches_register_ _ _ _)
    | with_reducible apply framedQueue.fold
    | with_reducible intro _
    | dsimp only
    | split

theorem queue_seize (s : State) (q : CellId) :
    KeepsQueue s (s.seize q) := by
  unfold State.seize
  repeat' first
    | with_reducible apply framedQueue.refl
    | decide +kernel
    | with_reducible apply framedQueue.after (queue_convert _ _)
    | with_reducible apply framedQueue.after (queue_intrude _ _)
    | with_reducible apply framedQueue.fold
    | with_reducible intro _
    | dsimp only
    | split

theorem queue_checkOccupied (s : State) (q : CellId) :
    KeepsQueue s (s.checkOccupied q) := by
  unfold State.checkOccupied
  repeat' first
    | with_reducible apply framedQueue.refl
    | decide +kernel
    | with_reducible apply framedQueue.after (queue_holdCell _ _ _)
    | with_reducible apply framedQueue.after (queue_seize _ _)
    | with_reducible apply framedQueue.fold
    | with_reducible intro _
    | dsimp only
    | split

theorem queue_checkLeft (s : State) (q : CellId) :
    KeepsQueue s (s.checkLeft q) := by
  unfold State.checkLeft
  repeat' first
    | with_reducible apply framedQueue.refl
    | decide +kernel
    | with_reducible apply framedQueue.after (queue_convert _ _)
    | with_reducible apply framedQueue.fold
    | with_reducible intro _
    | dsimp only
    | split

theorem queue_checkPosition (s : State) (c : Crane) :
    KeepsQueue s (s.checkPosition c) := by
  unfold State.checkPosition
  repeat' first
    | with_reducible apply framedQueue.refl
    | decide +kernel
    | with_reducible apply framedQueue.after (queue_checkLeft _ _)
    | with_reducible apply framedQueue.after (queue_checkOccupied _ _)
    | with_reducible apply framedQueue.fold
    | with_reducible intro _
    | dsimp only
    | split

theorem queue_positionStage (s : State) (c : Crane) (angle : Nat) :
    KeepsQueue s (s.positionStage c angle) := by
  unfold State.positionStage
  repeat' first
    | with_reducible apply framedQueue.refl
    | decide +kernel
    | with_reducible apply framedQueue.after (queue_checkPosition _ _)
    | with_reducible apply framedQueue.frame (touches_setOccupied _ _ _)
    | with_reducible apply framedQueue.fold
    | with_reducible intro _
    | dsimp only
    | split

theorem queue_liftStage (s : State) (c : Crane) (load : Option Nat) (radius : Nat) :
    KeepsQueue s (s.liftStage c load radius) := by
  unfold State.liftStage
  repeat' first
    | with_reducible apply framedQueue.refl
    | decide +kernel
    | with_reducible apply framedQueue.after (queue_addReasonTo _ _ _)
    | with_reducible apply framedQueue.after (queue_raiseFor _ _ _)
    | with_reducible apply framedQueue.frame (touches_setLastConf _ _ _)
    | with_reducible apply framedQueue.frame (touches_withdraw _ _ _)
    | with_reducible apply framedQueue.fold
    | with_reducible intro _
    | dsimp only
    | split

theorem queue_loadDrop (s : State) (c : Crane) :
    KeepsQueue s (s.loadDrop c) := by
  unfold State.loadDrop
  repeat' first
    | with_reducible apply framedQueue.refl
    | decide +kernel
    | with_reducible apply framedQueue.after (queue_arbitrate _)
    | with_reducible apply framedQueue.frame (touches_setRestricted _ _ _)
    | with_reducible apply framedQueue.frame (touches_withdraw _ _ _)
    | with_reducible apply framedQueue.fold
    | with_reducible intro _
    | dsimp only
    | split

theorem queue_testBooked (s : State) (n : Nat) (id : Nat) :
    KeepsQueue s (s.testBooked n id) := by
  unfold State.testBooked
  repeat' first
    | with_reducible apply framedQueue.refl
    | decide +kernel
    | with_reducible apply framedQueue.frame (touches_freeLift _ _)
    | with_reducible apply framedQueue.after (queue_notifyLift _ _ _ _)
    | with_reducible apply framedQueue.frame (touches_putLift _ _)
    | with_reducible apply framedQueue.fold
    | with_reducible intro _
    | dsimp only
    | split

theorem queue_testOverrun (s : State) (n : Nat) (id : Nat) :
    KeepsQueue s (s.testOverrun n id) := by
  unfold State.testOverrun
  repeat' first
    | with_reducible apply framedQueue.refl
    | decide +kernel
    | with_reducible apply framedQueue.frame (touches_putLift _ _)
    | with_reducible apply framedQueue.after (queue_raiseFor _ _ _)
    | with_reducible apply framedQueue.fold
    | with_reducible intro _
    | dsimp only
    | split

theorem queue_bookingMinute (s : State) (n : Nat) :
    KeepsQueue s (s.bookingMinute n) := by
  unfold State.bookingMinute
  repeat' first
    | with_reducible apply framedQueue.refl
    | decide +kernel
    | with_reducible apply framedQueue.after (queue_testBooked _ _ _)
    | with_reducible apply framedQueue.after (queue_testOverrun _ _ _)
    | with_reducible apply framedQueue.fold
    | with_reducible intro _
    | dsimp only
    | split

theorem queue_formRestricted (s : State) (n : Nat) (c : Crane) :
    KeepsQueue s (s.formRestricted n c) := by
  unfold State.formRestricted
  repeat' first
    | with_reducible apply framedQueue.refl
    | decide +kernel
    | with_reducible apply framedQueue.after (queue_raiseFor _ _ _)
    | with_reducible apply framedQueue.frame (touches_setRestricted _ _ _)
    | with_reducible apply framedQueue.frame (touches_withdraw _ _ _)
    | with_reducible apply framedQueue.fold
    | with_reducible intro _
    | dsimp only
    | split

theorem queue_zoneMinute (s : State) (n : Nat) :
    KeepsQueue s (s.zoneMinute n) := by
  unfold State.zoneMinute
  repeat' first
    | with_reducible apply framedQueue.refl
    | decide +kernel
    | with_reducible apply framedQueue.after (queue_formRestricted _ _ _)
    | with_reducible apply framedQueue.fold
    | with_reducible intro _
    | dsimp only
    | split

theorem queue_minuteEvent (s : State) (n : Nat) :
    KeepsQueue s (s.minuteEvent n) := by
  unfold State.minuteEvent
  repeat' first
    | with_reducible apply framedQueue.refl
    | decide +kernel
    | with_reducible apply framedQueue.after (queue_bookingMinute _ _)
    | with_reducible apply framedQueue.after (queue_zoneMinute _ _)
    | with_reducible apply framedQueue.fold
    | with_reducible intro _
    | dsimp only
    | split

theorem queue_moveTime (s : State) (t : Nat) :
    KeepsQueue s (s.moveTime t) := by
  unfold State.moveTime
  repeat' first
    | with_reducible apply framedQueue.refl
    | decide +kernel
    | with_reducible apply framedQueue.after (queue_minuteEvent _ _)
    | with_reducible apply framedQueue.frame (touches_withClock _ _)
    | with_reducible apply framedQueue.fold
    | with_reducible intro _
    | dsimp only
    | split

theorem queue_endLift (s : State) (b : Booking) :
    KeepsQueue s (s.endLift b) := by
  unfold State.endLift
  repeat' first
    | with_reducible apply framedQueue.refl
    | decide +kernel
    | with_reducible apply framedQueue.after (queue_arbitrate _)
    | with_reducible apply framedQueue.frame (touches_freeLift _ _)
    | with_reducible apply framedQueue.frame (touches_reviewOffPath _ _)
    | with_reducible apply framedQueue.frame (touches_setLastConf _ _ _)
    | with_reducible apply framedQueue.frame (touches_withdraw _ _ _)
    | with_reducible apply framedQueue.fold
    | with_reducible intro _
    | dsimp only
    | split

theorem queue_testDue (s : State) (b : Booking) :
    KeepsQueue s (s.testDue b) := by
  unfold State.testDue
  repeat' first
    | with_reducible apply framedQueue.refl
    | decide +kernel
    | with_reducible apply framedQueue.after (queue_notifyLift _ _ _ _)
    | with_reducible apply framedQueue.frame (touches_putLift _ _)
    | with_reducible apply framedQueue.fold
    | with_reducible intro _
    | dsimp only
    | split

theorem queue_confirm (q : Requester) (id : Nat) (s : State) :
    KeepsQueue s (confirm q id s).1 := by
  unfold confirm
  repeat' first
    | with_reducible apply framedQueue.refl
    | decide +kernel
    | with_reducible apply framedQueue.frame (touches_freeLift _ _)
    | with_reducible apply framedQueue.frame (touches_putLift _ _)
    | with_reducible apply framedQueue.after (queue_testDue _ _)
    | with_reducible apply framedQueue.fold
    | with_reducible intro _
    | dsimp only
    | split

theorem queue_amend (q : Requester) (id : Nat) (f : LiftFields) (s : State) :
    KeepsQueue s (amend q id f s).1 := by
  unfold amend
  repeat' first
    | with_reducible apply framedQueue.refl
    | decide +kernel
    | with_reducible apply framedQueue.frame (touches_putLift _ _)
    | with_reducible apply framedQueue.after (queue_testDue _ _)
    | with_reducible apply framedQueue.fold
    | with_reducible intro _
    | dsimp only
    | split

theorem queue_cancel (q : Requester) (id : Nat) (s : State) :
    KeepsQueue s (cancel q id s).1 := by
  unfold cancel
  repeat' first
    | with_reducible apply framedQueue.refl
    | decide +kernel
    | with_reducible apply framedQueue.frame (touches_freeLift _ _)
    | with_reducible apply framedQueue.after (queue_notifyLift _ _ _ _)
    | with_reducible apply framedQueue.fold
    | with_reducible intro _
    | dsimp only
    | split

theorem queue_endRunning (terminal : Nat) (q : Requester) (id : Nat) (s : State) :
    KeepsQueue s (endRunning terminal q id s).1 := by
  unfold endRunning
  repeat' first
    | with_reducible apply framedQueue.refl
    | decide +kernel
    | with_reducible apply framedQueue.after (queue_endLift _ _)
    | with_reducible apply framedQueue.fold
    | with_reducible intro _
    | dsimp only
    | split

theorem queue_finish (q : Requester) (id : Nat) (s : State) :
    KeepsQueue s (finish q id s).1 := by
  unfold finish
  repeat' first
    | with_reducible apply framedQueue.refl
    | decide +kernel
    | with_reducible apply framedQueue.after (queue_endRunning _ _ _ _)
    | with_reducible apply framedQueue.fold
    | with_reducible intro _
    | dsimp only
    | split

theorem queue_land (q : Requester) (id : Nat) (s : State) :
    KeepsQueue s (land q id s).1 := by
  unfold land
  repeat' first
    | with_reducible apply framedQueue.refl
    | decide +kernel
    | with_reducible apply framedQueue.after (queue_endRunning _ _ _ _)
    | with_reducible apply framedQueue.fold
    | with_reducible intro _
    | dsimp only
    | split

theorem queue_suspend (q : Requester) (id : Nat) (s : State) :
    KeepsQueue s (suspend q id s).1 := by
  unfold suspend
  repeat' first
    | with_reducible apply framedQueue.refl
    | decide +kernel
    | with_reducible apply framedQueue.after (queue_addReason _ _ _)
    | with_reducible apply framedQueue.frame (touches_putLift _ _)
    | with_reducible apply framedQueue.fold
    | with_reducible intro _
    | dsimp only
    | split

theorem queue_enterCell (s : State) (q : CellId) :
    KeepsQueue s (s.enterCell q).1 := by
  unfold State.enterCell
  repeat' first
    | with_reducible apply framedQueue.refl
    | decide +kernel
    | with_reducible apply framedQueue.frame (touches_appendWait _ _ _)
    | with_reducible apply framedQueue.after (queue_convert _ _)
    | with_reducible apply framedQueue.fold
    | with_reducible intro _
    | dsimp only
    | split

theorem queue_enterPassed (s : State) (q : CellId) :
    KeepsQueue s (s.enterPassed q).1 := by
  unfold State.enterPassed
  repeat' first
    | with_reducible apply framedQueue.refl
    | decide +kernel
    | with_reducible apply framedQueue.after (queue_enterCell _ _)
    | with_reducible apply framedQueue.after (queue_raiseFor _ _ _)
    | with_reducible apply framedQueue.fold
    | with_reducible intro _
    | dsimp only
    | split

theorem queue_enterZone (c : Crane) (n : Nat) (s : State) :
    KeepsQueue s (enterZone c n s).1 := by
  unfold enterZone
  repeat' first
    | with_reducible apply framedQueue.refl
    | decide +kernel
    | with_reducible apply framedQueue.after (queue_enterPassed _ _)
    | with_reducible apply framedQueue.fold
    | with_reducible intro _
    | dsimp only
    | split

theorem queue_releaseZone (c : Crane) (n : Nat) (s : State) :
    KeepsQueue s (releaseZone c n s).1 := by
  unfold releaseZone
  repeat' first
    | with_reducible apply framedQueue.refl
    | decide +kernel
    | with_reducible apply framedQueue.after (queue_convert _ _)
    | with_reducible apply framedQueue.frame (touches_dropWait _ _ _)
    | with_reducible apply framedQueue.frame (touches_reviewOffPath _ _)
    | with_reducible apply framedQueue.fold
    | with_reducible intro _
    | dsimp only
    | split

theorem queue_deliver (s : State) (c : Crane) (r : Report) (rejoining : Bool) (wasZero : Bool) :
    KeepsQueue s (s.deliver c r rejoining wasZero) := by
  unfold State.deliver
  repeat' first
    | with_reducible apply framedQueue.refl
    | decide +kernel
    | with_reducible apply framedQueue.after (queue_liftStage _ _ _ _)
    | with_reducible apply framedQueue.after (queue_loadDrop _ _)
    | with_reducible apply framedQueue.after (queue_positionStage _ _ _)
    | with_reducible apply framedQueue.after (queue_removeReasonFrom _ _ _)
    | with_reducible apply framedQueue.after (queue_securingStage _ _)
    | with_reducible apply framedQueue.after (queue_windStage _ _ _)
    | with_reducible apply framedQueue.fold
    | with_reducible intro _
    | dsimp only
    | split

theorem queue_becomeLost (s : State) (c : Crane) :
    KeepsQueue s (s.becomeLost c) := by
  unfold State.becomeLost
  repeat' first
    | with_reducible apply framedQueue.refl
    | decide +kernel
    | with_reducible apply framedQueue.after (queue_addReasonTo _ _ _)
    | with_reducible apply framedQueue.after (queue_denyCrane _ _ _)
    | with_reducible apply framedQueue.after (queue_raiseFor _ _ _)
    | with_reducible apply framedQueue.frame (touches_setCrane _ _ _)
    | with_reducible apply framedQueue.frame (touches_setSvc _ _ _)
    | with_reducible apply framedQueue.after (queue_windLost _ _)
    | with_reducible apply framedQueue.fold
    | with_reducible intro _
    | dsimp only
    | split

theorem queue_runLinkRequest (c : Crane) (f : LinkFrame) (s : State) :
    KeepsQueue s (runLinkRequest c f s).1 := by
  unfold runLinkRequest
  repeat' first
    | with_reducible apply framedQueue.refl
    | decide +kernel
    | with_reducible apply framedQueue.after (queue_amend _ _ _ _)
    | with_reducible apply framedQueue.after (queue_cancel _ _ _)
    | with_reducible apply framedQueue.after (queue_confirm _ _ _)
    | with_reducible apply framedQueue.after (queue_enterZone _ _ _)
    | with_reducible apply framedQueue.after (queue_finish _ _ _)
    | with_reducible apply framedQueue.after (queue_land _ _ _)
    | with_reducible apply framedQueue.frame (touches_listRecords _ _ _ _ _)
    | with_reducible apply framedQueue.frame (touches_propose _ _ _ _)
    | with_reducible apply framedQueue.frame (touches_queryRecord _ _ _)
    | with_reducible apply framedQueue.after (queue_releaseZone _ _ _)
    | with_reducible apply framedQueue.frame (touches_resume _ _ _)
    | with_reducible apply framedQueue.frame (touches_setLock _ _ _ _)
    | with_reducible apply framedQueue.frame (touches_start _ _ _)
    | with_reducible apply framedQueue.after (queue_suspend _ _ _)
    | with_reducible apply framedQueue.fold
    | with_reducible intro _
    | dsimp only
    | split

theorem queue_badFrame (s : State) (c : Crane) :
    KeepsQueue s (s.badFrame c) := by
  have h1 : KeepsQueue s (s.setLink c { s.link c with rx := .hunting }) := queue_setLink (fun h => h) (Nat.le_refl _)
  unfold State.badFrame
  dsimp only
  split
  · exact framedQueue.after (queue_raiseFor _ _ _) h1
  · exact h1

theorem queue_raiseSiteStop (s : State) :
    KeepsQueue s (s.raiseSiteStop) := by
  unfold State.raiseSiteStop
  repeat' first
    | with_reducible apply framedQueue.refl
    | decide +kernel
    | with_reducible apply framedQueue.after (queue_addStop _ _ _)
    | with_reducible apply framedQueue.after (queue_raise _ _ _)
    | with_reducible apply framedQueue.fold
    | with_reducible intro _
    | dsimp only
    | split

theorem queue_startUp (s : State) :
    KeepsQueue s (s.startUp) := by
  refine ⟨fun _ d => ?_, fun d => ?_⟩ <;>
    simp [State.link, State.startUp, State.reset, Channel.initial, answersIn]

theorem queue_startRaisings (s : State) :
    KeepsQueue s (s.startRaisings) := by
  unfold State.startRaisings
  repeat' first
    | with_reducible apply framedQueue.refl
    | decide +kernel
    | with_reducible apply framedQueue.after (queue_raise _ _ _)
    | with_reducible apply framedQueue.after (queue_raiseSiteStop _)
    | with_reducible apply framedQueue.fold
    | with_reducible intro _
    | dsimp only
    | split

theorem queue_halt (s : State) (p : Power) :
    KeepsQueue s (s.halt p) := by
  have h1 : KeepsQueue s s.cutWrite := framedQueue.of (touches_cutWrite s) (by decide +kernel)
  refine framedQueue.trans h1 ?_
  unfold State.halt
  dsimp only
  refine ⟨fun w d => ?_, fun d => ?_⟩
  · have := w d
    simpa [State.link, tget, State.withLinks, State.withPort, State.withLines, State.withPins] using this
  · simp [State.link, tget, State.withLinks, State.withPort, State.withLines, State.withPins]

theorem queue_passSecond (s : State) :
    KeepsQueue s (s.passSecond) := by
  unfold State.passSecond
  repeat' first
    | with_reducible apply framedQueue.refl
    | decide +kernel
    | with_reducible apply framedQueue.after (queue_moveTime _ _)
    | with_reducible apply framedQueue.frame (touches_withClock _ _)
    | with_reducible apply framedQueue.fold
    | with_reducible intro _
    | dsimp only
    | split

theorem queue_endWrite (s : State) (good : Bool) :
    KeepsQueue s (s.endWrite good) := by
  unfold State.endWrite
  repeat' first
    | with_reducible apply framedQueue.refl
    | decide +kernel
    | with_reducible apply framedQueue.after (queue_raise _ _ _)
    | with_reducible apply framedQueue.frame (touches_withPlan _ _)
    | with_reducible apply framedQueue.frame (touches_withdrawSite _ _)
    | with_reducible apply framedQueue.fold
    | with_reducible intro _
    | dsimp only
    | split

theorem queue_expireClearing (s : State) (q : CellId) :
    KeepsQueue s (s.expireClearing q) := by
  unfold State.expireClearing
  repeat' first
    | with_reducible apply framedQueue.refl
    | decide +kernel
    | with_reducible apply framedQueue.after (queue_convert _ _)
    | with_reducible apply framedQueue.fold
    | with_reducible intro _
    | dsimp only
    | split

theorem queue_expireWait (s : State) (c : Crane) (x : Sector) :
    KeepsQueue s (s.expireWait c x) := by
  unfold State.expireWait
  repeat' first
    | with_reducible apply framedQueue.refl
    | decide +kernel
    | rfl
    | with_reducible apply framedQueue.after (queue_notice _)
    | with_reducible apply framedQueue.frame (touches_reviewOffPath _ _)
    | with_reducible apply framedQueue.frame (touches_dropWait _ _ _)
    | with_reducible apply framedQueue.fold
    | with_reducible intro _
    | dsimp only
    | split

theorem queue_lapse (s : State) (b : Booking) :
    KeepsQueue s (s.lapse b) := by
  unfold State.lapse
  repeat' first
    | with_reducible apply framedQueue.refl
    | decide +kernel
    | with_reducible apply framedQueue.frame (touches_freeLift _ _)
    | with_reducible apply framedQueue.after (queue_notifyLift _ _ _ _)
    | with_reducible apply framedQueue.fold
    | with_reducible intro _
    | dsimp only
    | split

theorem queue_completeDwell (s : State) (c : Crane) :
    KeepsQueue s (s.completeDwell c) := by
  unfold State.completeDwell
  repeat' first
    | with_reducible apply framedQueue.refl
    | decide +kernel
    | with_reducible apply framedQueue.frame (touches_setWind _ _ _)
    | with_reducible apply framedQueue.after (queue_windConditions _ _)
    | with_reducible apply framedQueue.fold
    | with_reducible intro _
    | dsimp only
    | split

theorem queue_expireTimer (s : State) (c : Crane) :
    KeepsQueue s (s.expireTimer c) := by
  unfold State.expireTimer
  repeat' first
    | with_reducible apply framedQueue.refl
    | decide +kernel
    | with_reducible apply framedQueue.after (queue_raiseFor _ _ _)
    | with_reducible apply framedQueue.frame (touches_setSvc _ _ _)
    | with_reducible apply framedQueue.fold
    | with_reducible intro _
    | dsimp only
    | split

theorem queue_acceptTime (s : State) (t : Nat) :
    KeepsQueue s (s.acceptTime t) := by
  unfold State.acceptTime
  repeat' first
    | with_reducible apply framedQueue.refl
    | decide +kernel
    | with_reducible apply framedQueue.after (queue_moveTime _ _)
    | with_reducible apply framedQueue.frame (touches_withClock _ _)
    | with_reducible apply framedQueue.fold
    | with_reducible intro _
    | dsimp only
    | split

theorem queue_setClock (t : Nat) (s : State) :
    KeepsQueue s (setClock t s).1 := by
  unfold setClock
  repeat' first
    | with_reducible apply framedQueue.refl
    | decide +kernel
    | with_reducible apply framedQueue.after (queue_acceptTime _ _)
    | with_reducible apply framedQueue.fold
    | with_reducible intro _
    | dsimp only
    | split

theorem queue_craneJoins (s : State) (c : Crane) :
    KeepsQueue s (s.craneJoins c) := by
  unfold State.craneJoins
  repeat' first
    | with_reducible apply framedQueue.refl
    | decide +kernel
    | with_reducible apply framedQueue.after (queue_addStop _ _ _)
    | with_reducible apply framedQueue.frame (touches_setCrane _ _ _)
    | with_reducible apply framedQueue.frame (touches_setStops _ _ _)
    | with_reducible apply framedQueue.frame (touches_setSvc _ _ _)
    | with_reducible apply framedQueue.frame (touches_setWind _ _ _)
    | with_reducible apply framedQueue.fold
    | with_reducible intro _
    | dsimp only
    | split

theorem queue_followPresence (old : Plan) (s : State) (c : Crane) :
    KeepsQueue s (s.followPresence old c) := by
  unfold State.followPresence
  repeat' first
    | with_reducible apply framedQueue.refl
    | decide +kernel
    | with_reducible apply framedQueue.after (queue_craneJoins _ _)
    | with_reducible apply framedQueue.frame (touches_craneLeaves _ _)
    | with_reducible apply framedQueue.fold
    | with_reducible intro _
    | dsimp only
    | split

theorem queue_handModeStops (s : State) :
    KeepsQueue s (s.handModeStops) := by
  unfold State.handModeStops
  repeat' first
    | with_reducible apply framedQueue.refl
    | decide +kernel
    | with_reducible apply framedQueue.after (queue_stopAction _ _ _)
    | with_reducible apply framedQueue.fold
    | with_reducible intro _
    | dsimp only
    | split

theorem queue_applyModes (s : State) :
    KeepsQueue s (s.applyModes) := by
  unfold State.applyModes
  repeat' first
    | with_reducible apply framedQueue.refl
    | decide +kernel
    | with_reducible apply framedQueue.frame (touches_evaluateLines _)
    | with_reducible apply framedQueue.after (queue_handModeStops _)
    | with_reducible apply framedQueue.frame (touches_writeModes _)
    | with_reducible apply framedQueue.fold
    | with_reducible intro _
    | dsimp only
    | split

theorem queue_commit (s : State) :
    KeepsQueue s (s.commit) := by
  unfold State.commit
  repeat' first
    | with_reducible apply framedQueue.refl
    | decide +kernel
    | with_reducible apply framedQueue.frame (touches_adoptPlan _)
    | with_reducible apply framedQueue.after (queue_applyModes _)
    | with_reducible apply framedQueue.frame (touches_beginWrite _)
    | with_reducible apply framedQueue.after (queue_followPresence _ _ _)
    | with_reducible apply framedQueue.fold
    | with_reducible intro _
    | dsimp only
    | split

theorem queue_commitPlan (protect : Bool) (s : State) :
    KeepsQueue s (commitPlan protect s).1 := by
  unfold commitPlan
  repeat' first
    | with_reducible apply framedQueue.refl
    | decide +kernel
    | with_reducible apply framedQueue.after (queue_commit _)
    | with_reducible apply framedQueue.frame (touches_withPins _ _)
    | with_reducible apply framedQueue.fold
    | with_reducible intro _
    | dsimp only
    | split

theorem queue_openFromSetup (s : State) :
    KeepsQueue s (s.openFromSetup) := by
  unfold State.openFromSetup
  repeat' first
    | with_reducible apply framedQueue.refl
    | decide +kernel
    | with_reducible apply framedQueue.after (queue_convert _ _)
    | with_reducible apply framedQueue.frame (touches_startService _ _)
    | with_reducible apply framedQueue.frame (touches_withSite _ _)
    | with_reducible apply framedQueue.frame (touches_withdrawSite _ _)
    | with_reducible apply framedQueue.fold
    | with_reducible intro _
    | dsimp only
    | split

theorem queue_convertCrane (s : State) (c : Crane) :
    KeepsQueue s (s.convertCrane c) := by
  unfold State.convertCrane
  repeat' first
    | with_reducible apply framedQueue.refl
    | decide +kernel
    | with_reducible apply framedQueue.after (queue_resumeCrane _ _)
    | with_reducible apply framedQueue.fold
    | with_reducible intro _
    | dsimp only
    | split

theorem queue_bringBack (s : State) :
    KeepsQueue s (s.bringBack) := by
  unfold State.bringBack
  repeat' first
    | with_reducible apply framedQueue.refl
    | decide +kernel
    | with_reducible apply framedQueue.after (queue_convertCrane _ _)
    | with_reducible apply framedQueue.frame (touches_returnCrane _ _)
    | with_reducible apply framedQueue.fold
    | with_reducible intro _
    | dsimp only
    | split

theorem queue_removeReasonAll (s : State) (r : SuspReason) :
    KeepsQueue s (s.removeReasonAll r) := by
  unfold State.removeReasonAll
  repeat' first
    | with_reducible apply framedQueue.refl
    | decide +kernel
    | with_reducible apply framedQueue.after (queue_removeReason _ _ _)
    | with_reducible apply framedQueue.fold
    | with_reducible intro _
    | dsimp only
    | split

theorem queue_resumeFromStorm (s : State) :
    KeepsQueue s (s.resumeFromStorm) := by
  unfold State.resumeFromStorm
  repeat' first
    | with_reducible apply framedQueue.refl
    | decide +kernel
    | with_reducible apply framedQueue.after (queue_bringBack _)
    | with_reducible apply framedQueue.after (queue_removeReasonAll _ _)
    | with_reducible apply framedQueue.frame (touches_withSite _ _)
    | with_reducible apply framedQueue.frame (touches_withdrawSite _ _)
    | with_reducible apply framedQueue.fold
    | with_reducible intro _
    | dsimp only
    | split

theorem queue_reopen (s : State) :
    KeepsQueue s (s.reopen) := by
  unfold State.reopen
  repeat' first
    | with_reducible apply framedQueue.refl
    | decide +kernel
    | with_reducible apply framedQueue.after (queue_bringBack _)
    | with_reducible apply framedQueue.frame (touches_withSite _ _)
    | with_reducible apply framedQueue.frame (touches_withdrawSite _ _)
    | with_reducible apply framedQueue.fold
    | with_reducible intro _
    | dsimp only
    | split

theorem queue_openTheSite (s : State) :
    KeepsQueue s (openTheSite s).1 := by
  unfold openTheSite
  repeat' first
    | with_reducible apply framedQueue.refl
    | decide +kernel
    | with_reducible apply framedQueue.after (queue_openFromSetup _)
    | with_reducible apply framedQueue.after (queue_reopen _)
    | with_reducible apply framedQueue.fold
    | with_reducible intro _
    | dsimp only
    | split

theorem queue_close (s : State) :
    KeepsQueue s (s.close) := by
  unfold State.close
  repeat' first
    | with_reducible apply framedQueue.refl
    | decide +kernel
    | with_reducible apply framedQueue.after (queue_denyWaits _ _ _)
    | with_reducible apply framedQueue.after (queue_enterSecuringAll _)
    | with_reducible apply framedQueue.frame (touches_withSite _ _)
    | with_reducible apply framedQueue.fold
    | with_reducible intro _
    | dsimp only
    | split

theorem queue_closeTheSite (s : State) :
    KeepsQueue s (closeTheSite s).1 := by
  unfold closeTheSite
  repeat' first
    | with_reducible apply framedQueue.refl
    | decide +kernel
    | with_reducible apply framedQueue.after (queue_close _)
    | with_reducible apply framedQueue.fold
    | with_reducible intro _
    | dsimp only
    | split

theorem queue_resumeTheSite (s : State) :
    KeepsQueue s (resumeTheSite s).1 := by
  unfold resumeTheSite
  repeat' first
    | with_reducible apply framedQueue.refl
    | decide +kernel
    | with_reducible apply framedQueue.after (queue_resumeFromStorm _)
    | with_reducible apply framedQueue.fold
    | with_reducible intro _
    | dsimp only
    | split

theorem queue_cancelAll (s : State) :
    KeepsQueue s (s.cancelAll) := by
  unfold State.cancelAll
  repeat' first
    | with_reducible apply framedQueue.refl
    | decide +kernel
    | with_reducible apply framedQueue.frame (touches_freeLift _ _)
    | with_reducible apply framedQueue.after (queue_notifyLift _ _ _ _)
    | with_reducible apply framedQueue.fold
    | with_reducible intro _
    | dsimp only
    | split

theorem queue_setupReset (s : State) :
    KeepsQueue s (s.setupReset) := by
  unfold State.setupReset
  repeat' first
    | with_reducible apply framedQueue.refl
    | decide +kernel
    | with_reducible apply framedQueue.after (queue_follow _ _)
    | with_reducible apply framedQueue.frame (touches_freeAllCells _)
    | with_reducible apply framedQueue.frame (touches_withRestricted _ _)
    | with_reducible apply framedQueue.frame (touches_withdraw _ _ _)
    | with_reducible apply framedQueue.fold
    | with_reducible intro _
    | dsimp only
    | split

theorem queue_toSetup (s : State) :
    KeepsQueue s (s.toSetup) := by
  unfold State.toSetup
  repeat' first
    | with_reducible apply framedQueue.refl
    | decide +kernel
    | with_reducible apply framedQueue.after (queue_cancelAll _)
    | with_reducible apply framedQueue.after (queue_denyWaits _ _ _)
    | with_reducible apply framedQueue.after (queue_setupReset _)
    | with_reducible apply framedQueue.frame (touches_toStandby _ _)
    | with_reducible apply framedQueue.frame (touches_withSite _ _)
    | with_reducible apply framedQueue.fold
    | with_reducible intro _
    | dsimp only
    | split

theorem queue_returnSiteToSetup (s : State) :
    KeepsQueue s (returnSiteToSetup s).1 := by
  unfold returnSiteToSetup
  repeat' first
    | with_reducible apply framedQueue.refl
    | decide +kernel
    | with_reducible apply framedQueue.after (queue_toSetup _)
    | with_reducible apply framedQueue.fold
    | with_reducible intro _
    | dsimp only
    | split

theorem queue_forceClear (s : State) (c : Crane) (named : List Sector) :
    KeepsQueue s (s.forceClear c named) := by
  unfold State.forceClear
  repeat' first
    | with_reducible apply framedQueue.refl
    | decide +kernel
    | with_reducible apply framedQueue.after (queue_convert _ _)
    | with_reducible apply framedQueue.frame (touches_forceService _ _ _)
    | with_reducible apply framedQueue.fold
    | with_reducible intro _
    | dsimp only
    | split

theorem queue_forceCells (crane : Nat) (sectors : Nat) (s : State) :
    KeepsQueue s (forceCells crane sectors s).1 := by
  unfold forceCells
  repeat' first
    | with_reducible apply framedQueue.refl
    | decide +kernel
    | with_reducible apply framedQueue.after (queue_forceClear _ _ _)
    | with_reducible apply framedQueue.fold
    | with_reducible intro _
    | dsimp only
    | split

theorem queue_stopTheCrane (crane : Nat) (s : State) :
    KeepsQueue s (stopTheCrane crane s).1 := by
  unfold stopTheCrane
  repeat' first
    | with_reducible apply framedQueue.refl
    | decide +kernel
    | with_reducible apply framedQueue.after (queue_addStop _ _ _)
    | with_reducible apply framedQueue.fold
    | with_reducible intro _
    | dsimp only
    | split

theorem queue_clearStops (s : State) (c : Crane) (named : List StopReason) :
    KeepsQueue s (s.clearStops c named) := by
  unfold State.clearStops
  repeat' first
    | with_reducible apply framedQueue.refl
    | decide +kernel
    | with_reducible apply framedQueue.after (queue_removeReasonFrom _ _ _)
    | with_reducible apply framedQueue.frame (touches_setStops _ _ _)
    | with_reducible apply framedQueue.fold
    | with_reducible intro _
    | dsimp only
    | split

theorem queue_clearTheStops (crane : Nat) (reasons : Nat) (s : State) :
    KeepsQueue s (clearTheStops crane reasons s).1 := by
  unfold clearTheStops
  repeat' first
    | with_reducible apply framedQueue.refl
    | decide +kernel
    | with_reducible apply framedQueue.after (queue_clearStops _ _ _)
    | with_reducible apply framedQueue.fold
    | with_reducible intro _
    | dsimp only
    | split

end Sys2Proof.Machine
end

