-- ==== Sys2Proof/Laws/KeepsWaits.lean ====
section
/-!
SUPPORT. Every operation but ENTER's adds no entry to the wait list (R73).
-/
set_option Elab.async false
namespace Sys2Proof.Machine

/-- The wait list loses entries and gains none; the rest keep their order. -/
def KeepsWaits (s t : State) : Prop := t.waits.Sublist s.waits

theorem framedWaits : Framed KeepsWaits [.waits] where
  trans h k := k.trans h
  same h := by
    have hw := h .waits (by decide)
    simp only [Same] at hw
    simp only [KeepsWaits, hw]
    exact List.Sublist.refl _


theorem waits_denyWaits (s : State) (p : Wait → Bool) (why : DenyReason) :
    KeepsWaits s (s.denyWaits p why) := by
  have h1 : KeepsWaits s (s.withWaits (s.waits.filter (fun w => !p w))) := List.filter_sublist
  unfold State.denyWaits
  dsimp only
  refine framedWaits.fold h1 _ _ (fun u w => ?_)
  exact framedWaits.frame (touches_reviewOffPath _ _) (by decide +kernel) (framedWaits.of (touches_notify _ _ _) (by decide +kernel))

theorem waits_denyCrane (s : State) (c : Crane) (why : DenyReason) :
    KeepsWaits s (s.denyCrane c why) := by
  unfold State.denyCrane
  repeat' first
    | with_reducible apply framedWaits.refl
    | decide +kernel
    | with_reducible apply framedWaits.after (waits_denyWaits _ _ _)
    | with_reducible apply framedWaits.fold
    | with_reducible intro _
    | dsimp only
    | split

theorem waits_addStop (s : State) (c : Crane) (r : StopReason) :
    KeepsWaits s (s.addStop c r) := by
  unfold State.addStop
  repeat' first
    | with_reducible apply framedWaits.refl
    | decide +kernel
    | with_reducible apply framedWaits.frame (touches_addReasonTo _ _ _)
    | with_reducible apply framedWaits.after (waits_denyCrane _ _ _)
    | with_reducible apply framedWaits.frame (touches_setStops _ _ _)
    | with_reducible apply framedWaits.fold
    | with_reducible intro _
    | dsimp only
    | split

theorem waits_stopAction (s : State) (k : AlertKind) (c : Option Crane) :
    KeepsWaits s (s.stopAction k c) := by
  unfold State.stopAction
  repeat' first
    | with_reducible apply framedWaits.refl
    | decide +kernel
    | with_reducible apply framedWaits.after (waits_addStop _ _ _)
    | with_reducible apply framedWaits.fold
    | with_reducible intro _
    | dsimp only
    | split

theorem waits_raise (s : State) (k : AlertKind) (c : Option Crane) :
    KeepsWaits s (s.raise k c) := by
  unfold State.raise
  repeat' first
    | with_reducible apply framedWaits.refl
    | decide +kernel
    | with_reducible apply framedWaits.frame (touches_evaluateLines _)
    | with_reducible apply framedWaits.frame (touches_latchAlert _ _ _)
    | with_reducible apply framedWaits.after (waits_stopAction _ _ _)
    | with_reducible apply framedWaits.fold
    | with_reducible intro _
    | dsimp only
    | split

theorem waits_raiseFor (s : State) (k : AlertKind) (c : Crane) :
    KeepsWaits s (s.raiseFor k c) := by
  unfold State.raiseFor
  repeat' first
    | with_reducible apply framedWaits.refl
    | decide +kernel
    | with_reducible apply framedWaits.after (waits_raise _ _ _)
    | with_reducible apply framedWaits.fold
    | with_reducible intro _
    | dsimp only
    | split

theorem waits_dropWait (s : State) (c : Crane) (x : Sector) :
    KeepsWaits s (s.dropWait c x) := by
  exact List.filter_sublist

theorem waits_tryGrant (s : State) (w : Wait) :
    KeepsWaits s (s.tryGrant w) := by
  unfold State.tryGrant
  repeat' first
    | with_reducible apply framedWaits.refl
    | decide +kernel
    | with_reducible apply framedWaits.frame (touches_changeCells _ _)
    | with_reducible apply framedWaits.after (waits_dropWait _ _ _)
    | with_reducible apply framedWaits.frame (touches_notify _ _ _)
    | with_reducible apply framedWaits.frame (touches_ownAndSeized _ _)
    | with_reducible apply framedWaits.fold
    | with_reducible intro _
    | dsimp only
    | split

theorem waits_walk (s : State) :
    KeepsWaits s (s.walk) := by
  unfold State.walk
  repeat' first
    | with_reducible apply framedWaits.refl
    | decide +kernel
    | with_reducible apply framedWaits.after (waits_tryGrant _ _)
    | with_reducible apply framedWaits.fold
    | with_reducible intro _
    | dsimp only
    | split

theorem waits_outOfService (s : State) (c : Crane) (o : Order) (withheld : Bool) :
    KeepsWaits s (s.outOfService c o withheld) := by
  unfold State.outOfService
  repeat' first
    | with_reducible apply framedWaits.refl
    | decide +kernel
    | with_reducible apply framedWaits.after (waits_denyCrane _ _ _)
    | with_reducible apply framedWaits.frame (touches_setSvc _ _ _)
    | with_reducible apply framedWaits.frame (touches_withdraw _ _ _)
    | with_reducible apply framedWaits.fold
    | with_reducible intro _
    | dsimp only
    | split

theorem waits_resumeChange (s : State) (c : Crane) :
    KeepsWaits s (s.resumeChange c) := by
  unfold State.resumeChange
  repeat' first
    | with_reducible apply framedWaits.refl
    | decide +kernel
    | with_reducible apply framedWaits.frame (touches_changeCells _ _)
    | with_reducible apply framedWaits.after (waits_outOfService _ _ _ _)
    | with_reducible apply framedWaits.frame (touches_toService _ _)
    | with_reducible apply framedWaits.fold
    | with_reducible intro _
    | dsimp only
    | split

theorem waits_retryOne {recheck : State → State} (h : ∀ s, KeepsWaits s (recheck s)) (p : State × Bool) (c : Crane) :
    KeepsWaits p.1 (retryOne recheck p c).1 := by
  unfold retryOne followThree
  split
  · dsimp only
    split
    · exact framedWaits.after (h _) ((framedWaits).frame (touches_ownAndSeized _ _) (by decide +kernel) ((framedWaits).after (waits_resumeChange _ _) (framedWaits.refl _)))
    · exact ((framedWaits).frame (touches_ownAndSeized _ _) (by decide +kernel) ((framedWaits).after (waits_resumeChange _ _) (framedWaits.refl _)))
  · exact framedWaits.refl _

theorem waits_retryPass {recheck : State → State} (h : ∀ s, KeepsWaits s (recheck s)) (s : State) :
    KeepsWaits s (retryPass recheck s).1 := by
  suffices H : ∀ (l : List Crane) (p : State × Bool), KeepsWaits s p.1 → KeepsWaits s (l.foldl (retryOne recheck) p).1 from
    H _ _ (framedWaits.refl _)
  intro l
  induction l with
  | nil => exact fun _ hp => hp
  | cons c l ih => exact fun p hp => ih _ (framedWaits.trans hp (waits_retryOne h p c))

theorem waits_arbitrateLoop {retry : State → State × Bool} (h : ∀ s, KeepsWaits s (retry s).1) (n : Nat) (s : State) :
    KeepsWaits s (arbitrateLoop retry n s) := by
  induction n generalizing s with
  | zero => exact framedWaits.refl _
  | succ n ih =>
    have h1 : KeepsWaits s (retry s.walk).1 := framedWaits.after (h _) ((framedWaits).after (waits_walk _) (framedWaits.refl _))
    unfold arbitrateLoop
    dsimp only
    split
    · exact framedWaits.trans h1 (ih _)
    · exact h1

theorem waits_arbitrateWith {recheck : State → State} (h : ∀ s, KeepsWaits s (recheck s)) (s : State) :
    KeepsWaits s (arbitrateWith recheck s) := waits_arbitrateLoop (waits_retryPass h) _ _

theorem waits_followThree {recheck : State → State} (h : ∀ s, KeepsWaits s (recheck s)) (chg : List Change) (s : State) :
    KeepsWaits s (followThree recheck chg s) := by
  unfold followThree
  dsimp only
  split
  · exact framedWaits.after (h _) ((framedWaits).frame (touches_ownAndSeized _ _) (by decide +kernel) (framedWaits.refl _))
  · exact ((framedWaits).frame (touches_ownAndSeized _ _) (by decide +kernel) (framedWaits.refl _))

theorem waits_followWith {recheck : State → State} (h : ∀ s, KeepsWaits s (recheck s)) (chg : List Change) (s : State) :
    KeepsWaits s (followWith recheck chg s) := by
  unfold followWith
  dsimp only
  split
  · exact framedWaits.after (waits_arbitrateWith h _) (waits_followThree h _ _)
  · exact waits_followThree h _ _

theorem waits_releaseVaneWith {recheck : State → State} (h : ∀ s, KeepsWaits s (recheck s)) (s : State) (c : Crane) :
    KeepsWaits s (releaseVaneWith recheck s c) :=
  framedWaits.after (waits_followWith h _ _) ((framedWaits).after (waits_outOfService _ _ _ _) ((framedWaits).frame (touches_changeCells _ _) (by decide +kernel) (framedWaits.refl _)))

theorem waits_recheckN (n : Nat) (s : State) : KeepsWaits s (recheckN n s) := by
  induction n generalizing s with
  | zero => exact framedWaits.refl _
  | succ n ih =>
    refine framedWaits.fold (framedWaits.refl s) _ _ (fun u c => ?_)
    unfold recheckOne
    split
    · exact waits_releaseVaneWith ih u c
    · exact framedWaits.refl _

theorem waits_recheckVane (s : State) : KeepsWaits s s.recheckVane := waits_recheckN 8 s

theorem waits_arbitrate (s : State) : KeepsWaits s s.arbitrate := waits_arbitrateWith waits_recheckVane s

theorem waits_follow (s : State) (chg : List Change) : KeepsWaits s (s.follow chg) := waits_followWith waits_recheckVane chg s

theorem waits_testVane (s : State) (c : Crane) : KeepsWaits s (s.testVane c) := by
  unfold State.testVane
  split
  · exact waits_releaseVaneWith waits_recheckVane s c
  · exact framedWaits.refl _

theorem waits_convert (s : State) (rs : List CellReq) :
    KeepsWaits s (s.convert rs) := by
  unfold State.convert
  repeat' first
    | with_reducible apply framedWaits.refl
    | decide +kernel
    | with_reducible apply framedWaits.frame (touches_changeCells _ _)
    | with_reducible apply framedWaits.after (waits_follow _ _)
    | with_reducible apply framedWaits.fold
    | with_reducible intro _
    | dsimp only
    | split

theorem waits_resumeCrane (s : State) (c : Crane) :
    KeepsWaits s (s.resumeCrane c) := by
  unfold State.resumeCrane
  repeat' first
    | with_reducible apply framedWaits.refl
    | decide +kernel
    | with_reducible apply framedWaits.after (waits_follow _ _)
    | with_reducible apply framedWaits.after (waits_resumeChange _ _)
    | with_reducible apply framedWaits.fold
    | with_reducible intro _
    | dsimp only
    | split

theorem waits_holdCell (s : State) (q : CellId) (o : OriginRule) :
    KeepsWaits s (s.holdCell q o) := by
  unfold State.holdCell
  repeat' first
    | with_reducible apply framedWaits.refl
    | decide +kernel
    | with_reducible apply framedWaits.frame (touches_changeCells _ _)
    | with_reducible apply framedWaits.after (waits_dropWait _ _ _)
    | with_reducible apply framedWaits.after (waits_follow _ _)
    | with_reducible apply framedWaits.frame (touches_notify _ _ _)
    | with_reducible apply framedWaits.fold
    | with_reducible intro _
    | dsimp only
    | split

theorem waits_withheldToVaneWait (s : State) (c : Crane) :
    KeepsWaits s (s.withheldToVaneWait c) := by
  unfold State.withheldToVaneWait
  repeat' first
    | with_reducible apply framedWaits.refl
    | decide +kernel
    | with_reducible apply framedWaits.after (waits_denyCrane _ _ _)
    | with_reducible apply framedWaits.frame (touches_setSvc _ _ _)
    | with_reducible apply framedWaits.fold
    | with_reducible intro _
    | dsimp only
    | split

theorem waits_enterSecuring (s : State) (c : Crane) :
    KeepsWaits s (s.enterSecuring c) := by
  unfold State.enterSecuring
  repeat' first
    | with_reducible apply framedWaits.refl
    | decide +kernel
    | with_reducible apply framedWaits.frame (touches_setSvc _ _ _)
    | with_reducible apply framedWaits.after (waits_testVane _ _)
    | with_reducible apply framedWaits.frame (touches_toSecuring _ _)
    | with_reducible apply framedWaits.after (waits_withheldToVaneWait _ _)
    | with_reducible apply framedWaits.fold
    | with_reducible intro _
    | dsimp only
    | split

theorem waits_enterSecuringAll (s : State) :
    KeepsWaits s (s.enterSecuringAll) := by
  unfold State.enterSecuringAll
  repeat' first
    | with_reducible apply framedWaits.refl
    | decide +kernel
    | with_reducible apply framedWaits.after (waits_enterSecuring _ _)
    | with_reducible apply framedWaits.fold
    | with_reducible intro _
    | dsimp only
    | split

theorem waits_enterStorm (s : State) (c : Crane) :
    KeepsWaits s (s.enterStorm c) := by
  unfold State.enterStorm
  repeat' first
    | with_reducible apply framedWaits.refl
    | decide +kernel
    | with_reducible apply framedWaits.frame (touches_addReasonAll _ _)
    | with_reducible apply framedWaits.after (waits_enterSecuringAll _)
    | with_reducible apply framedWaits.after (waits_raiseFor _ _ _)
    | with_reducible apply framedWaits.frame (touches_withSite _ _)
    | with_reducible apply framedWaits.fold
    | with_reducible intro _
    | dsimp only
    | split

theorem waits_reportStorm (s : State) (c : Crane) :
    KeepsWaits s (s.reportStorm c) := by
  unfold State.reportStorm
  repeat' first
    | with_reducible apply framedWaits.refl
    | decide +kernel
    | with_reducible apply framedWaits.after (waits_enterStorm _ _)
    | with_reducible apply framedWaits.after (waits_raiseFor _ _ _)
    | with_reducible apply framedWaits.fold
    | with_reducible intro _
    | dsimp only
    | split

theorem waits_parkCrane (s : State) (c : Crane) :
    KeepsWaits s (s.parkCrane c) := by
  unfold State.parkCrane
  repeat' first
    | with_reducible apply framedWaits.refl
    | decide +kernel
    | with_reducible apply framedWaits.after (waits_convert _ _)
    | with_reducible apply framedWaits.after (waits_denyCrane _ _ _)
    | with_reducible apply framedWaits.frame (touches_setSvc _ _ _)
    | with_reducible apply framedWaits.frame (touches_withdraw _ _ _)
    | with_reducible apply framedWaits.fold
    | with_reducible intro _
    | dsimp only
    | split

theorem waits_toVaneWait (s : State) (c : Crane) :
    KeepsWaits s (s.toVaneWait c) := by
  unfold State.toVaneWait
  repeat' first
    | with_reducible apply framedWaits.refl
    | decide +kernel
    | with_reducible apply framedWaits.after (waits_denyCrane _ _ _)
    | with_reducible apply framedWaits.frame (touches_setSvc _ _ _)
    | with_reducible apply framedWaits.after (waits_testVane _ _)
    | with_reducible apply framedWaits.fold
    | with_reducible intro _
    | dsimp only
    | split

theorem waits_securingStage (s : State) (c : Crane) :
    KeepsWaits s (s.securingStage c) := by
  unfold State.securingStage
  repeat' first
    | with_reducible apply framedWaits.refl
    | decide +kernel
    | with_reducible apply framedWaits.after (waits_parkCrane _ _)
    | with_reducible apply framedWaits.frame (touches_setSvc _ _ _)
    | with_reducible apply framedWaits.after (waits_toVaneWait _ _)
    | with_reducible apply framedWaits.fold
    | with_reducible intro _
    | dsimp only
    | split

theorem waits_rejoinService (s : State) (c : Crane) :
    KeepsWaits s (s.rejoinService c) := by
  unfold State.rejoinService
  repeat' first
    | with_reducible apply framedWaits.refl
    | decide +kernel
    | with_reducible apply framedWaits.frame (touches_setSvc _ _ _)
    | with_reducible apply framedWaits.after (waits_testVane _ _)
    | with_reducible apply framedWaits.fold
    | with_reducible intro _
    | dsimp only
    | split

theorem waits_keepInStep (s : State) (k : AlertKind) (c : Crane) (holds : Bool) :
    KeepsWaits s (s.keepInStep k c holds) := by
  unfold State.keepInStep
  repeat' first
    | with_reducible apply framedWaits.refl
    | decide +kernel
    | with_reducible apply framedWaits.after (waits_raiseFor _ _ _)
    | with_reducible apply framedWaits.frame (touches_withdraw _ _ _)
    | with_reducible apply framedWaits.fold
    | with_reducible intro _
    | dsimp only
    | split

theorem waits_windConditions (s : State) (c : Crane) :
    KeepsWaits s (s.windConditions c) := by
  unfold State.windConditions
  repeat' first
    | with_reducible apply framedWaits.refl
    | decide +kernel
    | with_reducible apply framedWaits.after (waits_keepInStep _ _ _ _)
    | with_reducible apply framedWaits.fold
    | with_reducible intro _
    | dsimp only
    | split

theorem waits_windStage (s : State) (c : Crane) (wind : Option Nat) :
    KeepsWaits s (s.windStage c wind) := by
  unfold State.windStage
  repeat' first
    | with_reducible apply framedWaits.refl
    | decide +kernel
    | with_reducible apply framedWaits.frame (touches_handVerdict _ _)
    | with_reducible apply framedWaits.after (waits_reportStorm _ _)
    | with_reducible apply framedWaits.frame (touches_setWind _ _ _)
    | with_reducible apply framedWaits.after (waits_windConditions _ _)
    | with_reducible apply framedWaits.fold
    | with_reducible intro _
    | dsimp only
    | split

theorem waits_windLost (s : State) (c : Crane) :
    KeepsWaits s (s.windLost c) := by
  unfold State.windLost
  repeat' first
    | with_reducible apply framedWaits.refl
    | decide +kernel
    | with_reducible apply framedWaits.frame (touches_setWind _ _ _)
    | with_reducible apply framedWaits.after (waits_windConditions _ _)
    | with_reducible apply framedWaits.fold
    | with_reducible intro _
    | dsimp only
    | split

theorem waits_intrude (s : State) (q : CellId) :
    KeepsWaits s (s.intrude q) := by
  unfold State.intrude
  repeat' first
    | with_reducible apply framedWaits.refl
    | decide +kernel
    | with_reducible apply framedWaits.after (waits_raiseFor _ _ _)
    | with_reducible apply framedWaits.frame (touches_register_ _ _ _)
    | with_reducible apply framedWaits.fold
    | with_reducible intro _
    | dsimp only
    | split

theorem waits_seize (s : State) (q : CellId) :
    KeepsWaits s (s.seize q) := by
  unfold State.seize
  repeat' first
    | with_reducible apply framedWaits.refl
    | decide +kernel
    | with_reducible apply framedWaits.after (waits_convert _ _)
    | with_reducible apply framedWaits.after (waits_intrude _ _)
    | with_reducible apply framedWaits.fold
    | with_reducible intro _
    | dsimp only
    | split

theorem waits_checkOccupied (s : State) (q : CellId) :
    KeepsWaits s (s.checkOccupied q) := by
  unfold State.checkOccupied
  repeat' first
    | with_reducible apply framedWaits.refl
    | decide +kernel
    | with_reducible apply framedWaits.after (waits_holdCell _ _ _)
    | with_reducible apply framedWaits.after (waits_seize _ _)
    | with_reducible apply framedWaits.fold
    | with_reducible intro _
    | dsimp only
    | split

theorem waits_checkLeft (s : State) (q : CellId) :
    KeepsWaits s (s.checkLeft q) := by
  unfold State.checkLeft
  repeat' first
    | with_reducible apply framedWaits.refl
    | decide +kernel
    | with_reducible apply framedWaits.after (waits_convert _ _)
    | with_reducible apply framedWaits.fold
    | with_reducible intro _
    | dsimp only
    | split

theorem waits_checkPosition (s : State) (c : Crane) :
    KeepsWaits s (s.checkPosition c) := by
  unfold State.checkPosition
  repeat' first
    | with_reducible apply framedWaits.refl
    | decide +kernel
    | with_reducible apply framedWaits.after (waits_checkLeft _ _)
    | with_reducible apply framedWaits.after (waits_checkOccupied _ _)
    | with_reducible apply framedWaits.fold
    | with_reducible intro _
    | dsimp only
    | split

theorem waits_positionStage (s : State) (c : Crane) (angle : Nat) :
    KeepsWaits s (s.positionStage c angle) := by
  unfold State.positionStage
  repeat' first
    | with_reducible apply framedWaits.refl
    | decide +kernel
    | with_reducible apply framedWaits.after (waits_checkPosition _ _)
    | with_reducible apply framedWaits.frame (touches_setOccupied _ _ _)
    | with_reducible apply framedWaits.fold
    | with_reducible intro _
    | dsimp only
    | split

theorem waits_liftStage (s : State) (c : Crane) (load : Option Nat) (radius : Nat) :
    KeepsWaits s (s.liftStage c load radius) := by
  unfold State.liftStage
  repeat' first
    | with_reducible apply framedWaits.refl
    | decide +kernel
    | with_reducible apply framedWaits.frame (touches_addReasonTo _ _ _)
    | with_reducible apply framedWaits.after (waits_raiseFor _ _ _)
    | with_reducible apply framedWaits.frame (touches_setLastConf _ _ _)
    | with_reducible apply framedWaits.frame (touches_withdraw _ _ _)
    | with_reducible apply framedWaits.fold
    | with_reducible intro _
    | dsimp only
    | split

theorem waits_loadDrop (s : State) (c : Crane) :
    KeepsWaits s (s.loadDrop c) := by
  unfold State.loadDrop
  repeat' first
    | with_reducible apply framedWaits.refl
    | decide +kernel
    | with_reducible apply framedWaits.after (waits_arbitrate _)
    | with_reducible apply framedWaits.frame (touches_setRestricted _ _ _)
    | with_reducible apply framedWaits.frame (touches_withdraw _ _ _)
    | with_reducible apply framedWaits.fold
    | with_reducible intro _
    | dsimp only
    | split

theorem waits_testOverrun (s : State) (n : Nat) (id : Nat) :
    KeepsWaits s (s.testOverrun n id) := by
  unfold State.testOverrun
  repeat' first
    | with_reducible apply framedWaits.refl
    | decide +kernel
    | with_reducible apply framedWaits.frame (touches_putLift _ _)
    | with_reducible apply framedWaits.after (waits_raiseFor _ _ _)
    | with_reducible apply framedWaits.fold
    | with_reducible intro _
    | dsimp only
    | split

theorem waits_bookingMinute (s : State) (n : Nat) :
    KeepsWaits s (s.bookingMinute n) := by
  unfold State.bookingMinute
  repeat' first
    | with_reducible apply framedWaits.refl
    | decide +kernel
    | with_reducible apply framedWaits.frame (touches_testBooked _ _ _)
    | with_reducible apply framedWaits.after (waits_testOverrun _ _ _)
    | with_reducible apply framedWaits.fold
    | with_reducible intro _
    | dsimp only
    | split

theorem waits_formRestricted (s : State) (n : Nat) (c : Crane) :
    KeepsWaits s (s.formRestricted n c) := by
  unfold State.formRestricted
  repeat' first
    | with_reducible apply framedWaits.refl
    | decide +kernel
    | with_reducible apply framedWaits.after (waits_raiseFor _ _ _)
    | with_reducible apply framedWaits.frame (touches_setRestricted _ _ _)
    | with_reducible apply framedWaits.frame (touches_withdraw _ _ _)
    | with_reducible apply framedWaits.fold
    | with_reducible intro _
    | dsimp only
    | split

theorem waits_zoneMinute (s : State) (n : Nat) :
    KeepsWaits s (s.zoneMinute n) := by
  unfold State.zoneMinute
  repeat' first
    | with_reducible apply framedWaits.refl
    | decide +kernel
    | with_reducible apply framedWaits.after (waits_formRestricted _ _ _)
    | with_reducible apply framedWaits.fold
    | with_reducible intro _
    | dsimp only
    | split

theorem waits_minuteEvent (s : State) (n : Nat) :
    KeepsWaits s (s.minuteEvent n) := by
  unfold State.minuteEvent
  repeat' first
    | with_reducible apply framedWaits.refl
    | decide +kernel
    | with_reducible apply framedWaits.after (waits_bookingMinute _ _)
    | with_reducible apply framedWaits.after (waits_zoneMinute _ _)
    | with_reducible apply framedWaits.fold
    | with_reducible intro _
    | dsimp only
    | split

theorem waits_moveTime (s : State) (t : Nat) :
    KeepsWaits s (s.moveTime t) := by
  unfold State.moveTime
  repeat' first
    | with_reducible apply framedWaits.refl
    | decide +kernel
    | with_reducible apply framedWaits.after (waits_minuteEvent _ _)
    | with_reducible apply framedWaits.frame (touches_withClock _ _)
    | with_reducible apply framedWaits.fold
    | with_reducible intro _
    | dsimp only
    | split

theorem waits_endLift (s : State) (b : Booking) :
    KeepsWaits s (s.endLift b) := by
  unfold State.endLift
  repeat' first
    | with_reducible apply framedWaits.refl
    | decide +kernel
    | with_reducible apply framedWaits.after (waits_arbitrate _)
    | with_reducible apply framedWaits.frame (touches_freeLift _ _)
    | with_reducible apply framedWaits.frame (touches_reviewOffPath _ _)
    | with_reducible apply framedWaits.frame (touches_setLastConf _ _ _)
    | with_reducible apply framedWaits.frame (touches_withdraw _ _ _)
    | with_reducible apply framedWaits.fold
    | with_reducible intro _
    | dsimp only
    | split

theorem waits_endRunning (terminal : Nat) (q : Requester) (id : Nat) (s : State) :
    KeepsWaits s (endRunning terminal q id s).1 := by
  unfold endRunning
  repeat' first
    | with_reducible apply framedWaits.refl
    | decide +kernel
    | with_reducible apply framedWaits.after (waits_endLift _ _)
    | with_reducible apply framedWaits.fold
    | with_reducible intro _
    | dsimp only
    | split

theorem waits_finish (q : Requester) (id : Nat) (s : State) :
    KeepsWaits s (finish q id s).1 := by
  unfold finish
  repeat' first
    | with_reducible apply framedWaits.refl
    | decide +kernel
    | with_reducible apply framedWaits.after (waits_endRunning _ _ _ _)
    | with_reducible apply framedWaits.fold
    | with_reducible intro _
    | dsimp only
    | split

theorem waits_land (q : Requester) (id : Nat) (s : State) :
    KeepsWaits s (land q id s).1 := by
  unfold land
  repeat' first
    | with_reducible apply framedWaits.refl
    | decide +kernel
    | with_reducible apply framedWaits.after (waits_endRunning _ _ _ _)
    | with_reducible apply framedWaits.fold
    | with_reducible intro _
    | dsimp only
    | split

theorem waits_releaseZone (c : Crane) (n : Nat) (s : State) :
    KeepsWaits s (releaseZone c n s).1 := by
  unfold releaseZone
  repeat' first
    | with_reducible apply framedWaits.refl
    | decide +kernel
    | with_reducible apply framedWaits.after (waits_convert _ _)
    | with_reducible apply framedWaits.after (waits_dropWait _ _ _)
    | with_reducible apply framedWaits.frame (touches_reviewOffPath _ _)
    | with_reducible apply framedWaits.fold
    | with_reducible intro _
    | dsimp only
    | split

theorem waits_deliver (s : State) (c : Crane) (r : Report) (rejoining : Bool) (wasZero : Bool) :
    KeepsWaits s (s.deliver c r rejoining wasZero) := by
  unfold State.deliver
  repeat' first
    | with_reducible apply framedWaits.refl
    | decide +kernel
    | with_reducible apply framedWaits.after (waits_liftStage _ _ _ _)
    | with_reducible apply framedWaits.after (waits_loadDrop _ _)
    | with_reducible apply framedWaits.after (waits_positionStage _ _ _)
    | with_reducible apply framedWaits.frame (touches_removeReasonFrom _ _ _)
    | with_reducible apply framedWaits.after (waits_securingStage _ _)
    | with_reducible apply framedWaits.after (waits_windStage _ _ _)
    | with_reducible apply framedWaits.fold
    | with_reducible intro _
    | dsimp only
    | split

theorem waits_acceptStatus (s : State) (c : Crane) (r : Report) :
    KeepsWaits s (s.acceptStatus c r) := by
  unfold State.acceptStatus
  repeat' first
    | with_reducible apply framedWaits.refl
    | decide +kernel
    | with_reducible apply framedWaits.frame (touches_acknowledge _ _ _)
    | with_reducible apply framedWaits.after (waits_deliver _ _ _ _ _)
    | with_reducible apply framedWaits.after (waits_raiseFor _ _ _)
    | with_reducible apply framedWaits.frame (touches_recordReport _ _ _ _)
    | with_reducible apply framedWaits.frame (touches_withdraw _ _ _)
    | with_reducible apply framedWaits.fold
    | with_reducible intro _
    | dsimp only
    | split

theorem waits_acceptRejoin (s : State) (c : Crane) (r : Report) :
    KeepsWaits s (s.acceptRejoin c r) := by
  unfold State.acceptRejoin
  repeat' first
    | with_reducible apply framedWaits.refl
    | decide +kernel
    | with_reducible apply framedWaits.frame (touches_acknowledge _ _ _)
    | with_reducible apply framedWaits.after (waits_deliver _ _ _ _ _)
    | with_reducible apply framedWaits.frame (touches_recordReport _ _ _ _)
    | with_reducible apply framedWaits.after (waits_rejoinService _ _)
    | with_reducible apply framedWaits.frame (touches_withdraw _ _ _)
    | with_reducible apply framedWaits.fold
    | with_reducible intro _
    | dsimp only
    | split

theorem waits_becomeLost (s : State) (c : Crane) :
    KeepsWaits s (s.becomeLost c) := by
  unfold State.becomeLost
  repeat' first
    | with_reducible apply framedWaits.refl
    | decide +kernel
    | with_reducible apply framedWaits.frame (touches_addReasonTo _ _ _)
    | with_reducible apply framedWaits.after (waits_denyCrane _ _ _)
    | with_reducible apply framedWaits.after (waits_raiseFor _ _ _)
    | with_reducible apply framedWaits.frame (touches_setCrane _ _ _)
    | with_reducible apply framedWaits.frame (touches_setSvc _ _ _)
    | with_reducible apply framedWaits.after (waits_windLost _ _)
    | with_reducible apply framedWaits.fold
    | with_reducible intro _
    | dsimp only
    | split

theorem waits_badFrame (s : State) (c : Crane) :
    KeepsWaits s (s.badFrame c) := by
  unfold State.badFrame
  repeat' first
    | with_reducible apply framedWaits.refl
    | decide +kernel
    | with_reducible apply framedWaits.after (waits_raiseFor _ _ _)
    | with_reducible apply framedWaits.frame (touches_setLink _ _ _)
    | with_reducible apply framedWaits.fold
    | with_reducible intro _
    | dsimp only
    | split

theorem waits_raiseSiteStop (s : State) :
    KeepsWaits s (s.raiseSiteStop) := by
  unfold State.raiseSiteStop
  repeat' first
    | with_reducible apply framedWaits.refl
    | decide +kernel
    | with_reducible apply framedWaits.after (waits_addStop _ _ _)
    | with_reducible apply framedWaits.after (waits_raise _ _ _)
    | with_reducible apply framedWaits.fold
    | with_reducible intro _
    | dsimp only
    | split

theorem waits_startUp (s : State) :
    KeepsWaits s (s.startUp) := by
  exact List.nil_sublist _

theorem waits_startRaisings (s : State) :
    KeepsWaits s (s.startRaisings) := by
  unfold State.startRaisings
  repeat' first
    | with_reducible apply framedWaits.refl
    | decide +kernel
    | with_reducible apply framedWaits.after (waits_raise _ _ _)
    | with_reducible apply framedWaits.after (waits_raiseSiteStop _)
    | with_reducible apply framedWaits.fold
    | with_reducible intro _
    | dsimp only
    | split

theorem waits_passSecond (s : State) :
    KeepsWaits s (s.passSecond) := by
  unfold State.passSecond
  repeat' first
    | with_reducible apply framedWaits.refl
    | decide +kernel
    | with_reducible apply framedWaits.after (waits_moveTime _ _)
    | with_reducible apply framedWaits.frame (touches_withClock _ _)
    | with_reducible apply framedWaits.fold
    | with_reducible intro _
    | dsimp only
    | split

theorem waits_endWrite (s : State) (good : Bool) :
    KeepsWaits s (s.endWrite good) := by
  unfold State.endWrite
  repeat' first
    | with_reducible apply framedWaits.refl
    | decide +kernel
    | with_reducible apply framedWaits.after (waits_raise _ _ _)
    | with_reducible apply framedWaits.frame (touches_withPlan _ _)
    | with_reducible apply framedWaits.frame (touches_withdrawSite _ _)
    | with_reducible apply framedWaits.fold
    | with_reducible intro _
    | dsimp only
    | split

theorem waits_expireClearing (s : State) (q : CellId) :
    KeepsWaits s (s.expireClearing q) := by
  unfold State.expireClearing
  repeat' first
    | with_reducible apply framedWaits.refl
    | decide +kernel
    | with_reducible apply framedWaits.after (waits_convert _ _)
    | with_reducible apply framedWaits.fold
    | with_reducible intro _
    | dsimp only
    | split

theorem waits_expireWait (s : State) (c : Crane) (x : Sector) :
    KeepsWaits s (s.expireWait c x) := by
  unfold State.expireWait
  repeat' first
    | with_reducible apply framedWaits.refl
    | decide +kernel
    | with_reducible apply framedWaits.after (waits_dropWait _ _ _)
    | with_reducible apply framedWaits.frame (touches_notify _ _ _)
    | with_reducible apply framedWaits.frame (touches_reviewOffPath _ _)
    | with_reducible apply framedWaits.fold
    | with_reducible intro _
    | dsimp only
    | split

theorem waits_completeDwell (s : State) (c : Crane) :
    KeepsWaits s (s.completeDwell c) := by
  unfold State.completeDwell
  repeat' first
    | with_reducible apply framedWaits.refl
    | decide +kernel
    | with_reducible apply framedWaits.frame (touches_setWind _ _ _)
    | with_reducible apply framedWaits.after (waits_windConditions _ _)
    | with_reducible apply framedWaits.fold
    | with_reducible intro _
    | dsimp only
    | split

theorem waits_expireTimer (s : State) (c : Crane) :
    KeepsWaits s (s.expireTimer c) := by
  unfold State.expireTimer
  repeat' first
    | with_reducible apply framedWaits.refl
    | decide +kernel
    | with_reducible apply framedWaits.after (waits_raiseFor _ _ _)
    | with_reducible apply framedWaits.frame (touches_setSvc _ _ _)
    | with_reducible apply framedWaits.fold
    | with_reducible intro _
    | dsimp only
    | split

theorem waits_acceptTime (s : State) (t : Nat) :
    KeepsWaits s (s.acceptTime t) := by
  unfold State.acceptTime
  repeat' first
    | with_reducible apply framedWaits.refl
    | decide +kernel
    | with_reducible apply framedWaits.after (waits_moveTime _ _)
    | with_reducible apply framedWaits.frame (touches_withClock _ _)
    | with_reducible apply framedWaits.fold
    | with_reducible intro _
    | dsimp only
    | split

theorem waits_setClock (t : Nat) (s : State) :
    KeepsWaits s (setClock t s).1 := by
  unfold setClock
  repeat' first
    | with_reducible apply framedWaits.refl
    | decide +kernel
    | with_reducible apply framedWaits.after (waits_acceptTime _ _)
    | with_reducible apply framedWaits.fold
    | with_reducible intro _
    | dsimp only
    | split

theorem waits_craneJoins (s : State) (c : Crane) :
    KeepsWaits s (s.craneJoins c) := by
  unfold State.craneJoins
  repeat' first
    | with_reducible apply framedWaits.refl
    | decide +kernel
    | with_reducible apply framedWaits.after (waits_addStop _ _ _)
    | with_reducible apply framedWaits.frame (touches_setCrane _ _ _)
    | with_reducible apply framedWaits.frame (touches_setStops _ _ _)
    | with_reducible apply framedWaits.frame (touches_setSvc _ _ _)
    | with_reducible apply framedWaits.frame (touches_setWind _ _ _)
    | with_reducible apply framedWaits.fold
    | with_reducible intro _
    | dsimp only
    | split

theorem waits_followPresence (old : Plan) (s : State) (c : Crane) :
    KeepsWaits s (s.followPresence old c) := by
  unfold State.followPresence
  repeat' first
    | with_reducible apply framedWaits.refl
    | decide +kernel
    | with_reducible apply framedWaits.after (waits_craneJoins _ _)
    | with_reducible apply framedWaits.frame (touches_craneLeaves _ _)
    | with_reducible apply framedWaits.fold
    | with_reducible intro _
    | dsimp only
    | split

theorem waits_handModeStops (s : State) :
    KeepsWaits s (s.handModeStops) := by
  unfold State.handModeStops
  repeat' first
    | with_reducible apply framedWaits.refl
    | decide +kernel
    | with_reducible apply framedWaits.after (waits_stopAction _ _ _)
    | with_reducible apply framedWaits.fold
    | with_reducible intro _
    | dsimp only
    | split

theorem waits_applyModes (s : State) :
    KeepsWaits s (s.applyModes) := by
  unfold State.applyModes
  repeat' first
    | with_reducible apply framedWaits.refl
    | decide +kernel
    | with_reducible apply framedWaits.frame (touches_evaluateLines _)
    | with_reducible apply framedWaits.after (waits_handModeStops _)
    | with_reducible apply framedWaits.frame (touches_writeModes _)
    | with_reducible apply framedWaits.fold
    | with_reducible intro _
    | dsimp only
    | split

theorem waits_commit (s : State) :
    KeepsWaits s (s.commit) := by
  unfold State.commit
  repeat' first
    | with_reducible apply framedWaits.refl
    | decide +kernel
    | with_reducible apply framedWaits.frame (touches_adoptPlan _)
    | with_reducible apply framedWaits.after (waits_applyModes _)
    | with_reducible apply framedWaits.frame (touches_beginWrite _)
    | with_reducible apply framedWaits.after (waits_followPresence _ _ _)
    | with_reducible apply framedWaits.fold
    | with_reducible intro _
    | dsimp only
    | split

theorem waits_commitPlan (protect : Bool) (s : State) :
    KeepsWaits s (commitPlan protect s).1 := by
  unfold commitPlan
  repeat' first
    | with_reducible apply framedWaits.refl
    | decide +kernel
    | with_reducible apply framedWaits.after (waits_commit _)
    | with_reducible apply framedWaits.frame (touches_withPins _ _)
    | with_reducible apply framedWaits.fold
    | with_reducible intro _
    | dsimp only
    | split

theorem waits_openFromSetup (s : State) :
    KeepsWaits s (s.openFromSetup) := by
  unfold State.openFromSetup
  repeat' first
    | with_reducible apply framedWaits.refl
    | decide +kernel
    | with_reducible apply framedWaits.after (waits_convert _ _)
    | with_reducible apply framedWaits.frame (touches_startService _ _)
    | with_reducible apply framedWaits.frame (touches_withSite _ _)
    | with_reducible apply framedWaits.frame (touches_withdrawSite _ _)
    | with_reducible apply framedWaits.fold
    | with_reducible intro _
    | dsimp only
    | split

theorem waits_convertCrane (s : State) (c : Crane) :
    KeepsWaits s (s.convertCrane c) := by
  unfold State.convertCrane
  repeat' first
    | with_reducible apply framedWaits.refl
    | decide +kernel
    | with_reducible apply framedWaits.after (waits_resumeCrane _ _)
    | with_reducible apply framedWaits.fold
    | with_reducible intro _
    | dsimp only
    | split

theorem waits_bringBack (s : State) :
    KeepsWaits s (s.bringBack) := by
  unfold State.bringBack
  repeat' first
    | with_reducible apply framedWaits.refl
    | decide +kernel
    | with_reducible apply framedWaits.after (waits_convertCrane _ _)
    | with_reducible apply framedWaits.frame (touches_returnCrane _ _)
    | with_reducible apply framedWaits.fold
    | with_reducible intro _
    | dsimp only
    | split

theorem waits_resumeFromStorm (s : State) :
    KeepsWaits s (s.resumeFromStorm) := by
  unfold State.resumeFromStorm
  repeat' first
    | with_reducible apply framedWaits.refl
    | decide +kernel
    | with_reducible apply framedWaits.after (waits_bringBack _)
    | with_reducible apply framedWaits.frame (touches_removeReasonAll _ _)
    | with_reducible apply framedWaits.frame (touches_withSite _ _)
    | with_reducible apply framedWaits.frame (touches_withdrawSite _ _)
    | with_reducible apply framedWaits.fold
    | with_reducible intro _
    | dsimp only
    | split

theorem waits_reopen (s : State) :
    KeepsWaits s (s.reopen) := by
  unfold State.reopen
  repeat' first
    | with_reducible apply framedWaits.refl
    | decide +kernel
    | with_reducible apply framedWaits.after (waits_bringBack _)
    | with_reducible apply framedWaits.frame (touches_withSite _ _)
    | with_reducible apply framedWaits.frame (touches_withdrawSite _ _)
    | with_reducible apply framedWaits.fold
    | with_reducible intro _
    | dsimp only
    | split

theorem waits_openTheSite (s : State) :
    KeepsWaits s (openTheSite s).1 := by
  unfold openTheSite
  repeat' first
    | with_reducible apply framedWaits.refl
    | decide +kernel
    | with_reducible apply framedWaits.after (waits_openFromSetup _)
    | with_reducible apply framedWaits.after (waits_reopen _)
    | with_reducible apply framedWaits.fold
    | with_reducible intro _
    | dsimp only
    | split

theorem waits_close (s : State) :
    KeepsWaits s (s.close) := by
  unfold State.close
  repeat' first
    | with_reducible apply framedWaits.refl
    | decide +kernel
    | with_reducible apply framedWaits.after (waits_denyWaits _ _ _)
    | with_reducible apply framedWaits.after (waits_enterSecuringAll _)
    | with_reducible apply framedWaits.frame (touches_withSite _ _)
    | with_reducible apply framedWaits.fold
    | with_reducible intro _
    | dsimp only
    | split

theorem waits_closeTheSite (s : State) :
    KeepsWaits s (closeTheSite s).1 := by
  unfold closeTheSite
  repeat' first
    | with_reducible apply framedWaits.refl
    | decide +kernel
    | with_reducible apply framedWaits.after (waits_close _)
    | with_reducible apply framedWaits.fold
    | with_reducible intro _
    | dsimp only
    | split

theorem waits_resumeTheSite (s : State) :
    KeepsWaits s (resumeTheSite s).1 := by
  unfold resumeTheSite
  repeat' first
    | with_reducible apply framedWaits.refl
    | decide +kernel
    | with_reducible apply framedWaits.after (waits_resumeFromStorm _)
    | with_reducible apply framedWaits.fold
    | with_reducible intro _
    | dsimp only
    | split

theorem waits_setupReset (s : State) :
    KeepsWaits s (s.setupReset) := by
  unfold State.setupReset
  repeat' first
    | with_reducible apply framedWaits.refl
    | decide +kernel
    | with_reducible apply framedWaits.after (waits_follow _ _)
    | with_reducible apply framedWaits.frame (touches_freeAllCells _)
    | with_reducible apply framedWaits.frame (touches_withRestricted _ _)
    | with_reducible apply framedWaits.frame (touches_withdraw _ _ _)
    | with_reducible apply framedWaits.fold
    | with_reducible intro _
    | dsimp only
    | split

theorem waits_toSetup (s : State) :
    KeepsWaits s (s.toSetup) := by
  unfold State.toSetup
  repeat' first
    | with_reducible apply framedWaits.refl
    | decide +kernel
    | with_reducible apply framedWaits.frame (touches_cancelAll _)
    | with_reducible apply framedWaits.after (waits_denyWaits _ _ _)
    | with_reducible apply framedWaits.after (waits_setupReset _)
    | with_reducible apply framedWaits.frame (touches_toStandby _ _)
    | with_reducible apply framedWaits.frame (touches_withSite _ _)
    | with_reducible apply framedWaits.fold
    | with_reducible intro _
    | dsimp only
    | split

theorem waits_returnSiteToSetup (s : State) :
    KeepsWaits s (returnSiteToSetup s).1 := by
  unfold returnSiteToSetup
  repeat' first
    | with_reducible apply framedWaits.refl
    | decide +kernel
    | with_reducible apply framedWaits.after (waits_toSetup _)
    | with_reducible apply framedWaits.fold
    | with_reducible intro _
    | dsimp only
    | split

theorem waits_forceClear (s : State) (c : Crane) (named : List Sector) :
    KeepsWaits s (s.forceClear c named) := by
  unfold State.forceClear
  repeat' first
    | with_reducible apply framedWaits.refl
    | decide +kernel
    | with_reducible apply framedWaits.after (waits_convert _ _)
    | with_reducible apply framedWaits.frame (touches_forceService _ _ _)
    | with_reducible apply framedWaits.fold
    | with_reducible intro _
    | dsimp only
    | split

theorem waits_forceCells (crane : Nat) (sectors : Nat) (s : State) :
    KeepsWaits s (forceCells crane sectors s).1 := by
  unfold forceCells
  repeat' first
    | with_reducible apply framedWaits.refl
    | decide +kernel
    | with_reducible apply framedWaits.after (waits_forceClear _ _ _)
    | with_reducible apply framedWaits.fold
    | with_reducible intro _
    | dsimp only
    | split

theorem waits_stopTheCrane (crane : Nat) (s : State) :
    KeepsWaits s (stopTheCrane crane s).1 := by
  unfold stopTheCrane
  repeat' first
    | with_reducible apply framedWaits.refl
    | decide +kernel
    | with_reducible apply framedWaits.after (waits_addStop _ _ _)
    | with_reducible apply framedWaits.fold
    | with_reducible intro _
    | dsimp only
    | split

end Sys2Proof.Machine
end

