-- ==== Sys2Proof/Laws/KeepsWind.lean ====
section
/-!
SUPPORT. Every operation keeps the law of the wind records (R95, R98).
-/
set_option Elab.async false
namespace Sys2Proof.Machine

/-- The wind records keep their law. -/
def KeepsWind (s t : State) : Prop := WindLaw s → WindLaw t

theorem framedWind : Framed KeepsWind [.wind] where
  trans h k := fun w => k (h w)
  same h := fun w c => by
    have hw := h .wind (by decide)
    simp only [Same] at hw
    simpa only [State.windRec, hw] using w c

/-! ### Wind records -/

theorem windInitial_lawful : WindRec.initial.Lawful := by
  refine ⟨by decide, by decide, by decide, by decide, by decide, ?_⟩
  intro d h; cases h

theorem startDwell_step {st : WindState} {now : Nat} {d : Dwell} (h : startDwell st now = some d) :
    stepOf st = some d.step := by
  unfold startDwell at h
  cases hs : stepOf st with
  | none => simp [hs] at h
  | some k => simp [hs] at h; simp [← h]

theorem setUnknown_lawful {r : WindRec} (h : r.Lawful) : r.setUnknown.Lawful := by
  unfold WindRec.setUnknown
  split
  · exact h
  · refine ⟨h.short, h.samples, h.acc, ?_, fun _ => rfl, ?_⟩
    · intro _
      cases r.state <;> simp
    · intro d hd; cases hd

theorem pushSample_short {l : List Nat} {w : Nat} (h : l.length ≤ 3) : (pushSample l w).length ≤ 3 := by
  unfold pushSample
  dsimp only
  split <;> simp_all <;> omega

theorem pushSample_le {l : List Nat} {w : Nat} (h : ∀ x ∈ l, x ≤ 600) (hw : w ≤ 600) :
    ∀ x ∈ pushSample l w, x ≤ 600 := by
  have hall : ∀ x ∈ l ++ [w], x ≤ 600 := by
    intro x hx
    rcases List.mem_append.mp hx with hx | hx
    · exact h x hx
    · exact (List.mem_singleton.mp hx).symm ▸ hw
  unfold pushSample
  dsimp only
  split
  · exact fun x hx => hall x (List.mem_of_mem_drop hx)
  · exact hall

theorem accumulate_le {a w : Nat} (h : a ≤ 307200) (hw : w ≤ 600) : accumulate a w ≤ 307200 := by
  unfold accumulate meanOf; omega

theorem takeReading_lawful {r : WindRec} (h : r.Lawful) (hu : r.unknown = false) (e : CraneEntry) (now : Nat) {w : Nat}
    (hw : w ≤ 600) : (r.takeReading e now w).Lawful := by
  unfold WindRec.takeReading
  dsimp only
  split
  · exact ⟨pushSample_short h.short, pushSample_le h.samples hw, accumulate_le h.acc hw, fun k => by simp [hu] at k,
      fun _ => rfl, fun d hd => by cases hd⟩
  · split
    · refine ⟨pushSample_short h.short, pushSample_le h.samples hw, accumulate_le h.acc hw, fun k => by simp [hu] at k,
        fun k => by simp [hu] at k, ?_⟩
      intro d hd
      dsimp only at hd
      split at hd
      · cases hd; exact h.step _ (by assumption)
      · exact startDwell_step hd
    · exact ⟨pushSample_short h.short, pushSample_le h.samples hw, accumulate_le h.acc hw, fun k => by simp [hu] at k,
        fun _ => rfl, fun d hd => by cases hd⟩

theorem freshStart_lawful (r : WindRec) (e : CraneEntry) {w : Nat} (hw : w ≤ 600) : (r.freshStart e w).Lawful := by
  unfold WindRec.freshStart
  refine ⟨by simp, by simpa using hw, by dsimp only; omega, fun k => by simp at k, fun _ => rfl, fun d hd => by cases hd⟩

theorem sample_lawful {r : WindRec} (h : r.Lawful) (e : CraneEntry) (now : Nat) (wind : Option Nat) (n : Nat) :
    (r.sample e now wind n).Lawful := by
  have hr : ({ r with heard := true } : WindRec).Lawful := ⟨h.short, h.samples, h.acc, h.unknownHigh, h.unknownStill, h.step⟩
  unfold WindRec.sample
  dsimp only
  split
  · split
    · exact setUnknown_lawful hr
    · exact hr
  · split
    · exact freshStart_lawful _ _ (by omega)
    · rename_i hu
      exact takeReading_lawful hr (by simpa using hu) _ _ (by omega)

theorem complete_lawful {r : WindRec} (h : r.Lawful) (e : CraneEntry) (now : Nat) {d : Dwell} (hd : r.dwell = some d) :
    (r.complete e now d).Lawful := by
  have hu : r.unknown = false := by
    cases hu : r.unknown with
    | false => rfl
    | true => have := h.unknownStill hu; rw [hd] at this; cases this
  unfold WindRec.complete
  refine ⟨h.short, h.samples, h.acc, fun k => by simp [hu] at k, fun k => by simp [hu] at k, ?_⟩
  intro d' hd'
  dsimp only at hd'
  split at hd'
  · exact startDwell_step hd'
  · cases hd'

/-! ### Operations -/

/-- Writing a lawful record keeps the law. -/
theorem wind_setWind {s : State} {c : Crane} {r : WindRec} (h : WindLaw s → r.Lawful) : KeepsWind s (s.setWind c r) := by
  intro w d
  unfold State.windRec State.setWind State.withWind
  dsimp only
  rw [tget_tput]
  split
  · exact h w
  · exact w d


theorem wind_windStage (s : State) (c : Crane) (wind : Option Nat) :
    KeepsWind s (s.windStage c wind) := by
  have h1 : KeepsWind s (s.setWind c ((s.windRec c).sample (s.entry c) s.now wind (s.craneRec c).noReading)) :=
    wind_setWind (fun w => sample_lawful (w c) _ _ _ _)
  unfold State.windStage
  dsimp only
  split
  · exact framedWind.frame (touches_handVerdict _ _) (by decide +kernel)
      (framedWind.frame (touches_reportStorm _ _) (by decide +kernel)
        (framedWind.frame (touches_windConditions _ _) (by decide +kernel) h1))
  · exact framedWind.frame (touches_handVerdict _ _) (by decide +kernel)
      (framedWind.frame (touches_windConditions _ _) (by decide +kernel) h1)

theorem wind_windLost (s : State) (c : Crane) :
    KeepsWind s (s.windLost c) := by
  exact framedWind.frame (touches_windConditions _ _) (by decide +kernel)
    (wind_setWind (fun w => setUnknown_lawful (w c)))

theorem wind_deliver (s : State) (c : Crane) (r : Report) (rejoining : Bool) (wasZero : Bool) :
    KeepsWind s (s.deliver c r rejoining wasZero) := by
  unfold State.deliver
  repeat' first
    | with_reducible apply framedWind.refl
    | decide +kernel
    | with_reducible apply framedWind.frame (touches_liftStage _ _ _ _)
    | with_reducible apply framedWind.frame (touches_loadDrop _ _)
    | with_reducible apply framedWind.frame (touches_positionStage _ _ _)
    | with_reducible apply framedWind.frame (touches_removeReasonFrom _ _ _)
    | with_reducible apply framedWind.frame (touches_securingStage _ _)
    | with_reducible apply framedWind.after (wind_windStage _ _ _)
    | with_reducible apply framedWind.fold
    | with_reducible intro _
    | dsimp only
    | split

theorem wind_acceptStatus (s : State) (c : Crane) (r : Report) :
    KeepsWind s (s.acceptStatus c r) := by
  unfold State.acceptStatus
  repeat' first
    | with_reducible apply framedWind.refl
    | decide +kernel
    | with_reducible apply framedWind.frame (touches_acknowledge _ _ _)
    | with_reducible apply framedWind.after (wind_deliver _ _ _ _ _)
    | with_reducible apply framedWind.frame (touches_raiseFor _ _ _)
    | with_reducible apply framedWind.frame (touches_recordReport _ _ _ _)
    | with_reducible apply framedWind.frame (touches_withdraw _ _ _)
    | with_reducible apply framedWind.fold
    | with_reducible intro _
    | dsimp only
    | split

theorem wind_acceptRejoin (s : State) (c : Crane) (r : Report) :
    KeepsWind s (s.acceptRejoin c r) := by
  unfold State.acceptRejoin
  repeat' first
    | with_reducible apply framedWind.refl
    | decide +kernel
    | with_reducible apply framedWind.frame (touches_acknowledge _ _ _)
    | with_reducible apply framedWind.after (wind_deliver _ _ _ _ _)
    | with_reducible apply framedWind.frame (touches_recordReport _ _ _ _)
    | with_reducible apply framedWind.frame (touches_rejoinService _ _)
    | with_reducible apply framedWind.frame (touches_withdraw _ _ _)
    | with_reducible apply framedWind.fold
    | with_reducible intro _
    | dsimp only
    | split

theorem wind_becomeLost (s : State) (c : Crane) :
    KeepsWind s (s.becomeLost c) := by
  unfold State.becomeLost
  repeat' first
    | with_reducible apply framedWind.refl
    | decide +kernel
    | with_reducible apply framedWind.frame (touches_addReasonTo _ _ _)
    | with_reducible apply framedWind.frame (touches_denyCrane _ _ _)
    | with_reducible apply framedWind.frame (touches_raiseFor _ _ _)
    | with_reducible apply framedWind.frame (touches_setCrane _ _ _)
    | with_reducible apply framedWind.frame (touches_setSvc _ _ _)
    | with_reducible apply framedWind.after (wind_windLost _ _)
    | with_reducible apply framedWind.fold
    | with_reducible intro _
    | dsimp only
    | split

theorem wind_takeFrame (s : State) (c : Crane) (f : LinkFrame) :
    KeepsWind s (s.takeFrame c f) := by
  unfold State.takeFrame
  repeat' first
    | with_reducible apply framedWind.refl
    | decide +kernel
    | with_reducible apply framedWind.after (wind_acceptRejoin _ _ _)
    | with_reducible apply framedWind.after (wind_acceptStatus _ _ _)
    | with_reducible apply framedWind.frame (touches_acknowledge _ _ _)
    | with_reducible apply framedWind.frame (touches_answerLink _ _ _ _)
    | with_reducible apply framedWind.frame (touches_runLinkRequest _ _ _)
    | with_reducible apply framedWind.fold
    | with_reducible intro _
    | dsimp only
    | split

theorem wind_arrive (s : State) (c : Crane) (f : LinkFrame) :
    KeepsWind s (s.arrive c f) := by
  unfold State.arrive
  repeat' first
    | with_reducible apply framedWind.refl
    | decide +kernel
    | with_reducible apply framedWind.frame (touches_badFrame _ _)
    | with_reducible apply framedWind.frame (touches_setLink _ _ _)
    | with_reducible apply framedWind.after (wind_takeFrame _ _ _)
    | with_reducible apply framedWind.frame (touches_withdraw _ _ _)
    | with_reducible apply framedWind.fold
    | with_reducible intro _
    | dsimp only
    | split

theorem wind_frameSent (s : State) (c : Crane) :
    KeepsWind s (s.frameSent c) := by
  unfold State.frameSent
  repeat' first
    | with_reducible apply framedWind.refl
    | decide +kernel
    | with_reducible apply framedWind.frame (touches_setLink _ _ _)
    | with_reducible apply framedWind.after (wind_takeFrame _ _ _)
    | with_reducible apply framedWind.fold
    | with_reducible intro _
    | dsimp only
    | split

theorem wind_receiveByte (s : State) (c : Crane) (b : Byte) (stopGood : Bool) :
    KeepsWind s (s.receiveByte c b stopGood) := by
  unfold State.receiveByte
  repeat' first
    | with_reducible apply framedWind.refl
    | decide +kernel
    | with_reducible apply framedWind.after (wind_arrive _ _ _)
    | with_reducible apply framedWind.frame (touches_badFrame _ _)
    | with_reducible apply framedWind.frame (touches_setLink _ _ _)
    | with_reducible apply framedWind.fold
    | with_reducible intro _
    | dsimp only
    | split

theorem wind_startUp (s : State) :
    KeepsWind s (s.startUp) := by
  exact fun _ c => by simpa [State.windRec, State.startUp, State.reset] using windInitial_lawful

theorem wind_completeDwell (s : State) (c : Crane) :
    KeepsWind s (s.completeDwell c) := by
  unfold State.completeDwell
  split
  · exact framedWind.frame (touches_windConditions _ _) (by decide +kernel)
      (wind_setWind (fun w => complete_lawful (w c) _ _ (by assumption)))
  · exact framedWind.refl s

theorem wind_craneLeaves (s : State) (c : Crane) :
    KeepsWind s (s.craneLeaves c) := by
  unfold State.craneLeaves
  dsimp only
  repeat' first
    | with_reducible apply framedWind.refl
    | decide +kernel
    | with_reducible apply framedWind.after (wind_setWind (fun _ => windInitial_lawful))
    | with_reducible apply framedWind.frame (touches_setSvc _ _ _)
    | with_reducible apply framedWind.frame (touches_withdraw _ _ _)
    | with_reducible apply framedWind.frame (touches_setStops _ _ _)
    | with_reducible apply framedWind.frame (touches_setOccupied _ _ _)
    | with_reducible apply framedWind.frame (touches_setCrane _ _ _)

theorem wind_craneJoins (s : State) (c : Crane) :
    KeepsWind s (s.craneJoins c) := by
  unfold State.craneJoins
  dsimp only
  repeat' first
    | with_reducible apply framedWind.refl
    | decide +kernel
    | with_reducible apply framedWind.after (wind_setWind (fun _ => windInitial_lawful))
    | with_reducible apply framedWind.frame (touches_setSvc _ _ _)
    | with_reducible apply framedWind.frame (touches_addStop _ _ _)
    | with_reducible apply framedWind.frame (touches_setStops _ _ _)
    | with_reducible apply framedWind.frame (touches_setCrane _ _ _)
    | split

theorem wind_followPresence (old : Plan) (s : State) (c : Crane) :
    KeepsWind s (s.followPresence old c) := by
  unfold State.followPresence
  repeat' first
    | with_reducible apply framedWind.refl
    | decide +kernel
    | with_reducible apply framedWind.after (wind_craneJoins _ _)
    | with_reducible apply framedWind.after (wind_craneLeaves _ _)
    | with_reducible apply framedWind.fold
    | with_reducible intro _
    | dsimp only
    | split

theorem wind_commit (s : State) :
    KeepsWind s (s.commit) := by
  unfold State.commit
  repeat' first
    | with_reducible apply framedWind.refl
    | decide +kernel
    | with_reducible apply framedWind.frame (touches_adoptPlan _)
    | with_reducible apply framedWind.frame (touches_applyModes _)
    | with_reducible apply framedWind.frame (touches_beginWrite _)
    | with_reducible apply framedWind.after (wind_followPresence _ _ _)
    | with_reducible apply framedWind.fold
    | with_reducible intro _
    | dsimp only
    | split

theorem wind_commitPlan (protect : Bool) (s : State) :
    KeepsWind s (commitPlan protect s).1 := by
  unfold commitPlan
  repeat' first
    | with_reducible apply framedWind.refl
    | decide +kernel
    | with_reducible apply framedWind.after (wind_commit _)
    | with_reducible apply framedWind.frame (touches_withPins _ _)
    | with_reducible apply framedWind.fold
    | with_reducible intro _
    | dsimp only
    | split

end Sys2Proof.Machine
end

