-- ==== Sys2Proof/Laws/PerInstr.lean ====
section
/-!
SUPPORT. Families of laws with one lemma per command. `Wire`: a command comes from one place only. One that is a supervisor request has a
kind code of Table 12-8 and is no crane frame; one that is a crane frame has a kind code of Table 12-3.
-/
set_option Elab.async false
namespace Sys2Proof.Laws.Wire

open Sys2Proof.Machine

/-- A command comes from the supervisor port, with a kind of Table 12-8, or from a crane link, with a kind of Table 12-3, or from
neither, but never from both. -/
def Statement (i : Instr) : Prop :=
  (requestParts i ≠ none → 1 ≤ requestKind i ∧ requestKind i ≤ 0x41 ∧ i.onLink = none) ∧
    (i.onLink ≠ none → 0x10 ≤ i.linkKind ∧ i.linkKind ≤ 0x3C)

theorem powerOn : Statement .powerOn := by
  simp [Statement, requestParts, requestKind, Instr.onLink, Instr.linkKind]

theorem resetAsserted : Statement .resetAsserted := by
  simp [Statement, requestParts, requestKind, Instr.onLink, Instr.linkKind]

theorem siteStopAsserted : Statement .siteStopAsserted := by
  simp [Statement, requestParts, requestKind, Instr.onLink, Instr.linkKind]

theorem siteStopDeasserted : Statement .siteStopDeasserted := by
  simp [Statement, requestParts, requestKind, Instr.onLink, Instr.linkKind]

theorem siteSecondBoundary : Statement .siteSecondBoundary := by
  simp [Statement, requestParts, requestKind, Instr.onLink, Instr.linkKind]

theorem storeWriteEnd x0 : Statement (.storeWriteEnd x0) := by
  simp [Statement, requestParts, requestKind, Instr.onLink, Instr.linkKind]

theorem assemblyTimeout x0 : Statement (.assemblyTimeout x0) := by
  simp [Statement, requestParts, requestKind, Instr.onLink, Instr.linkKind]

theorem linkBadFrame x0 : Statement (.linkBadFrame x0) := by
  simp [Statement, requestParts, requestKind, Instr.onLink, Instr.linkKind]

theorem frameTransmitted x0 : Statement (.frameTransmitted x0) := by
  simp [Statement, requestParts, requestKind, Instr.onLink, Instr.linkKind]

theorem status x0 x1 : Statement (.status x0 x1) := by
  simp [Statement, requestParts, requestKind, Instr.onLink, Instr.linkKind]

theorem rejoin x0 x1 : Statement (.rejoin x0 x1) := by
  simp [Statement, requestParts, requestKind, Instr.onLink, Instr.linkKind]

theorem enter x0 x1 : Statement (.enter x0 x1) := by
  simp [Statement, requestParts, requestKind, Instr.onLink, Instr.linkKind]

theorem release x0 x1 : Statement (.release x0 x1) := by
  simp [Statement, requestParts, requestKind, Instr.onLink, Instr.linkKind]

theorem proposeLift x0 x1 x2 : Statement (.proposeLift x0 x1 x2) := by
  cases x0 <;> simp [Statement, requestParts, requestKind, Instr.onLink, Instr.linkKind]

theorem confirmLift x0 x1 : Statement (.confirmLift x0 x1) := by
  cases x0 <;> simp [Statement, requestParts, requestKind, Instr.onLink, Instr.linkKind]

theorem amendLift x0 x1 x2 : Statement (.amendLift x0 x1 x2) := by
  cases x0 <;> simp [Statement, requestParts, requestKind, Instr.onLink, Instr.linkKind]

theorem cancelLift x0 x1 : Statement (.cancelLift x0 x1) := by
  cases x0 <;> simp [Statement, requestParts, requestKind, Instr.onLink, Instr.linkKind]

theorem lockLift x0 x1 : Statement (.lockLift x0 x1) := by
  cases x0 <;> simp [Statement, requestParts, requestKind, Instr.onLink, Instr.linkKind]

theorem unlockLift x0 x1 : Statement (.unlockLift x0 x1) := by
  cases x0 <;> simp [Statement, requestParts, requestKind, Instr.onLink, Instr.linkKind]

theorem queryLift x0 x1 : Statement (.queryLift x0 x1) := by
  cases x0 <;> simp [Statement, requestParts, requestKind, Instr.onLink, Instr.linkKind]

theorem listLifts x0 x1 x2 x3 : Statement (.listLifts x0 x1 x2 x3) := by
  cases x0 <;> simp [Statement, requestParts, requestKind, Instr.onLink, Instr.linkKind]

theorem startLift x0 x1 : Statement (.startLift x0 x1) := by
  cases x0 <;> simp [Statement, requestParts, requestKind, Instr.onLink, Instr.linkKind]

theorem finishLift x0 x1 : Statement (.finishLift x0 x1) := by
  cases x0 <;> simp [Statement, requestParts, requestKind, Instr.onLink, Instr.linkKind]

theorem landLift x0 x1 : Statement (.landLift x0 x1) := by
  cases x0 <;> simp [Statement, requestParts, requestKind, Instr.onLink, Instr.linkKind]

theorem suspendLift x0 x1 : Statement (.suspendLift x0 x1) := by
  cases x0 <;> simp [Statement, requestParts, requestKind, Instr.onLink, Instr.linkKind]

theorem resumeLift x0 x1 : Statement (.resumeLift x0 x1) := by
  cases x0 <;> simp [Statement, requestParts, requestKind, Instr.onLink, Instr.linkKind]

theorem supervisorBadFrame x0 : Statement (.supervisorBadFrame x0) := by
  simp [Statement, requestParts, requestKind, Instr.onLink, Instr.linkKind]

theorem fetch x0 : Statement (.fetch x0) := by
  simp [Statement, requestParts, requestKind, Instr.onLink, Instr.linkKind]

theorem identify : Statement .identify := by
  simp [Statement, requestParts, requestKind, Instr.onLink, Instr.linkKind]

theorem readClock : Statement .readClock := by
  simp [Statement, requestParts, requestKind, Instr.onLink, Instr.linkKind]

theorem setTime x0 : Statement (.setTime x0) := by
  simp [Statement, requestParts, requestKind, Instr.onLink, Instr.linkKind]

theorem planCrane x0 x1 : Statement (.planCrane x0 x1) := by
  simp [Statement, requestParts, requestKind, Instr.onLink, Instr.linkKind]

theorem planChart x0 x1 : Statement (.planChart x0 x1) := by
  simp [Statement, requestParts, requestKind, Instr.onLink, Instr.linkKind]

theorem planConflicts x0 : Statement (.planConflicts x0) := by
  simp [Statement, requestParts, requestKind, Instr.onLink, Instr.linkKind]

theorem planRemoveConflicts x0 : Statement (.planRemoveConflicts x0) := by
  simp [Statement, requestParts, requestKind, Instr.onLink, Instr.linkKind]

theorem planClearConflicts : Statement .planClearConflicts := by
  simp [Statement, requestParts, requestKind, Instr.onLink, Instr.linkKind]

theorem planCells x0 x1 x2 x3 : Statement (.planCells x0 x1 x2 x3) := by
  simp [Statement, requestParts, requestKind, Instr.onLink, Instr.linkKind]

theorem planScheduleDefine x0 x1 x2 x3 : Statement (.planScheduleDefine x0 x1 x2 x3) := by
  simp [Statement, requestParts, requestKind, Instr.onLink, Instr.linkKind]

theorem planScheduleRemove x0 x1 : Statement (.planScheduleRemove x0 x1) := by
  simp [Statement, requestParts, requestKind, Instr.onLink, Instr.linkKind]

theorem planSite x0 : Statement (.planSite x0) := by
  simp [Statement, requestParts, requestKind, Instr.onLink, Instr.linkKind]

theorem planAlertModes x0 : Statement (.planAlertModes x0) := by
  simp [Statement, requestParts, requestKind, Instr.onLink, Instr.linkKind]

theorem planCommit x0 : Statement (.planCommit x0) := by
  simp [Statement, requestParts, requestKind, Instr.onLink, Instr.linkKind]

theorem planDiscard : Statement .planDiscard := by
  simp [Statement, requestParts, requestKind, Instr.onLink, Instr.linkKind]

theorem planRead x0 x1 x2 : Statement (.planRead x0 x1 x2) := by
  simp [Statement, requestParts, requestKind, Instr.onLink, Instr.linkKind]

theorem openSite : Statement .openSite := by
  simp [Statement, requestParts, requestKind, Instr.onLink, Instr.linkKind]

theorem closeSite : Statement .closeSite := by
  simp [Statement, requestParts, requestKind, Instr.onLink, Instr.linkKind]

theorem resumeSite : Statement .resumeSite := by
  simp [Statement, requestParts, requestKind, Instr.onLink, Instr.linkKind]

theorem returnToSetup : Statement .returnToSetup := by
  simp [Statement, requestParts, requestKind, Instr.onLink, Instr.linkKind]

theorem querySite : Statement .querySite := by
  simp [Statement, requestParts, requestKind, Instr.onLink, Instr.linkKind]

theorem queryCrane x0 : Statement (.queryCrane x0) := by
  simp [Statement, requestParts, requestKind, Instr.onLink, Instr.linkKind]

theorem queryCells x0 : Statement (.queryCells x0) := by
  simp [Statement, requestParts, requestKind, Instr.onLink, Instr.linkKind]

theorem queryWaits : Statement .queryWaits := by
  simp [Statement, requestParts, requestKind, Instr.onLink, Instr.linkKind]

theorem queryConformance x0 : Statement (.queryConformance x0) := by
  simp [Statement, requestParts, requestKind, Instr.onLink, Instr.linkKind]

theorem queryWind x0 : Statement (.queryWind x0) := by
  simp [Statement, requestParts, requestKind, Instr.onLink, Instr.linkKind]

theorem forceRelease x0 x1 : Statement (.forceRelease x0 x1) := by
  simp [Statement, requestParts, requestKind, Instr.onLink, Instr.linkKind]

theorem stopCrane x0 : Statement (.stopCrane x0) := by
  simp [Statement, requestParts, requestKind, Instr.onLink, Instr.linkKind]

theorem clearStop x0 x1 : Statement (.clearStop x0 x1) := by
  simp [Statement, requestParts, requestKind, Instr.onLink, Instr.linkKind]

theorem clearAlerts x0 : Statement (.clearAlerts x0) := by
  simp [Statement, requestParts, requestKind, Instr.onLink, Instr.linkKind]

theorem queryAlerts : Statement .queryAlerts := by
  simp [Statement, requestParts, requestKind, Instr.onLink, Instr.linkKind]

theorem reportBoundExpiry x0 : Statement (.reportBoundExpiry x0) := by
  simp [Statement, requestParts, requestKind, Instr.onLink, Instr.linkKind]

theorem clearingExpiry x0 x1 : Statement (.clearingExpiry x0 x1) := by
  simp [Statement, requestParts, requestKind, Instr.onLink, Instr.linkKind]

theorem waitDeadline x0 x1 : Statement (.waitDeadline x0 x1) := by
  simp [Statement, requestParts, requestKind, Instr.onLink, Instr.linkKind]

theorem confirmDeadline x0 : Statement (.confirmDeadline x0) := by
  simp [Statement, requestParts, requestKind, Instr.onLink, Instr.linkKind]

theorem dwellCompletion x0 : Statement (.dwellCompletion x0) := by
  simp [Statement, requestParts, requestKind, Instr.onLink, Instr.linkKind]

theorem securingTimerExpiry x0 : Statement (.securingTimerExpiry x0) := by
  simp [Statement, requestParts, requestKind, Instr.onLink, Instr.linkKind]

theorem sirenPulsePhase : Statement .sirenPulsePhase := by
  simp [Statement, requestParts, requestKind, Instr.onLink, Instr.linkKind]

theorem linkByteReceived x0 x1 x2 : Statement (.linkByteReceived x0 x1 x2) := by
  simp [Statement, requestParts, requestKind, Instr.onLink, Instr.linkKind]

theorem powerLoss : Statement .powerLoss := by
  simp [Statement, requestParts, requestKind, Instr.onLink, Instr.linkKind]

end Sys2Proof.Laws.Wire
end

