-- ==== Sys2Proof/Laws/Requests.lean ====
section
/-!
SUPPORT. What a command comes down to: a crane frame that is taken, and a supervisor request that is served, as the operation of
their block with the answer sent.
-/
set_option Elab.async false
namespace Sys2Proof.Machine

@[simp] theorem link_setLink (s : State) (c : Crane) (ch : Channel) : (s.setLink c ch).link c = ch := by
  simp [State.setLink, State.link, State.withLinks]

@[simp] theorem setLink_setLink (s : State) (c : Crane) (a b : Channel) : (s.setLink c a).setLink c b = s.setLink c b := by
  simp [State.setLink, State.withLinks, tput]

theorem sectorOf_val (x : Sector) : sectorOf x.val = some x := by unfold sectorOf; rw [dif_pos x.isLt]

theorem sectorOf_none {n : Nat} (h : 16 ≤ n) : sectorOf n = none := by unfold sectorOf; rw [dif_neg (by omega)]

theorem craneOf_val (c : Crane) : craneOf c.val = some c := by unfold craneOf; rw [dif_pos c.isLt]

theorem craneOf_none {n : Nat} (h : 8 ≤ n) : craneOf n = none := by unfold craneOf; rw [dif_neg (by omega)]

/-- A crane's command is the arrival of its frame (R32, R33; entry 7). -/
theorem exec_command (f : LinkFrame) (c : Crane) (s : State) : exec (f.command c) s = s.fromCrane c f := by
  cases f <;> rfl

/-- R34 on an empty receive buffer. -/
theorem arrive_eq (s : State) (c : Crane) (f : LinkFrame) (hb : (s.link c).buffer = none) :
    s.arrive c f = (if answersIn (s.link c).queue < Config.maxQueue then (s.withdraw .frameError c).takeFrame c f
      else (s.withdraw .frameError c).setLink c { s.link c with buffer := some f }) := by
  unfold State.arrive
  rw [hb]
  dsimp only
  have hl : (s.withdraw .frameError c).link c = s.link c := rfl
  simp only [State.mayTake, hl, decide_eq_true_eq]

/-- A frame of a PRESENT crane that is no STATUS, taken at once: its block answers it (R35). -/
theorem ready_request {s : State} {c : Crane} (h : LinkReady s c) (f : LinkFrame) (hs : ∀ r, f ≠ .status r) :
    exec (f.command c) s =
      .next ((runLinkRequest c f (s.withdraw .frameError c)).1.answerLink c f
        (runLinkRequest c f (s.withdraw .frameError c)).2) := by
  have hr := h.running
  rw [exec_command]
  unfold State.fromCrane State.whileRunning
  rw [if_pos hr]
  congr 1
  show s.arrive c _ = _
  rw [arrive_eq s c f h.empty, if_pos h.room]
  have hp : (s.withdraw .frameError c).present c = true := h.inPlan
  have hc : ((s.withdraw .frameError c).craneRec c).presence = .present := h.present
  unfold State.takeFrame
  rw [hp, hc]
  cases f with
  | status r => exact absurd rfl (hs r)
  | _ => rfl

/-- A STATUS of a PRESENT crane, taken at once (R35, R42). -/
theorem ready_status {s : State} {c : Crane} (h : LinkReady s c) (r : Report) :
    exec (.status c r) s = .next ((s.withdraw .frameError c).acceptStatus c r) := by
  have hr := h.running
  show s.fromCrane c (.status r) = _
  unfold State.fromCrane State.whileRunning
  rw [if_pos hr]
  congr 1
  show s.arrive c _ = _
  rw [arrive_eq s c _ h.empty, if_pos h.room]
  have hp : (s.withdraw .frameError c).present c = true := h.inPlan
  have hc : ((s.withdraw .frameError c).craneRec c).presence = .present := h.present
  unfold State.takeFrame
  rw [hp, hc]; rfl

/-- A supervisor request is carried out on the state in which it has been gathered, and answered (R172). -/
theorem supervised_eq {s : State} (h : s.running = true) (i : Instr) (run : State → State × Answer) :
    s.supervised i run = .next ((run (s.asked i)).1.replied i (run (s.asked i)).2) := by
  unfold State.supervised State.whileRunning State.serve State.asked State.replied
  rw [if_pos h]

end Sys2Proof.Machine
end

