-- ==== Sys2Proof/Laws/State.lean ====
section
/-!
SUPPORT. One lemma per field per update of State: what each write leaves and what it sets.
-/
set_option Elab.async false
namespace Sys2Proof.Machine

@[simp] theorem State.withPlan_plan (s : State) (v : PlanStore) : (s.withPlan v).plan = v := rfl
@[simp] theorem State.withPlan_clock (s : State) (v : PlanStore) : (s.withPlan v).clock = s.clock := rfl
@[simp] theorem State.withPlan_links (s : State) (v : PlanStore) : (s.withPlan v).links = s.links := rfl
@[simp] theorem State.withPlan_cranes (s : State) (v : PlanStore) : (s.withPlan v).cranes = s.cranes := rfl
@[simp] theorem State.withPlan_cells (s : State) (v : PlanStore) : (s.withPlan v).cells = s.cells := rfl
@[simp] theorem State.withPlan_waits (s : State) (v : PlanStore) : (s.withPlan v).waits = s.waits := rfl
@[simp] theorem State.withPlan_restricted (s : State) (v : PlanStore) : (s.withPlan v).restricted = s.restricted := rfl
@[simp] theorem State.withPlan_occupied (s : State) (v : PlanStore) : (s.withPlan v).occupied = s.occupied := rfl
@[simp] theorem State.withPlan_stops (s : State) (v : PlanStore) : (s.withPlan v).stops = s.stops := rfl
@[simp] theorem State.withPlan_lastConf (s : State) (v : PlanStore) : (s.withPlan v).lastConf = s.lastConf := rfl
@[simp] theorem State.withPlan_register (s : State) (v : PlanStore) : (s.withPlan v).register = s.register := rfl
@[simp] theorem State.withPlan_wind (s : State) (v : PlanStore) : (s.withPlan v).wind = s.wind := rfl
@[simp] theorem State.withPlan_site (s : State) (v : PlanStore) : (s.withPlan v).site = s.site := rfl
@[simp] theorem State.withPlan_service (s : State) (v : PlanStore) : (s.withPlan v).service = s.service := rfl
@[simp] theorem State.withPlan_bookings (s : State) (v : PlanStore) : (s.withPlan v).bookings = s.bookings := rfl
@[simp] theorem State.withPlan_nextId (s : State) (v : PlanStore) : (s.withPlan v).nextId = s.nextId := rfl
@[simp] theorem State.withPlan_alerts (s : State) (v : PlanStore) : (s.withPlan v).alerts = s.alerts := rfl
@[simp] theorem State.withPlan_lines (s : State) (v : PlanStore) : (s.withPlan v).lines = s.lines := rfl
@[simp] theorem State.withPlan_port (s : State) (v : PlanStore) : (s.withPlan v).port = s.port := rfl
@[simp] theorem State.withPlan_pins (s : State) (v : PlanStore) : (s.withPlan v).pins = s.pins := rfl
@[simp] theorem State.withPlan_draws (s : State) (v : PlanStore) : (s.withPlan v).draws = s.draws := rfl
@[simp] theorem State.withPlan_pending (s : State) (v : PlanStore) : (s.withPlan v).pending = s.pending := rfl
@[simp] theorem State.withClock_plan (s : State) (v : Clock) : (s.withClock v).plan = s.plan := rfl
@[simp] theorem State.withClock_clock (s : State) (v : Clock) : (s.withClock v).clock = v := rfl
@[simp] theorem State.withClock_links (s : State) (v : Clock) : (s.withClock v).links = s.links := rfl
@[simp] theorem State.withClock_cranes (s : State) (v : Clock) : (s.withClock v).cranes = s.cranes := rfl
@[simp] theorem State.withClock_cells (s : State) (v : Clock) : (s.withClock v).cells = s.cells := rfl
@[simp] theorem State.withClock_waits (s : State) (v : Clock) : (s.withClock v).waits = s.waits := rfl
@[simp] theorem State.withClock_restricted (s : State) (v : Clock) : (s.withClock v).restricted = s.restricted := rfl
@[simp] theorem State.withClock_occupied (s : State) (v : Clock) : (s.withClock v).occupied = s.occupied := rfl
@[simp] theorem State.withClock_stops (s : State) (v : Clock) : (s.withClock v).stops = s.stops := rfl
@[simp] theorem State.withClock_lastConf (s : State) (v : Clock) : (s.withClock v).lastConf = s.lastConf := rfl
@[simp] theorem State.withClock_register (s : State) (v : Clock) : (s.withClock v).register = s.register := rfl
@[simp] theorem State.withClock_wind (s : State) (v : Clock) : (s.withClock v).wind = s.wind := rfl
@[simp] theorem State.withClock_site (s : State) (v : Clock) : (s.withClock v).site = s.site := rfl
@[simp] theorem State.withClock_service (s : State) (v : Clock) : (s.withClock v).service = s.service := rfl
@[simp] theorem State.withClock_bookings (s : State) (v : Clock) : (s.withClock v).bookings = s.bookings := rfl
@[simp] theorem State.withClock_nextId (s : State) (v : Clock) : (s.withClock v).nextId = s.nextId := rfl
@[simp] theorem State.withClock_alerts (s : State) (v : Clock) : (s.withClock v).alerts = s.alerts := rfl
@[simp] theorem State.withClock_lines (s : State) (v : Clock) : (s.withClock v).lines = s.lines := rfl
@[simp] theorem State.withClock_port (s : State) (v : Clock) : (s.withClock v).port = s.port := rfl
@[simp] theorem State.withClock_pins (s : State) (v : Clock) : (s.withClock v).pins = s.pins := rfl
@[simp] theorem State.withClock_draws (s : State) (v : Clock) : (s.withClock v).draws = s.draws := rfl
@[simp] theorem State.withClock_pending (s : State) (v : Clock) : (s.withClock v).pending = s.pending := rfl
@[simp] theorem State.withLinks_plan (s : State) (v : Tab 8 Channel) : (s.withLinks v).plan = s.plan := rfl
@[simp] theorem State.withLinks_clock (s : State) (v : Tab 8 Channel) : (s.withLinks v).clock = s.clock := rfl
@[simp] theorem State.withLinks_links (s : State) (v : Tab 8 Channel) : (s.withLinks v).links = v := rfl
@[simp] theorem State.withLinks_cranes (s : State) (v : Tab 8 Channel) : (s.withLinks v).cranes = s.cranes := rfl
@[simp] theorem State.withLinks_cells (s : State) (v : Tab 8 Channel) : (s.withLinks v).cells = s.cells := rfl
@[simp] theorem State.withLinks_waits (s : State) (v : Tab 8 Channel) : (s.withLinks v).waits = s.waits := rfl
@[simp] theorem State.withLinks_restricted (s : State) (v : Tab 8 Channel) : (s.withLinks v).restricted = s.restricted := rfl
@[simp] theorem State.withLinks_occupied (s : State) (v : Tab 8 Channel) : (s.withLinks v).occupied = s.occupied := rfl
@[simp] theorem State.withLinks_stops (s : State) (v : Tab 8 Channel) : (s.withLinks v).stops = s.stops := rfl
@[simp] theorem State.withLinks_lastConf (s : State) (v : Tab 8 Channel) : (s.withLinks v).lastConf = s.lastConf := rfl
@[simp] theorem State.withLinks_register (s : State) (v : Tab 8 Channel) : (s.withLinks v).register = s.register := rfl
@[simp] theorem State.withLinks_wind (s : State) (v : Tab 8 Channel) : (s.withLinks v).wind = s.wind := rfl
@[simp] theorem State.withLinks_site (s : State) (v : Tab 8 Channel) : (s.withLinks v).site = s.site := rfl
@[simp] theorem State.withLinks_service (s : State) (v : Tab 8 Channel) : (s.withLinks v).service = s.service := rfl
@[simp] theorem State.withLinks_bookings (s : State) (v : Tab 8 Channel) : (s.withLinks v).bookings = s.bookings := rfl
@[simp] theorem State.withLinks_nextId (s : State) (v : Tab 8 Channel) : (s.withLinks v).nextId = s.nextId := rfl
@[simp] theorem State.withLinks_alerts (s : State) (v : Tab 8 Channel) : (s.withLinks v).alerts = s.alerts := rfl
@[simp] theorem State.withLinks_lines (s : State) (v : Tab 8 Channel) : (s.withLinks v).lines = s.lines := rfl
@[simp] theorem State.withLinks_port (s : State) (v : Tab 8 Channel) : (s.withLinks v).port = s.port := rfl
@[simp] theorem State.withLinks_pins (s : State) (v : Tab 8 Channel) : (s.withLinks v).pins = s.pins := rfl
@[simp] theorem State.withLinks_draws (s : State) (v : Tab 8 Channel) : (s.withLinks v).draws = s.draws := rfl
@[simp] theorem State.withLinks_pending (s : State) (v : Tab 8 Channel) : (s.withLinks v).pending = s.pending := rfl
@[simp] theorem State.withCranes_plan (s : State) (v : Tab 8 CraneRec) : (s.withCranes v).plan = s.plan := rfl
@[simp] theorem State.withCranes_clock (s : State) (v : Tab 8 CraneRec) : (s.withCranes v).clock = s.clock := rfl
@[simp] theorem State.withCranes_links (s : State) (v : Tab 8 CraneRec) : (s.withCranes v).links = s.links := rfl
@[simp] theorem State.withCranes_cranes (s : State) (v : Tab 8 CraneRec) : (s.withCranes v).cranes = v := rfl
@[simp] theorem State.withCranes_cells (s : State) (v : Tab 8 CraneRec) : (s.withCranes v).cells = s.cells := rfl
@[simp] theorem State.withCranes_waits (s : State) (v : Tab 8 CraneRec) : (s.withCranes v).waits = s.waits := rfl
@[simp] theorem State.withCranes_restricted (s : State) (v : Tab 8 CraneRec) : (s.withCranes v).restricted = s.restricted := rfl
@[simp] theorem State.withCranes_occupied (s : State) (v : Tab 8 CraneRec) : (s.withCranes v).occupied = s.occupied := rfl
@[simp] theorem State.withCranes_stops (s : State) (v : Tab 8 CraneRec) : (s.withCranes v).stops = s.stops := rfl
@[simp] theorem State.withCranes_lastConf (s : State) (v : Tab 8 CraneRec) : (s.withCranes v).lastConf = s.lastConf := rfl
@[simp] theorem State.withCranes_register (s : State) (v : Tab 8 CraneRec) : (s.withCranes v).register = s.register := rfl
@[simp] theorem State.withCranes_wind (s : State) (v : Tab 8 CraneRec) : (s.withCranes v).wind = s.wind := rfl
@[simp] theorem State.withCranes_site (s : State) (v : Tab 8 CraneRec) : (s.withCranes v).site = s.site := rfl
@[simp] theorem State.withCranes_service (s : State) (v : Tab 8 CraneRec) : (s.withCranes v).service = s.service := rfl
@[simp] theorem State.withCranes_bookings (s : State) (v : Tab 8 CraneRec) : (s.withCranes v).bookings = s.bookings := rfl
@[simp] theorem State.withCranes_nextId (s : State) (v : Tab 8 CraneRec) : (s.withCranes v).nextId = s.nextId := rfl
@[simp] theorem State.withCranes_alerts (s : State) (v : Tab 8 CraneRec) : (s.withCranes v).alerts = s.alerts := rfl
@[simp] theorem State.withCranes_lines (s : State) (v : Tab 8 CraneRec) : (s.withCranes v).lines = s.lines := rfl
@[simp] theorem State.withCranes_port (s : State) (v : Tab 8 CraneRec) : (s.withCranes v).port = s.port := rfl
@[simp] theorem State.withCranes_pins (s : State) (v : Tab 8 CraneRec) : (s.withCranes v).pins = s.pins := rfl
@[simp] theorem State.withCranes_draws (s : State) (v : Tab 8 CraneRec) : (s.withCranes v).draws = s.draws := rfl
@[simp] theorem State.withCranes_pending (s : State) (v : Tab 8 CraneRec) : (s.withCranes v).pending = s.pending := rfl
@[simp] theorem State.withCells_plan (s : State) (v : Tab 8 (Tab 16 Cell)) : (s.withCells v).plan = s.plan := rfl
@[simp] theorem State.withCells_clock (s : State) (v : Tab 8 (Tab 16 Cell)) : (s.withCells v).clock = s.clock := rfl
@[simp] theorem State.withCells_links (s : State) (v : Tab 8 (Tab 16 Cell)) : (s.withCells v).links = s.links := rfl
@[simp] theorem State.withCells_cranes (s : State) (v : Tab 8 (Tab 16 Cell)) : (s.withCells v).cranes = s.cranes := rfl
@[simp] theorem State.withCells_cells (s : State) (v : Tab 8 (Tab 16 Cell)) : (s.withCells v).cells = v := rfl
@[simp] theorem State.withCells_waits (s : State) (v : Tab 8 (Tab 16 Cell)) : (s.withCells v).waits = s.waits := rfl
@[simp] theorem State.withCells_restricted (s : State) (v : Tab 8 (Tab 16 Cell)) : (s.withCells v).restricted = s.restricted := rfl
@[simp] theorem State.withCells_occupied (s : State) (v : Tab 8 (Tab 16 Cell)) : (s.withCells v).occupied = s.occupied := rfl
@[simp] theorem State.withCells_stops (s : State) (v : Tab 8 (Tab 16 Cell)) : (s.withCells v).stops = s.stops := rfl
@[simp] theorem State.withCells_lastConf (s : State) (v : Tab 8 (Tab 16 Cell)) : (s.withCells v).lastConf = s.lastConf := rfl
@[simp] theorem State.withCells_register (s : State) (v : Tab 8 (Tab 16 Cell)) : (s.withCells v).register = s.register := rfl
@[simp] theorem State.withCells_wind (s : State) (v : Tab 8 (Tab 16 Cell)) : (s.withCells v).wind = s.wind := rfl
@[simp] theorem State.withCells_site (s : State) (v : Tab 8 (Tab 16 Cell)) : (s.withCells v).site = s.site := rfl
@[simp] theorem State.withCells_service (s : State) (v : Tab 8 (Tab 16 Cell)) : (s.withCells v).service = s.service := rfl
@[simp] theorem State.withCells_bookings (s : State) (v : Tab 8 (Tab 16 Cell)) : (s.withCells v).bookings = s.bookings := rfl
@[simp] theorem State.withCells_nextId (s : State) (v : Tab 8 (Tab 16 Cell)) : (s.withCells v).nextId = s.nextId := rfl
@[simp] theorem State.withCells_alerts (s : State) (v : Tab 8 (Tab 16 Cell)) : (s.withCells v).alerts = s.alerts := rfl
@[simp] theorem State.withCells_lines (s : State) (v : Tab 8 (Tab 16 Cell)) : (s.withCells v).lines = s.lines := rfl
@[simp] theorem State.withCells_port (s : State) (v : Tab 8 (Tab 16 Cell)) : (s.withCells v).port = s.port := rfl
@[simp] theorem State.withCells_pins (s : State) (v : Tab 8 (Tab 16 Cell)) : (s.withCells v).pins = s.pins := rfl
@[simp] theorem State.withCells_draws (s : State) (v : Tab 8 (Tab 16 Cell)) : (s.withCells v).draws = s.draws := rfl
@[simp] theorem State.withCells_pending (s : State) (v : Tab 8 (Tab 16 Cell)) : (s.withCells v).pending = s.pending := rfl
@[simp] theorem State.withWaits_plan (s : State) (v : List Wait) : (s.withWaits v).plan = s.plan := rfl
@[simp] theorem State.withWaits_clock (s : State) (v : List Wait) : (s.withWaits v).clock = s.clock := rfl
@[simp] theorem State.withWaits_links (s : State) (v : List Wait) : (s.withWaits v).links = s.links := rfl
@[simp] theorem State.withWaits_cranes (s : State) (v : List Wait) : (s.withWaits v).cranes = s.cranes := rfl
@[simp] theorem State.withWaits_cells (s : State) (v : List Wait) : (s.withWaits v).cells = s.cells := rfl
@[simp] theorem State.withWaits_waits (s : State) (v : List Wait) : (s.withWaits v).waits = v := rfl
@[simp] theorem State.withWaits_restricted (s : State) (v : List Wait) : (s.withWaits v).restricted = s.restricted := rfl
@[simp] theorem State.withWaits_occupied (s : State) (v : List Wait) : (s.withWaits v).occupied = s.occupied := rfl
@[simp] theorem State.withWaits_stops (s : State) (v : List Wait) : (s.withWaits v).stops = s.stops := rfl
@[simp] theorem State.withWaits_lastConf (s : State) (v : List Wait) : (s.withWaits v).lastConf = s.lastConf := rfl
@[simp] theorem State.withWaits_register (s : State) (v : List Wait) : (s.withWaits v).register = s.register := rfl
@[simp] theorem State.withWaits_wind (s : State) (v : List Wait) : (s.withWaits v).wind = s.wind := rfl
@[simp] theorem State.withWaits_site (s : State) (v : List Wait) : (s.withWaits v).site = s.site := rfl
@[simp] theorem State.withWaits_service (s : State) (v : List Wait) : (s.withWaits v).service = s.service := rfl
@[simp] theorem State.withWaits_bookings (s : State) (v : List Wait) : (s.withWaits v).bookings = s.bookings := rfl
@[simp] theorem State.withWaits_nextId (s : State) (v : List Wait) : (s.withWaits v).nextId = s.nextId := rfl
@[simp] theorem State.withWaits_alerts (s : State) (v : List Wait) : (s.withWaits v).alerts = s.alerts := rfl
@[simp] theorem State.withWaits_lines (s : State) (v : List Wait) : (s.withWaits v).lines = s.lines := rfl
@[simp] theorem State.withWaits_port (s : State) (v : List Wait) : (s.withWaits v).port = s.port := rfl
@[simp] theorem State.withWaits_pins (s : State) (v : List Wait) : (s.withWaits v).pins = s.pins := rfl
@[simp] theorem State.withWaits_draws (s : State) (v : List Wait) : (s.withWaits v).draws = s.draws := rfl
@[simp] theorem State.withWaits_pending (s : State) (v : List Wait) : (s.withWaits v).pending = s.pending := rfl
@[simp] theorem State.withRestricted_plan (s : State) (v : Tab 8 (List Sector)) : (s.withRestricted v).plan = s.plan := rfl
@[simp] theorem State.withRestricted_clock (s : State) (v : Tab 8 (List Sector)) : (s.withRestricted v).clock = s.clock := rfl
@[simp] theorem State.withRestricted_links (s : State) (v : Tab 8 (List Sector)) : (s.withRestricted v).links = s.links := rfl
@[simp] theorem State.withRestricted_cranes (s : State) (v : Tab 8 (List Sector)) : (s.withRestricted v).cranes = s.cranes := rfl
@[simp] theorem State.withRestricted_cells (s : State) (v : Tab 8 (List Sector)) : (s.withRestricted v).cells = s.cells := rfl
@[simp] theorem State.withRestricted_waits (s : State) (v : Tab 8 (List Sector)) : (s.withRestricted v).waits = s.waits := rfl
@[simp] theorem State.withRestricted_restricted (s : State) (v : Tab 8 (List Sector)) : (s.withRestricted v).restricted = v := rfl
@[simp] theorem State.withRestricted_occupied (s : State) (v : Tab 8 (List Sector)) : (s.withRestricted v).occupied = s.occupied := rfl
@[simp] theorem State.withRestricted_stops (s : State) (v : Tab 8 (List Sector)) : (s.withRestricted v).stops = s.stops := rfl
@[simp] theorem State.withRestricted_lastConf (s : State) (v : Tab 8 (List Sector)) : (s.withRestricted v).lastConf = s.lastConf := rfl
@[simp] theorem State.withRestricted_register (s : State) (v : Tab 8 (List Sector)) : (s.withRestricted v).register = s.register := rfl
@[simp] theorem State.withRestricted_wind (s : State) (v : Tab 8 (List Sector)) : (s.withRestricted v).wind = s.wind := rfl
@[simp] theorem State.withRestricted_site (s : State) (v : Tab 8 (List Sector)) : (s.withRestricted v).site = s.site := rfl
@[simp] theorem State.withRestricted_service (s : State) (v : Tab 8 (List Sector)) : (s.withRestricted v).service = s.service := rfl
@[simp] theorem State.withRestricted_bookings (s : State) (v : Tab 8 (List Sector)) : (s.withRestricted v).bookings = s.bookings := rfl
@[simp] theorem State.withRestricted_nextId (s : State) (v : Tab 8 (List Sector)) : (s.withRestricted v).nextId = s.nextId := rfl
@[simp] theorem State.withRestricted_alerts (s : State) (v : Tab 8 (List Sector)) : (s.withRestricted v).alerts = s.alerts := rfl
@[simp] theorem State.withRestricted_lines (s : State) (v : Tab 8 (List Sector)) : (s.withRestricted v).lines = s.lines := rfl
@[simp] theorem State.withRestricted_port (s : State) (v : Tab 8 (List Sector)) : (s.withRestricted v).port = s.port := rfl
@[simp] theorem State.withRestricted_pins (s : State) (v : Tab 8 (List Sector)) : (s.withRestricted v).pins = s.pins := rfl
@[simp] theorem State.withRestricted_draws (s : State) (v : Tab 8 (List Sector)) : (s.withRestricted v).draws = s.draws := rfl
@[simp] theorem State.withRestricted_pending (s : State) (v : Tab 8 (List Sector)) : (s.withRestricted v).pending = s.pending := rfl
@[simp] theorem State.withOccupied_plan (s : State) (v : Tab 8 (Option Occupied)) : (s.withOccupied v).plan = s.plan := rfl
@[simp] theorem State.withOccupied_clock (s : State) (v : Tab 8 (Option Occupied)) : (s.withOccupied v).clock = s.clock := rfl
@[simp] theorem State.withOccupied_links (s : State) (v : Tab 8 (Option Occupied)) : (s.withOccupied v).links = s.links := rfl
@[simp] theorem State.withOccupied_cranes (s : State) (v : Tab 8 (Option Occupied)) : (s.withOccupied v).cranes = s.cranes := rfl
@[simp] theorem State.withOccupied_cells (s : State) (v : Tab 8 (Option Occupied)) : (s.withOccupied v).cells = s.cells := rfl
@[simp] theorem State.withOccupied_waits (s : State) (v : Tab 8 (Option Occupied)) : (s.withOccupied v).waits = s.waits := rfl
@[simp] theorem State.withOccupied_restricted (s : State) (v : Tab 8 (Option Occupied)) : (s.withOccupied v).restricted = s.restricted := rfl
@[simp] theorem State.withOccupied_occupied (s : State) (v : Tab 8 (Option Occupied)) : (s.withOccupied v).occupied = v := rfl
@[simp] theorem State.withOccupied_stops (s : State) (v : Tab 8 (Option Occupied)) : (s.withOccupied v).stops = s.stops := rfl
@[simp] theorem State.withOccupied_lastConf (s : State) (v : Tab 8 (Option Occupied)) : (s.withOccupied v).lastConf = s.lastConf := rfl
@[simp] theorem State.withOccupied_register (s : State) (v : Tab 8 (Option Occupied)) : (s.withOccupied v).register = s.register := rfl
@[simp] theorem State.withOccupied_wind (s : State) (v : Tab 8 (Option Occupied)) : (s.withOccupied v).wind = s.wind := rfl
@[simp] theorem State.withOccupied_site (s : State) (v : Tab 8 (Option Occupied)) : (s.withOccupied v).site = s.site := rfl
@[simp] theorem State.withOccupied_service (s : State) (v : Tab 8 (Option Occupied)) : (s.withOccupied v).service = s.service := rfl
@[simp] theorem State.withOccupied_bookings (s : State) (v : Tab 8 (Option Occupied)) : (s.withOccupied v).bookings = s.bookings := rfl
@[simp] theorem State.withOccupied_nextId (s : State) (v : Tab 8 (Option Occupied)) : (s.withOccupied v).nextId = s.nextId := rfl
@[simp] theorem State.withOccupied_alerts (s : State) (v : Tab 8 (Option Occupied)) : (s.withOccupied v).alerts = s.alerts := rfl
@[simp] theorem State.withOccupied_lines (s : State) (v : Tab 8 (Option Occupied)) : (s.withOccupied v).lines = s.lines := rfl
@[simp] theorem State.withOccupied_port (s : State) (v : Tab 8 (Option Occupied)) : (s.withOccupied v).port = s.port := rfl
@[simp] theorem State.withOccupied_pins (s : State) (v : Tab 8 (Option Occupied)) : (s.withOccupied v).pins = s.pins := rfl
@[simp] theorem State.withOccupied_draws (s : State) (v : Tab 8 (Option Occupied)) : (s.withOccupied v).draws = s.draws := rfl
@[simp] theorem State.withOccupied_pending (s : State) (v : Tab 8 (Option Occupied)) : (s.withOccupied v).pending = s.pending := rfl
@[simp] theorem State.withStops_plan (s : State) (v : Tab 8 (List StopReason)) : (s.withStops v).plan = s.plan := rfl
@[simp] theorem State.withStops_clock (s : State) (v : Tab 8 (List StopReason)) : (s.withStops v).clock = s.clock := rfl
@[simp] theorem State.withStops_links (s : State) (v : Tab 8 (List StopReason)) : (s.withStops v).links = s.links := rfl
@[simp] theorem State.withStops_cranes (s : State) (v : Tab 8 (List StopReason)) : (s.withStops v).cranes = s.cranes := rfl
@[simp] theorem State.withStops_cells (s : State) (v : Tab 8 (List StopReason)) : (s.withStops v).cells = s.cells := rfl
@[simp] theorem State.withStops_waits (s : State) (v : Tab 8 (List StopReason)) : (s.withStops v).waits = s.waits := rfl
@[simp] theorem State.withStops_restricted (s : State) (v : Tab 8 (List StopReason)) : (s.withStops v).restricted = s.restricted := rfl
@[simp] theorem State.withStops_occupied (s : State) (v : Tab 8 (List StopReason)) : (s.withStops v).occupied = s.occupied := rfl
@[simp] theorem State.withStops_stops (s : State) (v : Tab 8 (List StopReason)) : (s.withStops v).stops = v := rfl
@[simp] theorem State.withStops_lastConf (s : State) (v : Tab 8 (List StopReason)) : (s.withStops v).lastConf = s.lastConf := rfl
@[simp] theorem State.withStops_register (s : State) (v : Tab 8 (List StopReason)) : (s.withStops v).register = s.register := rfl
@[simp] theorem State.withStops_wind (s : State) (v : Tab 8 (List StopReason)) : (s.withStops v).wind = s.wind := rfl
@[simp] theorem State.withStops_site (s : State) (v : Tab 8 (List StopReason)) : (s.withStops v).site = s.site := rfl
@[simp] theorem State.withStops_service (s : State) (v : Tab 8 (List StopReason)) : (s.withStops v).service = s.service := rfl
@[simp] theorem State.withStops_bookings (s : State) (v : Tab 8 (List StopReason)) : (s.withStops v).bookings = s.bookings := rfl
@[simp] theorem State.withStops_nextId (s : State) (v : Tab 8 (List StopReason)) : (s.withStops v).nextId = s.nextId := rfl
@[simp] theorem State.withStops_alerts (s : State) (v : Tab 8 (List StopReason)) : (s.withStops v).alerts = s.alerts := rfl
@[simp] theorem State.withStops_lines (s : State) (v : Tab 8 (List StopReason)) : (s.withStops v).lines = s.lines := rfl
@[simp] theorem State.withStops_port (s : State) (v : Tab 8 (List StopReason)) : (s.withStops v).port = s.port := rfl
@[simp] theorem State.withStops_pins (s : State) (v : Tab 8 (List StopReason)) : (s.withStops v).pins = s.pins := rfl
@[simp] theorem State.withStops_draws (s : State) (v : Tab 8 (List StopReason)) : (s.withStops v).draws = s.draws := rfl
@[simp] theorem State.withStops_pending (s : State) (v : Tab 8 (List StopReason)) : (s.withStops v).pending = s.pending := rfl
@[simp] theorem State.withLastConf_plan (s : State) (v : Tab 8 (Option Conformance)) : (s.withLastConf v).plan = s.plan := rfl
@[simp] theorem State.withLastConf_clock (s : State) (v : Tab 8 (Option Conformance)) : (s.withLastConf v).clock = s.clock := rfl
@[simp] theorem State.withLastConf_links (s : State) (v : Tab 8 (Option Conformance)) : (s.withLastConf v).links = s.links := rfl
@[simp] theorem State.withLastConf_cranes (s : State) (v : Tab 8 (Option Conformance)) : (s.withLastConf v).cranes = s.cranes := rfl
@[simp] theorem State.withLastConf_cells (s : State) (v : Tab 8 (Option Conformance)) : (s.withLastConf v).cells = s.cells := rfl
@[simp] theorem State.withLastConf_waits (s : State) (v : Tab 8 (Option Conformance)) : (s.withLastConf v).waits = s.waits := rfl
@[simp] theorem State.withLastConf_restricted (s : State) (v : Tab 8 (Option Conformance)) : (s.withLastConf v).restricted = s.restricted := rfl
@[simp] theorem State.withLastConf_occupied (s : State) (v : Tab 8 (Option Conformance)) : (s.withLastConf v).occupied = s.occupied := rfl
@[simp] theorem State.withLastConf_stops (s : State) (v : Tab 8 (Option Conformance)) : (s.withLastConf v).stops = s.stops := rfl
@[simp] theorem State.withLastConf_lastConf (s : State) (v : Tab 8 (Option Conformance)) : (s.withLastConf v).lastConf = v := rfl
@[simp] theorem State.withLastConf_register (s : State) (v : Tab 8 (Option Conformance)) : (s.withLastConf v).register = s.register := rfl
@[simp] theorem State.withLastConf_wind (s : State) (v : Tab 8 (Option Conformance)) : (s.withLastConf v).wind = s.wind := rfl
@[simp] theorem State.withLastConf_site (s : State) (v : Tab 8 (Option Conformance)) : (s.withLastConf v).site = s.site := rfl
@[simp] theorem State.withLastConf_service (s : State) (v : Tab 8 (Option Conformance)) : (s.withLastConf v).service = s.service := rfl
@[simp] theorem State.withLastConf_bookings (s : State) (v : Tab 8 (Option Conformance)) : (s.withLastConf v).bookings = s.bookings := rfl
@[simp] theorem State.withLastConf_nextId (s : State) (v : Tab 8 (Option Conformance)) : (s.withLastConf v).nextId = s.nextId := rfl
@[simp] theorem State.withLastConf_alerts (s : State) (v : Tab 8 (Option Conformance)) : (s.withLastConf v).alerts = s.alerts := rfl
@[simp] theorem State.withLastConf_lines (s : State) (v : Tab 8 (Option Conformance)) : (s.withLastConf v).lines = s.lines := rfl
@[simp] theorem State.withLastConf_port (s : State) (v : Tab 8 (Option Conformance)) : (s.withLastConf v).port = s.port := rfl
@[simp] theorem State.withLastConf_pins (s : State) (v : Tab 8 (Option Conformance)) : (s.withLastConf v).pins = s.pins := rfl
@[simp] theorem State.withLastConf_draws (s : State) (v : Tab 8 (Option Conformance)) : (s.withLastConf v).draws = s.draws := rfl
@[simp] theorem State.withLastConf_pending (s : State) (v : Tab 8 (Option Conformance)) : (s.withLastConf v).pending = s.pending := rfl
@[simp] theorem State.withRegister_plan (s : State) (v : List RegEntry) : (s.withRegister v).plan = s.plan := rfl
@[simp] theorem State.withRegister_clock (s : State) (v : List RegEntry) : (s.withRegister v).clock = s.clock := rfl
@[simp] theorem State.withRegister_links (s : State) (v : List RegEntry) : (s.withRegister v).links = s.links := rfl
@[simp] theorem State.withRegister_cranes (s : State) (v : List RegEntry) : (s.withRegister v).cranes = s.cranes := rfl
@[simp] theorem State.withRegister_cells (s : State) (v : List RegEntry) : (s.withRegister v).cells = s.cells := rfl
@[simp] theorem State.withRegister_waits (s : State) (v : List RegEntry) : (s.withRegister v).waits = s.waits := rfl
@[simp] theorem State.withRegister_restricted (s : State) (v : List RegEntry) : (s.withRegister v).restricted = s.restricted := rfl
@[simp] theorem State.withRegister_occupied (s : State) (v : List RegEntry) : (s.withRegister v).occupied = s.occupied := rfl
@[simp] theorem State.withRegister_stops (s : State) (v : List RegEntry) : (s.withRegister v).stops = s.stops := rfl
@[simp] theorem State.withRegister_lastConf (s : State) (v : List RegEntry) : (s.withRegister v).lastConf = s.lastConf := rfl
@[simp] theorem State.withRegister_register (s : State) (v : List RegEntry) : (s.withRegister v).register = v := rfl
@[simp] theorem State.withRegister_wind (s : State) (v : List RegEntry) : (s.withRegister v).wind = s.wind := rfl
@[simp] theorem State.withRegister_site (s : State) (v : List RegEntry) : (s.withRegister v).site = s.site := rfl
@[simp] theorem State.withRegister_service (s : State) (v : List RegEntry) : (s.withRegister v).service = s.service := rfl
@[simp] theorem State.withRegister_bookings (s : State) (v : List RegEntry) : (s.withRegister v).bookings = s.bookings := rfl
@[simp] theorem State.withRegister_nextId (s : State) (v : List RegEntry) : (s.withRegister v).nextId = s.nextId := rfl
@[simp] theorem State.withRegister_alerts (s : State) (v : List RegEntry) : (s.withRegister v).alerts = s.alerts := rfl
@[simp] theorem State.withRegister_lines (s : State) (v : List RegEntry) : (s.withRegister v).lines = s.lines := rfl
@[simp] theorem State.withRegister_port (s : State) (v : List RegEntry) : (s.withRegister v).port = s.port := rfl
@[simp] theorem State.withRegister_pins (s : State) (v : List RegEntry) : (s.withRegister v).pins = s.pins := rfl
@[simp] theorem State.withRegister_draws (s : State) (v : List RegEntry) : (s.withRegister v).draws = s.draws := rfl
@[simp] theorem State.withRegister_pending (s : State) (v : List RegEntry) : (s.withRegister v).pending = s.pending := rfl
@[simp] theorem State.withWind_plan (s : State) (v : Tab 8 WindRec) : (s.withWind v).plan = s.plan := rfl
@[simp] theorem State.withWind_clock (s : State) (v : Tab 8 WindRec) : (s.withWind v).clock = s.clock := rfl
@[simp] theorem State.withWind_links (s : State) (v : Tab 8 WindRec) : (s.withWind v).links = s.links := rfl
@[simp] theorem State.withWind_cranes (s : State) (v : Tab 8 WindRec) : (s.withWind v).cranes = s.cranes := rfl
@[simp] theorem State.withWind_cells (s : State) (v : Tab 8 WindRec) : (s.withWind v).cells = s.cells := rfl
@[simp] theorem State.withWind_waits (s : State) (v : Tab 8 WindRec) : (s.withWind v).waits = s.waits := rfl
@[simp] theorem State.withWind_restricted (s : State) (v : Tab 8 WindRec) : (s.withWind v).restricted = s.restricted := rfl
@[simp] theorem State.withWind_occupied (s : State) (v : Tab 8 WindRec) : (s.withWind v).occupied = s.occupied := rfl
@[simp] theorem State.withWind_stops (s : State) (v : Tab 8 WindRec) : (s.withWind v).stops = s.stops := rfl
@[simp] theorem State.withWind_lastConf (s : State) (v : Tab 8 WindRec) : (s.withWind v).lastConf = s.lastConf := rfl
@[simp] theorem State.withWind_register (s : State) (v : Tab 8 WindRec) : (s.withWind v).register = s.register := rfl
@[simp] theorem State.withWind_wind (s : State) (v : Tab 8 WindRec) : (s.withWind v).wind = v := rfl
@[simp] theorem State.withWind_site (s : State) (v : Tab 8 WindRec) : (s.withWind v).site = s.site := rfl
@[simp] theorem State.withWind_service (s : State) (v : Tab 8 WindRec) : (s.withWind v).service = s.service := rfl
@[simp] theorem State.withWind_bookings (s : State) (v : Tab 8 WindRec) : (s.withWind v).bookings = s.bookings := rfl
@[simp] theorem State.withWind_nextId (s : State) (v : Tab 8 WindRec) : (s.withWind v).nextId = s.nextId := rfl
@[simp] theorem State.withWind_alerts (s : State) (v : Tab 8 WindRec) : (s.withWind v).alerts = s.alerts := rfl
@[simp] theorem State.withWind_lines (s : State) (v : Tab 8 WindRec) : (s.withWind v).lines = s.lines := rfl
@[simp] theorem State.withWind_port (s : State) (v : Tab 8 WindRec) : (s.withWind v).port = s.port := rfl
@[simp] theorem State.withWind_pins (s : State) (v : Tab 8 WindRec) : (s.withWind v).pins = s.pins := rfl
@[simp] theorem State.withWind_draws (s : State) (v : Tab 8 WindRec) : (s.withWind v).draws = s.draws := rfl
@[simp] theorem State.withWind_pending (s : State) (v : Tab 8 WindRec) : (s.withWind v).pending = s.pending := rfl
@[simp] theorem State.withSite_plan (s : State) (v : SiteState) : (s.withSite v).plan = s.plan := rfl
@[simp] theorem State.withSite_clock (s : State) (v : SiteState) : (s.withSite v).clock = s.clock := rfl
@[simp] theorem State.withSite_links (s : State) (v : SiteState) : (s.withSite v).links = s.links := rfl
@[simp] theorem State.withSite_cranes (s : State) (v : SiteState) : (s.withSite v).cranes = s.cranes := rfl
@[simp] theorem State.withSite_cells (s : State) (v : SiteState) : (s.withSite v).cells = s.cells := rfl
@[simp] theorem State.withSite_waits (s : State) (v : SiteState) : (s.withSite v).waits = s.waits := rfl
@[simp] theorem State.withSite_restricted (s : State) (v : SiteState) : (s.withSite v).restricted = s.restricted := rfl
@[simp] theorem State.withSite_occupied (s : State) (v : SiteState) : (s.withSite v).occupied = s.occupied := rfl
@[simp] theorem State.withSite_stops (s : State) (v : SiteState) : (s.withSite v).stops = s.stops := rfl
@[simp] theorem State.withSite_lastConf (s : State) (v : SiteState) : (s.withSite v).lastConf = s.lastConf := rfl
@[simp] theorem State.withSite_register (s : State) (v : SiteState) : (s.withSite v).register = s.register := rfl
@[simp] theorem State.withSite_wind (s : State) (v : SiteState) : (s.withSite v).wind = s.wind := rfl
@[simp] theorem State.withSite_site (s : State) (v : SiteState) : (s.withSite v).site = v := rfl
@[simp] theorem State.withSite_service (s : State) (v : SiteState) : (s.withSite v).service = s.service := rfl
@[simp] theorem State.withSite_bookings (s : State) (v : SiteState) : (s.withSite v).bookings = s.bookings := rfl
@[simp] theorem State.withSite_nextId (s : State) (v : SiteState) : (s.withSite v).nextId = s.nextId := rfl
@[simp] theorem State.withSite_alerts (s : State) (v : SiteState) : (s.withSite v).alerts = s.alerts := rfl
@[simp] theorem State.withSite_lines (s : State) (v : SiteState) : (s.withSite v).lines = s.lines := rfl
@[simp] theorem State.withSite_port (s : State) (v : SiteState) : (s.withSite v).port = s.port := rfl
@[simp] theorem State.withSite_pins (s : State) (v : SiteState) : (s.withSite v).pins = s.pins := rfl
@[simp] theorem State.withSite_draws (s : State) (v : SiteState) : (s.withSite v).draws = s.draws := rfl
@[simp] theorem State.withSite_pending (s : State) (v : SiteState) : (s.withSite v).pending = s.pending := rfl
@[simp] theorem State.withService_plan (s : State) (v : Tab 8 ServiceRec) : (s.withService v).plan = s.plan := rfl
@[simp] theorem State.withService_clock (s : State) (v : Tab 8 ServiceRec) : (s.withService v).clock = s.clock := rfl
@[simp] theorem State.withService_links (s : State) (v : Tab 8 ServiceRec) : (s.withService v).links = s.links := rfl
@[simp] theorem State.withService_cranes (s : State) (v : Tab 8 ServiceRec) : (s.withService v).cranes = s.cranes := rfl
@[simp] theorem State.withService_cells (s : State) (v : Tab 8 ServiceRec) : (s.withService v).cells = s.cells := rfl
@[simp] theorem State.withService_waits (s : State) (v : Tab 8 ServiceRec) : (s.withService v).waits = s.waits := rfl
@[simp] theorem State.withService_restricted (s : State) (v : Tab 8 ServiceRec) : (s.withService v).restricted = s.restricted := rfl
@[simp] theorem State.withService_occupied (s : State) (v : Tab 8 ServiceRec) : (s.withService v).occupied = s.occupied := rfl
@[simp] theorem State.withService_stops (s : State) (v : Tab 8 ServiceRec) : (s.withService v).stops = s.stops := rfl
@[simp] theorem State.withService_lastConf (s : State) (v : Tab 8 ServiceRec) : (s.withService v).lastConf = s.lastConf := rfl
@[simp] theorem State.withService_register (s : State) (v : Tab 8 ServiceRec) : (s.withService v).register = s.register := rfl
@[simp] theorem State.withService_wind (s : State) (v : Tab 8 ServiceRec) : (s.withService v).wind = s.wind := rfl
@[simp] theorem State.withService_site (s : State) (v : Tab 8 ServiceRec) : (s.withService v).site = s.site := rfl
@[simp] theorem State.withService_service (s : State) (v : Tab 8 ServiceRec) : (s.withService v).service = v := rfl
@[simp] theorem State.withService_bookings (s : State) (v : Tab 8 ServiceRec) : (s.withService v).bookings = s.bookings := rfl
@[simp] theorem State.withService_nextId (s : State) (v : Tab 8 ServiceRec) : (s.withService v).nextId = s.nextId := rfl
@[simp] theorem State.withService_alerts (s : State) (v : Tab 8 ServiceRec) : (s.withService v).alerts = s.alerts := rfl
@[simp] theorem State.withService_lines (s : State) (v : Tab 8 ServiceRec) : (s.withService v).lines = s.lines := rfl
@[simp] theorem State.withService_port (s : State) (v : Tab 8 ServiceRec) : (s.withService v).port = s.port := rfl
@[simp] theorem State.withService_pins (s : State) (v : Tab 8 ServiceRec) : (s.withService v).pins = s.pins := rfl
@[simp] theorem State.withService_draws (s : State) (v : Tab 8 ServiceRec) : (s.withService v).draws = s.draws := rfl
@[simp] theorem State.withService_pending (s : State) (v : Tab 8 ServiceRec) : (s.withService v).pending = s.pending := rfl
@[simp] theorem State.withBookings_plan (s : State) (v : List Booking) : (s.withBookings v).plan = s.plan := rfl
@[simp] theorem State.withBookings_clock (s : State) (v : List Booking) : (s.withBookings v).clock = s.clock := rfl
@[simp] theorem State.withBookings_links (s : State) (v : List Booking) : (s.withBookings v).links = s.links := rfl
@[simp] theorem State.withBookings_cranes (s : State) (v : List Booking) : (s.withBookings v).cranes = s.cranes := rfl
@[simp] theorem State.withBookings_cells (s : State) (v : List Booking) : (s.withBookings v).cells = s.cells := rfl
@[simp] theorem State.withBookings_waits (s : State) (v : List Booking) : (s.withBookings v).waits = s.waits := rfl
@[simp] theorem State.withBookings_restricted (s : State) (v : List Booking) : (s.withBookings v).restricted = s.restricted := rfl
@[simp] theorem State.withBookings_occupied (s : State) (v : List Booking) : (s.withBookings v).occupied = s.occupied := rfl
@[simp] theorem State.withBookings_stops (s : State) (v : List Booking) : (s.withBookings v).stops = s.stops := rfl
@[simp] theorem State.withBookings_lastConf (s : State) (v : List Booking) : (s.withBookings v).lastConf = s.lastConf := rfl
@[simp] theorem State.withBookings_register (s : State) (v : List Booking) : (s.withBookings v).register = s.register := rfl
@[simp] theorem State.withBookings_wind (s : State) (v : List Booking) : (s.withBookings v).wind = s.wind := rfl
@[simp] theorem State.withBookings_site (s : State) (v : List Booking) : (s.withBookings v).site = s.site := rfl
@[simp] theorem State.withBookings_service (s : State) (v : List Booking) : (s.withBookings v).service = s.service := rfl
@[simp] theorem State.withBookings_bookings (s : State) (v : List Booking) : (s.withBookings v).bookings = v := rfl
@[simp] theorem State.withBookings_nextId (s : State) (v : List Booking) : (s.withBookings v).nextId = s.nextId := rfl
@[simp] theorem State.withBookings_alerts (s : State) (v : List Booking) : (s.withBookings v).alerts = s.alerts := rfl
@[simp] theorem State.withBookings_lines (s : State) (v : List Booking) : (s.withBookings v).lines = s.lines := rfl
@[simp] theorem State.withBookings_port (s : State) (v : List Booking) : (s.withBookings v).port = s.port := rfl
@[simp] theorem State.withBookings_pins (s : State) (v : List Booking) : (s.withBookings v).pins = s.pins := rfl
@[simp] theorem State.withBookings_draws (s : State) (v : List Booking) : (s.withBookings v).draws = s.draws := rfl
@[simp] theorem State.withBookings_pending (s : State) (v : List Booking) : (s.withBookings v).pending = s.pending := rfl
@[simp] theorem State.withNextId_plan (s : State) (v : Nat) : (s.withNextId v).plan = s.plan := rfl
@[simp] theorem State.withNextId_clock (s : State) (v : Nat) : (s.withNextId v).clock = s.clock := rfl
@[simp] theorem State.withNextId_links (s : State) (v : Nat) : (s.withNextId v).links = s.links := rfl
@[simp] theorem State.withNextId_cranes (s : State) (v : Nat) : (s.withNextId v).cranes = s.cranes := rfl
@[simp] theorem State.withNextId_cells (s : State) (v : Nat) : (s.withNextId v).cells = s.cells := rfl
@[simp] theorem State.withNextId_waits (s : State) (v : Nat) : (s.withNextId v).waits = s.waits := rfl
@[simp] theorem State.withNextId_restricted (s : State) (v : Nat) : (s.withNextId v).restricted = s.restricted := rfl
@[simp] theorem State.withNextId_occupied (s : State) (v : Nat) : (s.withNextId v).occupied = s.occupied := rfl
@[simp] theorem State.withNextId_stops (s : State) (v : Nat) : (s.withNextId v).stops = s.stops := rfl
@[simp] theorem State.withNextId_lastConf (s : State) (v : Nat) : (s.withNextId v).lastConf = s.lastConf := rfl
@[simp] theorem State.withNextId_register (s : State) (v : Nat) : (s.withNextId v).register = s.register := rfl
@[simp] theorem State.withNextId_wind (s : State) (v : Nat) : (s.withNextId v).wind = s.wind := rfl
@[simp] theorem State.withNextId_site (s : State) (v : Nat) : (s.withNextId v).site = s.site := rfl
@[simp] theorem State.withNextId_service (s : State) (v : Nat) : (s.withNextId v).service = s.service := rfl
@[simp] theorem State.withNextId_bookings (s : State) (v : Nat) : (s.withNextId v).bookings = s.bookings := rfl
@[simp] theorem State.withNextId_nextId (s : State) (v : Nat) : (s.withNextId v).nextId = v := rfl
@[simp] theorem State.withNextId_alerts (s : State) (v : Nat) : (s.withNextId v).alerts = s.alerts := rfl
@[simp] theorem State.withNextId_lines (s : State) (v : Nat) : (s.withNextId v).lines = s.lines := rfl
@[simp] theorem State.withNextId_port (s : State) (v : Nat) : (s.withNextId v).port = s.port := rfl
@[simp] theorem State.withNextId_pins (s : State) (v : Nat) : (s.withNextId v).pins = s.pins := rfl
@[simp] theorem State.withNextId_draws (s : State) (v : Nat) : (s.withNextId v).draws = s.draws := rfl
@[simp] theorem State.withNextId_pending (s : State) (v : Nat) : (s.withNextId v).pending = s.pending := rfl
@[simp] theorem State.withAlerts_plan (s : State) (v : Tab 16 AlertRec) : (s.withAlerts v).plan = s.plan := rfl
@[simp] theorem State.withAlerts_clock (s : State) (v : Tab 16 AlertRec) : (s.withAlerts v).clock = s.clock := rfl
@[simp] theorem State.withAlerts_links (s : State) (v : Tab 16 AlertRec) : (s.withAlerts v).links = s.links := rfl
@[simp] theorem State.withAlerts_cranes (s : State) (v : Tab 16 AlertRec) : (s.withAlerts v).cranes = s.cranes := rfl
@[simp] theorem State.withAlerts_cells (s : State) (v : Tab 16 AlertRec) : (s.withAlerts v).cells = s.cells := rfl
@[simp] theorem State.withAlerts_waits (s : State) (v : Tab 16 AlertRec) : (s.withAlerts v).waits = s.waits := rfl
@[simp] theorem State.withAlerts_restricted (s : State) (v : Tab 16 AlertRec) : (s.withAlerts v).restricted = s.restricted := rfl
@[simp] theorem State.withAlerts_occupied (s : State) (v : Tab 16 AlertRec) : (s.withAlerts v).occupied = s.occupied := rfl
@[simp] theorem State.withAlerts_stops (s : State) (v : Tab 16 AlertRec) : (s.withAlerts v).stops = s.stops := rfl
@[simp] theorem State.withAlerts_lastConf (s : State) (v : Tab 16 AlertRec) : (s.withAlerts v).lastConf = s.lastConf := rfl
@[simp] theorem State.withAlerts_register (s : State) (v : Tab 16 AlertRec) : (s.withAlerts v).register = s.register := rfl
@[simp] theorem State.withAlerts_wind (s : State) (v : Tab 16 AlertRec) : (s.withAlerts v).wind = s.wind := rfl
@[simp] theorem State.withAlerts_site (s : State) (v : Tab 16 AlertRec) : (s.withAlerts v).site = s.site := rfl
@[simp] theorem State.withAlerts_service (s : State) (v : Tab 16 AlertRec) : (s.withAlerts v).service = s.service := rfl
@[simp] theorem State.withAlerts_bookings (s : State) (v : Tab 16 AlertRec) : (s.withAlerts v).bookings = s.bookings := rfl
@[simp] theorem State.withAlerts_nextId (s : State) (v : Tab 16 AlertRec) : (s.withAlerts v).nextId = s.nextId := rfl
@[simp] theorem State.withAlerts_alerts (s : State) (v : Tab 16 AlertRec) : (s.withAlerts v).alerts = v := rfl
@[simp] theorem State.withAlerts_lines (s : State) (v : Tab 16 AlertRec) : (s.withAlerts v).lines = s.lines := rfl
@[simp] theorem State.withAlerts_port (s : State) (v : Tab 16 AlertRec) : (s.withAlerts v).port = s.port := rfl
@[simp] theorem State.withAlerts_pins (s : State) (v : Tab 16 AlertRec) : (s.withAlerts v).pins = s.pins := rfl
@[simp] theorem State.withAlerts_draws (s : State) (v : Tab 16 AlertRec) : (s.withAlerts v).draws = s.draws := rfl
@[simp] theorem State.withAlerts_pending (s : State) (v : Tab 16 AlertRec) : (s.withAlerts v).pending = s.pending := rfl
@[simp] theorem State.withLines_plan (s : State) (v : Lines) : (s.withLines v).plan = s.plan := rfl
@[simp] theorem State.withLines_clock (s : State) (v : Lines) : (s.withLines v).clock = s.clock := rfl
@[simp] theorem State.withLines_links (s : State) (v : Lines) : (s.withLines v).links = s.links := rfl
@[simp] theorem State.withLines_cranes (s : State) (v : Lines) : (s.withLines v).cranes = s.cranes := rfl
@[simp] theorem State.withLines_cells (s : State) (v : Lines) : (s.withLines v).cells = s.cells := rfl
@[simp] theorem State.withLines_waits (s : State) (v : Lines) : (s.withLines v).waits = s.waits := rfl
@[simp] theorem State.withLines_restricted (s : State) (v : Lines) : (s.withLines v).restricted = s.restricted := rfl
@[simp] theorem State.withLines_occupied (s : State) (v : Lines) : (s.withLines v).occupied = s.occupied := rfl
@[simp] theorem State.withLines_stops (s : State) (v : Lines) : (s.withLines v).stops = s.stops := rfl
@[simp] theorem State.withLines_lastConf (s : State) (v : Lines) : (s.withLines v).lastConf = s.lastConf := rfl
@[simp] theorem State.withLines_register (s : State) (v : Lines) : (s.withLines v).register = s.register := rfl
@[simp] theorem State.withLines_wind (s : State) (v : Lines) : (s.withLines v).wind = s.wind := rfl
@[simp] theorem State.withLines_site (s : State) (v : Lines) : (s.withLines v).site = s.site := rfl
@[simp] theorem State.withLines_service (s : State) (v : Lines) : (s.withLines v).service = s.service := rfl
@[simp] theorem State.withLines_bookings (s : State) (v : Lines) : (s.withLines v).bookings = s.bookings := rfl
@[simp] theorem State.withLines_nextId (s : State) (v : Lines) : (s.withLines v).nextId = s.nextId := rfl
@[simp] theorem State.withLines_alerts (s : State) (v : Lines) : (s.withLines v).alerts = s.alerts := rfl
@[simp] theorem State.withLines_lines (s : State) (v : Lines) : (s.withLines v).lines = v := rfl
@[simp] theorem State.withLines_port (s : State) (v : Lines) : (s.withLines v).port = s.port := rfl
@[simp] theorem State.withLines_pins (s : State) (v : Lines) : (s.withLines v).pins = s.pins := rfl
@[simp] theorem State.withLines_draws (s : State) (v : Lines) : (s.withLines v).draws = s.draws := rfl
@[simp] theorem State.withLines_pending (s : State) (v : Lines) : (s.withLines v).pending = s.pending := rfl
@[simp] theorem State.withPort_plan (s : State) (v : Port) : (s.withPort v).plan = s.plan := rfl
@[simp] theorem State.withPort_clock (s : State) (v : Port) : (s.withPort v).clock = s.clock := rfl
@[simp] theorem State.withPort_links (s : State) (v : Port) : (s.withPort v).links = s.links := rfl
@[simp] theorem State.withPort_cranes (s : State) (v : Port) : (s.withPort v).cranes = s.cranes := rfl
@[simp] theorem State.withPort_cells (s : State) (v : Port) : (s.withPort v).cells = s.cells := rfl
@[simp] theorem State.withPort_waits (s : State) (v : Port) : (s.withPort v).waits = s.waits := rfl
@[simp] theorem State.withPort_restricted (s : State) (v : Port) : (s.withPort v).restricted = s.restricted := rfl
@[simp] theorem State.withPort_occupied (s : State) (v : Port) : (s.withPort v).occupied = s.occupied := rfl
@[simp] theorem State.withPort_stops (s : State) (v : Port) : (s.withPort v).stops = s.stops := rfl
@[simp] theorem State.withPort_lastConf (s : State) (v : Port) : (s.withPort v).lastConf = s.lastConf := rfl
@[simp] theorem State.withPort_register (s : State) (v : Port) : (s.withPort v).register = s.register := rfl
@[simp] theorem State.withPort_wind (s : State) (v : Port) : (s.withPort v).wind = s.wind := rfl
@[simp] theorem State.withPort_site (s : State) (v : Port) : (s.withPort v).site = s.site := rfl
@[simp] theorem State.withPort_service (s : State) (v : Port) : (s.withPort v).service = s.service := rfl
@[simp] theorem State.withPort_bookings (s : State) (v : Port) : (s.withPort v).bookings = s.bookings := rfl
@[simp] theorem State.withPort_nextId (s : State) (v : Port) : (s.withPort v).nextId = s.nextId := rfl
@[simp] theorem State.withPort_alerts (s : State) (v : Port) : (s.withPort v).alerts = s.alerts := rfl
@[simp] theorem State.withPort_lines (s : State) (v : Port) : (s.withPort v).lines = s.lines := rfl
@[simp] theorem State.withPort_port (s : State) (v : Port) : (s.withPort v).port = v := rfl
@[simp] theorem State.withPort_pins (s : State) (v : Port) : (s.withPort v).pins = s.pins := rfl
@[simp] theorem State.withPort_draws (s : State) (v : Port) : (s.withPort v).draws = s.draws := rfl
@[simp] theorem State.withPort_pending (s : State) (v : Port) : (s.withPort v).pending = s.pending := rfl
@[simp] theorem State.withPins_plan (s : State) (v : Pins) : (s.withPins v).plan = s.plan := rfl
@[simp] theorem State.withPins_clock (s : State) (v : Pins) : (s.withPins v).clock = s.clock := rfl
@[simp] theorem State.withPins_links (s : State) (v : Pins) : (s.withPins v).links = s.links := rfl
@[simp] theorem State.withPins_cranes (s : State) (v : Pins) : (s.withPins v).cranes = s.cranes := rfl
@[simp] theorem State.withPins_cells (s : State) (v : Pins) : (s.withPins v).cells = s.cells := rfl
@[simp] theorem State.withPins_waits (s : State) (v : Pins) : (s.withPins v).waits = s.waits := rfl
@[simp] theorem State.withPins_restricted (s : State) (v : Pins) : (s.withPins v).restricted = s.restricted := rfl
@[simp] theorem State.withPins_occupied (s : State) (v : Pins) : (s.withPins v).occupied = s.occupied := rfl
@[simp] theorem State.withPins_stops (s : State) (v : Pins) : (s.withPins v).stops = s.stops := rfl
@[simp] theorem State.withPins_lastConf (s : State) (v : Pins) : (s.withPins v).lastConf = s.lastConf := rfl
@[simp] theorem State.withPins_register (s : State) (v : Pins) : (s.withPins v).register = s.register := rfl
@[simp] theorem State.withPins_wind (s : State) (v : Pins) : (s.withPins v).wind = s.wind := rfl
@[simp] theorem State.withPins_site (s : State) (v : Pins) : (s.withPins v).site = s.site := rfl
@[simp] theorem State.withPins_service (s : State) (v : Pins) : (s.withPins v).service = s.service := rfl
@[simp] theorem State.withPins_bookings (s : State) (v : Pins) : (s.withPins v).bookings = s.bookings := rfl
@[simp] theorem State.withPins_nextId (s : State) (v : Pins) : (s.withPins v).nextId = s.nextId := rfl
@[simp] theorem State.withPins_alerts (s : State) (v : Pins) : (s.withPins v).alerts = s.alerts := rfl
@[simp] theorem State.withPins_lines (s : State) (v : Pins) : (s.withPins v).lines = s.lines := rfl
@[simp] theorem State.withPins_port (s : State) (v : Pins) : (s.withPins v).port = s.port := rfl
@[simp] theorem State.withPins_pins (s : State) (v : Pins) : (s.withPins v).pins = v := rfl
@[simp] theorem State.withPins_draws (s : State) (v : Pins) : (s.withPins v).draws = s.draws := rfl
@[simp] theorem State.withPins_pending (s : State) (v : Pins) : (s.withPins v).pending = s.pending := rfl
@[simp] theorem State.withDraws_plan (s : State) (v : Nat) : (s.withDraws v).plan = s.plan := rfl
@[simp] theorem State.withDraws_clock (s : State) (v : Nat) : (s.withDraws v).clock = s.clock := rfl
@[simp] theorem State.withDraws_links (s : State) (v : Nat) : (s.withDraws v).links = s.links := rfl
@[simp] theorem State.withDraws_cranes (s : State) (v : Nat) : (s.withDraws v).cranes = s.cranes := rfl
@[simp] theorem State.withDraws_cells (s : State) (v : Nat) : (s.withDraws v).cells = s.cells := rfl
@[simp] theorem State.withDraws_waits (s : State) (v : Nat) : (s.withDraws v).waits = s.waits := rfl
@[simp] theorem State.withDraws_restricted (s : State) (v : Nat) : (s.withDraws v).restricted = s.restricted := rfl
@[simp] theorem State.withDraws_occupied (s : State) (v : Nat) : (s.withDraws v).occupied = s.occupied := rfl
@[simp] theorem State.withDraws_stops (s : State) (v : Nat) : (s.withDraws v).stops = s.stops := rfl
@[simp] theorem State.withDraws_lastConf (s : State) (v : Nat) : (s.withDraws v).lastConf = s.lastConf := rfl
@[simp] theorem State.withDraws_register (s : State) (v : Nat) : (s.withDraws v).register = s.register := rfl
@[simp] theorem State.withDraws_wind (s : State) (v : Nat) : (s.withDraws v).wind = s.wind := rfl
@[simp] theorem State.withDraws_site (s : State) (v : Nat) : (s.withDraws v).site = s.site := rfl
@[simp] theorem State.withDraws_service (s : State) (v : Nat) : (s.withDraws v).service = s.service := rfl
@[simp] theorem State.withDraws_bookings (s : State) (v : Nat) : (s.withDraws v).bookings = s.bookings := rfl
@[simp] theorem State.withDraws_nextId (s : State) (v : Nat) : (s.withDraws v).nextId = s.nextId := rfl
@[simp] theorem State.withDraws_alerts (s : State) (v : Nat) : (s.withDraws v).alerts = s.alerts := rfl
@[simp] theorem State.withDraws_lines (s : State) (v : Nat) : (s.withDraws v).lines = s.lines := rfl
@[simp] theorem State.withDraws_port (s : State) (v : Nat) : (s.withDraws v).port = s.port := rfl
@[simp] theorem State.withDraws_pins (s : State) (v : Nat) : (s.withDraws v).pins = s.pins := rfl
@[simp] theorem State.withDraws_draws (s : State) (v : Nat) : (s.withDraws v).draws = v := rfl
@[simp] theorem State.withDraws_pending (s : State) (v : Nat) : (s.withDraws v).pending = s.pending := rfl
@[simp] theorem State.withPending_plan (s : State) (v : List Instr) : (s.withPending v).plan = s.plan := rfl
@[simp] theorem State.withPending_clock (s : State) (v : List Instr) : (s.withPending v).clock = s.clock := rfl
@[simp] theorem State.withPending_links (s : State) (v : List Instr) : (s.withPending v).links = s.links := rfl
@[simp] theorem State.withPending_cranes (s : State) (v : List Instr) : (s.withPending v).cranes = s.cranes := rfl
@[simp] theorem State.withPending_cells (s : State) (v : List Instr) : (s.withPending v).cells = s.cells := rfl
@[simp] theorem State.withPending_waits (s : State) (v : List Instr) : (s.withPending v).waits = s.waits := rfl
@[simp] theorem State.withPending_restricted (s : State) (v : List Instr) : (s.withPending v).restricted = s.restricted := rfl
@[simp] theorem State.withPending_occupied (s : State) (v : List Instr) : (s.withPending v).occupied = s.occupied := rfl
@[simp] theorem State.withPending_stops (s : State) (v : List Instr) : (s.withPending v).stops = s.stops := rfl
@[simp] theorem State.withPending_lastConf (s : State) (v : List Instr) : (s.withPending v).lastConf = s.lastConf := rfl
@[simp] theorem State.withPending_register (s : State) (v : List Instr) : (s.withPending v).register = s.register := rfl
@[simp] theorem State.withPending_wind (s : State) (v : List Instr) : (s.withPending v).wind = s.wind := rfl
@[simp] theorem State.withPending_site (s : State) (v : List Instr) : (s.withPending v).site = s.site := rfl
@[simp] theorem State.withPending_service (s : State) (v : List Instr) : (s.withPending v).service = s.service := rfl
@[simp] theorem State.withPending_bookings (s : State) (v : List Instr) : (s.withPending v).bookings = s.bookings := rfl
@[simp] theorem State.withPending_nextId (s : State) (v : List Instr) : (s.withPending v).nextId = s.nextId := rfl
@[simp] theorem State.withPending_alerts (s : State) (v : List Instr) : (s.withPending v).alerts = s.alerts := rfl
@[simp] theorem State.withPending_lines (s : State) (v : List Instr) : (s.withPending v).lines = s.lines := rfl
@[simp] theorem State.withPending_port (s : State) (v : List Instr) : (s.withPending v).port = s.port := rfl
@[simp] theorem State.withPending_pins (s : State) (v : List Instr) : (s.withPending v).pins = s.pins := rfl
@[simp] theorem State.withPending_draws (s : State) (v : List Instr) : (s.withPending v).draws = s.draws := rfl
@[simp] theorem State.withPending_pending (s : State) (v : List Instr) : (s.withPending v).pending = v := rfl

/-! ### The end of a transaction (R173) -/

@[simp] theorem Port.endTransaction_request (p : Port) (out : List Byte) : (p.endTransaction out).request = p.request := rfl
@[simp] theorem Port.endTransaction_slot (p : Port) (out : List Byte) : (p.endTransaction out).slot = p.slot := rfl
@[simp] theorem Port.endTransaction_rdy (p : Port) (out : List Byte) : (p.endTransaction out).rdy = p.rdy := rfl
@[simp] theorem Port.endTransaction_miso (p : Port) (out : List Byte) : (p.endTransaction out).miso = .highImpedance := rfl
@[simp] theorem Port.endTransaction_lastOut (p : Port) (out : List Byte) : (p.endTransaction out).lastOut = out := rfl

end Sys2Proof.Machine
end

