-- ==== Sys2Proof/Tests/Slice0.lean ====
section
/-!
SUPPORT. Small tests: the checks of well-formed commands, a few figures worked by hand from the manual, and for every statement that
has hypotheses a state and operands that meet them.
-/
set_option Elab.async false
namespace Sys2Proof.Tests
open Sys2Proof Sys2Proof.Machine

/-! ### Small states -/

/-- C0 of FREE mode and C1 of PARKED mode; C0/S0 conflicts with C1/S8 (STRUCT), C0/S1 with C1/S9 (HOOK); C0/S5 is BARRED and C0/S6 is
NO_LOAD all the time. -/
def plan : Plan :=
  { Plan.empty with
    cranes := tput (tput Plan.empty.cranes 0 ⟨true, 600, 10, .free, 0, 300, 400, 280, 20⟩) 1
      ⟨true, 600, 10, .parked, 3, 300, 400, 280, 20⟩
    charts := tput (tput (tconst 8 []) 0 [⟨100, 5000⟩, ⟨600, 1000⟩]) 1 [⟨100, 5000⟩, ⟨600, 1000⟩]
    pairs := [⟨⟨0, 0⟩, ⟨1, 8⟩, .struct⟩, ⟨⟨0, 1⟩, ⟨1, 9⟩, .hook⟩]
    cells := tput (tconst 8 (tconst 16 ⟨.unrestricted, none⟩)) 0
      (tput (tput (tconst 16 ⟨.unrestricted, none⟩) 5 ⟨.barred, none⟩) 6 ⟨.noLoad, none⟩) }

/-- In SETUP with that plan committed, edition 1, at site minute 1000. -/
def setUp : State :=
  { State.reset with
    plan := ⟨plan, plan, 1, 60000, .good, none, some ⟨plan, 1, 60000⟩⟩
    clock := ⟨5000, 60000, 6000, true, none⟩
    alerts := alertTable plan.modes
    lines := ⟨false, false, none⟩ }

/-- A crane that has reported, with a calm wind. -/
def State.reported (s : State) (c : Crane) (v : ServiceRec) : State :=
  (((s.setCrane c ⟨.present, some 4000, some 6000, some ⟨1000, 200, some 0, some 50, true, false, true⟩, 0⟩).setSvc c v).setWind c
    ⟨true, false, .calm, [50], 25600, none⟩).setOccupied c (some ⟨3, 3⟩)

def serving : ServiceRec := ⟨.inService, false, .work, none, false, none⟩

/-- The site OPEN with both cranes in service. -/
def opened : State :=
  State.reported (State.reported (setUp.withSite .opened) 0 serving) 1 serving

/-- Lift 7 of C0 over S0 and S2, in the window 1000..1009, in a state. -/
def lift (st : BookingState) : Booking :=
  ⟨7, 0, st, ⟨1000, 10, 800, .a0, 300, [0, 2], none⟩, .crane 0, false, false, false, 60000, .crane 0⟩

def withLift (st : BookingState) : State := opened.withBookings [lift st]

/-- The lift fields of that lift on the wire. -/
def fields : LiftFields := ⟨1000, 10, 800, 0, 300, 2, [0, 2, 255, 255, 255, 255, 255, 255], 0, 0⟩

def cellAs (s : State) (q : CellId) (st : CellState) : State :=
  s.setCell q ⟨st, 0, some .enter, if st = .clearing then some 5000 else none⟩

/-- Six answers in a link's transmit queue. -/
def busyLink (s : State) (c : Crane) : State :=
  s.setLink c { s.link c with queue := List.replicate 6 (.answer 0x20 (answer .ok)), sending := some (.grant 0) }


/-! ### Ill-formed commands, refused by their checks -/

def report : Report := ⟨4095, 900, 65535, 65535, 7⟩

theorem test_wellFormed_reports :
    (Instr.status 0 report).wellFormed = true ∧
      [{ report with angle := 65536 }, { report with radius := 65536 }, { report with load := 65536 },
        { report with wind := 65536 }, { report with flags := 256 }].all
          (fun r => !(Instr.status 0 r).wellFormed && !(Instr.rejoin 0 r).wellFormed) = true := by decide

theorem test_wellFormed_lift_fields :
    (Instr.proposeLift (.crane 0) 0 fields).wellFormed = true ∧
      [{ fields with start := 4294967296 }, { fields with length := 256 }, { fields with mass := 65536 },
        { fields with areaClass := 256 }, { fields with reach := 65536 }, { fields with pathCount := 256 },
        { fields with path := [0, 2] }, { fields with path := [0, 2, 256, 0, 0, 0, 0, 0] }, { fields with tagPresent := 256 },
        { fields with tag := 4294967296 }].all
          (fun f => !(Instr.proposeLift .supervisor 0 f).wellFormed && !(Instr.amendLift .supervisor 7 f).wellFormed) = true ∧
      (Instr.proposeLift (.crane 0) 1 fields).wellFormed = false ∧
      (Instr.proposeLift .supervisor 256 fields).wellFormed = false := by decide

theorem test_wellFormed_numbers :
    [Instr.enter 0 256, .release 0 256, .amendLift .supervisor 65536 fields, .confirmLift .supervisor 65536,
      .cancelLift .supervisor 65536, .lockLift .supervisor 65536, .unlockLift .supervisor 65536,
      .queryLift .supervisor 65536, .startLift (.crane 0) 65536, .finishLift (.crane 0) 65536, .landLift .supervisor 65536,
      .suspendLift .supervisor 65536, .resumeLift .supervisor 65536, .confirmDeadline 65536,
      .listLifts .supervisor 256 1 1, .listLifts .supervisor 0 256 1, .listLifts .supervisor 0 1 65536, .fetch 0,
      .setTime 4294967296, .planCells 256 1 0 0, .planCells 0 65536 0 0, .planCells 0 1 256 0, .planCells 0 1 0 256,
      .planScheduleDefine 256 0 0 0, .planScheduleDefine 1 256 0 0, .planScheduleDefine 1 0 65536 0,
      .planScheduleDefine 1 0 0 65536, .planScheduleRemove 256 ⟨1, 0, 0, 0⟩, .planScheduleRemove 1 ⟨256, 0, 0, 0⟩,
      .planScheduleRemove 1 ⟨0, 0, 0, 0⟩, .planScheduleRemove 1 ⟨1, 256, 0, 0⟩, .planScheduleRemove 1 ⟨1, 0, 65536, 0⟩,
      .planScheduleRemove 1 ⟨1, 0, 0, 65536⟩,
      .planRead 256 0 0, .planRead 0 256 0, .planRead 0 0 65536, .queryCrane 256, .queryCells 256, .queryConformance 256,
      .queryWind 256, .stopCrane 256, .forceRelease 256 1, .forceRelease 0 65536, .clearStop 256 1,
      .clearStop 0 65536].all (fun i => !i.wellFormed) = true := by decide

def craneFields : CraneFields := ⟨1, 600, 10, 0, 0, 300, 400, 280, 20⟩
def siteFields : SiteFields := ⟨5, 30, 10, 0, 10, 15, 0, 0⟩

theorem test_wellFormed_plan :
    (Instr.planCrane 0 craneFields).wellFormed = true ∧ (Instr.planCrane 256 craneFields).wellFormed = false ∧
      [{ craneFields with present := 256 }, { craneFields with reach := 65536 }, { craneFields with margin := 65536 },
        { craneFields with vane := 256 }, { craneFields with park := 256 }, { craneFields with lw := 65536 },
        { craneFields with sw := 65536 }, { craneFields with mw := 65536 }, { craneFields with hw := 65536 }].all
          (fun f => !(Instr.planCrane 0 f).wellFormed) = true ∧
      (Instr.planSite siteFields).wellFormed = true ∧
      [{ siteFields with dead := 256 }, { siteFields with wait := 256 }, { siteFields with tolerance := 256 },
        { siteFields with early := 256 }, { siteFields with grace := 256 }, { siteFields with securing := 256 },
        { siteFields with discipline := 256 }, { siteFields with cadence := 256 }].all
          (fun f => !(Instr.planSite f).wellFormed) = true := by decide

theorem test_wellFormed_lists :
    [Instr.planChart 256 [⟨1, 1⟩, ⟨2, 1⟩], .planChart 0 (List.replicate 15 ⟨1, 1⟩), .planChart 0 [⟨65536, 1⟩],
      .planChart 0 [⟨1, 65536⟩], .planConflicts (List.replicate 21 ⟨0, 16, 0⟩), .planConflicts [⟨256, 0, 0⟩],
      .planConflicts [⟨0, 256, 0⟩], .planConflicts [⟨0, 16, 256⟩], .planRemoveConflicts (List.replicate 21 ⟨0, 16, 0⟩),
      .planRemoveConflicts [⟨256, 0, 0⟩], .planAlertModes (List.replicate 31 (3, 0)), .planAlertModes [(256, 0)],
      .planAlertModes [(3, 256)], .clearAlerts (List.replicate 61 0), .clearAlerts [256]].all
        (fun i => !i.wellFormed) = true ∧
      (Instr.planConflicts (List.replicate 20 ⟨0, 16, 0⟩)).wellFormed = true ∧
      (Instr.clearAlerts (List.replicate 60 0)).wellFormed = true := by decide

theorem test_wellFormed_transactions :
    (Instr.supervisorBadFrame []).wellFormed = false ∧
      (Instr.supervisorBadFrame (requestBytes .identify)).wellFormed = false ∧
      (Instr.supervisorBadFrame [0#8, 1#8]).wellFormed = false ∧
      (Instr.supervisorBadFrame [1#8, 0#8, 0#8]).wellFormed = true := by decide +kernel

/-! ### Figures worked in the manual -/

/-- The outcome's state, `s` itself where there is none. -/
def after (s : State) (i : Instr) : State :=
  match exec i s with
  | .next t => t
  | .fault _ | .refused _ => s

/-- Section 7.8: window, G, A, M and the state after the readings 140, 170, 190, 230, 250, 300, 310. -/
theorem test_rising_wind :
    let e : CraneEntry := ⟨true, 600, 10, .free, 0, 200, 280, 160, 20⟩
    let r := [140, 170, 190, 230, 250, 300, 310].foldl (fun (r : WindRec) w => r.sample e 0 (some w) 0) WindRec.initial
    r.window = [250, 300, 310] ∧ r.gust = 287 ∧ r.acc = 72288 ∧ r.mean = 141 ∧ r.state = .storm := by decide +kernel

/-- Section 2.5: a night schedule at site minute 16 666 666, a Thursday at 01:46. -/
theorem test_night_schedule :
    let p := fun days => { plan with
      schedules := tput (tconst 8 none) 1 (some ⟨days, 1320, 360⟩)
      cells := tput plan.cells 0 (tput (tconst 16 ⟨.unrestricted, none⟩) 7 ⟨.barred, some 1⟩) }
    (p [2]).restrictionAt ⟨0, 7⟩ 16666666 = .unrestricted ∧ (p [2, 3]).restrictionAt ⟨0, 7⟩ 16666666 = .barred := by
  decide +kernel

/-- Section 6.7: an occupied set across north. -/
theorem test_across_north : occupiedAt 4080 100 = ⟨15, 0⟩ ∧ conforms (some 2760) 430 ⟨0, 1, 2500, .a0, 420, [], none⟩ 10 = false := by
  decide +kernel

/-- Section 5.6: cranes C0 to C3, dead time 0, and five pairs. -/
def walkPlan : Plan :=
  { plan with
    cranes := [0, 1, 2, 3].foldl (fun t c => tput t c ⟨true, 600, 40, .parked, 0, 300, 400, 280, 20⟩) Plan.empty.cranes
    cells := tconst 8 (tconst 16 ⟨.unrestricted, none⟩)
    pairs := [⟨⟨0, 3⟩, ⟨1, 9⟩, .struct⟩, ⟨⟨0, 3⟩, ⟨1, 10⟩, .struct⟩, ⟨⟨0, 3⟩, ⟨2, 14⟩, .hook⟩, ⟨⟨0, 3⟩, ⟨3, 6⟩, .hook⟩,
      ⟨⟨1, 9⟩, ⟨2, 14⟩, .hook⟩]
    site := { plan.site with dead := 0 } }

def walkState : State :=
  let s := opened.withPlan { opened.plan with committed := walkPlan }
  let s := [2, 3].foldl (fun s c => State.reported s c serving) s
  let s := [⟨0, 3⟩, ⟨1, 1⟩, ⟨1, 2⟩, ⟨1, 12⟩, ⟨2, 0⟩, ⟨3, 5⟩].foldl (fun s q => cellAs s q .held) s
  (s.setOccupied 0 (some (occupiedAt 1600 40))).withWaits
    [⟨1, 9, 20000, 50000⟩, ⟨2, 14, 21000, 51000⟩, ⟨1, 10, 22000, 52000⟩, ⟨3, 6, 23000, 53000⟩]

/-- Section 5.6: the RELEASE of C0/S3 grants C1/S9 and C3/S6; two entries stay. -/
theorem test_walk_after_release :
    let t := after walkState (.release 0 3)
    (t.cell ⟨0, 3⟩).state = .free ∧ (t.cell ⟨1, 9⟩).state = .held ∧ (t.cell ⟨1, 9⟩).origin = some .wait ∧
      (t.cell ⟨3, 6⟩).state = .held ∧ t.waits.map (fun w => (w.crane, w.sector)) = [(2, 14), (1, 10)] := by decide +kernel

/-- Section 6.7, on C0/S0 and C1/S8: the STATUS that overruns into C0/S0 beside a HELD C1/S8. -/
theorem test_intrusion :
    let s := (cellAs (cellAs opened ⟨0, 1⟩ .held) ⟨1, 8⟩ .held).withWaits [⟨1, 4, 4000, 9000⟩]
    let t := after s (.status 0 ⟨256, 200, 0, 50, 0⟩)
    (t.cell ⟨0, 0⟩).state = .seized ∧ t.register = [⟨⟨0, 0⟩, [1]⟩] ∧ t.stopSet 0 = [.conflict] ∧ t.stopSet 1 = [.conflict] ∧
      t.waits = [] ∧ (t.alert .intrusion).cranes = [0] ∧ t.lines.alert = true ∧ t.lines.siren = true := by decide +kernel

/-- Section 2.3: a trim of 50 s is accepted while OPEN, and moves the site minute. -/
theorem test_clock_trim :
    let s := opened.withClock ⟨5000, 999999990, 6000, true, none⟩
    let t := after s (.setTime 1000000040)
    t.clock.site = 1000000040 ∧ t.minute = 16666667 ∧ (after t (.setTime 999999940)).clock = t.clock := by decide +kernel

/-- Table 12-3, R169: the last byte of an ENTER frame for S3 carries it to its grant. -/
theorem test_frame_on_the_wire :
    let s := opened.setLink 1 ⟨.assembling [0x20#8, 1#8, 3#8] 4999, none, [], none⟩
    let t := after s (.linkByteReceived 1 (crc8 [0x20#8, 1#8, 3#8]) true)
    (t.cell ⟨1, 3⟩).state = .held ∧ (t.link 1).rx = .hunting ∧
      (t.link 1).sending = some (.answer 0x20 ⟨.ok, [f1 3]⟩) := by decide +kernel

/-- Table 12-10: 39 bytes. -/
theorem test_identify : (fieldBytes (identity setUp).fields).length = 39 := by decide +kernel

/-- No row of the command table gives bits, so no word spells a command. -/
theorem test_no_word : decodeTableWord 8 1 = none ∧ setUp.withFetchWord 8 1 = setUp := ⟨rfl, rfl⟩

/-! ### A state and operands that meet the hypotheses of each statement -/

theorem test_hyp_StepRunsFrontCommand :
    (opened.withPending [.identify, .readClock]).pending = .identify :: [.readClock] := rfl

theorem test_hyp_EmptyQueueIdles :
    (let s := State.reset.withPins ⟨.off, false, false⟩; s.pending = [] ∧ s.running = false) ∧
      (opened.pending = [] ∧ opened.running = true ∧ opened.dueCommands = []) ∧
      (let s := opened.withClock ⟨6000, 60000, 6000, true, none⟩
       s.pending = [] ∧ s.running = true ∧ s.dueCommands ≠ []) := by decide +kernel

theorem test_hyp_CommandFrames : ∃ t, exec (.enter 0 0) opened = .next t := ⟨_, rfl⟩

theorem test_hyp_PowerAndReset :
    (let s := setUp.withPins ⟨.off, true, false⟩
     s.pins.siteStop = true ∧ ∃ u, exec .powerOn (s.withPins { s.pins with siteStop := false }) = .next u) ∧
      (setUp.pins.siteStop = false ∧ setUp.plan.image = some ⟨plan, 1, 60000⟩ ∧ setUp.plan.write = none) ∧
      State.reset.plan.image = none ∧ (setUp.withPlan { setUp.plan with write := some 5400 }).plan.write ≠ none ∧
      setUp.pins.power ≠ .off ∧ (setUp.withPins ⟨.off, false, false⟩).pins.power = .off ∧
      ((setUp.withPins ⟨.inReset, false, false⟩).running = false ∧ Instr.identify.fromPins = false) :=
  ⟨⟨rfl, _, rfl⟩, by decide +kernel, rfl, by decide, by decide, rfl, by decide⟩

theorem test_hyp_SiteStopFollowsItsLine :
    opened.running = true ∧ opened.pins.siteStop = false ∧ opened.present 1 = true ∧ opened.present 2 = false ∧
      StopReason.supervisor ∈ (opened.setStops 0 [.supervisor]).stopSet 0 ∧ (opened.alert .siteStop).mode = .stop ∧
      (opened.withPins ⟨.running, true, false⟩).pins.siteStop = true ∧
      (opened.withPins ⟨.off, false, false⟩).running = false ∧ (opened.withPins ⟨.off, false, false⟩).pins.siteStop = false ∧
      (opened.withPins ⟨.inReset, true, false⟩).running = false ∧
      (opened.withPins ⟨.inReset, true, false⟩).pins.siteStop = true := by decide +kernel

theorem test_hyp_SiteTimeMoves :
    let at_ := fun mono site => opened.withClock ⟨mono, site, 6000, true, none⟩
    ((at_ 5999 60000).running = true ∧ (at_ 5999 60000).clock.mono < (at_ 5999 60000).clock.boundary) ∧
      (let s := at_ 6000 4294967294
       s.running = true ∧ s.clock.boundary ≤ s.clock.mono ∧ s.clock.site < Config.maxSiteTime) ∧
      (let s := at_ 6000 4294967295
       s.running = true ∧ s.clock.boundary ≤ s.clock.mono ∧ Config.maxSiteTime ≤ s.clock.site) ∧
      setUp.site = .setup ∧ (opened.withSite .closed).site = .closed ∧ opened.site = .opened ∧
      (opened.withSite .storm).site = .storm ∧
      timeApart 60060 opened.clock.site ≤ 60 ∧ 60 < timeApart 60061 opened.clock.site ∧
      timeApart 59940 opened.clock.site ≤ 60 ∧ 60 < timeApart 59939 opened.clock.site := by decide +kernel

theorem test_hyp_MinuteEventTests :
    let d := (lift .booked).data
    (withLift .booked).findLift 7 = some (lift .booked) ∧ (lift .booked).state = .booked ∧
      (lift .active).state ≠ .booked ∧
      (d.start + d.length ≤ 1010 ∧ ¬ d.start + d.length ≤ 1009 ∧ d.start ≤ 1000 ∧ 999 < d.start) ∧
      (lift .booked).due = false ∧ { lift .booked with due := true }.due = true ∧
      (let g := (withLift .active).plan.committed.site.grace
       d.start + d.length + g ≤ 1020 ∧ ¬ d.start + d.length + g ≤ 1019) ∧
      (lift .active).running = true ∧ (lift (.suspended [.wind])).running = true ∧
      (lift (.pending 9000)).running = false ∧
      (let s := cellAs (cellAs opened ⟨0, 5⟩ .held) ⟨0, 6⟩ .held
       let t := s.setCrane 0 { s.craneRec 0 with contents := none }
       (s.cell ⟨0, 5⟩).state = .held ∧ s.plan.committed.restrictionAt ⟨0, 5⟩ 1000 = .barred ∧
         (t.cell ⟨0, 6⟩).state = .held ∧ t.plan.committed.restrictionAt ⟨0, 6⟩ 1000 = .noLoad ∧
         t.loadIsZero 0 = false) ∧
      [(5 : Sector)] ≠ [] ∧ (5 : Sector) ∉ tget opened.restricted 0 ∧
      ∀ x ∈ [(5 : Sector)], x ∈ tget (opened.setRestricted 0 [5]).restricted 0 := by decide +kernel

theorem test_hyp_PlanEditsReplaceEntries :
    setUp.running = true ∧ setUp.site = .setup ∧ setUp.plan.write = none ∧
      (flagOf 0 = some false ∧ flagOf 1 = some true ∧ vaneOf 0 = some .free ∧ vaneOf 1 = some .parked ∧
        sectorOf 0 = some 0 ∧ sectorOf 15 = some 15) ∧
      (2 ≤ [ChartPoint.mk 1 1, ⟨2, 1⟩].length ∧ (List.replicate 8 (ChartPoint.mk 1 1)).length ≤ 8) ∧
      (sectorsOf 1 = [0] ∧ sectorsOf 0x8000 = [15] ∧ classOf 0 = some .unrestricted ∧ classOf 2 = some .barred ∧
        scheduleRefOf 0 = some none ∧ scheduleRefOf 8 = some (some 7)) ∧
      (disciplineOf 1 = some .loose ∧ cadenceOf 1 = some .pulsed) ∧
      allOf modeItem [(3, 0), (15, 2)] = some [(0, .stop), (12, .quiet)] ∧
      (List.replicate 13 (3, 0)).length ≤ 13 := by decide +kernel

def withPairs (n : Nat) : Plan := { plan with pairs := List.replicate n ⟨⟨0, 5⟩, ⟨1, 5⟩, .hook⟩ }

theorem test_hyp_ConflictPairsEdited :
    setUp.running = true ∧ setUp.site = .setup ∧ setUp.plan.write = none ∧
      pairsOf true [⟨16, 0, 1⟩] = some [⟨⟨0, 0⟩, ⟨1, 0⟩, .hook⟩] ∧
      pairsOf false [⟨24, 0, 9⟩] = some [⟨⟨0, 0⟩, ⟨1, 8⟩, .struct⟩] ∧
      (let new := fun n => (distinctPairs [⟨⟨0, 0⟩, ⟨1, 0⟩, .hook⟩]).filter (fun r => (findPair (withPairs n).pairs r).isNone)
       (withPairs 1023).pairs.length + (new 1023).length ≤ 1024 ∧
         1024 < (withPairs 1024).pairs.length + (new 1024).length) := by decide +kernel

theorem test_hyp_PlanRefusals :
    let writing := setUp.withPlan { setUp.plan with write := some 5400 }
    (setUp.running = true ∧ (Instr.planCrane 0 craneFields).isPlanEdit = true ∧ opened.site ≠ .setup) ∧
      (writing.site = .setup ∧ writing.plan.write ≠ none) ∧
      (setUp.site = .setup ∧ setUp.plan.write = none) ∧
      (∃ n f, 8 ≤ n ∧ Instr.planCrane 8 craneFields = .planCrane n f) ∧
      (∃ n ps, (ps.length < 2 ∨ 8 < ps.length) ∧ Instr.planChart 0 (List.replicate 9 ⟨1, 1⟩) = .planChart n ps) ∧
      (∃ n m k r, (8 ≤ n ∨ sectorsOf m = [] ∨ 3 ≤ k ∨ 9 ≤ r) ∧ Instr.planCells 0 1 2 9 = .planCells n m k r) ∧
      (∃ k f, (k = 0 ∨ 9 ≤ k ∨ f.action ≠ 1) ∧ Instr.planScheduleRemove 8 ⟨2, 7, 0, 60⟩ = .planScheduleRemove k f) ∧
      ({ setUp with bookings := [lift .booked] }.bookings ≠ []) ∧ setUp.bookings = [] ∧
      validate (tput (α := CraneEntry) plan.cranes 0 ⟨true, 0, 0, .free, 0, 0, 0, 0, 0⟩ |> fun t =>
        { plan with cranes := t }) ≠ none :=
  ⟨by decide, by decide, by decide, ⟨8, craneFields, by decide, rfl⟩, ⟨0, _, .inr (by decide), rfl⟩,
    ⟨0, 1, 2, 9, by decide, rfl⟩, ⟨8, ⟨2, 7, 0, 60⟩, by decide, rfl⟩, by decide, rfl, by decide +kernel⟩

theorem test_hyp_CommitTakesEffect :
    setUp.running = true ∧ setUp.site = .setup ∧ setUp.plan.write = none ∧ setUp.bookings = [] ∧
      validate setUp.plan.staging = none ∧ AlertKind.slot .intrusion = some 0 ∧ AlertKind.slot .frameError = some 12 ∧
      (let s := setUp.withPlan { setUp.plan with staging := { plan with cranes := tput plan.cranes 0 CraneEntry.empty } }
       s.present 0 = true ∧ (s.plan.staging.entry 0).present = false ∧ validate s.plan.staging ≠ none) ∧
      (let s := setUp.withPlan
         { setUp.plan with staging := { plan with cranes := tput plan.cranes 0 CraneEntry.empty, pairs := [] } }
       validate s.plan.staging = none ∧ s.present 0 = true ∧ (s.plan.staging.entry 0).present = false ∧
         s.present 1 = (s.plan.staging.entry 1).present) ∧
      (setUp.withPlan { setUp.plan with write := some 5400 }).plan.write ≠ none := by decide +kernel

theorem test_hyp_PlanDiscardAndRead :
    setUp.running = true ∧ setUp.site = .setup ∧ setUp.plan.write = none ∧
      (setUp.withPlan { setUp.plan with write := some 5400 }).plan.write ≠ none ∧
      ([0, 1, 2, 3, 4, 5, 6, 7].all (fun k => (readSection setUp.plan plan k (if k = 5 then 1 else 0)).isSome)) = true ∧
      (readSection setUp.plan plan 1 7).isSome = true ∧ (readSection setUp.plan plan 3 1023).isSome = true ∧
      (readSection setUp.plan plan 5 8).isSome = true := by decide +kernel

theorem test_hyp_LinkBytesAssemble :
    let asm := fun bytes last => opened.setLink 0 { opened.link 0 with rx := .assembling bytes last }
    opened.running = true ∧ (opened.link 0).rx = .hunting ∧
      ((asm [0x20#8, 1#8] 4998).link 0).rx = .assembling [0x20#8, 1#8] 4998 ∧
      (48#8 : Byte).toNat ≤ 48 ∧ 48 < (49#8 : Byte).toNat ∧
      ([] : List Byte).length < (1#8 : Byte).toNat ∧ [3#8].length = (1#8 : Byte).toNat ∧
      crc8 [0x20#8, 1#8, 3#8] ≠ 0#8 ∧ readLink (0x20#8 : Byte).toNat [3#8] = some (.enter 3) ∧
      readLink (0x3D#8 : Byte).toNat [3#8] = none ∧
      opened.present 0 = true ∧ opened.present 7 = false ∧
      ((opened.link 0).rx = .hunting) ∧ 4995 + 5 ≤ opened.clock.mono ∧ opened.clock.mono < 4996 + 5 := by decide +kernel

theorem opened_ready : LinkReady opened 0 := by constructor <;> decide

theorem test_hyp_GoodFrameTaken :
    let away := opened.setCrane 0 CraneRec.initial
    LinkReady opened 0 ∧
      ((busyLink opened 0).link 0).buffer = none ∧ 6 ≤ answersIn ((busyLink opened 0).link 0).queue ∧
      (opened.setLink 0 { opened.link 0 with buffer := some (.enter 1) }).running = true ∧
      ((opened.setLink 0 { opened.link 0 with buffer := some (.enter 1) }).link 0).buffer ≠ none ∧
      opened.present 2 = false ∧ (away.present 0 = true ∧ (away.craneRec 0).presence ≠ .present ∧ away.running = true ∧
        (away.link 0).buffer = none ∧ answersIn (away.link 0).queue < 6) ∧
      (∃ r, LinkFrame.status report = .status r) ∧ (∃ r, LinkFrame.rejoin report = .rejoin r) ∧
      ((∀ r, LinkFrame.enter 3 ≠ .status r) ∧ ∀ r, LinkFrame.enter 3 ≠ .rejoin r) :=
  ⟨opened_ready, rfl, by decide, rfl, by decide, by decide, by decide, ⟨_, rfl⟩, ⟨_, rfl⟩, (fun _ => nofun), fun _ => nofun⟩

theorem test_hyp_TransmitQueueServed :
    let sends := fun q b => opened.setLink 0 ⟨.hunting, b, q, some (.grant 0)⟩
    let six := List.replicate 6 (TxFrame.answer 0x20 (answer .ok))
    opened.running = true ∧ (opened.link 0).sending = none ∧ ((sends [] none).link 0).sending ≠ none ∧
      ((sends [.grant 1] none).link 0).queue = .grant 1 :: [] ∧
      (((sends [.grant 1] (some (.enter 3))).link 0).buffer = some (.enter 3) ∧ answersIn ([] : List TxFrame) < 6) ∧
      (((sends (.grant 1 :: six) (some (.enter 3))).link 0).buffer ≠ none ∧ 6 ≤ answersIn six) ∧
      (six.take 5).length < 6 ∧ six.length = 6 ∧ answersIn six = 6 ∧
      (let q := six.take 2 ++ TxFrame.grant 1 :: six.take 3
       q.length = 6 ∧ (TxFrame.grant 1).isNotice = true ∧ ∀ g ∈ six.take 2, g.isNotice = false) := by decide +kernel

theorem test_hyp_StandingOrderShown :
    let lost := opened.setSvc 0 { serving with lost := true }
    (lost.svc 0).lost = true ∧ (setUp.svc 0).state = .offline ∧
      ((opened.svc 0).lost = false ∧ (opened.svc 0).state ≠ .offline ∧ (opened.svc 0).order = .work) ∧
      (opened.setStops 0 [.supervisor]).stopSet 0 ≠ [] ∧ opened.stopSet 0 = [] ∧
      ((opened.setSvc 0 ⟨.securing, false, .secure, some 9000, false, none⟩).svc 0).order ≠ .work := by decide +kernel

theorem test_hyp_StatusWritesTheRecord : LinkReady opened 0 ∧ LinkReady (opened.withSite .closed) 1 :=
  ⟨opened_ready, by constructor <;> decide⟩

theorem test_hyp_RejoinWritesTheRecord :
    let s := opened.setCrane 0 CraneRec.initial
    s.running = true ∧ (s.link 0).buffer = none ∧ answersIn (s.link 0).queue < 6 ∧ s.present 0 = true ∧
      (s.craneRec 0).presence ≠ .present := by decide +kernel

theorem test_hyp_ReportBoundMakesLost :
    let late := opened.withClock { opened.clock with mono := 6000 }
    late.running = true ∧ (late.craneRec 0).presence = .present ∧
      (∃ t, (late.craneRec 0).bound = some t ∧ t ≤ late.clock.mono) ∧
      ((setUp.craneRec 0).presence ≠ .present) ∧ ((opened.craneRec 0).bound = some 6000 ∧ opened.clock.mono < 6000) :=
  ⟨by decide, by decide, ⟨6000, by decide, by decide⟩, by decide, by decide⟩

theorem test_hyp_GrantTestConditions :
    let p := { plan with
      schedules := tput (tput (tconst 8 none) 0 (some ⟨[0], 480, 1020⟩)) 1 (some ⟨[6], 1320, 360⟩)
      cells := tconst 8 (tput (tput (tput (tconst 16 ⟨.barred, none⟩) 1 ⟨.barred, some 0⟩) 2 ⟨.barred, some 1⟩) 3
        ⟨.barred, some 7⟩) }
    (tget (tget p.cells 0) 0).schedule = none ∧ (tget (tget p.cells 0) 1).schedule = some 0 ∧
      tget p.schedules 7 = none ∧ tget p.schedules 0 = some ⟨[0], 480, 1020⟩ ∧
      ((0 : Fin 7).val = 480 / 1440 % 7 ∧ 480 % 1440 < 1020) ∧ ¬ (1020 % 1440 < 1020) ∧
      ((6 : Fin 7).val = (6 * 1440 + 359) / 1440 % 7 ∧ (6 * 1440 + 359) % 1440 < 360) := by decide +kernel

theorem test_hyp_CellChangeWritten :
    let s := cellAs opened ⟨0, 0⟩ .held
    (s.cell ⟨0, 0⟩).state = .held ∧ (s.cell ⟨0, 0⟩).state ≠ .clearing ∧
      0 < s.plan.committed.site.dead ∧ (∀ p ∈ s.partners ⟨0, 3⟩, False) ∧ s.reserved ⟨0, 3⟩ = false ∧
      (let t := cellAs s ⟨1, 8⟩ .held
       ∃ p ∈ t.partners ⟨0, 0⟩, p.1 = .struct ∧ (t.cell p.2).state = .held) ∧
      { plan.site with dead := 0 }.dead = 0 := by decide +kernel

/-- C0 under LOOSE discipline, with lift 7 ACTIVE over S0 and S2. -/
def loose : State :=
  (withLift .active).withPlan
    { opened.plan with committed := { plan with site := { plan.site with discipline := .loose } } }

theorem test_hyp_EnterGrantsOrWaits :
    LinkReady opened 0 ∧ LinkReady loose 0 ∧
      (let ok := fun (s : State) (x : Sector) =>
        s.enterCheck 0 = none ∧ (s.cell ⟨0, x⟩).state ≠ .held ∧ s.waitFor 0 x = none ∧ s.underLimit 0 = true ∧
          s.unrestricted ⟨0, x⟩ = true
       (ok opened 0 ∧ opened.offActivePath 0 0 = false ∧ (opened.cell ⟨0, 0⟩).state = .free ∧
          opened.blocked ⟨0, 0⟩ = false ∧ opened.reserved ⟨0, 0⟩ = false) ∧
        (ok loose 15 ∧ loose.offActivePath 0 15 = true ∧ loose.plan.committed.site.discipline = .loose) ∧
        (let s := cellAs opened ⟨0, 0⟩ .clearing; ok s 0 ∧ (s.cell ⟨0, 0⟩).state = .clearing) ∧
        (let s := cellAs opened ⟨0, 0⟩ .seized
         ok s 0 ∧ (s.cell ⟨0, 0⟩).state = .seized ∧ s.blocked ⟨0, 0⟩ = false ∧ s.reserved ⟨0, 0⟩ = false) ∧
        (let s := cellAs opened ⟨1, 8⟩ .held
         ok s 0 ∧ s.blocked ⟨0, 0⟩ = true ∧ s.waits.length < 16 ∧ (s.waitingSectors 0).length < 2) ∧
        (let s := (cellAs opened ⟨1, 8⟩ .held).withWaits [⟨0, 2, 4000, 9000⟩, ⟨0, 3, 4000, 9000⟩]
         ok s 0 ∧ s.blocked ⟨0, 0⟩ = true ∧ 2 ≤ (s.waitingSectors 0).length) ∧
        (let s := (cellAs opened ⟨1, 8⟩ .held).withWaits (allSectors.map (fun x => ⟨1, x, 4000, 9000⟩))
         ok s 0 ∧ s.blocked ⟨0, 0⟩ = true ∧ 16 ≤ s.waits.length)) :=
  ⟨opened_ready, by constructor <;> decide, by decide +kernel⟩

theorem test_hyp_EnterRefusals :
    LinkReady opened 0 ∧ (opened.withSite .closed).site = .closed ∧
      (opened.withSite .closed).inState 0 .securing = false ∧
      (opened.setStops 0 [.supervisor]).stopSet 0 ≠ [] ∧
      (opened.setSvc 0 ⟨.outOfService, false, .park, none, false, none⟩).inState 0 .outOfService = true ∧
      (opened.setSvc 0 ⟨.vaneWait, false, .secure, none, false, none⟩).inState 0 .vaneWait = true ∧
      (opened.enterCheck 0 = none ∧ (cellAs opened ⟨0, 0⟩ .held |> fun s => (s.cell ⟨0, 0⟩).state) = .held) ∧
      (opened.withWaits [⟨0, 2, 4000, 9000⟩]).waitFor 0 2 ≠ none ∧
      ((withLift .active).enterCheck 0 = none ∧ (withLift .active).offActivePath 0 15 = true ∧
        (withLift .active).plan.committed.site.discipline = .strict) ∧
      (let s := [1, 2, 3, 4].foldl (fun s x => cellAs s ⟨0, x⟩ .held) opened
       s.enterCheck 0 = none ∧ s.underLimit 0 = false) ∧
      (opened.underLimit 0 = true ∧ opened.unrestricted ⟨0, 5⟩ = false) :=
  ⟨opened_ready, rfl, by decide +kernel, by decide +kernel, by decide +kernel, by decide +kernel, by decide +kernel,
    by decide +kernel, by decide +kernel, by decide +kernel, by decide +kernel⟩

theorem test_hyp_ReleaseCells :
    LinkReady opened 0 ∧ 16 ≤ 16 ∧ (opened.withWaits [⟨0, 2, 4000, 9000⟩]).waitFor 0 2 ≠ none ∧
      opened.waitFor 0 3 = none ∧
      ((cellAs opened ⟨0, 3⟩ .held).cell ⟨0, 3⟩).state = .held ∧ opened.occupies 0 3 = true ∧
      ((cellAs opened ⟨0, 4⟩ .held).cell ⟨0, 4⟩).state = .held ∧ opened.occupies 0 4 = false ∧
      ((cellAs opened ⟨0, 3⟩ .seized).cell ⟨0, 3⟩).state = .seized ∧ (opened.cell ⟨0, 3⟩).state = .free :=
  ⟨opened_ready, by decide +kernel⟩

theorem test_hyp_CellAndWaitDeadlines :
    let s := cellAs (opened.withWaits [⟨0, 2, 4000, 5000⟩, ⟨0, 3, 4000, 5001⟩]) ⟨0, 0⟩ .clearing
    let early := s.withClock { s.clock with mono := 4999 }
    s.running = true ∧ ((s.cell ⟨0, 0⟩).state = .clearing ∧ (s.cell ⟨0, 0⟩).clearEnd = some 5000) ∧
      5000 ≤ s.clock.mono ∧ early.clock.mono < 5000 ∧ (s.cell ⟨0, 1⟩).state ≠ .clearing ∧
      s.waitFor 0 2 = some ⟨0, 2, 4000, 5000⟩ ∧ s.waitFor 0 3 = some ⟨0, 3, 4000, 5001⟩ ∧ s.clock.mono < 5001 ∧
      s.waitFor 0 4 = none ∧ (∀ c, s.isWithheld c = false) ∧
      s.grantTest ⟨0, 2⟩ = true ∧ s.grantTest ⟨0, 5⟩ = false := by decide +kernel

theorem test_hyp_ForceReleaseClearsCells :
    let out := (opened.setCrane 0 { CraneRec.initial with presence := .lost }).setSvc 0
      ⟨.outOfService, true, .vaneRelease, none, false, none⟩
    let vane := cellAs out ⟨0, 0⟩ .vane
    vane.running = true ∧ 65536 % 65536 = 0 ∧ 1 % 65536 ≠ 0 ∧ (opened.craneRec 0).presence = .present ∧
      (vane.craneRec 0).presence ≠ .present ∧ (Nat.testBit 1 0 = true ∧ (vane.cell ⟨0, 0⟩).state = .vane) ∧
      ((vane.svc 0).lost = true ∧ (vane.svc 0).state = .outOfService ∧ (vane.svc 0).order = .vaneRelease) := by
  decide +kernel

theorem test_hyp_PositionChecked :
    128 ≤ 128 ∧
      (let at_ := fun st => cellAs opened ⟨0, 3⟩ st
       ([CellState.held, .vane, .parked, .free].all (fun st => decide (((at_ st).cell ⟨0, 3⟩).state = st))) = true ∧
         (((at_ .seized).cell ⟨0, 3⟩).state = .seized ∧ (at_ .seized).grantTest ⟨0, 3⟩ = true) ∧
         ((cellAs opened ⟨0, 5⟩ .seized |> fun s => s.grantTest ⟨0, 5⟩) = false) ∧
         (((at_ .clearing).cell ⟨0, 3⟩).state = .clearing ∧ (at_ .clearing).underLimit 0 = true) ∧
         (([1, 2, 4, 5].foldl (fun s x => cellAs s ⟨0, x⟩ .held) (at_ .clearing)).underLimit 0 = false)) ∧
      (let v := (cellAs (cellAs opened ⟨0, 0⟩ .seized) ⟨1, 8⟩ .held).raiseFor .intrusion 0
       ∃ p ∈ v.partners ⟨0, 0⟩, p.2.crane = 1 ∧ v.blocks p = true) ∧
      ∀ p ∈ (opened.raiseFor .intrusion 0).partners ⟨0, 3⟩, False := by decide +kernel

theorem test_hyp_StopReasonJoins :
    opened.stopSet 0 = [] ∧ (opened.setStops 0 [.supervisor]).stopSet 0 ≠ [] ∧ opened.onPath 0 = true ∧
      (cellAs (withLift .active) ⟨0, 4⟩ .held).onPath 0 = false ∧
      (withLift .active).runningLift 0 = some (lift .active) := by decide +kernel

theorem test_hyp_StopCraneAndClearStop :
    let s := opened.setStops 0 [.conflict, .supervisor]
    s.running = true ∧ 512 ≤ 512 ∧ s.present 7 = false ∧ s.present 0 = true ∧ s.stopSet 0 ≠ [] ∧
      (s.stopSet 0).filter (fun r => !(Nat.testBit 256 r.bit && s.stopEnded 0 r)) ≠ [] ∧
      (s.stopSet 0).filter (fun r => !(Nat.testBit 511 r.bit && s.stopEnded 0 r)) = [] ∧ opened.stopSet 0 = [] := by
  decide +kernel

theorem test_hyp_ConditionRaised :
    AlertKind.intrusion.siteScoped = false ∧ AlertKind.stopReason .intrusion = some .intrusion ∧
      AlertKind.stopReason .conflict = some .conflict ∧ (opened.alert .conflict).mode = .stop ∧
      AlertKind.stopReason .craneLost = none ∧ (opened.alert .intrusion).mode ≠ .stop ∧ AlertKind.storm ≠ .conflict ∧
      (0 : Crane) ∉ (opened.alert .intrusion).cranes := by decide +kernel

theorem test_hyp_LinesEvaluated :
    let latched := opened.setAlert .conflict ⟨.stop, [0], false, [0], some 60000⟩
    let pulsed := latched.withPlan
      { latched.plan with committed := { plan with site := { plan.site with cadence := .pulsed } } }
    let on := pulsed.withLines ⟨true, true, some 5000⟩
    ((latched.alert .conflict).latch ≠ none ∧ (latched.alert .conflict).mode = .stop ∧
        latched.plan.committed.site.cadence = .steady) ∧
      (pulsed.plan.committed.site.cadence = .pulsed ∧ pulsed.lines.phase = none ∧ on.lines.phase ≠ none) ∧
      (∀ k : Fin 16, (tget opened.alerts k).latch = none) ∧ opened.running = true ∧
      (on.lines.phase = some 5000 ∧ 5000 ≤ on.clock.mono) ∧
      ((on.withLines ⟨true, true, some 5001⟩).lines.phase = some 5001 ∧ on.clock.mono < 5001) ∧
      (16 < (List.replicate 17 0).length ∧ (∃ n ∈ [16], 16 ≤ n)) ∧ (1 ≤ [0, 15].length ∧ ∀ n ∈ [0, 15], n < 16) ∧
      ((opened.setAlert .conflict ⟨.stop, [], false, [0], some 60000⟩).alert .conflict).latch ≠ none ∧
      (latched.alert .conflict).cranes ≠ [] := by decide +kernel

def entry0 : CraneEntry := ⟨true, 600, 10, .free, 0, 300, 400, 280, 20⟩

theorem test_hyp_WindSampleTaken :
    let calm : WindRec := ⟨true, false, .calm, [50], 25600, none⟩
    WindRec.initial.unknown = true ∧ calm.unknown = false ∧ 2 < 3 ∧
      (calm.state.code < (classify entry0 (calm.takeReading entry0 0 600).gust (calm.takeReading entry0 0 600).mean).code) ∧
      (let hold : WindRec := ⟨true, false, .hold, [50], 25600, none⟩
       let t := hold.takeReading entry0 0 50
       (classify entry0 t.gust t.mean).code ≤ hold.state.code ∧ stepDown entry0 hold.state t.gust t.mean = true) ∧
      (let hold : WindRec := ⟨true, false, .hold, [280], 25600, none⟩
       let t := hold.takeReading entry0 0 280
       (classify entry0 t.gust t.mean).code ≤ hold.state.code ∧ stepDown entry0 hold.state t.gust t.mean = false) ∧
      (600 ≤ 600 ∧ calm.window.length ≤ 3 ∧ calm.window.length < 3) ∧
      (⟨true, false, .calm, [1, 2, 3], 307200, none⟩ : WindRec).window = [1, 2, 3] := by decide +kernel

theorem test_hyp_LiftVerdict :
    let r := fun g => (⟨true, false, .calm, [g], 0, none⟩ : WindRec)
    (WindRec.initial.unknown = true ∧ entry0.lw * 55 / 100 = 165 ∧ 165 ≤ (r 165).gust) ∧
      ((r 144).gust + entry0.hw < 165 ∧ (r 145).gust + entry0.hw = 165 ∧ (r 164).gust < 165) ∧
      (lift .active).state = .active ∧
      ((lift (.suspended [.wind])).state = .suspended [.wind] ∧ SuspReason.wind ∈ [SuspReason.wind] ∧
        [SuspReason.wind].filter (fun r => decide (r ≠ .wind)) = []) ∧
      ([SuspReason.wind, .lost].filter (fun r => decide (r ≠ .wind)) ≠ [] ∧ SuspReason.wind ∉ [SuspReason.lost]) ∧
      opened.runningLift 0 = none ∧ (withLift .active).runningLift 0 = some (lift .active) ∧
      (880 * 100 ≤ 800 * (100 + plan.site.tolerance) ∧ ¬ 881 * 100 ≤ 800 * (100 + plan.site.tolerance)) := by
  decide +kernel

theorem test_hyp_DwellCompletes :
    let at_ := fun d => opened.setWind 0 ⟨true, false, .storm, [50], 25600, some ⟨.stormToHold, d⟩⟩
    let t := fun d => (at_ d).withClock { opened.clock with mono := 605000 }
    (t 5000).running = true ∧ ((t 5000).windRec 0).dwell = some ⟨.stormToHold, 5000⟩ ∧
      5000 + 600000 ≤ (t 5000).clock.mono ∧ (t 5001).clock.mono < 5001 + 600000 ∧ (opened.windRec 0).dwell = none ∧
      (setUp.windRec 0).heard = false ∧ (opened.windRec 0).heard = true := by decide +kernel

theorem test_hyp_SecuringEntered :
    let rec_ := fun st lost withheld => (⟨st, lost, .remainSecured, none, withheld, none⟩ : ServiceRec)
    (opened.svc 0).state = .inService ∧ (opened.entry 0).vane = .free ∧ (opened.entry 1).vane ≠ .free ∧
      (((opened.setSvc 0 (rec_ .outOfService true true)).svc 0).state = .outOfService ∧
        ((opened.setSvc 0 (rec_ .outOfService true true)).svc 0).withheld = true ∧
        ((opened.setSvc 0 (rec_ .outOfService true true)).svc 0).lost = true) ∧
      ((opened.setSvc 0 (rec_ .outOfService false true)).svc 0).lost = false ∧
      ((opened.setSvc 0 (rec_ .outOfService false false)).svc 0).withheld = false ∧ (setUp.svc 0).state = .offline ∧
      opened.site = .opened ∧ setUp.site ≠ .opened := by decide +kernel

theorem test_hyp_SecuringTested :
    let sec := fun c => (opened.withSite .storm).setSvc c ⟨.securing, false, .secure, some 5000, false, none⟩
    let parked := cellAs (sec 1) ⟨1, 3⟩ .held
    opened.inState 0 .securing = false ∧ (sec 0).inState 0 .securing = true ∧
      (((sec 0).readinessOf 0).all = true ∧ ((sec 0).entry 0).vane = .free) ∧
      ((parked.readinessOf 1).all = true ∧ (parked.entry 1).vane = .parked) ∧
      ((sec 1).readinessOf 1).all = false ∧ opened.vanePermitted 0 = true ∧
      (cellAs opened ⟨1, 8⟩ .held).vanePermitted 0 = false ∧ (opened.cell ⟨0, 0⟩).state ≠ .vane ∧
      (((sec 0).svc 0).timer = some 5000 ∧ 5000 ≤ (sec 0).clock.mono ∧ (sec 0).running = true) ∧
      ((opened.setSvc 0 ⟨.outOfService, false, .park, some 5001, false, none⟩).svc 0).timer = some 5001 ∧
      opened.clock.mono < 5001 ∧ (opened.svc 0).timer = none := by decide +kernel

def standing : ServiceRec := ⟨.standby, false, .remainSecured, none, false, none⟩

/-- In SETUP with both cranes reporting. -/
def ready : State := State.reported (State.reported setUp 0 standing) 1 standing

def secured : ServiceRec := ⟨.outOfService, false, .park, none, false, none⟩

/-- CLOSED with both cranes out of service. -/
def closed : State := State.reported (State.reported (setUp.withSite .closed) 0 secured) 1 secured

theorem test_hyp_SiteOpened :
    (ready.running = true ∧ ready.site = .setup ∧ ready.openCheck = none ∧
        ∀ c x, (ready.cell ⟨c, x⟩).state = .free) ∧
      (ready.present 0 = true ∧ ready.occupies 0 3 = true ∧ ready.present 2 = false ∧ ready.occupies 0 0 = false) ∧
      (closed.running = true ∧ closed.site = .closed ∧ closed.reopenCheck = none) ∧
      ((opened.withSite .storm).site = .storm ∧ (opened.withSite .storm).resumeCheck = none) ∧
      ((opened.withSite .storm).setSvc 0 ⟨.securing, false, .secure, some 9000, false, none⟩).inState 0 .securing =
        true := by decide +kernel

theorem test_hyp_SiteRefusals :
    let calm := fun (s : State) c => s.setWind c WindRec.initial
    let away := fun (s : State) c => s.setSvc c ⟨.outOfService, true, .park, none, false, none⟩
    opened.running = true ∧ opened.site = .opened ∧ (opened.withSite .storm).site = .storm ∧ ready.site = .setup ∧
      (ready.withPlan { ready.plan with write := some 5400 }).plan.write ≠ none ∧
      (ready.withPlan { ready.plan with edition := 0 }).plan.edition = 0 ∧
      (ready.plan.write = none ∧ ready.plan.edition ≠ 0 ∧ ready.clock.isSet = true) ∧
      (ready.withClock { ready.clock with isSet := false }).clock.isSet = false ∧
      (let s := ready.setSvc 1 ServiceRec.initial
       s.present 1 = true ∧ s.inState 1 .standby = false ∧ s.present 0 = true ∧ s.inState 0 .standby = true) ∧
      ((∀ c, ready.present c = true → ready.inState c .standby = true) ∧
        (calm ready 1).windReady 1 = false ∧ (calm ready 1).windReady 0 = true) ∧
      (let s := (ready.setOccupied 0 (some ⟨0, 0⟩)).setOccupied 1 (some ⟨8, 8⟩)
       (∀ c, s.present c = true → s.windReady c = true) ∧ s.occupiedPair ⟨⟨0, 0⟩, ⟨1, 8⟩, .struct⟩ = true ∧
         s.plan.committed.pairs = [] ++ ⟨⟨0, 0⟩, ⟨1, 8⟩, .struct⟩ :: [⟨⟨0, 1⟩, ⟨1, 9⟩, .hook⟩]) ∧
      closed.site = .closed ∧ ((away closed 1).svc 1).lost = true ∧
      ((∀ c, closed.present c = true → (closed.svc c).lost = false) ∧ (calm closed 1).windReady 1 = false) ∧
      (∃ b ∈ (withLift .active).bookings, b.running = true) ∧ (away closed 1).maySetUp 1 = false := by decide +kernel

theorem test_hyp_SiteClosedAndSetUp :
    (opened.running = true ∧ opened.site = .opened ∧ ∀ b ∈ (withLift .booked).bookings, b.running = false) ∧
      (closed.running = true ∧ closed.site = .closed ∧ (∀ c, closed.maySetUp c = true) ∧
        (∀ c, (closed.svc c).withheld = false) ∧ closed.inState 0 .outOfService = true) := by decide +kernel

def data : LiftData := ⟨1000, 10, 800, .a0, 300, [0, 2], none⟩

/-- Sixteen booked records of one crane, in windows that do not overlap the lift's. -/
def many (c : Crane) : List Booking :=
  allSectors.map (fun k => { lift .booked with id := 1 + 16 * c.val + k.val, crane := c, data := { data with start := 3000 } })

theorem test_hyp_AdmissionSteps :
    opened.present 7 = false ∧ opened.present 0 = true ∧ liftOf { fields with length := 241 } = none ∧
      liftOf fields = some data ∧ opened.clock.site / 60 = 1000 ∧
      ({ data with start := 999 }.start < 1000 ∧ 1000 + 10080 < { data with start := 11081 }.start) ∧
      (1000 ≤ data.start ∧ data.start ≤ 1000 + 10080 ∧ data.start + data.length - 1 ≤ 71582788) ∧
      ((opened.entry 0).reach < { data with reach := 601 }.reach ∧ data.reach ≤ (opened.entry 0).reach) ∧
      (ratedLoad (tget opened.plan.committed.charts 0) data.reach = some 1000 ∧ data.mass ≤ 1000 ∧
        1000 < { data with mass := 1001 }.mass) ∧
      (opened.plan.committed.restrictionAt ⟨0, 5⟩ 1000 ≠ .unrestricted ∧
        (∀ k : Fin 10, ∀ x ∈ data.path, opened.plan.committed.restrictionAt ⟨0, x⟩ (1000 + k.val) = .unrestricted)) ∧
      (let b := { lift .booked with id := 9, data := { data with start := 1009 } }
       data.start < b.data.start + b.data.length ∧ b.data.start < data.start + data.length ∧ b.crane = 0) ∧
      (let b := { lift .booked with id := 9, crane := 1, data := { data with path := [8] } }
       ∃ x ∈ data.path, ∃ r ∈ opened.plan.committed.partners ⟨0, x⟩, r.2.crane = b.crane ∧ r.2.sector ∈ b.data.path) ∧
      64 ≤ ([0, 1, 2, 3].flatMap many).length ∧ ((many 0).filter (fun b => decide (b.crane = 0))).length = 16 ∧
      (fields.path.length = 8 ∧ (fields.path.take fields.pathCount).Nodup) := by decide +kernel

theorem test_hyp_ProposeCreatesPending :
    (Requester.crane 0).heard opened ∧ Requester.supervisor.heard opened ∧ opened.clock.isSet = true ∧
      (opened.withClock { opened.clock with isSet := false }).clock.isSet = false ∧
      opened.admission 0 fields none = .admitted data ∧
      opened.admission 0 { fields with length := 0 } none = .failed (answer .badValue) ∧
      (([0, 1, 2, 3].flatMap many).length ≤ 64 ∧ 1 ≤ 65535 ∧ 65535 ≤ 65535) :=
  ⟨opened_ready, rfl, by decide +kernel⟩

/-- Lift 7 in a state, with C0's link ready. -/
theorem withLift_ready (st : BookingState) : (Requester.crane 0).heard (withLift st) :=
  ⟨opened_ready.running, opened_ready.empty, opened_ready.room, opened_ready.inPlan, opened_ready.present⟩

theorem test_hyp_ConfirmBooks :
    (Requester.crane 0).heard (withLift (.pending 5000)) ∧ opened.findLift 7 = none ∧
      (withLift (.pending 5000)).findLift 7 = some (lift (.pending 5000)) ∧
      (Requester.crane 1 ≠ .supervisor ∧ (lift (.pending 5000)).originator ≠ .crane 1) ∧
      (lift (.pending 5000)).originator = .crane 0 ∧ (∀ t, (lift .booked).state ≠ .pending t) ∧
      (lift (.pending 5000)).state = .pending 5000 ∧
      (data.start + data.length ≤ 1010 ∧ 999 < data.start ∧ data.start ≤ 1000 ∧ 1009 < data.start + data.length) ∧
      5000 ≤ opened.clock.mono ∧ opened.clock.mono < 5001 :=
  ⟨withLift_ready _, by decide +kernel, by decide +kernel, by decide, rfl, (fun _ => nofun), rfl, by decide +kernel⟩

theorem test_hyp_AmendReplaces :
    (Requester.crane 0).heard (withLift .booked) ∧ Requester.supervisor.heard (withLift .booked) ∧
      (withLift .booked).clock.isSet = true ∧ opened.findLift 7 = none ∧
      (withLift .booked).findLift 7 = some (lift .booked) ∧ (lift .booked).allows (.crane 1) = false ∧
      (lift .booked).allows (.crane 0) = true ∧ (lift .active).state ≠ .booked ∧
      { lift .booked with locked := true }.locked = true ∧ (lift .booked).locked = false ∧
      (withLift .booked).admission 0 fields (some 7) = .admitted data ∧
      (withLift .booked).admission 0 { fields with start := 1001 } (some 7) = .admitted { data with start := 1001 } ∧
      (withLift .booked).admission 0 { fields with start := 999 } (some 7) = .failed (answer .tooLate) ∧
      (data.start = opened.clock.site / 60 ∧ opened.clock.site / 60 < { data with start := 1001 }.start) :=
  ⟨withLift_ready _, rfl, by decide +kernel⟩

theorem test_hyp_CancelAndLock :
    (Requester.crane 0).heard (withLift .booked) ∧ Requester.supervisor.heard (withLift .booked) ∧
      opened.findLift 7 = none ∧ (withLift .booked).findLift 7 = some (lift .booked) ∧
      (lift .booked).allows (.crane 1) = false ∧ (lift .booked).allows (.crane 0) = true ∧
      (lift .active).running = true ∧ (lift .booked).running = false ∧ (lift .booked).locked = false ∧
      { lift .booked with locked := true }.locked = true :=
  ⟨withLift_ready _, rfl, by decide +kernel⟩

theorem test_hyp_StartMakesActive :
    (Requester.crane 0).heard (withLift .booked) ∧ (withLift .booked).findLift 7 = some (lift .booked) ∧
      (lift .booked).crane ≠ 1 ∧ (lift .booked).state = .booked ∧ (withLift .booked).startCheck 0 (lift .booked) = none ∧
      opened.startCheck 0 { lift .booked with data := { data with start := 1001 } } = some ⟨.badState, [f2 0]⟩ ∧
      opened.startCheck 0 { lift .booked with data := { data with start := 990 } } = some (answer .tooLate) ∧
      (opened.withSite .storm).site ≠ .opened ∧ opened.inState 0 .inService = true ∧ closed.inState 0 .inService = false ∧
      (opened.setStops 0 [.supervisor]).stopSet 0 ≠ [] ∧ (withLift .active).runningLift 0 = some (lift .active) ∧
      (let w := opened.windRec 0
       w.unknown = false ∧ w.state = .calm ∧ w.gust < (opened.entry 0).classLimit .a0) ∧
      (setUp.windRec 0).unknown = true ∧
      (let s := cellAs opened ⟨1, 8⟩ .held
       data.path = [] ++ 0 :: [2] ∧ s.partners ⟨0, 0⟩ = [] ++ (.struct, ⟨1, 8⟩) :: [] ∧ s.blocks (.struct, ⟨1, 8⟩) = true) :=
  ⟨withLift_ready _, by decide +kernel⟩

theorem test_hyp_RunningLiftEnds :
    (Requester.crane 0).heard (withLift .active) ∧ Requester.supervisor.heard (withLift .active) ∧
      opened.findLift 7 = none ∧ (withLift .active).findLift 7 = some (lift .active) ∧
      (lift .active).allows (.crane 1) = false ∧ (lift .active).allows (.crane 0) = true ∧
      (lift .active).running = true ∧ (lift .booked).running = false :=
  ⟨withLift_ready _, rfl, by decide +kernel⟩

theorem test_hyp_SuspendAndResume :
    (Requester.crane 0).heard (withLift (.suspended [.nonconform])) ∧ Requester.supervisor.heard (withLift .active) ∧
      opened.findLift 7 = none ∧ (withLift .active).findLift 7 = some (lift .active) ∧ (lift .booked).running = false ∧
      (withLift (.suspended [.nonconform])).findLift 7 = some (lift (.suspended [.nonconform])) ∧
      (lift (.suspended [.nonconform])).allows (.crane 0) = true ∧ (lift .active).allows (.crane 1) = false ∧
      tget (opened.setLastConf 0 (some .conforms)).lastConf 0 = some .conforms ∧
      (∀ rs, (lift .active).state ≠ .suspended rs) :=
  ⟨withLift_ready _, rfl, by decide +kernel, by decide +kernel, rfl, by decide +kernel, by decide, by decide,
    by decide +kernel, fun _ => nofun⟩

theorem test_hyp_LiftsRead :
    (Requester.crane 0).heard (withLift .active) ∧ Requester.supervisor.heard (withLift .active) ∧
      opened.findLift 7 = none ∧ (withLift .active).findLift 7 = some (lift .active) ∧
      (lift .active).allows (.crane 1) = false ∧ (lift .active).allows .supervisor = true ∧
      16 % 16 = 0 ∧ 15 % 16 ≠ 0 ∧ (8 ≤ 8 ∧ 8 ≠ 255) ∧ 7 < 8 ∧ 8 < ((many 0).map Booking.id).length ∧
      ((many 0).map Booking.id)[7]? = some 8 :=
  ⟨withLift_ready _, rfl, by decide +kernel⟩

theorem test_hyp_SupervisorPort :
    let frame := frameBytes 1 [0#8]
    let unread := setUp.withPort ⟨[], [frame], true, .highImpedance, []⟩
    (fieldBytes (List.replicate 472 (f1 0))).length ≤ 472 ∧ setUp.running = true ∧ setUp.port.slot = [] ∧
      unread.port.slot = frame :: [] ∧ 1 < frame.length + 2 ∧ frame.length + 2 ≤ 6 ∧
      ((1#8 : Byte) ≠ 0#8 ∧ checkRequest [1#8, 0#8, 0#8] = none) ∧
      checkRequest (requestBytes .identify) = some .identify := by decide +kernel

theorem test_hyp_LookupsChangeNothing :
    opened.running = true ∧ lookupAnswer opened (.queryCrane 7) = some (craneReading 7 opened) ∧
      lookupAnswer opened .identify = some (identity opened) ∧ 8 ≤ 8 := ⟨rfl, rfl, rfl, by decide⟩

theorem test_hyp_FramesDecode :
    ((LinkFrame.proposeLift fields).command 0).wellFormed = true ∧ ((LinkFrame.enter 255).command 7).wellFormed = true ∧
      (Instr.proposeLift .supervisor 255 fields).wellFormed = true ∧
      (requestParts (.proposeLift .supervisor 255 fields)).isSome = true ∧ (Instr.planCommit true).wellFormed = true ∧
      (requestParts (.planCommit true)).isSome = true := by decide

/-! ### A state that keeps the laws, and its step -/

/-- OPEN with a HELD and a CLEARING cell, a wait entry, an ACTIVE lift and an idle port. -/
def lawful : State :=
  (cellAs (cellAs (withLift .active) ⟨0, 3⟩ .held) ⟨1, 12⟩ .clearing).withWaits [⟨1, 8, 4000, 9000⟩]

theorem lawful_step : ∃ t, step lawful = .next t := ⟨_, rfl⟩

theorem test_hyp_StepKeepsWindRecords : WindLaw lawful := by
  intro c
  have h : ∀ c : Crane, lawful.windRec c = ⟨true, false, .calm, [50], 25600, none⟩ ∨ lawful.windRec c = WindRec.initial := by
    decide +kernel
  rcases h c with h | h <;> rw [h] <;> constructor <;> first | decide | nofun

/-- A change of the sound state that breaks no law of the lists: C0 with a SEIZED cell of which C1 is a partner. -/
def lawfulSeized : State :=
  ((cellAs lawful ⟨0, 0⟩ .seized).withRegister [⟨⟨0, 0⟩, [1]⟩]).setAlert .intrusion ⟨.warn, [0], false, [0], some 60000⟩
    |>.setAlert .conflict ⟨.stop, [0, 1], false, [0, 1], some 60000⟩

theorem test_hyp_StepKeepsRegister : RegisterLaw lawful ∧ RegisterLaw lawfulSeized ∧ lawfulSeized.register ≠ [] := by
  refine ⟨?_, ?_, by decide⟩ <;> constructor <;> decide +kernel

theorem lawful_lists : WaitLaw lawful ∧ TableLaw lawful := by
  refine ⟨?_, ?_⟩ <;> constructor <;> decide +kernel

theorem lawful_presence : PresenceLaw lawful := by unfold PresenceLaw; decide +kernel

theorem test_hyp_StepKeepsListLimits :
    QueueLaw lawful ∧ PresenceLaw lawful ∧ WaitLaw lawful ∧ TableLaw lawful ∧ lawful.waits ≠ [] ∧ lawful.bookings ≠ [] :=
  ⟨by unfold QueueLaw; decide +kernel, lawful_presence, lawful_lists.1, lawful_lists.2, by decide, by decide⟩

theorem test_hyp_StepKeepsRecordForms :
    CellLaw lawful ∧ PortLaw lawful ∧ TimeLaw lawful ∧ ModeLaw lawful ∧ PresenceLaw lawful := by
  refine ⟨?_, ⟨by decide, rfl⟩, ⟨by decide, nofun⟩, ?_, lawful_presence⟩
  · rintro ⟨c, x⟩
    revert c x
    decide +kernel
  · intro k
    cases k <;> decide +kernel

theorem test_hyp_StepKeepsLines : LineLaw lawful := by constructor <;> decide +kernel

theorem lawful_service : ServiceLaw lawful ∧ SetupLaw lawful := by
  refine ⟨by constructor <;> decide +kernel, ?_⟩
  constructor <;> nofun

theorem test_hyp_StepKeepsService : ServiceLaw lawful ∧ SetupLaw lawful := lawful_service

theorem test_hyp_StepKeepsRunningLifts :
    ServiceLaw lawful ∧ TableLaw lawful ∧ RunningLaw lawful ∧ ∃ b ∈ lawful.bookings, b.state = .active := by
  refine ⟨lawful_service.1, lawful_lists.2, ?_, _, List.mem_singleton.mpr rfl, rfl⟩
  have only : ∀ b, b ∈ lawful.bookings → b = lift .active := fun b h => List.mem_singleton.mp h
  have apart : ((lift .active).data.path.all fun x =>
      (lawful.partners ⟨0, x⟩).all fun p => decide (p.2.crane ≠ 0)) = true := by decide +kernel
  refine ⟨?_, ?_, ?_, ?_, ?_, ?_, ?_⟩
  · intro a ha b hb _ _ _
    rw [only a ha, only b hb]
  · intro a ha b hb _ _ x hx p hp hc
    rw [only a ha] at hx hp
    rw [only b hb] at hc
    exact absurd hc (of_decide_eq_true (List.all_eq_true.mp (List.all_eq_true.mp apart x hx) p hp))
  all_goals
    intro b hb
    rw [only b hb]
    decide +kernel

theorem test_hyp_StepKeepsGrants :
    ServiceLaw lawful ∧ SetupLaw lawful ∧ TableLaw lawful ∧ PresenceLaw lawful ∧ WaitLaw lawful ∧ VaneLaw lawful ∧
      GrantLaw lawful := by
  refine ⟨lawful_service.1, lawful_service.2, lawful_lists.2, lawful_presence, lawful_lists.1, ⟨?_, ?_, ?_, ?_⟩, ⟨?_, ?_, ?_, ?_⟩⟩
  · rintro ⟨c, x⟩; revert c x; decide +kernel
  · decide +kernel
  · unfold Plan.vaneSafe; decide +kernel
  · intro k hk
    have h : k = ⟨plan, 1, 60000⟩ := (Option.some.inj (hk.symm.trans rfl : some k = some ⟨plan, 1, 60000⟩))
    subst h
    unfold Plan.vaneSafe
    decide +kernel
  · have h : ∀ c x, ∀ p ∈ lawful.partners ⟨c, x⟩, (lawful.cell ⟨c, x⟩).state.granted = true →
        (lawful.cell p.2).state.granted = false := by decide +kernel
    intro q o m g
    exact h q.crane q.sector _ m g
  · have h : ∀ c x, ∀ p ∈ lawful.partners ⟨c, x⟩, (lawful.cell p.2).state ≠ .held ∧ (lawful.cell p.2).state ≠ .clearing := by
      decide +kernel
    intro q o m _
    exact h q.crane q.sector _ m
  · decide +kernel
  · rintro ⟨c, x⟩; revert c x; decide +kernel

/-! ### Further clauses, each at a state and operands that meet it -/

theorem test_hyp_PlanRefusals_values :
    let pairs := fun (k : PairItem) => 128 ≤ k.first ∨ 128 ≤ k.second ∨ k.first / 16 = k.second / 16
    (pairs ⟨128, 0, 0⟩ ∧ pairs ⟨0, 128, 0⟩ ∧ pairs ⟨0, 15, 0⟩ ∧ ¬ pairs ⟨15, 16, 1⟩) ∧
      (2 ≤ (PairItem.mk 0 16 2).kind ∧ 16 < (List.replicate 17 (PairItem.mk 0 16 0)).length) ∧
      (2 ≤ { craneFields with present := 2 }.present ∧ 2 ≤ { craneFields with vane := 2 }.vane ∧
        16 ≤ { craneFields with park := 16 }.park) ∧
      (2 ≤ { siteFields with discipline := 2 }.discipline ∧ 2 ≤ { siteFields with cadence := 2 }.cadence) ∧
      (∀ k ∈ [(2, 0), (16, 0), (3, 3)], k.1 ≤ 2 ∨ 16 ≤ k.1 ∨ 3 ≤ k.2) ∧ 13 < (List.replicate 14 (3, 0)).length ∧
      [2, 16].filterMap alertOf ≠ [] ∧ modeItem (2, 0) = none ∧ modeItem (16, 0) = none ∧ modeItem (3, 3) = none := by
  decide +kernel

/-- In SETUP, with C0 stopped for OFF_PATH, C1 off its path, SITE_STOP# asserted, and a staging plan that C1 stays in, C2 joins,
and that puts OFF_PATH into STOP mode. -/
def joining : State :=
  let s := ((setUp.withPins ⟨.running, true, false⟩).setStops 0 [.offPath]).setAlert .offPath ⟨.warn, [1], false, [1], some 60000⟩
  s.withPlan { s.plan with
    staging := { plan with
      cranes := tput plan.cranes 2 (plan.entry 1)
      charts := tput plan.charts 2 (tget plan.charts 1)
      modes := tput plan.modes 4 .stop } }

theorem test_hyp_CommitTakesEffect_joins :
    joining.running = true ∧ joining.site = .setup ∧ joining.plan.write = none ∧ joining.bookings = [] ∧
      validate joining.plan.staging = none ∧ joining.pins.siteStop = true ∧
      joining.present 2 = false ∧ (joining.plan.staging.entry 2).present = true ∧
      joining.present 1 = (joining.plan.staging.entry 1).present ∧ 1 ∈ (joining.alert .offPath).cranes ∧
      AlertKind.offPath.stopReason = some .offPath ∧ (∃ j, AlertKind.slot .offPath = some j ∧ tget joining.plan.staging.modes j = .stop) ∧
      StopReason.offPath ∈ joining.stopSet 0 := by decide +kernel

theorem test_hyp_PlanDiscardAndRead_items :
    (2 ≤ 2 ∧ 8 ≤ 8 ∧ 1024 ≤ 1024 ∧ 1023 < 1024) ∧ (7 : Crane).val = 7 ∧ ((7 : Fin 8).val + 1 = 8) ∧
      tget plan.schedules 7 = none ∧
      (let p := { plan with schedules := tput plan.schedules 0 (some ⟨[0, 6], 480, 1020⟩) }
       tget p.schedules 0 = some ⟨[0, 6], 480, 1020⟩ ∧
         readSection setUp.plan p 5 1 = some [f1 1, f1 65, f2 480, f2 1020]) ∧
      (0 + 16 < (withPairs 17).pairs.length ∧ ¬ 1 + 16 < (withPairs 17).pairs.length) := by decide +kernel

/-- C0 with a load of 800 that has last reported so, and in its restricted set one BARRED cell or one NO_LOAD cell. -/
def loaded (xs : List Sector) : State :=
  ((opened.setCrane 0 ⟨.present, some 4000, some 6000, some ⟨1000, 200, some 800, some 50, true, false, true⟩, 0⟩).setRestricted 0
    xs).raiseFor .restricted 0

theorem test_hyp_StatusWritesTheRecord_stages :
    let early := opened.withClock { opened.clock with mono := 4249 }
    (LinkReady early 0 ∧ (early.craneRec 0).lastReport = some 4000 ∧ early.clock.mono < 4000 + 250 ∧
        ¬ opened.clock.mono < 4000 + 250) ∧
      (LinkReady (loaded [5]) 0 ∧ ((loaded [5]).craneRec 0).contents.bind Contents.load ≠ some 0 ∧
        (opened.craneRec 0).contents.bind Contents.load = some 0) ∧
      ((loaded [6]).restriction ⟨0, 6⟩ = .noLoad ∧ tget (loaded [6]).restricted 0 = [6]) ∧
      ((loaded [5]).restriction ⟨0, 5⟩ = .barred ∧ tget (loaded [5]).restricted 0 = [5]) ∧ tget opened.restricted 0 = [] ∧
      (opened.runningLift 0 = none ∧ (withLift .active).runningLift 0 = some (lift .active)) :=
  ⟨⟨by constructor <;> decide, by decide +kernel⟩, ⟨by constructor <;> decide, by decide +kernel⟩, by decide +kernel⟩

theorem test_hyp_RejoinWritesTheRecord_service :
    let as := fun (st : SvcState) (lost : Bool) =>
      opened.setSvc 0 ⟨st, lost, .work, if st = .vaneWait then some 9000 else none, false, none⟩
    (((as .inService true).svc 0).lost = true ∧ ((as .inService true).svc 0).state ≠ .vaneWait) ∧
      (((as .vaneWait true).svc 0).state = .vaneWait ∧ (as .vaneWait true).vanePermitted 0 = true ∧
        (cellAs (as .vaneWait true) ⟨1, 8⟩ .held).vanePermitted 0 = false) ∧
      (((as .offline false).svc 0).lost = false ∧ ((as .offline false).svc 0).state = .offline ∧
        (as .offline false).site ≠ .setup ∧ (setUp.svc 0).state = .offline ∧ (setUp.svc 0).lost = false ∧ setUp.site = .setup) ∧
      ((as .inService false).svc 0).state ≠ .offline ∧
      (let away := (loaded [6]).setCrane 0 { (loaded [6]).craneRec 0 with presence := .lost, lastReport := none, bound := none }
       away.present 0 = true ∧ (away.craneRec 0).presence ≠ .present ∧
         (away.craneRec 0).contents.bind Contents.load ≠ some 0) := by decide +kernel

theorem test_hyp_CellChangeWritten_followUps :
    let freed : Change := ⟨⟨0, 6⟩, .held, .free⟩
    let clears : Change := ⟨⟨0, 6⟩, .held, .clearing⟩
    let vaned : Change := ⟨⟨0, 0⟩, .free, .vane⟩
    let ended : Change := ⟨⟨0, 0⟩, .seized, .held⟩
    ((freed.old = .held ∧ freed.new = .free) ∧ (clears.new ≠ .free ∧ clears.new ≠ .vane ∧ clears.old ≠ .seized) ∧
        (vaned.old = .free ∧ vaned.new ≠ .free) ∧ (ended.old = .seized ∧ ended.new = .held)) ∧
      (tget (loaded [6]).restricted 0 = [6] ∧ tget ((loaded [6]).setRestricted 0 [5, 6]).restricted 0 = [5, 6] ∧
        tget opened.restricted 0 = []) ∧
      (let s := opened.setSvc 0 ⟨.vaneWait, false, .secure, some 9000, false, none⟩
       s.inState 0 .vaneWait = true ∧ s.vanePermitted 0 = true ∧ s.inState 1 .vaneWait = false) ∧
      (opened.changesOf [⟨⟨0, 0⟩, .held, .set .seed⟩] = [⟨⟨0, 0⟩, .free, .held⟩] ∧
        opened.changesOf [⟨⟨0, 0⟩, .free, .keep⟩] = []) := by decide +kernel

theorem test_hyp_CellAndWaitDeadlines_retry :
    let s := opened.setSvc 0 ⟨.outOfService, false, .remainSecured, none, true, none⟩
    let freeing := cellAs s ⟨0, 0⟩ .parked
    let r := s.svc 0
    (r.lost = false ∧ r.state = .outOfService ∧ r.withheld = true) ∧ (opened.svc 0).state ≠ .outOfService ∧
      (freeing.changesOf (freeing.resumeReqs 0)).any (fun d => decide (d.new = .free)) = true ∧
      (s.changesOf (s.resumeReqs 0)).any (fun d => decide (d.new = .free)) = false ∧
      ((cellAs opened ⟨0, 2⟩ .seized).cell ⟨0, 2⟩).state = .seized ∧ (cellAs opened ⟨0, 2⟩ .seized).grantTest ⟨0, 2⟩ = true := by
  decide +kernel

theorem test_hyp_PositionChecked_seizures :
    let left := cellAs opened ⟨0, 0⟩ .seized
    let s := left.withRegister [⟨⟨0, 0⟩, [1]⟩]
    setUp.site = .setup ∧ opened.site ≠ .setup ∧ (left.occupies 0 0 = false ∧ (left.cell ⟨0, 0⟩).state = .seized) ∧
      (cellAs opened ⟨0, 3⟩ .seized).occupies 0 3 = true ∧
      ((opened.cell ⟨0, 2⟩).state ≠ .held ∧ opened.waitFor 0 2 = none ∧
        (opened.withWaits [⟨0, 2, 4000, 9000⟩]).waitFor 0 2 ≠ none) ∧
      ((∃ e ∈ s.register, e.cell = ⟨0, 0⟩ ∧ (1 : Crane) ∈ e.partners) ∧ (∃ x, (s.cell ⟨0, x⟩).state = .seized) ∧
        ∀ x, (opened.cell ⟨0, x⟩).state ≠ .seized) := by decide +kernel

theorem test_hyp_ConditionRaised_site :
    AlertKind.storm.siteScoped = true ∧ AlertKind.siteStop.siteScoped = true ∧ AlertKind.planFault.siteScoped = true ∧
      (opened.alert .storm).flag = false ∧
      ((opened.setAlert .storm ⟨.stop, [], true, [0], some 60000⟩).alert .storm).flag = true := by decide +kernel

theorem test_hyp_WindSampleTaken_stage :
    let new := fun (w : Option Nat) => (opened.windRec 0).sample (opened.entry 0) opened.clock.mono w (opened.craneRec 0).noReading
    (opened.windRec 0).state ≠ .storm ∧ (new (some 600)).state ≠ .storm ∧
      (let s := opened.setWind 0 ⟨true, false, .calm, [600, 600, 600], 307200, none⟩
       ((s.windRec 0).sample (s.entry 0) s.clock.mono (some 600) 0).state = .storm) ∧
      (new (some 50)).state = .calm ∧ opened.runningLift 0 = none ∧ (withLift .active).runningLift 0 = some (lift .active) := by
  decide +kernel

theorem test_hyp_SecuringTested_parks :
    let s := cellAs (cellAs (cellAs opened ⟨1, 3⟩ .held) ⟨1, 4⟩ .held) ⟨1, 5⟩ .seized
    (s.entry 1).park = 3 ∧ (s.cell ⟨1, 3⟩).state = .held ∧ (4 : Sector) ≠ 3 ∧ (s.cell ⟨1, 4⟩).state = .held ∧
      (s.cell ⟨1, 5⟩).state = .seized := by decide +kernel

theorem test_hyp_SiteOpened_conversion :
    let s := cellAs (cellAs (opened.setSvc 0 secured) ⟨0, 0⟩ .parked) ⟨0, 2⟩ .held
    let busy := (s.setOccupied 0 (some ⟨0, 0⟩)) |> fun u => cellAs u ⟨1, 8⟩ .held
    (s.occupies 0 0 = false ∧ (s.cell ⟨0, 0⟩).state = .parked ∧ s.occupies 0 2 = false ∧ (s.cell ⟨0, 2⟩).state = .held) ∧
      (s.occupies 0 3 = true ∧ (s.cell ⟨0, 3⟩).state ≠ .held ∧
        (∀ x, s.occupies 0 x = true → s.blocked ⟨0, x⟩ = false ∧ s.reserved ⟨0, x⟩ = false)) ∧
      (busy.occupies 0 0 = true ∧ (busy.cell ⟨0, 0⟩).state ≠ .held ∧ busy.blocked ⟨0, 0⟩ = true) := by decide +kernel

theorem test_hyp_AdmissionSteps_chart :
    let chart : List ChartPoint := [⟨100, 5000⟩, ⟨600, 1000⟩]
    (chart = [] ++ ⟨100, 5000⟩ :: [⟨600, 1000⟩] ∧ 100 ≤ (ChartPoint.mk 100 5000).radius) ∧
      (chart = [⟨100, 5000⟩] ++ ⟨600, 1000⟩ :: [] ∧ (∀ k ∈ [ChartPoint.mk 100 5000], k.radius < 101)) ∧
      (∀ k ∈ chart, k.radius < 601) ∧ ratedLoad chart 601 = none := by decide +kernel

theorem test_hyp_LookupsChangeNothing_service :
    let ready : Readiness := ⟨true, false, true, false⟩
    let sec := opened.setSvc 1 ⟨.securing, false, .park, some 9000, false, some ready⟩
    let wait := opened.setSvc 0 ⟨.vaneWait, false, .secure, some 9000, false, none⟩
    let held := cellAs wait ⟨1, 8⟩ .held
    ((sec.svc 1).lost = false ∧ (sec.svc 1).state = .securing ∧ (sec.svc 1).readiness = some ready ∧
        (opened.svc 1).state ≠ .securing) ∧
      ((wait.svc 0).lost = false ∧ (wait.svc 0).state = .vaneWait ∧ wait.vanePermitted 0 = true) ∧
      (held.plan.committed.pairs = [] ++ ⟨⟨0, 0⟩, ⟨1, 8⟩, .struct⟩ :: [⟨⟨0, 1⟩, ⟨1, 9⟩, .hook⟩] ∧
        (held.cell ⟨1, 8⟩).state = .held ∧ held.vaneFields 0 = [f1 0, f1 0, f1 24]) ∧
      ((withLift .active).runningLift 0 = some (lift .active) ∧ opened.runningLift 0 = none) := by decide +kernel

theorem test_hyp_TransmitQueueServed_joins :
    let f := TxFrame.grant 1
    let sends := fun q g => opened.setLink 0 ⟨.hunting, none, q, g⟩
    ((sends [] none).link 0).sending = none ∧ pushNotice ((sends [] none).link 0).queue f = f :: [] ∧
      pushAnswer ((sends [] none).link 0).queue f = f :: [] ∧ ((sends [] (some f)).link 0).sending ≠ none ∧
      opened.present 0 = true ∧ opened.present 2 = false := by decide +kernel

theorem test_hyp_LiftVerdict_reasons :
    (lift .booked).running = false ∧ (lift .active).state = .active ∧
      (lift (.suspended [.storm])).state = .suspended [.storm] ∧
      (SuspReason.lost ∉ [SuspReason.storm] ∧ SuspReason.storm ∈ [SuspReason.storm] ∧
        [SuspReason.storm].filter (fun x => decide (x ≠ .storm)) = [] ∧
        [SuspReason.storm, .lost].filter (fun x => decide (x ≠ .storm)) ≠ []) ∧
      (∀ rs, (lift .active).state ≠ .suspended rs) ∧
      opened.runningLift 0 = none ∧ (withLift .active).runningLift 0 = some (lift .active) :=
  ⟨rfl, rfl, rfl, by decide, (fun _ => nofun), by decide +kernel, by decide +kernel⟩

theorem test_hyp_SiteOpened_returns :
    let as := fun (st : SvcState) => opened.setSvc 0 ⟨st, false, .secure, some 9000, false, none⟩
    let suspended := (withLift (.suspended [.storm])).withSite .storm
    ((as .securing).inState 0 .securing = true ∧ (as .vaneWait).inState 0 .vaneWait = true ∧
        (∀ x, ((as .vaneWait).cell ⟨0, x⟩).state ≠ .vane) ∧ ((cellAs (as .vaneWait) ⟨0, 1⟩ .vane).cell ⟨0, 1⟩).state = .vane) ∧
      ((as .outOfService).inState 0 .outOfService = true ∧ (as .outOfService).inState 0 .securing = false) ∧
      (suspended.running = true ∧ suspended.site = .storm ∧ suspended.resumeCheck = none ∧
        (suspended.bookings.map Booking.id).Nodup ∧ (lift (.suspended [.storm])).reasons = [.storm]) := by decide +kernel

/-- A lift suspended for STORM alone is without a reason after RESUME_SITE (R126 step 4, R155). -/
theorem test_resumeSite_takes_storm_off :
    ((((withLift (.suspended [.storm])).withSite .storm).resumeFromStorm).runningLift 0).map Booking.state =
      some (.suspended []) := by decide +kernel

/-! ### The cells of a return to SETUP, and MISO -/

theorem test_returnToSetup_stamps_every_cell :
    (opened.cell ⟨0, 0⟩).since = 0 ∧ opened.clock.site = 60000 ∧
      (opened.setupReset.cell ⟨0, 0⟩) = ⟨.free, 60000, none, none⟩ := by decide +kernel

theorem test_miso_released :
    (setUp.withPort ⟨[], [], false, .driven, []⟩).port.miso ≠ .highImpedance ∧
      ∃ t, exec .resetAsserted (setUp.withPort ⟨[], [], false, .driven, []⟩) = .next t ∧ t.port.miso = .highImpedance :=
  ⟨by decide, _, rfl, rfl⟩

/-! ### The checks of validation at the ends of their ranges -/

def withEntry (e : CraneEntry) : Plan := { plan with cranes := tput plan.cranes 0 e }
def withSite (p : SiteParams) : Plan := { plan with site := p }
/-- The code, crane and sector of the violation found; code 0 for none. -/
def violation (p : Plan) : Nat × Option Nat × Option Nat :=
  match validate p with
  | some v => (v.code, v.crane, v.sector)
  | none => (0, none, none)

def noViolation : Nat × Option Nat × Option Nat := (0, none, none)

theorem test_hyp_PlanRefusals_entryRanges :
    violation { plan with cranes := tconst 8 CraneEntry.empty } = (1, none, none) ∧
      [withEntry ⟨true, 99, 129, .free, 0, 99, 0, 0, 0⟩, withEntry ⟨true, 901, 10, .free, 0, 300, 400, 280, 20⟩,
        withEntry ⟨true, 900, 10, .free, 0, 300, 400, 280, 20⟩, withEntry ⟨true, 600, 129, .free, 0, 300, 400, 280, 20⟩,
        withEntry ⟨true, 600, 128, .free, 0, 100, 120, 80, 5⟩, withEntry ⟨true, 600, 0, .free, 0, 300, 450, 300, 50⟩,
        withEntry ⟨true, 600, 128, .free, 0, 99, 120, 80, 5⟩, withEntry ⟨true, 600, 128, .free, 0, 100, 119, 80, 5⟩,
        withEntry ⟨true, 600, 128, .free, 0, 100, 120, 79, 5⟩, withEntry ⟨true, 600, 128, .free, 0, 100, 120, 101, 5⟩,
        withEntry ⟨true, 600, 128, .free, 0, 100, 120, 80, 51⟩].map violation =
      [(2, some 0, none), (2, some 0, none), (7, some 0, none), (3, some 0, none), noViolation, noViolation,
        (4, some 0, none), (4, some 0, none), (4, some 0, none), (4, some 0, none), (4, some 0, none)] := by decide +kernel

theorem test_hyp_PlanRefusals_parameters :
    [withSite ⟨30, 120, 25, 15, 30, 30, .strict, .steady⟩, withSite ⟨0, 5, 0, 0, 0, 5, .strict, .steady⟩,
      withSite ⟨31, 4, 0, 0, 0, 5, .strict, .steady⟩, withSite ⟨30, 4, 26, 0, 0, 5, .strict, .steady⟩,
      withSite ⟨30, 120, 26, 16, 0, 5, .strict, .steady⟩, withSite ⟨30, 120, 25, 16, 31, 5, .strict, .steady⟩,
      withSite ⟨30, 120, 25, 15, 31, 4, .strict, .steady⟩, withSite ⟨30, 120, 25, 15, 30, 31, .strict, .steady⟩].map
        violation =
    [noViolation, noViolation, (5, none, some 1), (5, none, some 2), (5, none, some 3), (5, none, some 4), (5, none, some 5),
      (5, none, some 6)] := by decide +kernel

theorem test_hyp_PlanRefusals_schedulesAndCharts :
    let schedule := fun k d => violation { plan with schedules := tput plan.schedules k (some d) }
    let chart := fun l => violation { plan with charts := tput plan.charts 0 l }
    [schedule 7 ⟨[6], 1439, 1439⟩, schedule 7 ⟨[6], 1440, 0⟩, schedule 0 ⟨[], 0, 0⟩] =
        [noViolation, (6, none, some 8), (6, none, some 1)] ∧
      [[⟨600, 1000⟩], [⟨0, 5000⟩, ⟨600, 1000⟩], [⟨600, 5000⟩, ⟨600, 1000⟩], [⟨100, 5000⟩, ⟨599, 1000⟩],
        [⟨100, 65536⟩, ⟨600, 1000⟩], [⟨100, 999⟩, ⟨600, 1000⟩], [⟨1, 65535⟩, ⟨600, 65535⟩]].map chart =
        List.replicate 6 (7, some 0, none) ++ [noViolation] := by decide +kernel

theorem test_hyp_PlanRefusals_pairsAndCells :
    let pairs := fun ps => violation { plan with pairs := ps }
    let rule := fun c x r => violation { plan with cells := tput plan.cells c (tput (tconst 16 ⟨.unrestricted, none⟩) x r) }
    violation { plan with cranes := tput plan.cranes 1 ⟨true, 600, 10, .free, 3, 300, 400, 280, 20⟩ } = (9, some 0, some 0) ∧
      [pairs [⟨⟨0, 0⟩, ⟨2, 1⟩, .hook⟩], pairs [⟨⟨2, 4⟩, ⟨3, 1⟩, .hook⟩], pairs [⟨⟨0, 0⟩, ⟨1, 3⟩, .struct⟩],
        pairs [⟨⟨0, 0⟩, ⟨1, 3⟩, .hook⟩], rule 1 3 ⟨.barred, none⟩, rule 1 3 ⟨.noLoad, none⟩, rule 1 2 ⟨.barred, some 7⟩] =
      [(8, some 2, some 1), (8, some 2, some 4), (10, some 1, some 3), noViolation, (11, some 1, some 3), noViolation,
        (12, some 1, some 2)] := by decide +kernel

/-! ### The clauses that say what the shared tests read -/

theorem test_hyp_EmptyQueueIdles_due :
    let s := (cellAs (opened.setSvc 0 { serving with timer := some 5000 }) ⟨0, 4⟩ .clearing).withWaits [⟨0, 2, 0, 5000⟩, ⟨0, 3, 0, 5001⟩]
    let t := (s.withBookings [lift (.pending 5000)]).withLines ⟨false, true, some 5000⟩
    t.dueCommands = [.securingTimerExpiry 0, .clearingExpiry 0 4, .waitDeadline 0 2, .confirmDeadline 7, .sirenPulsePhase] ∧
      (t.waits.map (fun w => (w.crane, w.sector))).Nodup ∧ (t.bookings.map Booking.id).Nodup ∧
      (opened.withClock { opened.clock with mono := 6000 }).dueCommands =
        [.siteSecondBoundary, .reportBoundExpiry 0, .reportBoundExpiry 1] ∧
      (opened.setLink 0 ⟨.assembling [] 0, none, [], none⟩).dueCommands = [.assemblyTimeout 0] ∧
      (opened.setWind 0 ⟨true, false, .caution, [50], 25600, some ⟨.cautionToCalm, 0⟩⟩).dueCommands = [] ∧
      ((opened.setWind 0 ⟨true, false, .caution, [50], 25600, some ⟨.cautionToCalm, 0⟩⟩).withClock
        { opened.clock with mono := 60000 }).dwellDue 0 = true := by decide +kernel

theorem test_hyp_PowerAndReset_modes :
    AlertKind.slot .conflict = none ∧ AlertKind.slot .frameError = some 12 := by decide

theorem test_hyp_PlanEditsReplaceEntries_readers :
    sectorOf 15 = some 15 ∧ sectorOf 16 = none ∧ scheduleRefOf 8 = some (some 7) ∧ scheduleRefOf 9 = none ∧
      modeItem (3, 2) = some (0, .quiet) ∧ modeItem (2, 2) = none := by decide

theorem test_hyp_ConflictPairsEdited_sets :
    let a : Pair := ⟨⟨0, 0⟩, ⟨1, 8⟩, .struct⟩
    let b : Pair := ⟨⟨0, 1⟩, ⟨1, 9⟩, .hook⟩
    pairsOf true [⟨24, 0, 0⟩, ⟨1, 25, 1⟩] = some [a, b] ∧ pairsOf false [⟨24, 0, 9⟩] = some [a] ∧
      findPair [a, b] ⟨a.lo, a.hi, .hook⟩ = some a ∧ findPair [a] b = none ∧
      isUpgrade [b] { b with kind := .struct } = true ∧ insertPair a [b] = [a, b] ∧ distinctPairs [b, a, b] = [a, b] := by
  decide +kernel

theorem test_hyp_EnterRefusals_pathCheck :
    let s := (withLift .active).withWaits [⟨1, 2, 0, 9000⟩, ⟨0, 2, 0, 9000⟩]
    s.offActivePath 0 15 = true ∧ s.offActivePath 0 2 = false ∧ (withLift (.suspended [.wind])).offActivePath 0 15 = false ∧
      s.waits = [⟨1, 2, 0, 9000⟩] ++ ⟨0, 2, 0, 9000⟩ :: [] ∧ s.waitFor 0 2 = some ⟨0, 2, 0, 9000⟩ ∧
      s.waitFor 0 3 = none := by decide +kernel

theorem test_hyp_SiteRefusals_questions :
    opened.windReady 0 = true ∧ (opened.setWind 0 ⟨true, true, .calm, [], 0, none⟩).windReady 0 = false ∧
      (opened.setWind 0 ⟨true, false, .hold, [], 0, none⟩).windReady 0 = false ∧ opened.windReady 2 = false ∧
      (let s := (opened.setOccupied 0 (some ⟨0, 0⟩)).setOccupied 1 (some ⟨8, 8⟩)
       s.occupiedPair ⟨⟨0, 0⟩, ⟨1, 8⟩, .struct⟩ = true ∧ s.occupiedPair ⟨⟨0, 1⟩, ⟨1, 9⟩, .hook⟩ = false) ∧
      (opened.setSvc 0 { serving with state := .outOfService }).maySetUp 0 = true ∧ opened.maySetUp 0 = false ∧
      (opened.setSvc 0 { serving with state := .outOfService, lost := true }).maySetUp 0 = false := by decide +kernel

theorem test_hyp_CancelAndLock_named :
    (lift .booked).allows .supervisor = true ∧ (lift .booked).allows (.crane 0) = true ∧
      (lift .booked).allows (.crane 1) = false ∧ (withLift .active).bookings = [] ++ lift .active :: [] ∧
      (withLift .active).findLift 7 = some (lift .active) ∧ (withLift .active).findLift 8 = none ∧
      (withLift .booked).runningLift 0 = none := by decide +kernel

theorem test_hyp_ConditionRaised_sets :
    setAdd allCranes 3 [0, 5] = [0, 3, 5] ∧ setAdd allCranes 5 [0, 5] = [0, 5] ∧ List.Sublist [0, 5] allCranes ∧
      setAdd SuspReason.all .lost [.wind, .supervisor] = [.wind, .lost, .supervisor] := by decide

theorem test_hyp_ProposeCreatesPending_joins :
    let b := lift .booked
    [{ b with id := 3 }, { b with id := 9 }].Pairwise (fun x y => x.id < y.id) ∧
      (∀ r ∈ [{ b with id := 3 }, { b with id := 9 }], r.id ≠ b.id) ∧
      (insertLift b [{ b with id := 3 }, { b with id := 9 }]).map Booking.id = [3, 7, 9] := by decide +kernel

/-- A DENY TIMEOUT for S9 on the wire: its CRC is over kind, length and payload (R169, R170). -/
theorem test_deny_on_the_wire :
    (TxFrame.deny 9 .timeout).bytes = [0xB4#8, 0x91#8, 0x02#8, 0x09#8, 0x00#8, crc8 [0x91#8, 0x02#8, 0x09#8, 0x00#8]] ∧
      ((opened.link 0).lineBytes = []) ∧ ((busyLink opened 0).link 0).lineBytes.length = 5 := by decide +kernel

theorem test_hyp_FramesDecode_others :
    readLink 0x20 [15#8] = some (.enter 15) ∧ readLink 0x20 [15#8, 0#8] = none ∧ readLink 0x80 [] = none ∧
      checkRequest (frameBytes 0x16 [1#8, 1#8, 7#8, 8#8, 1#8, 9#8, 2#8]) = some (.planScheduleRemove 1 ⟨1, 7, 264, 521⟩) ∧
      (setUp.asked (.planScheduleRemove 1 ⟨2, 7, 264, 521⟩)).port.request =
        frameBytes 0x16 [1#8, 2#8, 7#8, 8#8, 1#8, 9#8, 2#8] ∧
      checkRequest (requestBytes .identify) = some .identify ∧ checkRequest [0x01#8, 0x00#8, 0x00#8] = none := by decide +kernel

end Sys2Proof.Tests
end

section
/-!
PROOF. The standing order of a crane (R44), one lemma per row of its table, and the two fields of a STATUS_ACK that show it: the
order's code and the flags byte (Table 12-6).
-/
namespace Sys2Proof.Machine

variable {s : State} {c : Crane}

/-! ### The rows of R44's table -/

theorem State.standingOrder_eq_rejoinRequired (h : (s.svc c).lost = true ∨ (s.svc c).state = .offline) :
    s.standingOrder c = .rejoinRequired := by
  have guard : ((s.svc c).lost || decide ((s.svc c).state = .offline)) = true := by simpa using h
  exact if_pos guard

/-- On the site (neither LOST nor OFFLINE) the stop set and the service order alone decide. -/
theorem State.standingOrder_of_onSite (hlost : (s.svc c).lost = false) (hstate : (s.svc c).state ≠ .offline) :
    s.standingOrder c = if s.stopSet c ≠ [] ∧ (s.svc c).order = .work then .stop else (s.svc c).order := by
  simp [State.standingOrder, hlost, hstate]

theorem State.standingOrder_eq_stop (hlost : (s.svc c).lost = false) (hstate : (s.svc c).state ≠ .offline)
    (hstops : s.stopSet c ≠ []) (horder : (s.svc c).order = .work) : s.standingOrder c = .stop := by
  rw [standingOrder_of_onSite hlost hstate, if_pos ⟨hstops, horder⟩]

theorem State.standingOrder_eq_serviceOrder (hlost : (s.svc c).lost = false) (hstate : (s.svc c).state ≠ .offline)
    (h : s.stopSet c = [] ∨ (s.svc c).order ≠ .work) : s.standingOrder c = (s.svc c).order := by
  have notStopped : ¬ (s.stopSet c ≠ [] ∧ (s.svc c).order = .work) := by
    rintro ⟨hstops, horder⟩
    exact h.elim hstops (· horder)
  rw [standingOrder_of_onSite hlost hstate, if_neg notStopped]

/-! ### The fields of a STATUS_ACK that show it -/

theorem StatusAck.fields_order (a : StatusAck) : a.fields[3]? = some (f1 a.order.code) := rfl

/-- The flags byte: bit 0 is the stop flag, bit 1 the unknown wind. -/
theorem StatusAck.fields_flags (a : StatusAck) :
    a.fields[4]? = some (f1 ((if a.stops = [] then 0 else 1) + if a.unknown = true then 2 else 0)) := by
  have stopFlag : flag (!a.stops.isEmpty) = if a.stops = [] then 0 else 1 := by
    cases a.stops <;> rfl
  have windFlag : 2 * flag a.unknown = if a.unknown = true then 2 else 0 := by
    cases a.unknown <;> rfl
  rw [← stopFlag, ← windFlag]
  rfl

end Sys2Proof.Machine

open Sys2Proof.Machine

/-- Settles O16: the rows of R44's table, then the order's code and the flags byte of the STATUS_ACK built from `s`. -/
theorem standingOrderShown : Obligations.StandingOrderShown := by
  intro s c
  refine ⟨State.standingOrder_eq_rejoinRequired, fun hlost hstate => ⟨?stopped, ?served⟩, fun k => ⟨rfl, ?order, ?flags⟩⟩
  case stopped => exact State.standingOrder_eq_stop hlost hstate
  case served => exact State.standingOrder_eq_serviceOrder hlost hstate
  case order => exact StatusAck.fields_order (s.statusAck c k)
  case flags => exact StatusAck.fields_flags (s.statusAck c k)
end

section
/-!
PROOF. A condition raised and withdrawn (R164, R165): adding to a set and taking from it, the latch a raising sets, the stop
action of a kind in STOP mode, and the raising of a crane's and of the site's condition assembled from them.
-/
namespace Sys2Proof.Machine

/-! ### The universes are complete -/

theorem mem_allCranes : ∀ c : Crane, c ∈ allCranes := by decide

theorem SuspReason.mem_all (r : SuspReason) : r ∈ SuspReason.all := by cases r <;> decide

theorem AlertKind.mem_all (k : AlertKind) : k ∈ AlertKind.all := by cases k <;> decide

/-! ### Adding to a set and taking from it -/

section
variable {α : Type} [DecidableEq α] {all set : List α} {x y : α}

theorem setAdd_of_mem (h : x ∈ set) : setAdd all x set = set := if_pos h

theorem setAdd_of_notMem (h : x ∉ set) :
    setAdd all x set = all.filter (fun y => decide (y = x) || decide (y ∈ set)) := if_neg h

theorem mem_setAdd (complete : ∀ y, y ∈ all) : y ∈ setAdd all x set ↔ y = x ∨ y ∈ set := by
  by_cases h : x ∈ set
  · rw [setAdd_of_mem h]
    exact ⟨Or.inr, fun member => member.elim (fun same => same ▸ h) id⟩
  · simp [setAdd_of_notMem h, complete]

/-- An ordered set stays ordered: its members keep the order of the universe. -/
theorem setAdd_sublist (ordered : set.Sublist all) : (setAdd all x set).Sublist all := by
  by_cases h : x ∈ set
  · rwa [setAdd_of_mem h]
  · rw [setAdd_of_notMem h]
    exact List.filter_sublist

theorem setDel_eq_filter : setDel x set = set.filter (fun y => decide (y ≠ x)) := by simp [setDel]

theorem setDel_of_notMem (h : x ∉ set) : setDel x set = set := by
  rw [setDel_eq_filter, List.filter_eq_self]
  intro y hy
  exact decide_eq_true (fun same => h (same ▸ hy))

end

/-! ### The alert kinds (Table 11-1, R165) -/

theorem AlertKind.siteScoped_iff (k : AlertKind) : k.siteScoped = true ↔ k = .siteStop ∨ k = .storm ∨ k = .planFault := by
  cases k <;> decide

theorem AlertKind.stopReason_of_siteScoped {k : AlertKind} (h : k.siteScoped = true) : k.stopReason = none := by
  obtain rfl | rfl | rfl := k.siteScoped_iff.mp h <;> rfl

/-- The kinds that hand a stop reason, each with the reason it hands. -/
theorem AlertKind.stopReason_eq_some_iff (k : AlertKind) (x : StopReason) :
    k.stopReason = some x ↔
      (k, x) ∈ [(.conflict, .conflict), (.intrusion, .intrusion), (.offPath, .offPath), (.nonconform, .nonconform),
        (.overrun, .overrun), (.restricted, .restricted), (AlertKind.reportEarly, StopReason.reportEarly)] := by
  cases k <;> simp [AlertKind.stopReason, eq_comm]

/-! ### Writing one alert record -/

variable {s : State} {k : AlertKind} {c : Crane}

@[simp] theorem State.setAlert_alert_same (s : State) (k : AlertKind) (r : AlertRec) : (s.setAlert k r).alert k = r := by
  rw [alert_setAlert, if_pos rfl]

theorem State.setAlert_alert_ne (s : State) {j k : AlertKind} (r : AlertRec) (h : j ≠ k) :
    (s.setAlert k r).alert j = s.alert j := by
  rw [alert_setAlert, if_neg h.symm]

/-- Writing back the record a kind has changes nothing. -/
@[simp] theorem State.setAlert_alert (s : State) (k : AlertKind) : s.setAlert k (s.alert k) = s := by
  simp [State.setAlert, State.alert, State.withAlerts]

/-! ### The latch (R164, steps 1 and 2) -/

/-- For a crane: it joins the present and involved sets, and only a clear latch takes the site time. -/
theorem State.latchAlert_crane (h : k.siteScoped = false) :
    s.latchAlert k (some c) = s.setAlert k
      { s.alert k with
        cranes := setAdd allCranes c (s.alert k).cranes
        involved := setAdd allCranes c (s.alert k).involved
        latch := some ((s.alert k).latch.getD s.clock.site) } := by
  cases hlatch : (s.alert k).latch <;> simp [State.latchAlert, h, hlatch]

/-- For the site: the flag is set, and the crane named, if any, joins the involved set. -/
theorem State.latchAlert_site (h : k.siteScoped = true) (named : Option Crane) :
    s.latchAlert k named = s.setAlert k
      { s.alert k with
        flag := true
        involved := named.elim (s.alert k).involved (fun c => setAdd allCranes c (s.alert k).involved)
        latch := some ((s.alert k).latch.getD s.clock.site) } := by
  cases hlatch : (s.alert k).latch <;> cases named <;> simp [State.latchAlert, h, hlatch]

/-! ### The stop action (R164, step 3) -/

theorem State.stopAction_of_stop {x : StopReason} (hreason : k.stopReason = some x) (hmode : (s.alert k).mode = .stop) :
    s.stopAction k (some c) = s.addStop c x := by
  simp [State.stopAction, hreason, hmode]

theorem State.stopAction_of_not_stop {named : Option Crane} (hmode : (s.alert k).mode ≠ .stop) :
    s.stopAction k named = s := by
  unfold State.stopAction
  split
  · exact if_neg hmode
  · rfl

/-! ### A raising, whole (R164) -/

/-- The latch leaves the mode, so the mode before the raising decides the stop action. -/
theorem State.raise_of_stop {x : StopReason} (hreason : k.stopReason = some x) (hmode : (s.alert k).mode = .stop) :
    s.raise k (some c) = ((s.latchAlert k (some c)).addStop c x).evaluateLines := by
  have latchedMode := (modes_latchAlert s k (some c) k).trans hmode
  rw [State.raise, stopAction_of_stop hreason latchedMode]

theorem State.raise_of_not_stop {named : Option Crane} (hmode : (s.alert k).mode ≠ .stop) :
    s.raise k named = (s.latchAlert k named).evaluateLines := by
  have latchedMode : ((s.latchAlert k named).alert k).mode ≠ .stop :=
    fun stop => hmode ((modes_latchAlert s k named k).symm.trans stop)
  rw [State.raise, stopAction_of_not_stop latchedMode]

/-- The site's raising makes no stop action: its kinds hand no reason. -/
theorem State.raise_of_siteScoped (h : k.siteScoped = true) (named : Option Crane) :
    s.raise k named =
      (s.setAlert k
        { s.alert k with
          flag := true
          involved := named.elim (s.alert k).involved (fun c => setAdd allCranes c (s.alert k).involved)
          latch := some ((s.alert k).latch.getD s.clock.site) }).evaluateLines := by
  rw [raise_quiet (AlertKind.stopReason_of_siteScoped h), latchAlert_site h]

/-! ### A withdrawal (R164) -/

theorem State.withdraw_alert_same (s : State) (k : AlertKind) (c : Crane) :
    (s.withdraw k c).alert k =
      { s.alert k with cranes := (s.alert k).cranes.filter (fun d => decide (d ≠ c)) } := by
  rw [State.withdraw, setAlert_alert_same, setDel_eq_filter]

theorem State.withdraw_of_notMem (h : c ∉ (s.alert k).cranes) : s.withdraw k c = s := by
  rw [State.withdraw, setDel_of_notMem h, setAlert_alert]

theorem State.withdrawSite_of_clear (h : (s.alert k).flag = false) : s.withdrawSite k = s := by
  rw [State.withdrawSite, ← h, setAlert_alert]

/-! ### What the siren follows (R166) -/

theorem State.sirenDue_iff (s : State) : s.sirenDue = true ↔ ∃ k, (s.alert k).latch ≠ none ∧ (s.alert k).mode = .stop := by
  simp [State.sirenDue, AlertRec.latched, AlertKind.mem_all, Option.isSome_iff_ne_none]

end Sys2Proof.Machine

open Sys2Proof.Machine

/-- Settles O30: a crane's raising by whether the stop action follows, the site's raising and withdrawal, a crane's
withdrawal, then the sets and the siren they rest on. -/
theorem conditionRaised : Obligations.ConditionRaised := by
  refine ⟨fun s k c hcrane => ?craneRaised, fun s k => ⟨k.siteScoped_iff, fun hsite => ?siteRaised⟩,
    fun s k c => ?craneWithdrawn, fun _ _ _ => rfl, fun c set => ?craneSets, fun r set => ?reasonSets, State.sirenDue_iff⟩
  case craneRaised =>
    refine ⟨fun x hreason hmode => ?stop, fun hquiet => ?noStop, k.stopReason_eq_some_iff⟩
    case stop => rw [State.raiseFor, State.raise_of_stop hreason hmode, State.latchAlert_crane hcrane]
    case noStop =>
      rw [State.raiseFor, ← State.latchAlert_crane hcrane]
      exact hquiet.elim raise_quiet State.raise_of_not_stop
  case siteRaised =>
    exact ⟨State.raise_of_siteScoped hsite none, fun c => State.raise_of_siteScoped hsite (some c),
      touches_withdrawSite s k, State.setAlert_alert_same s k _, fun j => State.setAlert_alert_ne s _,
      State.withdrawSite_of_clear⟩
  case craneWithdrawn =>
    exact ⟨touches_withdraw s k c, State.withdraw_alert_same s k c, fun j => State.setAlert_alert_ne s _,
      State.withdraw_of_notMem⟩
  case craneSets => exact ⟨fun d => mem_setAdd mem_allCranes, setAdd_of_mem, setAdd_sublist⟩
  case reasonSets => exact ⟨fun x => mem_setAdd SuspReason.mem_all, setAdd_of_mem, setAdd_sublist⟩
end

section
/-!
PROOF. What a step comes down to: the command at the front of the queue on the queue's rest (O1), and the frame of every command
(O3). `Framed` relations then pass every command that does not touch the parts they read.
-/
namespace Sys2Proof.Machine

/-! ### The front command -/

theorem step_of_pending {s : State} {i : Instr} {rest : List Instr} (h : s.pending = i :: rest) :
    step s = exec i (s.withPending rest) := by
  simp only [step, h]

theorem step_of_empty {s : State} (h : s.pending = []) : step s = .next s.idle := by
  simp only [step, h]

/-! ### Frames of the ways a command comes in (R32 to R35, R172) -/

/-- A frame read in a larger list of parts, by evaluation. -/
theorem Touches.within {ps qs : List Part} {s t : State} (h : Touches qs s t)
    (hq : qs.all (fun p => ps.contains p) = true) : Touches ps s t :=
  Touches.after h hq (Touches.refl ps s)

/-- What a command does only while the part runs, by the frame of what it does. -/
theorem touches_of_whileRunning {ps : List Part} {s t : State} {f : State → State} (h : ∀ u, Touches ps u (f u))
    (hx : s.whileRunning f = .next t) : Touches ps s t :=
  touches_whileRunning (h s) hx

/-- Whether a crane frame is a report, STATUS or REJOIN. -/
def LinkFrame.isReport : LinkFrame → Bool
  | .status _ | .rejoin _ => true
  | _ => false

/-- The parts that a crane frame may change beside those of its request: the link, and the alerts of FRAME_ERROR. -/
theorem touches_fromCrane_request {ps : List Part} {c : Crane} {f : LinkFrame} {s t : State} (hf : f.isReport = false)
    (h : ∀ u, Touches ps u (runLinkRequest c f u).1) (hx : s.fromCrane c f = .next t) :
    Touches (.links :: .alerts :: .lines :: ps) s t :=
  have notStatus : ∀ r, f ≠ .status r := fun _ e => Bool.noConfusion (hf.symm.trans (congrArg LinkFrame.isReport e))
  have notRejoin : ∀ r, f ≠ .rejoin r := fun _ e => Bool.noConfusion (hf.symm.trans (congrArg LinkFrame.isReport e))
  touches_whileRunning (touches_arrive_request notStatus notRejoin h s) hx

theorem touches_supervised {ps : List Part} {i : Instr} {run : State → State × Answer} {s t : State}
    (h : ∀ u, Touches ps u (run u).1) (hx : s.supervised i run = .next t) : Touches (.port :: ps) s t :=
  touches_whileRunning (touches_serve h s i) hx

/-- What a report may change. -/
abbrev reportParts : List Part :=
  [.links, .cranes, .cells, .waits, .restricted, .occupied, .stops, .lastConf, .register, .wind, .site, .service, .bookings,
    .alerts, .lines]

/-- A report, taken or answered by the crane's presence (R35). -/
theorem touches_takeFrame_report {f : LinkFrame} (hf : (∃ r, f = .status r) ∨ ∃ r, f = .rejoin r) (s : State) (c : Crane) :
    Touches reportParts s (s.takeFrame c f) := by
  have answered : ∀ u : State, ∀ a, Touches reportParts u (u.answerLink c f a) :=
    fun u a => (touches_answerLink u c f a).mono (by decide)
  unfold State.takeFrame
  split
  · exact answered s _
  rcases hf with ⟨r, rfl⟩ | ⟨r, rfl⟩ <;> cases (s.craneRec c).presence
  case inl.offline => exact (touches_acknowledge s c _).mono (by decide)
  case inl.present => exact touches_acceptStatus s c r
  case inl.lost => exact (touches_acknowledge s c _).mono (by decide)
  case inr.offline => exact touches_acceptRejoin s c r
  case inr.present => exact answered s _
  case inr.lost => exact touches_acceptRejoin s c r

theorem touches_fromCrane_report {c : Crane} {f : LinkFrame} {s t : State}
    (hf : (∃ r, f = .status r) ∨ ∃ r, f = .rejoin r) (hx : s.fromCrane c f = .next t) : Touches reportParts s t := by
  refine touches_whileRunning ?_ hx
  show Touches reportParts s (s.arrive c f)
  unfold State.arrive
  split
  · exact (touches_badFrame_quiet s c).mono (by decide)
  have withdrawn : Touches reportParts s (s.withdraw .frameError c) := (touches_withdraw s _ c).mono (by decide)
  dsimp only
  split
  · exact withdrawn.step (touches_takeFrame_report hf _ c) (fun _ hp => hp)
  · exact withdrawn.step (touches_setLink _ c _) (by decide)

/-- A lookup, taken from the port, changes the port alone. -/
theorem touches_supervised_looking {i : Instr} {look : State → Answer} {s t : State}
    (hx : s.supervised i (looking look) = .next t) : Touches [.port] s t :=
  touches_supervised (touches_looking look) hx

/-- A plan edit changes the plan store and the port. -/
theorem touches_supervised_edit {i : Instr} {change : Plan → Option (Plan × Answer)} {s t : State}
    (hx : s.supervised i (fun u => u.edit change) = .next t) : Touches [.plan, .port] s t :=
  (touches_supervised (touches_edit change) hx).mono (by decide)

/-- What a command does under a condition, and only while the part runs. -/
theorem touches_whileRunning_if {ps : List Part} {s t : State} {due : State → Bool} {f : State → State}
    (h : ∀ u, Touches ps u (f u)) (hx : s.whileRunning (fun u => if due u then f u else u) = .next t) :
    Touches ps s t := by
  refine touches_of_whileRunning (fun u => ?_) hx
  split
  · exact h u
  · exact Touches.refl _ _

/-! ### Frames of the commands of the pins -/

theorem touches_execPowerOn {s t : State} (hx : execPowerOn s = .next t) : Touches Instr.powerOn.touched s t := by
  cases hx
  exact (touches_startUp s).step (touches_startRaisings _) (by decide)

theorem touches_execResetAsserted {s t : State} (hx : execResetAsserted s = .next t) :
    Touches Instr.resetAsserted.touched s t := by
  cases hx
  cases s.pins.power
  · exact Touches.refl _ _
  · exact touches_halt s .inReset
  · exact touches_halt s .inReset

theorem touches_execSiteStopAsserted {s t : State} (hx : execSiteStopAsserted s = .next t) :
    Touches Instr.siteStopAsserted.touched s t := by
  cases hx
  have level (v : Pins) : Touches Instr.siteStopAsserted.touched s (s.withPins v) := (touches_withPins s v).mono (by decide)
  split
  · exact Touches.refl _ _
  dsimp only
  split
  · exact (level _).step (touches_raiseSiteStop _) (by decide)
  · exact level _

theorem touches_execSiteStopDeasserted {s t : State} (hx : execSiteStopDeasserted s = .next t) :
    Touches Instr.siteStopDeasserted.touched s t := by
  cases hx
  have level (v : Pins) : Touches Instr.siteStopDeasserted.touched s (s.withPins v) := (touches_withPins s v).mono (by decide)
  split
  · dsimp only
    split
    · exact (level _).step (touches_withdrawSite _ _) (by decide)
    · exact level _
  · exact Touches.refl _ _

/-! ### Frames of the lift commands, from a crane and from the supervisor -/

/-- The frame of a command whose request comes from a crane's link or from the port. -/
theorem touches_requested {q : Requester} {s t : State} {ps : List Part} {f : LinkFrame} {i : Instr}
    {run : Requester → State → State × Answer} (hs : f.isReport = false)
    (hf : ∀ c u, runLinkRequest c f u = run (.crane c) u) (h : ∀ q u, Touches ps u (run q u).1)
    (hx : (match q with
      | .crane c => s.fromCrane c f
      | .supervisor => s.supervised i (run .supervisor)) = .next t) :
    Touches (.links :: .alerts :: .lines :: .port :: ps) s t := by
  cases q with
  | crane c =>
    refine (touches_fromCrane_request hs (fun u => (hf c u) ▸ h _ u) hx).mono (fun p hp => ?_)
    simp only [List.mem_cons] at hp ⊢
    grind
  | supervisor =>
    refine (touches_supervised (h .supervisor) hx).mono (fun p hp => ?_)
    simp only [List.mem_cons] at hp ⊢
    grind

end Sys2Proof.Machine

open Sys2Proof.Machine

/-- Settles O1: the first clause of `step`. -/
theorem stepRunsFrontCommand : Obligations.StepRunsFrontCommand := by
  intro i rest s h
  exact step_of_pending h

/-- Settles O3, command by command: the frame of the block's operation, then that of the way the command comes in. -/
theorem commandFrames : Obligations.CommandFrames := by
  intro i s t h
  cases i with dsimp only [exec] at h
  | powerOn => exact touches_execPowerOn h
  | resetAsserted => exact touches_execResetAsserted h
  | siteStopAsserted => exact touches_execSiteStopAsserted h
  | siteStopDeasserted => exact touches_execSiteStopDeasserted h
  | powerLoss => cases h; exact touches_halt s .off
  -- the links
  | linkByteReceived c b good => exact touches_of_whileRunning (fun u => touches_receiveByte u c b good) h
  | linkBadFrame c => exact touches_of_whileRunning (fun u => touches_badFrame_quiet u c) h
  | frameTransmitted c => exact touches_of_whileRunning (fun u => touches_frameSent u c) h
  | status c r => exact touches_fromCrane_report (.inl ⟨r, rfl⟩) h
  | rejoin c r => exact touches_fromCrane_report (.inr ⟨r, rfl⟩) h
  | enter c n =>
    exact (touches_fromCrane_request rfl (touches_enterZone c n) h).within rfl
  | release c n =>
    exact (touches_fromCrane_request rfl (touches_releaseZone c n) h).within rfl
  -- the lifts
  | proposeLift q n f =>
    cases q with
    | crane c => exact (touches_fromCrane_request rfl (touches_propose _ _ f) h).within rfl
    | supervisor => exact (touches_supervised (touches_propose _ n f) h).within rfl
  | confirmLift q id =>
    exact (touches_requested rfl (fun _ _ => rfl) (fun q => touches_confirm q id) h).within rfl
  | amendLift q id f =>
    exact (touches_requested rfl (fun _ _ => rfl) (fun q => touches_amend q id f) h).within rfl
  | cancelLift q id =>
    exact (touches_requested rfl (fun _ _ => rfl) (fun q => touches_cancel q id) h).within rfl
  | lockLift q id =>
    exact (touches_requested rfl (fun _ _ => rfl) (fun q => touches_setLock true q id) h).within rfl
  | unlockLift q id =>
    exact (touches_requested rfl (fun _ _ => rfl) (fun q => touches_setLock false q id) h).within rfl
  | queryLift q id =>
    exact (touches_requested rfl (fun _ _ => rfl) (fun q => touches_queryRecord q id) h).within rfl
  | listLifts q sel flt n =>
    exact (touches_requested rfl (fun _ _ => rfl) (fun q => touches_listRecords q sel flt n) h).within rfl
  | startLift q id =>
    exact (touches_requested rfl (fun _ _ => rfl) (fun q => touches_start q id) h).within rfl
  | finishLift q id =>
    exact (touches_requested rfl (fun _ _ => rfl) (fun q => touches_finish q id) h).within rfl
  | landLift q id =>
    exact (touches_requested rfl (fun _ _ => rfl) (fun q => touches_land q id) h).within rfl
  | suspendLift q id =>
    exact (touches_requested rfl (fun _ _ => rfl) (fun q => touches_suspend q id) h).within rfl
  | resumeLift q id =>
    exact (touches_requested rfl (fun _ _ => rfl) (fun q => touches_resume q id) h).within rfl
  -- the port and the lookups
  | supervisorBadFrame bytes => exact touches_whileRunning_if (fun u => touches_answerBadFrame u bytes) h
  | fetch n =>
    refine touches_of_whileRunning (fun u => ?_) h
    split
    · exact Touches.refl _ _
    · exact touches_fetchBytes u n
  | identify => exact touches_supervised_looking h
  | readClock => exact touches_supervised_looking h
  | planRead sel k n => exact touches_supervised_looking h
  | querySite => exact touches_supervised_looking h
  | queryCrane n => exact touches_supervised_looking h
  | queryCells n => exact touches_supervised_looking h
  | queryWaits => exact touches_supervised_looking h
  | queryConformance n => exact touches_supervised_looking h
  | queryWind n => exact touches_supervised_looking h
  | queryAlerts => exact touches_supervised_looking h
  -- the clock and the plan
  | setTime t => exact (touches_supervised (touches_setClock t) h).within rfl
  | planCrane n f => exact touches_supervised_edit h
  | planChart n ps => exact touches_supervised_edit h
  | planConflicts is => exact touches_supervised_edit h
  | planRemoveConflicts is => exact touches_supervised_edit h
  | planClearConflicts => exact touches_supervised_edit h
  | planCells n m k r => exact touches_supervised_edit h
  | planScheduleDefine k d a b => exact touches_supervised_edit h
  | planScheduleRemove k f => exact touches_supervised_edit h
  | planSite f => exact touches_supervised_edit h
  | planAlertModes is => exact touches_supervised_edit h
  | planDiscard => exact (touches_supervised touches_discardPlan h).within rfl
  | planCommit p => exact (touches_supervised (touches_commitPlan p) h).within rfl
  -- the site and the cranes
  | openSite => exact (touches_supervised touches_openTheSite h).within rfl
  | closeSite => exact (touches_supervised touches_closeTheSite h).within rfl
  | resumeSite => exact (touches_supervised touches_resumeTheSite h).within rfl
  | returnToSetup => exact (touches_supervised touches_returnSiteToSetup h).within rfl
  | forceRelease n m => exact (touches_supervised (touches_forceCells n m) h).within rfl
  | stopCrane n => exact (touches_supervised (touches_stopTheCrane n) h).within rfl
  | clearStop n m => exact (touches_supervised (touches_clearTheStops n m) h).within rfl
  | clearAlerts ks => exact (touches_supervised (touches_clearTheAlerts ks) h).within rfl
  -- the ends of timed operations
  | siteSecondBoundary => exact touches_whileRunning_if (fun u => touches_passSecond u) h
  | storeWriteEnd good => exact touches_whileRunning_if (fun u => touches_endWrite_quiet u good) h
  | assemblyTimeout c => exact touches_whileRunning_if (fun u => touches_badFrame_quiet u c) h
  | reportBoundExpiry c => exact touches_whileRunning_if (fun u => touches_becomeLost u c) h
  | clearingExpiry c x => exact touches_whileRunning_if (fun u => touches_expireClearing u ⟨c, x⟩) h
  | waitDeadline c x => exact touches_whileRunning_if (fun u => touches_expireWait u c x) h
  | confirmDeadline id =>
    refine touches_of_whileRunning (fun u => ?_) h
    split
    · split
      · exact touches_lapse u _
      · exact Touches.refl _ _
    · exact Touches.refl _ _
  | dwellCompletion c => exact touches_whileRunning_if (fun u => touches_completeDwell_quiet u c) h
  | securingTimerExpiry c => exact touches_whileRunning_if (fun u => touches_expireTimer_quiet u c) h
  | sirenPulsePhase => exact touches_whileRunning_if (fun u => touches_turnSiren u) h

namespace Sys2Proof.Machine

/-! ### Relations along a step -/

section
variable {R : State → State → Prop} {ps : List Part} {s t : State}

/-- A command that touches no part the relation reads. -/
theorem Framed.command (fr : Framed R ps) {i : Instr} (h : exec i s = .next t)
    (hi : ps.all (fun p => !i.touched.contains p) = true) : R s t :=
  fr.of (commandFrames i s t h) hi

theorem Framed.whileRunning (fr : Framed R ps) {f : State → State} (hf : ∀ u, R u (f u)) (h : s.whileRunning f = .next t) :
    R s t := by
  cases h
  split
  · exact hf s
  · exact fr.refl s

theorem Framed.whileRunning_if (fr : Framed R ps) {due : State → Bool} {f : State → State} (hf : ∀ u, due u = true → R u (f u))
    (h : s.whileRunning (fun u => if due u then f u else u) = .next t) : R s t := by
  refine fr.whileRunning (fun u => ?_) h
  split
  · rename_i hdue; exact hf u hdue
  · exact fr.refl u

/-- A supervisor request, for a relation that does not read the port. -/
theorem Framed.supervised (fr : Framed R ps) (hps : ps.all (fun p => !([.port] : List Part).contains p) = true) {i : Instr}
    {run : State → State × Answer} (hrun : ∀ u, R u (run u).1) (h : s.supervised i run = .next t) : R s t := by
  refine fr.whileRunning (fun u => ?_) h
  have gathered : R u (u.gather (requestBytes i)) := fr.of (touches_gather u _) hps
  exact fr.frame (touches_respond _ _ _) hps (fr.trans gathered (hrun _))

/-- Along a step, for a relation that reads neither the clock nor the queue nor the count of free values: every command keeps it,
so every step does. -/
theorem Framed.step (fr : Framed R ps) (hps : ps.all (fun p => !([.clock, .draws, .pending] : List Part).contains p) = true)
    (hexec : ∀ i u, exec i u = .next t → R u t) (h : step s = .next t) : R s t := by
  cases hs : s.pending with
  | nil =>
    rw [step_of_empty hs] at h
    cases h
    exact fr.of (touches_idle s) hps
  | cons i rest =>
    rw [step_of_pending hs] at h
    have dequeued : R s (s.withPending rest) :=
      fr.of ((touches_withPending s rest).mono (qs := [.pending]) (ps := [.clock, .draws, .pending]) (by decide)) hps
    exact fr.trans dequeued (hexec i _ h)

end

end Sys2Proof.Machine
end

section
/-!
PROOF. The meaning of each command as the way it comes in and the operation of its block: one equation per command, which proofs
rewrite with instead of unfolding `exec`.
-/
namespace Sys2Proof.Machine

variable (s : State)

/-! ### From the pins -/

theorem exec_powerOn : exec .powerOn s = .next s.startUp.startRaisings := rfl
theorem exec_powerLoss : exec .powerLoss s = .next (s.halt .off) := rfl
theorem exec_resetAsserted :
    exec .resetAsserted s = .next (match s.pins.power with | .off => s | .inReset | .running => s.halt .inReset) := rfl
theorem exec_siteStopAsserted :
    exec .siteStopAsserted s = .next
      (if s.pins.siteStop then s
      else
        let t := s.withPins { s.pins with siteStop := true }
        if t.running then t.raiseSiteStop else t) := rfl
theorem exec_siteStopDeasserted :
    exec .siteStopDeasserted s = .next
      (if s.pins.siteStop then
        let t := s.withPins { s.pins with siteStop := false }
        if t.running then t.withdrawSite .siteStop else t
      else s) := rfl

/-! ### From the links -/

theorem exec_linkByteReceived (c : Crane) (b : Byte) (good : Bool) :
    exec (.linkByteReceived c b good) s = s.whileRunning (fun t => t.receiveByte c b good) := rfl
theorem exec_linkBadFrame (c : Crane) : exec (.linkBadFrame c) s = s.whileRunning (fun t => t.badFrame c) := rfl
theorem exec_frameTransmitted (c : Crane) :
    exec (.frameTransmitted c) s = s.whileRunning (fun t => t.frameSent c) := rfl
theorem exec_status (c : Crane) (r : Report) : exec (.status c r) s = s.fromCrane c (.status r) := rfl
theorem exec_rejoin (c : Crane) (r : Report) : exec (.rejoin c r) s = s.fromCrane c (.rejoin r) := rfl
theorem exec_enter (c : Crane) (n : Nat) : exec (.enter c n) s = s.fromCrane c (.enter n) := rfl
theorem exec_release (c : Crane) (n : Nat) : exec (.release c n) s = s.fromCrane c (.release n) := rfl

/-! ### Timed ends -/

theorem exec_siteSecondBoundary :
    exec .siteSecondBoundary s = s.whileRunning (fun t => if t.boundaryDue then t.passSecond else t) := rfl
theorem exec_storeWriteEnd (good : Bool) :
    exec (.storeWriteEnd good) s = s.whileRunning (fun t => if t.plan.write.isSome then t.endWrite good else t) := rfl
theorem exec_assemblyTimeout (c : Crane) :
    exec (.assemblyTimeout c) s = s.whileRunning (fun t => if t.assemblyOverdue c then t.badFrame c else t) := rfl
theorem exec_reportBoundExpiry (c : Crane) :
    exec (.reportBoundExpiry c) s = s.whileRunning (fun t => if t.boundDue c then t.becomeLost c else t) := rfl
theorem exec_clearingExpiry (c : Crane) (x : Sector) :
    exec (.clearingExpiry c x) s =
      s.whileRunning (fun t => if t.clearingDue ⟨c, x⟩ then t.expireClearing ⟨c, x⟩ else t) := rfl
theorem exec_waitDeadline (c : Crane) (x : Sector) :
    exec (.waitDeadline c x) s = s.whileRunning (fun t => if t.waitDue c x then t.expireWait c x else t) := rfl
theorem exec_confirmDeadline (id : Nat) :
    exec (.confirmDeadline id) s = s.whileRunning (fun t =>
      match t.findLift id with
      | some b => if t.reached b.deadline then t.lapse b else t
      | none => t) := rfl
theorem exec_dwellCompletion (c : Crane) :
    exec (.dwellCompletion c) s = s.whileRunning (fun t => if t.dwellDue c then t.completeDwell c else t) := rfl
theorem exec_securingTimerExpiry (c : Crane) :
    exec (.securingTimerExpiry c) s = s.whileRunning (fun t => if t.timerDue c then t.expireTimer c else t) := rfl
theorem exec_sirenPulsePhase :
    exec .sirenPulsePhase s = s.whileRunning (fun t => if t.phaseDue then t.turnSiren else t) := rfl

/-! ### From the port -/

theorem exec_supervisorBadFrame (bytes : List Byte) :
    exec (.supervisorBadFrame bytes) s = s.whileRunning (fun t => if isBadFrame bytes then t.answerBadFrame bytes else t) := rfl
theorem exec_fetch (n : Nat) : exec (.fetch n) s = s.whileRunning (fun t => if n = 0 then t else t.fetchBytes n) := rfl
theorem exec_setTime (t : Nat) : exec (.setTime t) s = s.supervised (.setTime t) (setClock t) := rfl
theorem exec_planCommit (p : Bool) : exec (.planCommit p) s = s.supervised (.planCommit p) (commitPlan p) := rfl
theorem exec_planDiscard : exec .planDiscard s = s.supervised .planDiscard discardPlan := rfl
theorem exec_openSite : exec .openSite s = s.supervised .openSite openTheSite := rfl
theorem exec_closeSite : exec .closeSite s = s.supervised .closeSite closeTheSite := rfl
theorem exec_resumeSite : exec .resumeSite s = s.supervised .resumeSite resumeTheSite := rfl
theorem exec_returnToSetup : exec .returnToSetup s = s.supervised .returnToSetup returnSiteToSetup := rfl
theorem exec_forceRelease (n m : Nat) : exec (.forceRelease n m) s = s.supervised (.forceRelease n m) (forceCells n m) := rfl
theorem exec_stopCrane (n : Nat) : exec (.stopCrane n) s = s.supervised (.stopCrane n) (stopTheCrane n) := rfl
theorem exec_clearStop (n m : Nat) : exec (.clearStop n m) s = s.supervised (.clearStop n m) (clearTheStops n m) := rfl
theorem exec_clearAlerts (ks : List Nat) : exec (.clearAlerts ks) s = s.supervised (.clearAlerts ks) (clearTheAlerts ks) := rfl

/-! ### Plan edits -/

theorem exec_planCrane (n : Nat) (f : CraneFields) :
    exec (.planCrane n f) s = s.supervised (.planCrane n f) (fun t => t.edit (Plan.putCrane n f)) := rfl
theorem exec_planChart (n : Nat) (ps : List ChartPoint) :
    exec (.planChart n ps) s = s.supervised (.planChart n ps) (fun t => t.edit (Plan.putChart n ps)) := rfl
theorem exec_planConflicts (is : List PairItem) :
    exec (.planConflicts is) s = s.supervised (.planConflicts is) (fun t => t.edit (Plan.addPairs is)) := rfl
theorem exec_planRemoveConflicts (is : List PairItem) :
    exec (.planRemoveConflicts is) s = s.supervised (.planRemoveConflicts is) (fun t => t.edit (Plan.removePairs is)) := rfl
theorem exec_planClearConflicts :
    exec .planClearConflicts s = s.supervised .planClearConflicts (fun t => t.edit Plan.clearPairs) := rfl
theorem exec_planCells (n m k r : Nat) :
    exec (.planCells n m k r) s = s.supervised (.planCells n m k r) (fun t => t.edit (Plan.putCells n m k r)) := rfl
theorem exec_planScheduleDefine (k d a b : Nat) :
    exec (.planScheduleDefine k d a b) s =
      s.supervised (.planScheduleDefine k d a b) (fun t => t.edit (Plan.defineSchedule k d a b)) := rfl
theorem exec_planScheduleRemove (k : Nat) (f : RemovalFields) :
    exec (.planScheduleRemove k f) s =
      s.supervised (.planScheduleRemove k f) (fun t => t.edit (Plan.removeSchedule k f.action)) := rfl
theorem exec_planSite (f : SiteFields) :
    exec (.planSite f) s = s.supervised (.planSite f) (fun t => t.edit (Plan.putSite f)) := rfl
theorem exec_planAlertModes (is : List (Nat × Nat)) :
    exec (.planAlertModes is) s = s.supervised (.planAlertModes is) (fun t => t.edit (Plan.putModes is)) := rfl

/-! ### Lift requests of a requester -/

theorem exec_proposeLift_crane (c : Crane) (n : Nat) (f : LiftFields) :
    exec (.proposeLift (.crane c) n f) s = s.fromCrane c (.proposeLift f) := rfl
theorem exec_proposeLift_supervisor (n : Nat) (f : LiftFields) :
    exec (.proposeLift .supervisor n f) s = s.supervised (.proposeLift .supervisor n f) (propose .supervisor n f) := rfl
theorem exec_confirmLift_crane (c : Crane) (id : Nat) :
    exec (.confirmLift (.crane c) id) s = s.fromCrane c (.confirmLift id) := rfl
theorem exec_confirmLift_supervisor (id : Nat) :
    exec (.confirmLift .supervisor id) s = s.supervised (.confirmLift .supervisor id) (confirm .supervisor id) := rfl
theorem exec_amendLift_crane (c : Crane) (id : Nat) (f : LiftFields) :
    exec (.amendLift (.crane c) id f) s = s.fromCrane c (.amendLift id f) := rfl
theorem exec_amendLift_supervisor (id : Nat) (f : LiftFields) :
    exec (.amendLift .supervisor id f) s = s.supervised (.amendLift .supervisor id f) (amend .supervisor id f) := rfl
theorem exec_cancelLift_crane (c : Crane) (id : Nat) :
    exec (.cancelLift (.crane c) id) s = s.fromCrane c (.cancelLift id) := rfl
theorem exec_cancelLift_supervisor (id : Nat) :
    exec (.cancelLift .supervisor id) s = s.supervised (.cancelLift .supervisor id) (cancel .supervisor id) := rfl
theorem exec_lockLift_crane (c : Crane) (id : Nat) :
    exec (.lockLift (.crane c) id) s = s.fromCrane c (.lockLift id) := rfl
theorem exec_lockLift_supervisor (id : Nat) :
    exec (.lockLift .supervisor id) s = s.supervised (.lockLift .supervisor id) (setLock true .supervisor id) := rfl
theorem exec_unlockLift_crane (c : Crane) (id : Nat) :
    exec (.unlockLift (.crane c) id) s = s.fromCrane c (.unlockLift id) := rfl
theorem exec_unlockLift_supervisor (id : Nat) :
    exec (.unlockLift .supervisor id) s = s.supervised (.unlockLift .supervisor id) (setLock false .supervisor id) := rfl
theorem exec_queryLift_crane (c : Crane) (id : Nat) :
    exec (.queryLift (.crane c) id) s = s.fromCrane c (.queryLift id) := rfl
theorem exec_listLifts_crane (c : Crane) (sel flt n : Nat) :
    exec (.listLifts (.crane c) sel flt n) s = s.fromCrane c (.listLifts sel flt n) := rfl
theorem exec_startLift_crane (c : Crane) (id : Nat) :
    exec (.startLift (.crane c) id) s = s.fromCrane c (.startLift id) := rfl
theorem exec_startLift_supervisor (id : Nat) :
    exec (.startLift .supervisor id) s = s.supervised (.startLift .supervisor id) (start .supervisor id) := rfl
theorem exec_finishLift_crane (c : Crane) (id : Nat) :
    exec (.finishLift (.crane c) id) s = s.fromCrane c (.finishLift id) := rfl
theorem exec_finishLift_supervisor (id : Nat) :
    exec (.finishLift .supervisor id) s = s.supervised (.finishLift .supervisor id) (finish .supervisor id) := rfl
theorem exec_landLift_crane (c : Crane) (id : Nat) :
    exec (.landLift (.crane c) id) s = s.fromCrane c (.landLift id) := rfl
theorem exec_landLift_supervisor (id : Nat) :
    exec (.landLift .supervisor id) s = s.supervised (.landLift .supervisor id) (land .supervisor id) := rfl
theorem exec_suspendLift_crane (c : Crane) (id : Nat) :
    exec (.suspendLift (.crane c) id) s = s.fromCrane c (.suspendLift id) := rfl
theorem exec_suspendLift_supervisor (id : Nat) :
    exec (.suspendLift .supervisor id) s = s.supervised (.suspendLift .supervisor id) (suspend .supervisor id) := rfl
theorem exec_resumeLift_crane (c : Crane) (id : Nat) :
    exec (.resumeLift (.crane c) id) s = s.fromCrane c (.resumeLift id) := rfl
theorem exec_resumeLift_supervisor (id : Nat) :
    exec (.resumeLift .supervisor id) s = s.supervised (.resumeLift .supervisor id) (resume .supervisor id) := rfl
theorem exec_queryLift_supervisor (id : Nat) :
    exec (.queryLift .supervisor id) s = s.supervised (.queryLift .supervisor id) (queryRecord .supervisor id) := rfl
theorem exec_listLifts_supervisor (sel flt n : Nat) :
    exec (.listLifts .supervisor sel flt n) s =
      s.supervised (.listLifts .supervisor sel flt n) (listRecords .supervisor sel flt n) := rfl

end Sys2Proof.Machine
end

section
/-!
PROOF. Every step keeps the law of the wind records (R95, R98): the commands that write one keep it, and the rest do not touch it.
-/
namespace Sys2Proof.Machine

theorem wind_exec {i : Instr} {s t : State} (h : exec i s = .next t) : KeepsWind s t := by
  cases i with
  | powerOn =>
    cases (exec_powerOn s).symm.trans h
    exact framedWind.frame (touches_startRaisings _) rfl (wind_startUp s)
  | linkByteReceived c b good => exact framedWind.whileRunning (fun u => wind_receiveByte u c b good) h
  | frameTransmitted c => exact framedWind.whileRunning (fun u => wind_frameSent u c) h
  | status c r => exact framedWind.whileRunning (fun u => wind_arrive u c _) ((exec_status s c r).symm.trans h)
  | rejoin c r => exact framedWind.whileRunning (fun u => wind_arrive u c _) ((exec_rejoin s c r).symm.trans h)
  | planCommit p => exact framedWind.supervised rfl (wind_commitPlan p) h
  | reportBoundExpiry c =>
    exact framedWind.whileRunning_if (fun u _ => wind_becomeLost u c) ((exec_reportBoundExpiry s c).symm.trans h)
  | dwellCompletion c =>
    exact framedWind.whileRunning_if (fun u _ => wind_completeDwell u c) ((exec_dwellCompletion s c).symm.trans h)
  | _ => exact framedWind.command h rfl

end Sys2Proof.Machine

open Sys2Proof.Machine

/-- Settles O53: every command keeps the law, so every step does. -/
theorem stepKeepsWindRecords : Obligations.StepKeepsWindRecords := by
  intro s t hlaw h
  exact framedWind.step rfl (fun _ _ => wind_exec) h hlaw

end

section
/-!
PROOF. What a command can do: a chain of blocks' operations, each with its frame and with what its guards say (`Block`). A law is
kept by every step when every operation that touches a part it reads keeps it.
-/
namespace Sys2Proof.Machine

/-- A write of the port that keeps RDY in line with the response slot and leaves MISO released between transactions (R173). -/
structure Port.Keeps (p v : Port) : Prop where
  ready : p.rdy = !p.slot.isEmpty → v.rdy = !v.slot.isEmpty
  released : p.miso = .highImpedance → v.miso = .highImpedance

/-- A write of a link that keeps the limit of its transmit queue (R46). -/
def Channel.Keeps (p v : Channel) : Prop := p.queue.length ≤ Config.maxQueue → v.queue.length ≤ Config.maxQueue

/-- One operation of a block as a command makes it, on `s` with the result `t`; it may change the parts `qs` alone. -/
inductive Block : List Part → State → State → Prop where
  -- supply, RESET# and SITE_STOP#
  | powerOn (s : State) : Block Instr.powerOn.touched s s.startUp.startRaisings
  | halt (s : State) (p : Power) (stopped : p ≠ .running) : Block [.plan, .links, .lines, .port, .pins] s (s.halt p)
  | siteStopLevel (s : State) (b : Bool) : Block [.pins] s (s.withPins { s.pins with siteStop := b })
  | siteStopRaised (s : State) : Block [.links, .waits, .stops, .bookings, .alerts, .lines] s s.raiseSiteStop
  | siteStopWithdrawn (s : State) : Block [.alerts] s (s.withdrawSite .siteStop)
  -- the port and the links
  | port (s : State) (v : Port) (keeps : s.port.Keeps v) : Block [.port] s (s.withPort v)
  | link (s : State) (c : Crane) (ch : Channel) (keeps : (s.link c).Keeps ch) : Block [.links] s (s.setLink c ch)
  | frameErrorRaised (s : State) (c : Crane) : Block [.alerts, .lines] s (s.raiseFor .frameError c)
  | frameErrorWithdrawn (s : State) (c : Crane) : Block [.alerts] s (s.withdraw .frameError c)
  | status (s : State) (c : Crane) (r : Report) (inPlan : s.present c = true)
      (here : (s.craneRec c).presence = .present) (room : s.mayTake c = true) : Block reportParts s (s.acceptStatus c r)
  | rejoin (s : State) (c : Crane) (r : Report) (inPlan : s.present c = true)
      (away : (s.craneRec c).presence ≠ .present) (room : s.mayTake c = true) : Block reportParts s (s.acceptRejoin c r)
  -- requests
  | enter (s : State) (c : Crane) (n : Nat) (inPlan : s.present c = true) (here : (s.craneRec c).presence = .present) :
      Block [.links, .cells, .waits, .restricted, .stops, .register, .service, .bookings, .alerts, .lines] s
        (enterZone c n s).1
  | release (s : State) (c : Crane) (n : Nat) :
      Block [.links, .cells, .waits, .restricted, .register, .service, .alerts] s (releaseZone c n s).1
  | propose (s : State) (q : Requester) (n : Nat) (f : LiftFields) :
      Block [.bookings, .nextId] s (Machine.propose q n f s).1
  | confirm (s : State) (q : Requester) (id : Nat) : Block [.links, .bookings] s (Machine.confirm q id s).1
  | amend (s : State) (q : Requester) (id : Nat) (f : LiftFields) :
      Block [.links, .bookings] s (Machine.amend q id f s).1
  | cancel (s : State) (q : Requester) (id : Nat) : Block [.links, .bookings] s (Machine.cancel q id s).1
  | lock (s : State) (locked : Bool) (q : Requester) (id : Nat) : Block [.bookings] s (setLock locked q id s).1
  | start (s : State) (q : Requester) (id : Nat) : Block [.lastConf, .bookings] s (Machine.start q id s).1
  | endLift (s : State) (terminal : Nat) (q : Requester) (id : Nat) :
      Block [.links, .cells, .waits, .restricted, .lastConf, .register, .service, .bookings, .alerts] s
        (endRunning terminal q id s).1
  | suspend (s : State) (q : Requester) (id : Nat) : Block [.links, .bookings] s (Machine.suspend q id s).1
  | resume (s : State) (q : Requester) (id : Nat) : Block [.bookings] s (Machine.resume q id s).1
  | clock (s : State) (t : Nat) :
      Block [.clock, .links, .waits, .restricted, .stops, .bookings, .alerts, .lines] s (setClock t s).1
  | staging (s : State) (p : Plan) : Block [.plan] s (s.setStaging p)
  | commit (s : State) (p : Bool) :
      Block [.plan, .links, .cranes, .waits, .occupied, .stops, .wind, .service, .bookings, .alerts, .lines, .pins] s
        (commitPlan p s).1
  | openSite (s : State) :
      Block [.links, .cells, .waits, .restricted, .register, .site, .service, .alerts] s (openTheSite s).1
  | closeSite (s : State) :
      Block [.links, .cells, .waits, .restricted, .register, .site, .service, .alerts] s (closeTheSite s).1
  | resumeSite (s : State) :
      Block [.links, .cells, .waits, .restricted, .register, .site, .service, .bookings, .alerts] s (resumeTheSite s).1
  | returnToSetup (s : State) :
      Block [.links, .cells, .waits, .restricted, .register, .site, .service, .bookings, .alerts] s
        (returnSiteToSetup s).1
  | forceRelease (s : State) (n m : Nat) :
      Block [.links, .cells, .waits, .restricted, .register, .service, .alerts] s (forceCells n m s).1
  | stopCrane (s : State) (n : Nat) : Block [.links, .waits, .stops, .bookings, .alerts] s (stopTheCrane n s).1
  | clearStop (s : State) (n m : Nat) : Block [.links, .stops, .bookings] s (clearTheStops n m s).1
  | clearAlerts (s : State) (ks : List Nat) : Block [.alerts, .lines] s (clearTheAlerts ks s).1
  -- the ends of timed operations
  | second (s : State) (due : s.boundaryDue = true) :
      Block [.clock, .links, .waits, .restricted, .stops, .bookings, .alerts, .lines] s s.passSecond
  | writeEnd (s : State) (good : Bool) (due : s.plan.write.isSome = true) :
      Block [.plan, .alerts, .lines] s (s.endWrite good)
  | lost (s : State) (c : Crane) (due : s.boundDue c = true) :
      Block [.links, .cranes, .waits, .stops, .wind, .service, .bookings, .alerts, .lines] s (s.becomeLost c)
  | clearingEnd (s : State) (q : CellId) (due : s.clearingDue q = true) :
      Block [.links, .cells, .waits, .restricted, .register, .service, .alerts] s (s.expireClearing q)
  | waitEnd (s : State) (c : Crane) (x : Sector) (due : s.waitDue c x = true) :
      Block [.links, .waits, .alerts] s (s.expireWait c x)
  | lapse (s : State) (b : Booking) (found : s.findLift b.id = some b) (due : s.reached b.deadline = true) :
      Block [.links, .bookings] s (s.lapse b)
  | dwellEnd (s : State) (c : Crane) (due : s.dwellDue c = true) : Block [.wind, .alerts, .lines] s (s.completeDwell c)
  | timerEnd (s : State) (c : Crane) (due : s.timerDue c = true) :
      Block [.service, .alerts, .lines] s (s.expireTimer c)
  | sirenPhase (s : State) (due : s.phaseDue = true) : Block [.lines] s s.turnSiren

theorem Block.touches {qs : List Part} {s t : State} (h : Block qs s t) : Touches qs s t := by
  cases h with
  | powerOn s => exact touches_execPowerOn rfl
  | halt s p => exact touches_halt s p
  | siteStopLevel s => exact touches_withPins s _
  | siteStopRaised s => exact touches_raiseSiteStop s
  | siteStopWithdrawn s => exact touches_withdrawSite s _
  | port s v => exact touches_withPort s v
  | link s c ch => exact touches_setLink s c ch
  | frameErrorRaised s c => exact touches_raise_quiet s .frameError (some c) rfl
  | frameErrorWithdrawn s c => exact touches_withdraw s _ c
  | status s c r => exact touches_acceptStatus s c r
  | rejoin s c r => exact touches_acceptRejoin s c r
  | enter s c n => exact touches_enterZone c n s
  | release s c n => exact touches_releaseZone c n s
  | propose s q n f => exact touches_propose q n f s
  | confirm s q id => exact touches_confirm q id s
  | amend s q id f => exact touches_amend q id f s
  | cancel s q id => exact touches_cancel q id s
  | lock s b q id => exact touches_setLock b q id s
  | start s q id => exact touches_start q id s
  | endLift s n q id => exact touches_endRunning n q id s
  | suspend s q id => exact touches_suspend q id s
  | resume s q id => exact touches_resume q id s
  | clock s t => exact touches_setClock t s
  | staging s p => exact touches_setStaging s p
  | commit s p => exact touches_commitPlan p s
  | openSite s => exact touches_openTheSite s
  | closeSite s => exact touches_closeTheSite s
  | resumeSite s => exact touches_resumeTheSite s
  | returnToSetup s => exact touches_returnSiteToSetup s
  | forceRelease s n m => exact touches_forceCells n m s
  | stopCrane s n => exact touches_stopTheCrane n s
  | clearStop s n m => exact touches_clearTheStops n m s
  | clearAlerts s ks => exact touches_clearTheAlerts ks s
  | second s => exact touches_passSecond s
  | writeEnd s good => exact touches_endWrite_quiet s good
  | lost s c => exact touches_becomeLost s c
  | clearingEnd s q => exact touches_expireClearing s q
  | waitEnd s c x => exact touches_expireWait s c x
  | lapse s b => exact touches_lapse s b
  | dwellEnd s c => exact touches_completeDwell_quiet s c
  | timerEnd s c => exact touches_expireTimer_quiet s c
  | sirenPhase s => exact touches_turnSiren s

/-! ### Chains of operations -/

/-- A chain of steps of a relation leads from `s` to a state. -/
inductive Chain (r : State → State → Prop) (s : State) : State → Prop where
  | refl : Chain r s s
  | tail {t u : State} (h : Chain r s t) (k : r t u) : Chain r s u

theorem Chain.single {r : State → State → Prop} {s t : State} (k : r s t) : Chain r s t := .tail .refl k

theorem Chain.trans {r : State → State → Prop} {s t u : State} (h : Chain r s t) (k : Chain r t u) : Chain r s u := by
  induction k with
  | refl => exact h
  | tail _ last ih => exact ih.tail last

/-- Some block's operation leads from `s` to `t`. -/
def OneBlock (s t : State) : Prop := ∃ qs, Block qs s t

/-- A chain of operations leads from `s` to `t`. -/
def Blocks : State → State → Prop := Chain OneBlock

theorem Blocks.refl (s : State) : Blocks s s := Chain.refl

theorem Blocks.of {qs : List Part} {s t : State} (h : Block qs s t) : Blocks s t := .single ⟨qs, h⟩

theorem Blocks.then {qs : List Part} {s t u : State} (h : Blocks s t) (k : Block qs t u) : Blocks s u := h.tail ⟨qs, k⟩

theorem Blocks.trans {s t u : State} (h : Blocks s t) (k : Blocks t u) : Blocks s u := Chain.trans h k

/-- A relation that passes every operation passes a chain of them; one that touches none of its parts it passes anyway. -/
theorem Framed.blocks {R : State → State → Prop} {ps : List Part} (fr : Framed R ps)
    (hR : ∀ {qs u v}, Block qs u v → ps.any (fun p => qs.contains p) = true → R u v) {s t : State} (h : Blocks s t) :
    R s t := by
  induction h with
  | refl => exact fr.refl s
  | tail _ hlast ih =>
    obtain ⟨qs, block⟩ := hlast
    refine fr.trans ih ?_
    cases touched : ps.any (fun p => qs.contains p) with
    | true => exact hR block touched
    | false =>
      refine fr.of block.touches (List.all_eq_true.mpr fun p hp => ?_)
      simpa using List.any_eq_false.mp touched p hp

/-! ### The links -/

/-- The queue has room for an answer while it holds fewer than six (R34). -/
theorem Channel.keeps_pushAnswer {ch : Channel} (room : answersIn ch.queue < Config.maxQueue) (f : TxFrame) :
    ch.Keeps { ch with queue := pushAnswer ch.queue f }.pump :=
  fun short => Nat.le_trans (pump_length _) (pushAnswer_length short room)

theorem Channel.keeps_of_queue_eq {p v : Channel} (h : v.queue = p.queue) : p.Keeps v :=
  fun short => h ▸ short

theorem Channel.keeps_pump (ch : Channel) : ch.Keeps ch.pump := fun short => Nat.le_trans (pump_length ch) short

theorem blocks_queueAnswer {s : State} {c : Crane} (room : s.mayTake c = true) (f : TxFrame) :
    Blocks s (s.queueAnswer c f) :=
  .of (.link s c _ (Channel.keeps_pushAnswer (by simpa [State.mayTake] using room) f))

/-- A request leaves room for its answer. -/
theorem mayTake_runLinkRequest {s : State} {c : Crane} (room : s.mayTake c = true) (f : LinkFrame) :
    (runLinkRequest c f s).1.mayTake c = true := by
  have before : answersIn (s.link c).queue < Config.maxQueue := by simpa [State.mayTake] using room
  simpa [State.mayTake] using Nat.lt_of_le_of_lt ((queue_runLinkRequest c f s).2 c) before

/-- A request that the block of Table 3-1 takes from a PRESENT crane. -/
theorem blocks_runLinkRequest {s : State} {c : Crane} (f : LinkFrame) (inPlan : s.present c = true)
    (here : (s.craneRec c).presence = .present) : Blocks s (runLinkRequest c f s).1 := by
  cases f with
  | status r => exact .refl s
  | rejoin r => exact .refl s
  | enter n => exact .of (.enter s c n inPlan here)
  | release n => exact .of (.release s c n)
  | proposeLift f => exact .of (.propose s _ _ f)
  | confirmLift id => exact .of (.confirm s _ id)
  | amendLift id f => exact .of (.amend s _ id f)
  | cancelLift id => exact .of (.cancel s _ id)
  | startLift id => exact .of (.start s _ id)
  | finishLift id => exact .of (.endLift s completedCode (.crane c) id)
  | landLift id => exact .of (.endLift s abandonedCode (.crane c) id)
  | resumeLift id => exact .of (.resume s _ id)
  | queryLift id =>
    have unchanged : (runLinkRequest c (.queryLift id) s).1 = s := by
      simp only [runLinkRequest, queryRecord]
      split
      · rfl
      · split <;> rfl
    rw [unchanged]
    exact .refl s
  | listLifts sel flt n =>
    have unchanged : (runLinkRequest c (.listLifts sel flt n) s).1 = s := by
      simp only [runLinkRequest, listRecords]
      split
      · rfl
      · split <;> rfl
    rw [unchanged]
    exact .refl s
  | lockLift id => exact .of (.lock s true _ id)
  | unlockLift id => exact .of (.lock s false _ id)
  | suspendLift id => exact .of (.suspend s _ id)

theorem blocks_takeFrame {s : State} {c : Crane} (room : s.mayTake c = true) (f : LinkFrame) :
    Blocks s (s.takeFrame c f) := by
  have answered (a : Answer) : Blocks s (s.answerLink c f a) := blocks_queueAnswer room _
  have acknowledged (k : Code) : Blocks s (s.acknowledge c k) := blocks_queueAnswer room _
  unfold State.takeFrame
  split
  · exact answered _
  rename_i absent
  have inPlan : s.present c = true := by simpa using absent
  cases presence : (s.craneRec c).presence with
  | present =>
    cases f with
    | status r => exact .of (.status s c r inPlan presence room)
    | _ =>
      exact (blocks_runLinkRequest _ inPlan presence).trans (blocks_queueAnswer (mayTake_runLinkRequest room _) _)
  | offline =>
    cases f with
    | status r => exact acknowledged _
    | rejoin r => exact .of (.rejoin s c r inPlan (by simp [presence]) room)
    | _ => exact answered _
  | lost =>
    cases f with
    | status r => exact acknowledged _
    | rejoin r => exact .of (.rejoin s c r inPlan (by simp [presence]) room)
    | _ => exact answered _

/-- A write of a link's receive state or receive buffer. -/
theorem blocks_received (s : State) (c : Crane) {ch : Channel} (h : ch.queue = (s.link c).queue) :
    Blocks s (s.setLink c ch) :=
  .of (.link s c ch (Channel.keeps_of_queue_eq h))

theorem mayTake_setLink {s : State} {c : Crane} {ch : Channel} (h : ch.queue = (s.link c).queue) :
    (s.setLink c ch).mayTake c = s.mayTake c := by
  unfold State.mayTake
  rw [link_setLink, h]

theorem blocks_badFrame (s : State) (c : Crane) : Blocks s (s.badFrame c) := by
  unfold State.badFrame
  dsimp only
  have hunting : Blocks s (s.setLink c { s.link c with rx := .hunting }) := blocks_received s c rfl
  split
  · exact hunting.then (.frameErrorRaised _ c)
  · exact hunting

theorem blocks_arrive (s : State) (c : Crane) (f : LinkFrame) : Blocks s (s.arrive c f) := by
  unfold State.arrive
  split
  · exact blocks_badFrame s c
  have withdrawn : Blocks s (s.withdraw .frameError c) := .of (.frameErrorWithdrawn s c)
  dsimp only
  split
  · rename_i room
    exact withdrawn.trans (blocks_takeFrame room f)
  · exact withdrawn.trans (blocks_received _ c rfl)

theorem blocks_frameSent (s : State) (c : Crane) : Blocks s (s.frameSent c) := by
  unfold State.frameSent
  dsimp only
  split
  · exact .refl s
  have sent : Blocks s (s.setLink c { s.link c with sending := none }.pump) :=
    .of (.link s c _ (Channel.keeps_pump { s.link c with sending := none }))
  generalize s.setLink c { s.link c with sending := none }.pump = t at sent
  split
  · split
    · rename_i f _ room
      have emptied : Blocks t (t.setLink c { t.link c with buffer := none }) := blocks_received t c rfl
      have mayTake : (t.setLink c { t.link c with buffer := none }).mayTake c = true :=
        (mayTake_setLink (ch := { t.link c with buffer := none }) rfl).trans room
      exact (sent.trans emptied).trans (blocks_takeFrame mayTake f)
    · exact sent
  · exact sent

theorem blocks_receiveByte (s : State) (c : Crane) (b : Byte) (good : Bool) : Blocks s (s.receiveByte c b good) := by
  have bad := blocks_badFrame s c
  have received (rx : RxState) : Blocks s (s.setLink c { s.link c with rx := rx }) := blocks_received s c rfl
  unfold State.receiveByte
  dsimp only
  split
  case h_1 =>
    split
    · exact received _
    · exact .refl s
  case h_2 =>
    split
    · exact bad
    split
    · split
      · exact bad
      split
      · split
        · exact (received _).trans (blocks_arrive _ c _)
        · exact bad
      · exact received _
    · exact received _

/-! ### The ways a command comes in -/

theorem blocks_whileRunning {f : State → State} (hf : ∀ u, Blocks u (f u)) {s t : State}
    (h : s.whileRunning f = .next t) : Blocks s t := by
  cases h
  split
  · exact hf s
  · exact .refl s

/-- What a timed command does when its end has been reached. -/
theorem blocks_whileRunning_if {due : State → Bool} {f : State → State} (hf : ∀ u, due u = true → Blocks u (f u))
    {s t : State} (h : s.whileRunning (fun u => if due u then f u else u) = .next t) : Blocks s t := by
  refine blocks_whileRunning (fun u => ?_) h
  split
  · rename_i hdue; exact hf u hdue
  · exact .refl u

theorem blocks_fromCrane {c : Crane} {f : LinkFrame} {s t : State} (h : s.fromCrane c f = .next t) : Blocks s t :=
  blocks_whileRunning (fun u => blocks_arrive u c f) h

/-- The request is gathered (R172). -/
theorem blocks_gather (s : State) (bytes : List Byte) : Blocks s (s.gather bytes) :=
  .of (.port s _ ⟨id, fun _ => rfl⟩)

/-- A response has one frame at least. -/
theorem responseFrames_ne_nil (kind : Nat) (a : Answer) : responseFrames kind a ≠ [] := by
  have chunked (n : Nat) (bs : List Byte) : chunks (n + 1) bs ≠ [] := by
    unfold chunks
    split <;> simp
  intro empty
  have := chunked 7 (fieldBytes a.fields)
  simp only [responseFrames, List.map_eq_nil_iff, List.zipIdx_eq_nil_iff] at empty
  exact this empty

/-- The answer fills the response slot (R172). -/
theorem blocks_respond (s : State) (kind : Nat) (a : Answer) : Blocks s (s.respond kind a) := by
  refine .of (.port s _ ⟨fun _ => ?_, id⟩)
  have filled := responseFrames_ne_nil kind a
  cases h : responseFrames kind a with
  | nil => exact absurd h filled
  | cons f fs => simp

theorem blocks_fetchBytes (s : State) (n : Nat) : Blocks s (s.fetchBytes n) :=
  .of (.port s _ ⟨fun _ => rfl, fun _ => rfl⟩)

theorem blocks_supervised {i : Instr} {run : State → State × Answer} (hrun : ∀ u, Blocks u (run u).1) {s t : State}
    (h : s.supervised i run = .next t) : Blocks s t := by
  refine blocks_whileRunning (fun u => ?_) h
  exact ((blocks_gather u _).trans (hrun _)).trans (blocks_respond _ _ _)

theorem blocks_lookup {i : Instr} {look : State → Answer} {s t : State} (h : s.supervised i (looking look) = .next t) :
    Blocks s t :=
  blocks_supervised (fun u => .refl u) h

theorem blocks_edit {i : Instr} {change : Plan → Option (Plan × Answer)} {s t : State}
    (h : s.supervised i (fun u => u.edit change) = .next t) : Blocks s t := by
  refine blocks_supervised (fun u => ?_) h
  unfold State.edit
  split
  · exact .refl u
  split
  · exact .refl u
  split
  · exact .refl u
  · exact .of (.staging u _)

theorem blocks_discardPlan (s : State) : Blocks s (discardPlan s).1 := by
  unfold discardPlan
  split
  · exact .refl s
  split
  · exact .refl s
  · exact .of (.staging s _)

theorem blocks_finish (s : State) (id : Nat) : Blocks s (finish .supervisor id s).1 := .refl s

theorem blocks_land (s : State) (id : Nat) : Blocks s (land .supervisor id s).1 :=
  .of (.endLift s abandonedCode .supervisor id)

theorem blocks_queryRecord (s : State) (q : Requester) (id : Nat) : Blocks s (queryRecord q id s).1 := by
  have unchanged : (queryRecord q id s).1 = s := by
    unfold queryRecord
    split
    · rfl
    · split <;> rfl
  rw [unchanged]
  exact .refl s

theorem blocks_listRecords (s : State) (q : Requester) (sel flt n : Nat) : Blocks s (listRecords q sel flt n s).1 := by
  have unchanged : (listRecords q sel flt n s).1 = s := by
    unfold listRecords
    split
    · rfl
    · split <;> rfl
  rw [unchanged]
  exact .refl s

/-! ### The pins -/

theorem blocks_resetAsserted {s t : State} (h : exec .resetAsserted s = .next t) : Blocks s t := by
  rw [exec_resetAsserted] at h
  cases h
  cases s.pins.power
  · exact .refl s
  · exact .of (.halt s _ (by decide))
  · exact .of (.halt s _ (by decide))

theorem blocks_siteStopAsserted {s t : State} (h : exec .siteStopAsserted s = .next t) : Blocks s t := by
  rw [exec_siteStopAsserted] at h
  cases h
  split
  · exact .refl s
  have level : Blocks s (s.withPins { s.pins with siteStop := true }) := .of (.siteStopLevel s true)
  dsimp only
  split
  · exact level.then (.siteStopRaised _)
  · exact level

theorem blocks_siteStopDeasserted {s t : State} (h : exec .siteStopDeasserted s = .next t) : Blocks s t := by
  rw [exec_siteStopDeasserted] at h
  cases h
  have level : Blocks s (s.withPins { s.pins with siteStop := false }) := .of (.siteStopLevel s false)
  split
  · dsimp only
    split
    · exact level.then (.siteStopWithdrawn _)
    · exact level
  · exact .refl s

theorem blocks_confirmDeadline {id : Nat} {s t : State} (h : exec (.confirmDeadline id) s = .next t) : Blocks s t := by
  rw [exec_confirmDeadline] at h
  refine blocks_whileRunning (fun u => ?_) h
  cases found : u.findLift id with
  | none => exact .refl u
  | some b =>
    dsimp only
    split
    · rename_i due
      have same : b.id = id := by simpa using List.find?_some found
      exact .of (.lapse u b (same ▸ found) due)
    · exact .refl u

/-! ### Every command -/

/-- What a command does is a chain of blocks' operations. -/
theorem exec_blocks {i : Instr} {s t : State} (h : exec i s = .next t) : Blocks s t := by
  cases i with
  | powerOn => cases (exec_powerOn s).symm.trans h; exact .of (.powerOn s)
  | powerLoss => cases (exec_powerLoss s).symm.trans h; exact .of (.halt s _ (by decide))
  | resetAsserted => exact blocks_resetAsserted h
  | siteStopAsserted => exact blocks_siteStopAsserted h
  | siteStopDeasserted => exact blocks_siteStopDeasserted h
  | linkByteReceived c b good => exact blocks_whileRunning (fun u => blocks_receiveByte u c b good) h
  | linkBadFrame c => exact blocks_whileRunning (fun u => blocks_badFrame u c) h
  | frameTransmitted c => exact blocks_whileRunning (fun u => blocks_frameSent u c) h
  | status c r => exact blocks_fromCrane ((exec_status s c r).symm.trans h)
  | rejoin c r => exact blocks_fromCrane ((exec_rejoin s c r).symm.trans h)
  | enter c n => exact blocks_fromCrane ((exec_enter s c n).symm.trans h)
  | release c n => exact blocks_fromCrane ((exec_release s c n).symm.trans h)
  | proposeLift q n f =>
    cases q with
    | crane c => exact blocks_fromCrane ((exec_proposeLift_crane s c n f).symm.trans h)
    | supervisor => exact blocks_supervised (fun u => .of (.propose u _ n f)) h
  | confirmLift q id =>
    cases q with
    | crane c => exact blocks_fromCrane ((exec_confirmLift_crane s c id).symm.trans h)
    | supervisor => exact blocks_supervised (fun u => .of (.confirm u _ id)) h
  | amendLift q id f =>
    cases q with
    | crane c => exact blocks_fromCrane ((exec_amendLift_crane s c id f).symm.trans h)
    | supervisor => exact blocks_supervised (fun u => .of (.amend u _ id f)) h
  | cancelLift q id =>
    cases q with
    | crane c => exact blocks_fromCrane ((exec_cancelLift_crane s c id).symm.trans h)
    | supervisor => exact blocks_supervised (fun u => .of (.cancel u _ id)) h
  | lockLift q id =>
    cases q with
    | crane c => exact blocks_fromCrane ((exec_lockLift_crane s c id).symm.trans h)
    | supervisor => exact blocks_supervised (fun u => .of (.lock u true _ id)) h
  | unlockLift q id =>
    cases q with
    | crane c => exact blocks_fromCrane ((exec_unlockLift_crane s c id).symm.trans h)
    | supervisor => exact blocks_supervised (fun u => .of (.lock u false _ id)) h
  | queryLift q id =>
    cases q with
    | crane c => exact blocks_fromCrane ((exec_queryLift_crane s c id).symm.trans h)
    | supervisor => exact blocks_supervised (fun u => blocks_queryRecord u _ id) h
  | listLifts q sel flt n =>
    cases q with
    | crane c => exact blocks_fromCrane ((exec_listLifts_crane s c sel flt n).symm.trans h)
    | supervisor => exact blocks_supervised (fun u => blocks_listRecords u _ sel flt n) h
  | startLift q id =>
    cases q with
    | crane c => exact blocks_fromCrane ((exec_startLift_crane s c id).symm.trans h)
    | supervisor => exact blocks_supervised (fun u => .of (.start u _ id)) h
  | finishLift q id =>
    cases q with
    | crane c => exact blocks_fromCrane ((exec_finishLift_crane s c id).symm.trans h)
    | supervisor => exact blocks_supervised (fun u => blocks_finish u id) h
  | landLift q id =>
    cases q with
    | crane c => exact blocks_fromCrane ((exec_landLift_crane s c id).symm.trans h)
    | supervisor => exact blocks_supervised (fun u => blocks_land u id) h
  | suspendLift q id =>
    cases q with
    | crane c => exact blocks_fromCrane ((exec_suspendLift_crane s c id).symm.trans h)
    | supervisor => exact blocks_supervised (fun u => .of (.suspend u _ id)) h
  | resumeLift q id =>
    cases q with
    | crane c => exact blocks_fromCrane ((exec_resumeLift_crane s c id).symm.trans h)
    | supervisor => exact blocks_supervised (fun u => .of (.resume u _ id)) h
  | supervisorBadFrame bytes =>
    refine blocks_whileRunning_if (fun u _ => ?_) ((exec_supervisorBadFrame s bytes).symm.trans h)
    exact (blocks_gather u bytes).trans (blocks_respond _ _ _)
  | fetch n =>
    refine blocks_whileRunning (fun u => ?_) ((exec_fetch s n).symm.trans h)
    split
    · exact .refl u
    · exact blocks_fetchBytes u n
  | identify => exact blocks_lookup h
  | readClock => exact blocks_lookup h
  | planRead sel k n => exact blocks_lookup h
  | querySite => exact blocks_lookup h
  | queryCrane n => exact blocks_lookup h
  | queryCells n => exact blocks_lookup h
  | queryWaits => exact blocks_lookup h
  | queryConformance n => exact blocks_lookup h
  | queryWind n => exact blocks_lookup h
  | queryAlerts => exact blocks_lookup h
  | setTime t => exact blocks_supervised (fun u => .of (.clock u t)) h
  | planCrane n f => exact blocks_edit h
  | planChart n ps => exact blocks_edit h
  | planConflicts is => exact blocks_edit h
  | planRemoveConflicts is => exact blocks_edit h
  | planClearConflicts => exact blocks_edit h
  | planCells n m k r => exact blocks_edit h
  | planScheduleDefine k d a b => exact blocks_edit h
  | planScheduleRemove k f => exact blocks_edit h
  | planSite f => exact blocks_edit h
  | planAlertModes is => exact blocks_edit h
  | planDiscard => exact blocks_supervised blocks_discardPlan h
  | planCommit p => exact blocks_supervised (fun u => .of (.commit u p)) h
  | openSite => exact blocks_supervised (fun u => .of (.openSite u)) h
  | closeSite => exact blocks_supervised (fun u => .of (.closeSite u)) h
  | resumeSite => exact blocks_supervised (fun u => .of (.resumeSite u)) h
  | returnToSetup => exact blocks_supervised (fun u => .of (.returnToSetup u)) h
  | forceRelease n m => exact blocks_supervised (fun u => .of (.forceRelease u n m)) h
  | stopCrane n => exact blocks_supervised (fun u => .of (.stopCrane u n)) h
  | clearStop n m => exact blocks_supervised (fun u => .of (.clearStop u n m)) h
  | clearAlerts ks => exact blocks_supervised (fun u => .of (.clearAlerts u ks)) h
  | siteSecondBoundary =>
    exact blocks_whileRunning_if (fun u due => .of (.second u due)) ((exec_siteSecondBoundary s).symm.trans h)
  | storeWriteEnd good =>
    exact blocks_whileRunning_if (fun u due => .of (.writeEnd u good due)) ((exec_storeWriteEnd s good).symm.trans h)
  | assemblyTimeout c =>
    exact blocks_whileRunning_if (fun u _ => blocks_badFrame u c) ((exec_assemblyTimeout s c).symm.trans h)
  | reportBoundExpiry c =>
    exact blocks_whileRunning_if (fun u due => .of (.lost u c due)) ((exec_reportBoundExpiry s c).symm.trans h)
  | clearingExpiry c x =>
    exact blocks_whileRunning_if (fun u due => .of (.clearingEnd u _ due)) ((exec_clearingExpiry s c x).symm.trans h)
  | waitDeadline c x =>
    exact blocks_whileRunning_if (fun u due => .of (.waitEnd u c x due)) ((exec_waitDeadline s c x).symm.trans h)
  | confirmDeadline id => exact blocks_confirmDeadline h
  | dwellCompletion c =>
    exact blocks_whileRunning_if (fun u due => .of (.dwellEnd u c due)) ((exec_dwellCompletion s c).symm.trans h)
  | securingTimerExpiry c =>
    exact blocks_whileRunning_if (fun u due => .of (.timerEnd u c due)) ((exec_securingTimerExpiry s c).symm.trans h)
  | sirenPulsePhase =>
    exact blocks_whileRunning_if (fun u due => .of (.sirenPhase u due)) ((exec_sirenPulsePhase s).symm.trans h)

/-- Along a step, for a relation that reads neither the clock nor the queue nor the count of free values. -/
theorem Framed.step_of_blocks {R : State → State → Prop} {ps : List Part} (fr : Framed R ps)
    (hps : ps.all (fun p => !([.clock, .draws, .pending] : List Part).contains p) = true)
    (hR : ∀ {qs u v}, Block qs u v → ps.any (fun p => qs.contains p) = true → R u v) {s t : State}
    (h : Machine.step s = .next t) : R s t :=
  fr.step hps (fun _ _ k => fr.blocks hR (exec_blocks k)) h

end Sys2Proof.Machine
end

section
/-!
PROOF. Every step keeps ALERT# and SIREN in line with the latches (R166). A commit establishes the law when it evaluates the lines
under the new modes and cadence, the power-on by having nothing latched, and a halt by leaving the part without a running phase.
-/
namespace Sys2Proof.Machine

/-! ### Power -/

theorem lineLaw_of_not_running {s : State} (h : s.running = false) : LineLaw s := by
  have absurdity {P : Prop} : s.running = true → P := fun k => Bool.noConfusion (k.symm.trans h)
  exact ⟨absurdity, absurdity, absurdity, absurdity⟩

theorem running_halt (s : State) {p : Power} (hp : p ≠ .running) : (s.halt p).running = false :=
  decide_eq_false hp

/-- After the start nothing is latched. -/
theorem alert_startUp_latch (s : State) (k : AlertKind) : (s.startUp.alert k).latch = none := by
  cases k <;> rfl

theorem lineLaw_startUp (s : State) : LineLaw s.startUp := by
  have noAlert : s.startUp.alertDue = false := by
    simp [State.alertDue, AlertRec.latched, alert_startUp_latch]
  have noSiren : s.startUp.sirenDue = false := by
    simp [State.sirenDue, AlertRec.latched, alert_startUp_latch]
  have notDue {P : Prop} (h : s.startUp.sirenDue = true) : P := Bool.noConfusion (noSiren.symm.trans h)
  exact ⟨fun _ => noAlert.symm, fun _ _ => ⟨rfl, rfl⟩, fun _ due => notDue due, fun _ due => notDue due⟩

/-! ### A commit (R16) -/

theorem lines_commit (s : State) : KeepsLines s s.commit := by
  intro _
  have evaluated := lineLaw_evaluateLines (allCranes.foldl (State.followPresence s.plan.committed) s.adoptPlan).writeModes
  exact lines_beginWrite _ (lines_handModeStops _ evaluated)

/-- The levels of SITE_STOP# and PROTECT are not read by the law. -/
theorem lines_withPins (s : State) {v : Pins} (h : v.power = s.pins.power) : KeepsLines s (s.withPins v) :=
  lineLaw_of (fun _ => rfl) (fun _ => rfl) rfl rfl h

theorem lines_commitPlan (p : Bool) (s : State) : KeepsLines s (commitPlan p s).1 := by
  have sampled : KeepsLines s (s.withPins { s.pins with protect := p }) := lines_withPins s rfl
  unfold commitPlan
  dsimp only
  split
  · exact sampled
  · exact framedLines.after (lines_commit _) sampled

/-- Every operation that touches the plan, the alerts, the lines or the pins keeps the law. -/
theorem lines_block {qs : List Part} {s t : State} (h : Block qs s t)
    (touched : [Part.plan, .alerts, .lines, .pins].any (fun p => qs.contains p) = true) : KeepsLines s t := by
  cases h with
  | powerOn s => exact fun _ => lines_startRaisings _ (lineLaw_startUp s)
  | halt s p stopped => exact fun _ => lineLaw_of_not_running (running_halt s stopped)
  | siteStopLevel s b => exact lines_withPins s rfl
  | siteStopRaised s => exact lines_raiseSiteStop s
  | siteStopWithdrawn s => exact lines_withdrawSite s _
  | frameErrorRaised s c => exact lines_raiseFor s _ c
  | frameErrorWithdrawn s c => exact lines_withdraw s _ c
  | status s c r => exact lines_acceptStatus s c r
  | rejoin s c r => exact lines_acceptRejoin s c r
  | enter s c n => exact lines_enterZone c n s
  | release s c n => exact lines_releaseZone c n s
  | endLift s n q id => exact lines_endRunning n q id s
  | clock s t => exact lines_setClock t s
  | staging s p => exact lines_setStaging s p
  | commit s p => exact lines_commitPlan p s
  | openSite s => exact lines_openTheSite s
  | closeSite s => exact lines_closeTheSite s
  | resumeSite s => exact lines_resumeTheSite s
  | returnToSetup s => exact lines_returnSiteToSetup s
  | forceRelease s n m => exact lines_forceCells n m s
  | stopCrane s n => exact lines_stopTheCrane n s
  | clearAlerts s ks => exact lines_clearTheAlerts ks s
  | second s => exact lines_passSecond s
  | writeEnd s good => exact lines_endWrite s good
  | lost s c => exact lines_becomeLost s c
  | clearingEnd s q => exact lines_expireClearing s q
  | waitEnd s c x => exact lines_expireWait s c x
  | dwellEnd s c => exact lines_completeDwell s c
  | timerEnd s c => exact lines_expireTimer s c
  | sirenPhase s => exact lines_turnSiren s
  | _ => exact absurd touched (by decide)

end Sys2Proof.Machine

open Sys2Proof.Machine

/-- Settles O56: every operation keeps the law, so every step does. -/
theorem stepKeepsLines : Obligations.StepKeepsLines := by
  intro s t hlaw h
  exact framedLines.step_of_blocks rfl lines_block h hlaw

end

section
/-!
PROOF. The records' operations that every block's operation is made of (`Move`), each with its frame and with what its guards say
where it is made. Walk, retry pass and vane re-check repeat three of them (`FollowUps`).
-/
namespace Sys2Proof.Machine

/-! ### Follow-ups, once (R53, R75, R80, R123) -/

/-- A relation that passes the operations which arbitration and the vane re-check repeat: the walk, the conversion of a crane whose
resume is tried, and a vane release, each with its own follow-ups (steps 1 and 2 of R53). -/
structure FollowUps (R : State → State → Prop) : Prop where
  refl : ∀ s, R s s
  trans : ∀ {s t u}, R s t → R t u → R s u
  walk : ∀ s, R s s.walk
  resume : ∀ s c, s.isWithheld c = true → R s ((s.resumeChange c).ownAndSeized (s.changesOf (s.resumeReqs c)))
  release : ∀ s c, s.inState c .vaneWait = true → s.vanePermitted c = true →
    R s (((s.changeCells (vaneReqs c)).outOfService c .vaneRelease false).ownAndSeized (s.changesOf (vaneReqs c)))

namespace FollowUps

variable {R : State → State → Prop} (f : FollowUps R) {recheck : State → State}

include f

theorem foldl {α : Type} {g : State → α → State} (hg : ∀ u a, R u (g u a)) (l : List α) (s : State) :
    R s (l.foldl g s) := by
  induction l generalizing s with
  | nil => exact f.refl s
  | cons a l ih => exact f.trans (hg s a) (ih _)

theorem retryOne (h : ∀ s, R s (recheck s)) (p : State × Bool) (c : Crane) : R p.1 (retryOne recheck p c).1 := by
  unfold Machine.retryOne followThree
  split
  case isFalse => exact f.refl _
  rename_i withheld
  have converted := f.resume p.1 c withheld
  dsimp only
  split
  · exact f.trans converted (h _)
  · exact converted

theorem retryPass (h : ∀ s, R s (recheck s)) (s : State) : R s (retryPass recheck s).1 := by
  have pass : ∀ (l : List Crane) (p : State × Bool), R p.1 (l.foldl (Machine.retryOne recheck) p).1 := by
    intro l
    induction l with
    | nil => exact fun p => f.refl _
    | cons c l ih => exact fun p => f.trans (f.retryOne h p c) (ih _)
  exact pass allCranes (s, false)

theorem arbitrateLoop (h : ∀ s, R s (recheck s)) (n : Nat) (s : State) :
    R s (arbitrateLoop (Machine.retryPass recheck) n s) := by
  induction n generalizing s with
  | zero => exact f.refl s
  | succ n ih =>
    have pass := f.trans (f.walk s) (f.retryPass h s.walk)
    unfold Machine.arbitrateLoop
    dsimp only
    split
    · exact f.trans pass (ih _)
    · exact pass

theorem arbitrateWith (h : ∀ s, R s (recheck s)) (s : State) : R s (arbitrateWith recheck s) :=
  f.arbitrateLoop h _ s

/-- The follow-ups of a change whose own follow-ups are made. -/
theorem followWith (h : ∀ s, R s (recheck s)) {s t : State} {chg : List Change} (own : R s (t.ownAndSeized chg)) :
    R s (followWith recheck chg t) := by
  have three : R s (followThree recheck chg t) := by
    unfold followThree
    dsimp only
    split
    · exact f.trans own (h _)
    · exact own
  unfold Machine.followWith
  dsimp only
  split
  · exact f.trans three (f.arbitrateWith h _)
  · exact three

theorem releaseVaneWith (h : ∀ s, R s (recheck s)) {s : State} {c : Crane} (waits : s.inState c .vaneWait = true)
    (permitted : s.vanePermitted c = true) : R s (releaseVaneWith recheck s c) :=
  f.followWith h (f.release s c waits permitted)

theorem recheckN (n : Nat) (s : State) : R s (recheckN n s) := by
  induction n generalizing s with
  | zero => exact f.refl s
  | succ n ih =>
    refine f.foldl (fun u c => ?_) allCranes s
    unfold recheckOne
    split
    · rename_i h
      rw [Bool.and_eq_true] at h
      exact f.releaseVaneWith ih h.1 h.2
    · exact f.refl u

theorem recheckVane (s : State) : R s s.recheckVane := f.recheckN 8 s

theorem arbitrate (s : State) : R s s.arbitrate := f.arbitrateWith f.recheckVane s

theorem follow {s t : State} {chg : List Change} (own : R s (t.ownAndSeized chg)) : R s (t.follow chg) :=
  f.followWith f.recheckVane own

theorem testVane {s : State} {c : Crane} (waits : s.inState c .vaneWait = true) : R s (s.testVane c) := by
  unfold State.testVane
  split
  · rename_i permitted; exact f.releaseVaneWith f.recheckVane waits permitted
  · exact f.refl s

theorem resumeCrane {s : State} {c : Crane} (own : R s ((s.resumeChange c).ownAndSeized (s.changesOf (s.resumeReqs c)))) :
    R s (s.resumeCrane c) :=
  f.follow own

end FollowUps

/-! ### Operations on records -/

/-- The cells asked for are changed, and the changes' own follow-ups made (steps 1 and 2 of R53). -/
def State.converted (s : State) (rs : List CellReq) : State := (s.changeCells rs).ownAndSeized (s.changesOf rs)

/-- A cell becomes HELD by a change other than the walk, up to its own follow-ups (R79). -/
def State.heldOutside (s : State) (q : CellId) : State :=
  let r : CellReq := ⟨q, .held, .keep⟩
  let t := s.changeCells [r]
  let t :=
    match s.waitFor q.crane q.sector with
    | some _ => (t.dropWait q.crane q.sector).notify q.crane (.grant q.sector)
    | none => t
  t.ownAndSeized (s.changesOf [r])

/-- The service record and the denied entries of a ready PARKED-mode crane, before its park conversion (R122). -/
def State.parkedService (s : State) (c : Crane) : State :=
  (s.setSvc c { s.svc c with state := .outOfService, order := .park, timer := none }).denyCrane c .service

/-- The service record of a rejoining crane (R114), before a vane release is tested. -/
def State.rejoinedService (s : State) (c : Crane) : State :=
  let r := s.svc c
  if r.lost then s.setSvc c { r with lost := false }
  else if r.state = .offline then
    match s.site with
    | .setup => s.setSvc c { r with state := .standby, order := .remainSecured }
    | .opened | .storm | .closed => s.setSvc c { r with state := .inService, order := .work }
  else s

/-- The records of a crane that is LOST now: presence, service, wait entries and running lift (R40, R114). -/
def State.lostRecords (s : State) (c : Crane) : State :=
  let t := s.setCrane c { s.craneRec c with presence := .lost, lastReport := none, bound := none }
  let t := t.setSvc c { t.svc c with lost := true }
  (t.denyCrane c .lost).addReasonTo c .lost

/-- A plan store write that leaves the committed plan, and stores no image but of it or of the one before. -/
structure PlanStore.KeepsCommitted (p v : PlanStore) : Prop where
  committed : v.committed = p.committed
  image : ∀ k, v.image = some k → k.plan = p.committed ∨ p.image = some k

/-- One operation on the records, on `s` with the result `t`; it may change the parts `qs` alone. -/
inductive Move : List Part → State → State → Prop where
  -- cells
  | grant (s : State) (w : Wait) (waiting : w ∈ s.waits) :
      Move [.links, .cells, .waits, .restricted, .register, .alerts] s (s.tryGrant w)
  | resume (s : State) (c : Crane) (withheld : s.isWithheld c = true) :
      Move [.links, .cells, .waits, .restricted, .register, .service, .alerts] s
        ((s.resumeChange c).ownAndSeized (s.changesOf (s.resumeReqs c)))
  | release (s : State) (c : Crane) (waits : s.inState c .vaneWait = true) (permitted : s.vanePermitted c = true) :
      Move [.links, .cells, .waits, .restricted, .register, .service, .alerts] s
        (((s.changeCells (vaneReqs c)).outOfService c .vaneRelease false).ownAndSeized (s.changesOf (vaneReqs c)))
  | hold (s : State) (q : CellId) (may : (s.cell q).state = .seized ∧ s.grantTest q = true ∨
        (s.cell q).state = .clearing ∧ s.underLimit q.crane = true) :
      Move [.links, .cells, .waits, .restricted, .register, .alerts] s (s.heldOutside q)
  | seize (s : State) (q : CellId) (may : (s.cell q).state = .clearing ∨ (s.cell q).state = .free)
      (away : s.site ≠ .setup) :
      Move [.links, .cells, .waits, .restricted, .stops, .register, .bookings, .alerts, .lines] s
        ((s.converted [⟨q, .seized, .set .seize⟩]).intrude q)
  | enter (s : State) (q : CellId) (o : OriginRule) (here : (s.craneRec q.crane).presence = .present)
      (check : s.enterCheck q.crane = none) (room : s.underLimit q.crane = true)
      (may : (s.cell q).state = .clearing ∨ s.blocked q = false ∧ s.reserved q = false) :
      Move [.cells, .restricted, .register, .alerts] s (s.converted [⟨q, .held, o⟩])
  | clear (s : State) (q : CellId) (taken : (s.cell q).state = .held ∨ (s.cell q).state = .seized) :
      Move [.cells, .restricted, .register, .alerts] s (s.converted [s.beginClearing q])
  | expire (s : State) (q : CellId) (clearing : (s.cell q).state = .clearing) :
      Move [.cells, .restricted, .register, .alerts] s (s.converted [⟨q, .free, .keep⟩])
  | park (s : State) (c : Crane) (securing : s.inState c .securing = true) (parked : (s.entry c).vane = .parked)
      (noLift : s.runningLift c = none) :
      Move [.links, .cells, .waits, .restricted, .register, .service, .alerts] s
        ((s.parkedService c).converted ((s.parkedService c).parkReqs c))
  | force (s : State) (c : Crane) (named : List Sector) (away : s.isPresent c = false) :
      Move [.cells, .restricted, .register, .service, .alerts] s
        ((s.forceService c named).converted (s.forceReqs c named))
  -- service records
  | vaneWait (s : State) (c : Crane) (securing : s.inState c .securing = true) (free : (s.entry c).vane = .free)
      (noLift : s.runningLift c = none) :
      Move [.links, .waits, .service, .alerts] s
        ((s.setSvc c { s.svc c with state := .vaneWait, order := .secure }).denyCrane c .service)
  | readiness (s : State) (c : Crane) (r : Option Readiness) :
      Move [.service] s (s.setSvc c { s.svc c with readiness := r })
  | timer (s : State) (c : Crane) : Move [.service] s (s.setSvc c { s.svc c with timer := none })
  -- crane records, wind and positions
  | report (s : State) (c : Crane) (r : Report) (n : Nat) (inPlan : s.present c = true)
      (here : (s.craneRec c).presence = .present) : Move [.cranes] s (s.recordReport c r n)
  | rejoin (s : State) (c : Crane) (r : Report) (inPlan : s.present c = true)
      (away : (s.craneRec c).presence ≠ .present) :
      Move [.cranes, .service, .alerts] s
        (((s.recordReport c r 0).withdraw .reportEarly c).rejoinedService c)
  | lost (s : State) (c : Crane) (here : (s.craneRec c).presence = .present) :
      Move [.links, .cranes, .waits, .service, .bookings, .alerts] s (s.lostRecords c)
  | windUnknown (s : State) (c : Crane) (lost : (s.svc c).lost = true) :
      Move [.wind] s (s.setWind c (s.windRec c).setUnknown)
  | dwell (s : State) (c : Crane) (d : Dwell) (runs : (s.windRec c).dwell = some d) :
      Move [.wind] s (s.setWind c ((s.windRec c).complete (s.entry c) s.now d))
  | occupied (s : State) (c : Crane) (o : Option Occupied) : Move [.occupied] s (s.setOccupied c o)
  | restricted (s : State) (c : Crane) (xs : List Sector) : Move [.restricted] s (s.setRestricted c xs)
  | allRestricted (s : State) (v : Tab 8 (List Sector)) : Move [.restricted] s (s.withRestricted v)
  | lastConf (s : State) (c : Crane) (v : Option Conformance) : Move [.lastConf] s (s.setLastConf c v)
  -- stops and alerts
  | stop (s : State) (c : Crane) (r : StopReason) :
      Move [.links, .waits, .stops, .bookings, .alerts] s (s.addStop c r)
  | unstop (s : State) (c : Crane) (named : List StopReason) : Move [.links, .stops, .bookings] s (s.clearStops c named)
  | latch (s : State) (k : AlertKind) (c : Option Crane) (other : k ≠ .conflict ∧ k ≠ .intrusion) :
      Move [.alerts] s (s.latchAlert k c)
  | withdraw (s : State) (k : AlertKind) (c : Crane) (other : k ≠ .conflict ∧ k ≠ .intrusion) :
      Move [.alerts] s (s.withdraw k c)
  | withdrawSite (s : State) (k : AlertKind) : Move [.alerts] s (s.withdrawSite k)
  | clearKind (s : State) (k : AlertKind) : Move [.alerts] s (s.clearKind k)
  | modes (s : State) : Move [.alerts] s s.writeModes
  | lines (s : State) (v : Lines) : Move [.lines] s (s.withLines v)
  -- waits and links
  | waits (s : State) (p : Wait → Bool) : Move [.waits] s (s.withWaits (s.waits.filter p))
  | append (s : State) (c : Crane) (x : Sector) (here : (s.craneRec c).presence = .present)
      (check : s.enterCheck c = none) (new : s.waitFor c x = none) (room : s.waitsFull c = false) :
      Move [.waits, .alerts] s (s.appendWait c x)
  | link (s : State) (c : Crane) (ch : Channel) : Move [.links] s (s.setLink c ch)
  | links (s : State) (v : Tab 8 Channel) : Move [.links] s (s.withLinks v)
  -- bookings
  | addReason (s : State) (c : Crane) (r : SuspReason) : Move [.links, .bookings] s (s.addReasonTo c r)
  | removeLost (s : State) (c : Crane) (back : (s.svc c).lost = false) :
      Move [.links, .bookings] s (s.removeReasonFrom c .lost)
  | booked (s : State) (n id : Nat) : Move [.links, .bookings] s (s.testBooked n id)
  | overrun (s : State) (b : Booking) (found : s.findLift b.id = some b) :
      Move [.bookings] s (s.putLift { b with overrun := true })
  | free (s : State) (id : Nat) : Move [.bookings] s (s.freeLift id)
  | propose (s : State) (q : Requester) (n : Nat) (f : LiftFields) :
      Move [.bookings, .nextId] s (Machine.propose q n f s).1
  | confirm (s : State) (q : Requester) (id : Nat) : Move [.links, .bookings] s (Machine.confirm q id s).1
  | amend (s : State) (q : Requester) (id : Nat) (f : LiftFields) :
      Move [.links, .bookings] s (Machine.amend q id f s).1
  | cancel (s : State) (q : Requester) (id : Nat) : Move [.links, .bookings] s (Machine.cancel q id s).1
  | lock (s : State) (locked : Bool) (q : Requester) (id : Nat) : Move [.bookings] s (setLock locked q id s).1
  | start (s : State) (q : Requester) (id : Nat) : Move [.lastConf, .bookings] s (Machine.start q id s).1
  | suspend (s : State) (q : Requester) (id : Nat) : Move [.links, .bookings] s (Machine.suspend q id s).1
  | resumeLift (s : State) (q : Requester) (id : Nat) : Move [.bookings] s (Machine.resume q id s).1
  -- the plan, the clock, the port, the pins and the start
  | store (s : State) (v : PlanStore) (keeps : s.plan.KeepsCommitted v) : Move [.plan] s (s.withPlan v)
  | adopt (s : State) (setup : s.site = .setup) (noLifts : s.bookings = []) (valid : validate s.plan.staging = none) :
      Move [.plan, .links, .cranes, .waits, .occupied, .stops, .wind, .service, .bookings, .alerts] s
        (allCranes.foldl (State.followPresence s.plan.committed) s.adoptPlan)
  | clock (s : State) (v : Clock) : Move [.clock] s (s.withClock v)
  | port (s : State) (v : Port) : Move [.port] s (s.withPort v)
  | pins (s : State) (v : Pins) : Move [.pins] s (s.withPins v)
  | startUp (s : State) : Move Instr.powerOn.touched s s.startUp

/-- Some operation leads from `s` to `t`. -/
def OneMove (s t : State) : Prop := ∃ qs, Move qs s t

/-- A chain of operations on records leads from `s` to `t`. -/
def Moves : State → State → Prop := Chain OneMove

theorem Moves.refl (s : State) : Moves s s := Chain.refl

theorem Moves.of {qs : List Part} {s t : State} (h : Move qs s t) : Moves s t := .single ⟨qs, h⟩

theorem Moves.trans {s t u : State} (h : Moves s t) (k : Moves t u) : Moves s u := Chain.trans h k

theorem Moves.then {qs : List Part} {s t u : State} (h : Moves s t) (k : Move qs t u) : Moves s u := h.tail ⟨qs, k⟩

theorem Moves.foldl {α : Type} {g : State → α → State} (hg : ∀ u a, Moves u (g u a)) (l : List α) {s t : State}
    (h : Moves s t) : Moves s (l.foldl g t) := by
  induction l generalizing t with
  | nil => exact h
  | cons a l ih => exact ih (h.trans (hg t a))

/-- One operation on the records as the wind stage and the changes of the site state make it. -/
inductive Turn : List Part → State → State → Prop where
  | move {qs : List Part} {s t : State} (h : Move qs s t) : Turn qs s t
  | windSample (s : State) (c : Crane) (r : WindRec) : Turn [.wind] s (s.setWind c r)
  | verdict (s : State) (c : Crane) : Turn [.links, .bookings] s (s.handVerdict c)
  | convert (s : State) (c : Crane) (out : s.inState c .outOfService = true ∨ s.inState c .vaneWait = true) :
      Turn [.links, .cells, .waits, .restricted, .register, .service, .alerts] s
        ((s.resumeChange c).ownAndSeized (s.changesOf (s.resumeReqs c)))
  | seed (s : State) (setup : s.site = .setup) (check : s.openCheck = none) :
      Turn [.cells, .restricted, .register, .alerts] s (s.converted s.seedReqs)
  | freeAll (s : State) (closed : s.site = .closed) (out : s.requireAll s.maySetUp .badState = none)
      (noWaits : s.waits = []) (noLifts : s.bookings = []) :
      Turn [.cells, .restricted, .register, .alerts] s (s.freeAllCells.ownAndSeized (s.changesOf setupReqs))
  | secure (s : State) (c : Crane) (working : (s.svc c).state = .inService) : Turn [.service] s (s.toSecuring c)
  | withheldToVaneWait (s : State) (c : Crane) (out : (s.svc c).state = .outOfService)
      (withheld : (s.svc c).withheld = true) (free : (s.entry c).vane = .free) :
      Turn [.links, .waits, .service, .alerts] s (s.withheldToVaneWait c)
  | parkOrder (s : State) (c : Crane) (out : (s.svc c).state = .outOfService) (withheld : (s.svc c).withheld = true)
      (parked : (s.entry c).vane = .parked) :
      Turn [.service] s (s.setSvc c { s.svc c with withheld := false, order := .park })
  | toService (s : State) (c : Crane)
      (back : s.inState c .securing = true ∨ s.inState c .vaneWait = true ∧ s.sectorsIn c .vane = []) :
      Turn [.service, .alerts] s (s.toService c)
  | startServices (s : State) (setup : s.site = .setup)
      (standby : ∀ c ∈ s.presentCranes, s.inState c .standby = true) :
      Turn [.service] s (s.presentCranes.foldl State.startService s)
  | standbys (s : State) (noWaits : s.waits = []) (noLifts : s.bookings = []) :
      Turn [.service] s (allCranes.foldl State.toStandby s)
  | site (s : State) (v : SiteState) (may : v = .opened ∨ v = .closed ∧ s.bookings.any Booking.running = false ∨
        v = .setup ∧ s.bookings = []) : Turn [.site] s (s.withSite v)
  | storm (s : State) (c : Crane) (opened : s.site = .opened) :
      Turn [.links, .waits, .stops, .site, .bookings, .alerts, .lines] s
        (((s.withSite .storm).raiseFor .storm c).addReasonAll .storm)
  | calm (s : State) : Turn [.links, .site, .bookings] s ((s.removeReasonAll .storm).withSite .opened)

/-- A chain of turns leads from `s` to `t`. -/
def Turns : State → State → Prop := Chain (fun s t => ∃ qs, Turn qs s t)

theorem Turns.refl (s : State) : Turns s s := Chain.refl

theorem Turns.of {qs : List Part} {s t : State} (h : Turn qs s t) : Turns s t := .single ⟨qs, h⟩

theorem Turns.trans {s t u : State} (h : Turns s t) (k : Turns t u) : Turns s u := Chain.trans h k

theorem Turns.then {qs : List Part} {s t u : State} (h : Turns s t) (k : Turn qs t u) : Turns s u := h.tail ⟨qs, k⟩

theorem Turns.foldl {α : Type} {g : State → α → State} (hg : ∀ u a, Turns u (g u a)) (l : List α) {s t : State}
    (h : Turns s t) : Turns s (l.foldl g t) := by
  induction l generalizing t with
  | nil => exact h
  | cons a l ih => exact ih (h.trans (hg t a))

theorem Moves.turns {s t : State} (h : Moves s t) : Turns s t := by
  induction h with
  | refl => exact .refl s
  | tail _ last ih =>
    obtain ⟨_, move⟩ := last
    exact ih.then (.move move)

/-! ### Frames -/

theorem touches_intrude_parts (s : State) (q : CellId) :
    Touches [.links, .waits, .stops, .register, .bookings, .alerts, .lines] s (s.intrude q) :=
  (touches_intrude s q).within rfl

theorem touches_converted (s : State) (rs : List CellReq) :
    Touches [.cells, .restricted, .register, .alerts] s (s.converted rs) :=
  ((touches_changeCells s rs).within rfl).step (touches_ownAndSeized _ _) (by decide)

theorem touches_heldOutside (s : State) (q : CellId) :
    Touches [.links, .cells, .waits, .restricted, .register, .alerts] s (s.heldOutside q) := by
  have changed : Touches [.links, .cells, .waits, .restricted, .register, .alerts] s (s.changeCells [⟨q, .held, .keep⟩]) :=
    (touches_changeCells s _).within rfl
  unfold State.heldOutside
  dsimp only
  refine Touches.step ?_ (touches_ownAndSeized _ _) (by decide)
  split
  · exact (changed.step (touches_dropWait _ _ _) (by decide)).step (touches_notify _ _ _) (by decide)
  · exact changed

theorem touches_parkedService (s : State) (c : Crane) :
    Touches [.links, .waits, .service, .alerts] s (s.parkedService c) :=
  ((touches_setSvc s c _).within rfl).step (touches_denyCrane _ _ _) (by decide)

theorem touches_rejoinedService (s : State) (c : Crane) : Touches [.service] s (s.rejoinedService c) := by
  unfold State.rejoinedService
  dsimp only
  split
  · exact touches_setSvc s c _
  split
  · split <;> exact touches_setSvc s c _
  · exact Touches.refl _ _

theorem touches_lostRecords (s : State) (c : Crane) :
    Touches [.links, .cranes, .waits, .service, .bookings, .alerts] s (s.lostRecords c) :=
  ((((touches_setCrane s c _).within rfl).step (touches_setSvc _ _ _) (by decide)).step (touches_denyCrane _ _ _)
    (by decide)).step (touches_addReasonTo _ _ _) (by decide)

theorem touches_adopted (s : State) :
    Touches [.plan, .links, .cranes, .waits, .occupied, .stops, .wind, .service, .bookings, .alerts] s
      (allCranes.foldl (State.followPresence s.plan.committed) s.adoptPlan) :=
  ((touches_adoptPlan s).within rfl).fold allCranes _ (fun u c => (touches_followPresence _ u c).within rfl)

theorem Move.touches {qs : List Part} {s t : State} (h : Move qs s t) : Touches qs s t := by
  cases h with
  | grant s w => exact touches_tryGrant s w
  | resume s c => exact ((touches_resumeChange s c).within rfl).step (touches_ownAndSeized _ _) (by decide)
  | release s c =>
    exact (((touches_changeCells s _).within rfl).step (touches_outOfService _ _ _ _) (by decide)).step
      (touches_ownAndSeized _ _) (by decide)
  | hold s q => exact touches_heldOutside s q
  | seize s q => exact ((touches_converted s _).within rfl).step (touches_intrude_parts _ _) (by decide)
  | enter s q o => exact touches_converted s _
  | clear s q => exact touches_converted s _
  | expire s q => exact touches_converted s _
  | park s c => exact ((touches_parkedService s c).within rfl).step (touches_converted _ _) (by decide)
  | force s c named => exact ((touches_forceService s c named).within rfl).step (touches_converted _ _) (by decide)
  | vaneWait s c => exact ((touches_setSvc s c _).within rfl).step (touches_denyCrane _ _ _) (by decide)
  | readiness s c r => exact touches_setSvc s c _
  | timer s c => exact touches_setSvc s c _
  | report s c r n => exact touches_recordReport s c r n
  | rejoin s c r =>
    exact (((touches_recordReport s c r 0).within rfl).step (touches_withdraw _ _ _) (by decide)).step
      (touches_rejoinedService _ _) (by decide)
  | lost s c => exact touches_lostRecords s c
  | windUnknown s c => exact touches_setWind s c _
  | dwell s c => exact touches_setWind s c _
  | occupied s c o => exact touches_setOccupied s c o
  | restricted s c xs => exact touches_setRestricted s c xs
  | allRestricted s v => exact touches_withRestricted s v
  | lastConf s c v => exact touches_setLastConf s c v
  | stop s c r => exact touches_addStop s c r
  | unstop s c named => exact touches_clearStops s c named
  | latch s k c => exact touches_latchAlert s k c
  | withdraw s k c => exact touches_withdraw s k c
  | withdrawSite s k => exact touches_withdrawSite s k
  | clearKind s k => exact touches_clearKind s k
  | modes s => exact touches_writeModes s
  | lines s v => exact touches_withLines s v
  | waits s p => exact touches_withWaits s _
  | append s c x => exact touches_appendWait s c x
  | link s c ch => exact touches_setLink s c ch
  | links s v => exact touches_withLinks s v
  | addReason s c r => exact touches_addReasonTo s c r
  | removeLost s c => exact touches_removeReasonFrom s c _
  | booked s n id => exact touches_testBooked s n id
  | overrun s b => exact touches_putLift s _
  | free s id => exact touches_freeLift s id
  | propose s q n f => exact touches_propose q n f s
  | confirm s q id => exact touches_confirm q id s
  | amend s q id f => exact touches_amend q id f s
  | cancel s q id => exact touches_cancel q id s
  | lock s b q id => exact touches_setLock b q id s
  | start s q id => exact touches_start q id s
  | suspend s q id => exact touches_suspend q id s
  | resumeLift s q id => exact touches_resume q id s
  | store s v => exact touches_withPlan s v
  | adopt s => exact touches_adopted s
  | clock s v => exact touches_withClock s v
  | port s v => exact touches_withPort s v
  | pins s v => exact touches_withPins s v
  | startUp s => exact touches_startUp s

theorem Turn.touches {qs : List Part} {s t : State} (h : Turn qs s t) : Touches qs s t := by
  cases h with
  | move h => exact h.touches
  | windSample s c r => exact touches_setWind s c r
  | verdict s c => exact touches_handVerdict s c
  | convert s c => exact ((touches_resumeChange s c).within rfl).step (touches_ownAndSeized _ _) (by decide)
  | seed s => exact touches_converted s _
  | freeAll s => exact ((touches_freeAllCells s).within rfl).step (touches_ownAndSeized _ _) (by decide)
  | secure s c => exact touches_toSecuring s c
  | withheldToVaneWait s c => exact touches_withheldToVaneWait s c
  | parkOrder s c => exact touches_setSvc s c _
  | toService s c => exact touches_toService s c
  | startServices s => exact (Touches.refl _ s).fold _ _ (fun u c => touches_startService u c)
  | standbys s => exact (Touches.refl _ s).fold _ _ (fun u c => touches_toStandby u c)
  | site s v => exact touches_withSite s v
  | storm s c =>
    exact (((touches_withSite s _).within rfl).step (touches_raiseFor _ _ _) (by decide)).step (touches_addReasonAll _ _)
      (by decide)
  | calm s => exact ((touches_removeReasonAll s _).within rfl).step (touches_withSite _ _) (by decide)

/-- A relation passes an operation that touches none of its parts. -/
theorem Framed.untouched {R : State → State → Prop} {ps qs : List Part} (fr : Framed R ps) {s t : State}
    (k : Touches qs s t) (h : ps.any (fun p => qs.contains p) = false) : R s t :=
  fr.of k (List.all_eq_true.mpr fun p hp => by simpa using List.any_eq_false.mp h p hp)

/-- A relation that passes every turn that touches one of its parts passes a chain of turns. -/
theorem Framed.turns {R : State → State → Prop} {ps : List Part} (fr : Framed R ps)
    (hR : ∀ {qs u v}, Turn qs u v → ps.any (fun p => qs.contains p) = true → R u v) {s t : State} (h : Turns s t) :
    R s t := by
  induction h with
  | refl => exact fr.refl s
  | tail _ last ih =>
    obtain ⟨qs, turn⟩ := last
    refine fr.trans ih ?_
    cases touched : ps.any (fun p => qs.contains p) with
    | true => exact hR turn touched
    | false => exact fr.untouched turn.touches touched

end Sys2Proof.Machine
end

section
/-!
PROOF. Every block's operation is a chain of operations on records (`block_moves`), so a law that every `Move` keeps, every step
keeps.
-/
namespace Sys2Proof.Machine

/-! ### Alerts, waits and notices -/

/-- A kind whose present set the conflict register does not follow. -/
abbrev AlertKind.Other (k : AlertKind) : Prop := k ≠ .conflict ∧ k ≠ .intrusion

theorem moves_notify (s : State) (c : Crane) (f : TxFrame) : Moves s (s.notify c f) := by
  unfold State.notify
  split
  · exact .of (.link s c _)
  · exact .refl s

theorem moves_reviewOffPath (s : State) (c : Crane) : Moves s (s.reviewOffPath c) := by
  unfold State.reviewOffPath
  split
  · exact .of (.withdraw s _ c (by decide))
  · exact .refl s

theorem moves_dropWait (s : State) (c : Crane) (x : Sector) : Moves s (s.dropWait c x) := .of (.waits s _)

theorem moves_denyWaits (s : State) (p : Wait → Bool) (why : DenyReason) : Moves s (s.denyWaits p why) := by
  unfold State.denyWaits
  exact Moves.foldl (fun u (w : Wait) => (moves_notify u w.crane _).trans (moves_reviewOffPath _ w.crane)) _
    (.of (.waits s _))

theorem moves_stopAction (s : State) (k : AlertKind) (c : Option Crane) : Moves s (s.stopAction k c) := by
  unfold State.stopAction
  split
  · split
    · exact .of (.stop s _ _)
    · exact .refl s
  · exact .refl s

theorem moves_raise {k : AlertKind} (other : k.Other) (s : State) (c : Option Crane) : Moves s (s.raise k c) :=
  ((Moves.of (.latch s k c other)).trans (moves_stopAction _ k c)).then (.lines _ _)

theorem moves_raiseFor {k : AlertKind} (other : k.Other) (s : State) (c : Crane) : Moves s (s.raiseFor k c) :=
  moves_raise other s (some c)

theorem moves_keepInStep {k : AlertKind} (other : k.Other) (s : State) (c : Crane) (holds : Bool) :
    Moves s (s.keepInStep k c holds) := by
  unfold State.keepInStep
  split <;> split
  · exact .refl s
  · exact moves_raiseFor other s c
  · exact .of (.withdraw s k c other)
  · exact .refl s

theorem moves_windConditions (s : State) (c : Crane) : Moves s (s.windConditions c) := by
  unfold State.windConditions
  dsimp only
  split
  · exact ((moves_keepInStep (by decide) s c _).trans (moves_keepInStep (by decide) _ c _)).trans
      (moves_keepInStep (by decide) _ c _)
  · exact .refl s

/-! ### The walk (R75) -/

theorem cell_eq_of_cells {s t : State} (h : t.cells = s.cells) (q : CellId) : t.cell q = s.cell q := by
  unfold State.cell
  rw [h]

theorem cell_changeCells_one (s : State) (r : CellReq) (q : CellId) :
    ((s.changeCells [r]).cell q).state = if r.cell = q then r.goal else (s.cell q).state := by
  show ((s.changeCell r).cell q).state = _
  unfold State.changeCell
  split
  · rename_i same
    split
    · rename_i h; rw [← h]; exact same
    · rfl
  · rw [cell_setCell]
    split <;> rfl

theorem cell_tryGrant (s : State) (w : Wait) (q : CellId) :
    ((s.tryGrant w).cell q).state =
      if s.grantTest ⟨w.crane, w.sector⟩ = true ∧ (⟨w.crane, w.sector⟩ : CellId) = q then .held else (s.cell q).state := by
  unfold State.tryGrant
  dsimp only
  split
  · rename_i passes
    generalize origin : (if (s.cell ⟨w.crane, w.sector⟩).state = .seized then OriginRule.keep else .set .wait) = o
    have same : Touches [.links, .waits, .restricted, .register, .alerts] (s.changeCells [⟨⟨w.crane, w.sector⟩, .held, o⟩])
        ((((s.changeCells [⟨⟨w.crane, w.sector⟩, .held, o⟩]).dropWait w.crane w.sector).notify w.crane
          (.grant w.sector)).ownAndSeized (s.changesOf [⟨⟨w.crane, w.sector⟩, .held, o⟩])) :=
      (((touches_dropWait _ _ _).within rfl).step (touches_notify _ _ _) (by decide)).step (touches_ownAndSeized _ _)
        (by decide)
    rw [cell_eq_of_cells (same .cells (by decide)), cell_changeCells_one]
    simp only [passes, true_and]
  · rename_i fails
    rw [if_neg (fun h => fails h.1)]

theorem waits_tryGrant_eq (s : State) (w : Wait) :
    (s.tryGrant w).waits =
      if s.grantTest ⟨w.crane, w.sector⟩ = true then
        s.waits.filter (fun v => !(decide (v.crane = w.crane) && decide (v.sector = w.sector)))
      else s.waits := by
  unfold State.tryGrant
  dsimp only
  split
  · rw [(touches_ownAndSeized _ _) .waits (by decide), (touches_notify _ _ _) .waits (by decide), State.dropWait,
      State.withWaits_waits, (touches_changeCells s _) .waits (by decide)]
  · rfl

/-- An entry that the walk has still to take is in the list, or its cell has become HELD. -/
def State.stillWaits (s : State) (w : Wait) : Prop := w ∈ s.waits ∨ (s.cell ⟨w.crane, w.sector⟩).state = .held

theorem stillWaits_tryGrant {s : State} {v : Wait} (h : s.stillWaits v) (w : Wait) : (s.tryGrant w).stillWaits v := by
  unfold State.stillWaits at h ⊢
  rw [cell_tryGrant, waits_tryGrant_eq]
  by_cases passes : s.grantTest ⟨w.crane, w.sector⟩ = true
  · by_cases same : (⟨w.crane, w.sector⟩ : CellId) = ⟨v.crane, v.sector⟩
    · exact .inr (if_pos ⟨passes, same⟩)
    · rw [if_pos passes, if_neg (fun both => same both.2)]
      refine h.imp_left (fun waiting => List.mem_filter.mpr ⟨waiting, ?_⟩)
      rw [CellId.mk.injEq] at same
      grind
  · rw [if_neg passes, if_neg (fun both => passes both.1)]
    exact h

theorem grantTest_of_held {s : State} {q : CellId} (h : (s.cell q).state = .held) : s.grantTest q = false := by
  simp [State.grantTest, h]

theorem moves_tryGrant {s : State} {w : Wait} (h : s.stillWaits w) : Moves s (s.tryGrant w) := by
  rcases h with waiting | held
  · exact .of (.grant s w waiting)
  · have unchanged : s.tryGrant w = s := by
      unfold State.tryGrant
      exact if_neg (by simp [grantTest_of_held held])
    rw [unchanged]
    exact .refl s

theorem moves_walk (s : State) : Moves s s.walk := by
  have taken : ∀ (l : List Wait) (t : State), (∀ w ∈ l, t.stillWaits w) → Moves t (l.foldl State.tryGrant t) := by
    intro l
    induction l with
    | nil => exact fun t _ => .refl t
    | cons w l ih =>
      intro t h
      have rest : ∀ v ∈ l, (t.tryGrant w).stillWaits v :=
        fun v hv => stillWaits_tryGrant (h v (List.mem_cons_of_mem _ hv)) w
      exact (moves_tryGrant (h w List.mem_cons_self)).trans (ih _ rest)
  exact taken s.waits s (fun w hw => .inl hw)

/-! ### Follow-ups -/

theorem followUps_moves : FollowUps Moves where
  refl := Moves.refl
  trans := Moves.trans
  walk := moves_walk
  resume s c withheld := .of (.resume s c withheld)
  release s c waits permitted := .of (.release s c waits permitted)

theorem moves_arbitrate (s : State) : Moves s s.arbitrate := followUps_moves.arbitrate s

/-- Cells are changed together, with the follow-ups after them. -/
theorem moves_convert {s t : State} {rs : List CellReq} (h : Moves s (t.converted rs)) : Moves s (t.convert rs) :=
  followUps_moves.follow h

/-! ### Securing -/

theorem inState_eq_of_service {s t : State} (h : t.service = s.service) (c : Crane) (st : SvcState) :
    t.inState c st = s.inState c st := by
  unfold State.inState State.svc
  rw [h]

theorem inState_setSvc (s : State) (c : Crane) (r : ServiceRec) (st : SvcState) :
    (s.setSvc c r).inState c st = (!r.lost && decide (r.state = st)) := by
  unfold State.inState
  rw [svc_setSvc, if_pos rfl]

theorem moves_parkCrane {s : State} {c : Crane} (securing : s.inState c .securing = true)
    (parked : (s.entry c).vane = .parked) (noLift : s.runningLift c = none) : Moves s (s.parkCrane c) :=
  (moves_convert (.of (.park s c securing parked noLift))).then (.withdraw _ _ c (by decide))

theorem moves_toVaneWait {s : State} {c : Crane} (securing : s.inState c .securing = true)
    (free : (s.entry c).vane = .free) (noLift : s.runningLift c = none) : Moves s (s.toVaneWait c) := by
  refine (Moves.of (.vaneWait s c securing free noLift)).trans (followUps_moves.testVane ?_)
  rw [inState_eq_of_service ((touches_denyCrane _ _ _) .service (by decide)), inState_setSvc]
  rw [State.inState, Bool.and_eq_true] at securing
  simpa using securing.1

/-- A crane that passes the securing test has no running lift (R121). -/
theorem noLift_of_ready {s : State} {c : Crane} (h : (s.readinessOf c).all = true) : s.runningLift c = none := by
  unfold Readiness.all at h
  rw [Bool.and_eq_true, Bool.and_eq_true] at h
  exact Option.isNone_iff_eq_none.mp h.1.2

theorem moves_securingStage (s : State) (c : Crane) : Moves s (s.securingStage c) := by
  unfold State.securingStage
  split
  case isFalse => exact .refl s
  rename_i securing
  dsimp only
  have tested : Moves s (s.setSvc c { s.svc c with readiness := some (s.readinessOf c) }) := .of (.readiness s c _)
  have still : (s.setSvc c { s.svc c with readiness := some (s.readinessOf c) }).inState c .securing = true := by
    rw [inState_setSvc]
    exact securing
  split
  · rename_i ready
    have noLift : (s.setSvc c { s.svc c with readiness := some (s.readinessOf c) }).runningLift c = none :=
      noLift_of_ready ready
    split
    case h_1 parked => exact tested.trans (moves_parkCrane still parked noLift)
    case h_2 free => exact tested.trans (moves_toVaneWait still free noLift)
  · exact tested

/-! ### Reports (R42, R45) -/

theorem moves_holdCell {s : State} {q : CellId} (may : (s.cell q).state = .seized ∧ s.grantTest q = true ∨
    (s.cell q).state = .clearing ∧ s.underLimit q.crane = true) : Moves s (s.holdCell q .keep) :=
  followUps_moves.follow (.of (.hold s q may))

/-- A change to SEIZED wakes neither the vane re-check nor the walk. -/
theorem convert_seized (s : State) {q : CellId} {o : OriginRule} (may : (s.cell q).state = .clearing ∨ (s.cell q).state = .free) :
    s.convert [⟨q, .seized, o⟩] = s.converted [⟨q, .seized, o⟩] := by
  have old : (s.cell q).state ≠ .seized := by rcases may with h | h <;> simp [h]
  have change : s.changesOf [⟨q, .seized, o⟩] = [⟨q, (s.cell q).state, .seized⟩] := by
    simp [State.changesOf, old]
  unfold State.convert State.converted
  rw [change]
  exact follow_quiet _ _ (by simp [Change.wakesVane]) (by simp [Change.wakesWalk, old])

theorem moves_seize {s : State} {q : CellId} (may : (s.cell q).state = .clearing ∨ (s.cell q).state = .free)
    (away : s.site ≠ .setup) : Moves s (s.seize q) := by
  unfold State.seize
  rw [convert_seized s may]
  exact .of (.seize s q may away)

theorem moves_checkOccupied {s : State} (away : s.site ≠ .setup) (q : CellId) : Moves s (s.checkOccupied q) := by
  unfold State.checkOccupied
  split
  case h_4 seized =>
    split
    · rename_i passes; exact moves_holdCell (.inl ⟨seized, passes⟩)
    · exact .refl s
  case h_5 clearing =>
    split
    · rename_i room; exact moves_holdCell (.inr ⟨clearing, room⟩)
    · exact moves_seize (.inl clearing) away
  case h_6 free => exact moves_seize (.inr free) away
  all_goals exact .refl s

theorem moves_checkLeft (s : State) (q : CellId) : Moves s (s.checkLeft q) := by
  unfold State.checkLeft
  split
  · rename_i left; exact moves_convert (.of (.clear s q (.inr left.1)))
  · exact .refl s

theorem site_checkOccupied (s : State) (q : CellId) : (s.checkOccupied q).site = s.site :=
  (touches_checkOccupied s q) .site (by decide)

theorem moves_checkPosition {s : State} (away : s.site ≠ .setup) (c : Crane) : Moves s (s.checkPosition c) := by
  have occupied : ∀ (l : List Sector) (t : State), t.site ≠ .setup →
      Moves t (l.foldl (fun s x => s.checkOccupied ⟨c, x⟩) t) := by
    intro l
    induction l with
    | nil => exact fun t _ => .refl t
    | cons x l ih => exact fun t h => (moves_checkOccupied h _).trans (ih _ (by rwa [site_checkOccupied]))
  unfold State.checkPosition
  exact Moves.foldl (g := fun u x => u.checkLeft ⟨c, x⟩) (fun u x => moves_checkLeft u ⟨c, x⟩) allSectors
    (occupied _ s away)

theorem moves_positionStage (s : State) (c : Crane) (angle : Nat) : Moves s (s.positionStage c angle) := by
  unfold State.positionStage
  dsimp only
  have formed : Moves s (s.setOccupied c (some (occupiedAt angle (s.entry c).margin))) := .of (.occupied s c _)
  have checked (away : s.site ≠ .setup) :
      Moves s ((s.setOccupied c (some (occupiedAt angle (s.entry c).margin))).checkPosition c) :=
    formed.trans (moves_checkPosition (by rwa [(touches_setOccupied s c _) .site (by decide)]) c)
  split
  · exact formed
  all_goals
    rename_i site
    exact checked (by simp [site])

theorem moves_loadDrop (s : State) (c : Crane) : Moves s (s.loadDrop c) := by
  unfold State.loadDrop
  dsimp only
  have left (xs : List Sector) : Moves s (s.setRestricted c xs) := .of (.restricted s c xs)
  split
  · exact ((left _).then (.withdraw _ _ c (by decide))).trans (moves_arbitrate _)
  · exact (left _).trans (moves_arbitrate _)

theorem moves_liftStage (s : State) (c : Crane) (load : Option Nat) (radius : Nat) :
    Moves s (s.liftStage c load radius) := by
  unfold State.liftStage
  split
  · exact .refl s
  have checked (v : Option Conformance) : Moves s (s.setLastConf c v) := .of (.lastConf s c v)
  split
  · exact (checked _).then (.withdraw _ _ c (by decide))
  · exact ((checked _).trans (moves_raiseFor (by decide) _ c)).then (.addReason _ c _)

theorem moves_acknowledge (s : State) (c : Crane) (k : Code) : Moves s (s.acknowledge c k) := .of (.link s c _)

/-- A rejoin's service stage: the record, and the test of a remembered vane release. -/
theorem moves_rejoinService {s t : State} {c : Crane} (h : Moves s (t.rejoinedService c)) :
    Moves s (t.rejoinService c) := by
  unfold State.rejoinedService at h
  unfold State.rejoinService
  dsimp only at h ⊢
  split
  · rename_i lost
    rw [if_pos lost] at h
    split
    · rename_i waiting
      exact h.trans (followUps_moves.testVane (by rw [inState_setSvc]; simp [waiting]))
    · exact h
  · rename_i notLost
    rwa [if_neg notLost] at h

theorem svc_recordReport (s : State) (c : Crane) (r : Report) (n : Nat) (d : Crane) :
    (s.recordReport c r n).svc d = s.svc d := rfl

/-- A vane release and its test leave the LOST marks, so a crane that rejoins is no longer LOST. -/
theorem lost_rejoinService (s : State) (c : Crane) : ((s.rejoinService c).svc c).lost = false := by
  unfold State.rejoinService
  dsimp only
  have set (r : ServiceRec) (h : r.lost = false) : ((s.setSvc c r).svc c).lost = false := by
    rw [svc_setSvc, if_pos rfl, h]
  split
  · split
    · exact (lost_testVane _ c c).trans (set _ rfl)
    · exact set _ rfl
  · rename_i notLost
    have here : (s.svc c).lost = false := by simpa using notLost
    split
    · split <;> exact set _ here
    · exact here

theorem moves_windLost {s : State} {c : Crane} (lost : (s.svc c).lost = true) : Moves s (s.windLost c) := by
  unfold State.windLost
  exact (Moves.of (.windUnknown s c lost)).trans (moves_windConditions _ c)

theorem lost_lostRecords (s : State) (c : Crane) : ((s.lostRecords c).svc c).lost = true := by
  unfold State.lostRecords
  dsimp only
  generalize s.setCrane c _ = t
  have later : Touches [.links, .waits, .alerts, .bookings] (t.setSvc c { t.svc c with lost := true })
      (((t.setSvc c { t.svc c with lost := true }).denyCrane c .lost).addReasonTo c .lost) :=
    ((touches_denyCrane _ _ _).within rfl).step (touches_addReasonTo _ _ _) (by decide)
  rw [State.svc, later .service (by decide)]
  show ((t.setSvc c { t.svc c with lost := true }).svc c).lost = true
  rw [svc_setSvc, if_pos rfl]

theorem moves_becomeLost {s : State} {c : Crane} (here : (s.craneRec c).presence = .present) :
    Moves s (s.becomeLost c) := by
  have lost : Moves s (s.lostRecords c) := .of (.lost s c here)
  exact (lost.trans (moves_windLost (lost_lostRecords s c))).trans (moves_raiseFor (k := .craneLost) (by decide) _ c)

end Sys2Proof.Machine
end

section
/-!
PROOF. The device's ENTER, RELEASE and END_LIFT and the events of the clock as chains of operations on records.
-/
namespace Sys2Proof.Machine

/-! ### ENTER, RELEASE and the end of a lift -/

theorem moves_enterCell {s : State} {q : CellId} (here : (s.craneRec q.crane).presence = .present)
    (check : s.enterCheck q.crane = none) (new : s.waitFor q.crane q.sector = none) : Moves s (s.enterCell q).1 := by
  unfold State.enterCell
  split
  · exact .refl s
  rename_i full
  have room : s.underLimit q.crane = true := by simpa using full
  split
  · exact .refl s
  have taken : ∀ o, (s.cell q).state ≠ .clearing →
      Moves s (if (!s.blocked q && !s.reserved q) = true then (s.convert [⟨q, .held, o⟩], Code.ok)
        else if s.waitsFull q.crane = true then (s, Code.full) else (s.appendWait q.crane q.sector, Code.queued)).1 := by
    intro o _
    split
    · rename_i may
      exact moves_convert (.of (.enter s q o here check room (.inr (by simpa using may))))
    split
    · exact .refl s
    · rename_i notFull
      exact .of (.append s _ _ here check new (by simpa using notFull))
  split
  case h_1 clearing => exact moves_convert (.of (.enter s q _ here check room (.inl clearing)))
  case h_2 => exact .refl s
  all_goals
    rename_i state
    exact taken _ (by simp [state])

theorem moves_enterPassed {s : State} {q : CellId} (here : (s.craneRec q.crane).presence = .present)
    (check : s.enterCheck q.crane = none) : Moves s (s.enterPassed q).1 := by
  unfold State.enterPassed
  split
  · exact .refl s
  split
  · exact .refl s
  rename_i fresh
  have new : s.waitFor q.crane q.sector = none := by simpa using fresh
  have taken := moves_enterCell here check new
  split
  · split
    · exact .refl s
    · dsimp only
      split
      · exact taken.trans (moves_raiseFor (by decide) _ _)
      · exact taken
  · exact taken

theorem moves_enterZone {s : State} {c : Crane} (here : (s.craneRec c).presence = .present) (n : Nat) :
    Moves s (enterZone c n s).1 := by
  unfold enterZone
  split
  · exact .refl s
  split
  · exact .refl s
  · rename_i check
    exact moves_enterPassed (q := ⟨c, _⟩) here check

theorem moves_releaseZone (s : State) (c : Crane) (n : Nat) : Moves s (releaseZone c n s).1 := by
  unfold releaseZone
  split
  · exact .refl s
  split
  · exact (moves_dropWait s c _).trans (moves_reviewOffPath _ c)
  split
  case h_1 held =>
    split
    · exact .refl s
    · exact moves_convert (.of (.clear s _ (.inl held)))
  all_goals exact .refl s

theorem moves_endLift (s : State) (b : Booking) : Moves s (s.endLift b) := by
  have freed : Moves s (s.freeLift b.id) := .of (.free s b.id)
  have conf : Moves s ((s.freeLift b.id).setLastConf b.crane none) := freed.then (.lastConf _ b.crane none)
  have withdrawn := (conf.then (.withdraw _ .nonconform b.crane (by decide))).then
    (.withdraw _ .overrun b.crane (by decide))
  unfold State.endLift
  dsimp only
  exact (withdrawn.trans (moves_reviewOffPath _ b.crane)).trans (moves_arbitrate _)

theorem moves_endRunning (s : State) (n : Nat) (q : Requester) (id : Nat) : Moves s (endRunning n q id s).1 := by
  unfold endRunning
  split
  · exact .refl s
  split
  · exact .refl s
  split
  · dsimp only
    exact moves_endLift s _
  · exact .refl s

/-! ### The minute event -/

theorem findLift_self {s : State} {id : Nat} {b : Booking} (h : s.findLift id = some b) : s.findLift b.id = some b := by
  have same : b.id = id := by simpa using List.find?_some h
  rw [same, h]

theorem moves_testOverrun (s : State) (n id : Nat) : Moves s (s.testOverrun n id) := by
  unfold State.testOverrun
  split
  · exact .refl s
  rename_i b found
  split
  case isFalse => exact .refl s
  have marked : Moves s (if b.data.passed n = true then s.putLift { b with overrun := true } else s) := by
    split
    · exact .of (.overrun s b (findLift_self found))
    · exact .refl s
  dsimp only
  generalize (if b.data.passed n = true then s.putLift { b with overrun := true } else s) = t at marked
  split
  · exact marked.trans (moves_raiseFor (k := .overrun) (by decide) _ b.crane)
  · exact marked

theorem moves_formRestricted (s : State) (n : Nat) (c : Crane) : Moves s (s.formRestricted n c) := by
  unfold State.formRestricted
  dsimp only
  have formed (xs : List Sector) : Moves s (s.setRestricted c xs) := .of (.restricted s c xs)
  have raised (xs : List Sector) : Moves s ((s.setRestricted c xs).raiseFor .restricted c) :=
    (formed xs).trans (moves_raiseFor (k := .restricted) (by decide) _ c)
  split <;> split
  · exact (raised _).then (.withdraw _ .restricted c (by decide))
  · exact (formed _).then (.withdraw _ .restricted c (by decide))
  · exact raised _
  · exact formed _

theorem moves_bookingMinute (s : State) (n : Nat) : Moves s (s.bookingMinute n) := by
  unfold State.bookingMinute
  dsimp only
  refine Moves.foldl (fun u id => moves_testOverrun u n id) _ ?_
  exact Moves.foldl (fun u id => .of (.booked u n id)) _ (.refl s)

theorem moves_zoneMinute (s : State) (n : Nat) : Moves s (s.zoneMinute n) := by
  unfold State.zoneMinute
  exact Moves.foldl (fun u c => moves_formRestricted u n c) _ (.refl s)

theorem moves_minuteEvent (s : State) (n : Nat) : Moves s (s.minuteEvent n) :=
  (moves_bookingMinute s n).trans (moves_zoneMinute _ n)

theorem moves_moveTime (s : State) (t : Nat) : Moves s (s.moveTime t) := by
  unfold State.moveTime
  dsimp only
  have moved : Moves s (s.withClock { s.clock with site := t }) := .of (.clock s _)
  split
  · exact moved
  · exact moved.trans (moves_minuteEvent _ _)

theorem moves_setClock (s : State) (t : Nat) : Moves s (setClock t s).1 := by
  unfold setClock
  split
  · exact .refl s
  · exact (Moves.of (.clock s _)).trans (moves_moveTime _ t)

theorem moves_passSecond (s : State) : Moves s s.passSecond := by
  unfold State.passSecond
  dsimp only
  have passed : Moves s (s.withClock { s.clock with boundary := s.clock.boundary + 1000 }) := .of (.clock s _)
  split
  · exact passed.trans (moves_moveTime _ _)
  · exact passed

end Sys2Proof.Machine
end

section
/-!
PROOF. The commands on the plan and the alerts as chains of operations on records; the wind stage and the changes of the site state
as chains of turns; and every block's operation as a chain of moves and of whole changes of the site state (`Passage`).
-/
namespace Sys2Proof.Machine

/-! ### The supervisor's commands on a crane, alerts and the plan -/

theorem moves_forceCells (s : State) (n m : Nat) : Moves s (forceCells n m s).1 := by
  unfold forceCells
  split
  · exact .refl s
  dsimp only
  split
  · exact .refl s
  split
  · exact .refl s
  · rename_i away
    exact moves_convert (.of (.force s _ _ (by simpa using away)))

theorem moves_stopTheCrane (s : State) (n : Nat) : Moves s (stopTheCrane n s).1 := by
  unfold stopTheCrane
  split
  · exact .refl s
  split
  · exact .refl s
  · exact .of (.stop s _ _)

theorem moves_clearTheStops (s : State) (n m : Nat) : Moves s (clearTheStops n m s).1 := by
  unfold clearTheStops
  split
  · split
    · exact .refl s
    · exact .of (.unstop s _ _)
  · exact .refl s

theorem moves_clearTheAlerts (s : State) (ks : List Nat) : Moves s (clearTheAlerts ks s).1 := by
  unfold clearTheAlerts
  split
  · exact .refl s
  · exact (Moves.foldl (fun u k => .of (.clearKind u k)) _ (.refl s)).then (.lines _ _)

theorem moves_handModeStops (s : State) : Moves s s.handModeStops :=
  Moves.foldl (fun t k => Moves.foldl (fun u c => moves_stopAction u k (some c)) _ (.refl t)) _ (.refl s)

theorem PlanStore.keepsCommitted_of_image {p v : PlanStore} (committed : v.committed = p.committed)
    (image : v.image = none ∨ v.image = p.image) : p.KeepsCommitted v := by
  refine ⟨committed, fun k hk => .inr ?_⟩
  rcases image with h | h
  · exact nomatch h.symm.trans hk
  · exact h ▸ hk

theorem moves_beginWrite (s : State) : Moves s s.beginWrite :=
  .of (.store s _ (PlanStore.keepsCommitted_of_image rfl (.inl rfl)))

/-- What a commit that is not refused has found (R15). -/
theorem commitRefusal_eq_none {s : State} {p : Bool} (h : s.commitRefusal p = none) :
    s.site = .setup ∧ s.bookings = [] ∧ validate s.plan.staging = none := by
  unfold State.commitRefusal at h
  split at h
  · simp at h
  rename_i setup
  split at h
  · simp at h
  split at h
  · simp at h
  split at h
  · simp at h
  rename_i noLifts
  exact ⟨by simpa using setup, by simpa using noLifts, by simpa using h⟩

theorem moves_commit {s : State} (setup : s.site = .setup) (noLifts : s.bookings = [])
    (valid : validate s.plan.staging = none) : Moves s s.commit := by
  have adopted : Moves s (allCranes.foldl (State.followPresence s.plan.committed) s.adoptPlan) :=
    .of (.adopt s setup noLifts valid)
  have modes : Moves s (allCranes.foldl (State.followPresence s.plan.committed) s.adoptPlan).writeModes :=
    adopted.then (.modes _)
  unfold State.commit State.applyModes
  exact ((modes.then (.lines _ _)).trans (moves_handModeStops _)).trans (moves_beginWrite _)

theorem moves_commitPlan (s : State) (p : Bool) : Moves s (commitPlan p s).1 := by
  have sampled : Moves s (s.withPins { s.pins with protect := p }) := .of (.pins s _)
  unfold commitPlan
  dsimp only
  generalize s.withPins { s.pins with protect := p } = t at sampled
  split
  · exact sampled
  rename_i passes
  dsimp only
  obtain ⟨setup, noLifts, valid⟩ := commitRefusal_eq_none passes
  exact sampled.trans (moves_commit setup noLifts valid)

theorem moves_cutWrite (s : State) : Moves s s.cutWrite := by
  unfold State.cutWrite
  split
  · exact .of (.store s _ (PlanStore.keepsCommitted_of_image rfl (.inl rfl)))
  · exact .refl s

theorem moves_halt (s : State) (p : Power) : Moves s (s.halt p) :=
  ((((moves_cutWrite s).then (.pins _ _)).then (.lines _ _)).then (.port _ _)).then (.links _ _)

theorem moves_endWrite (s : State) (good : Bool) : Moves s (s.endWrite good) := by
  unfold State.endWrite
  split
  · have stored : s.plan.KeepsCommitted
        { s.plan with
          condition := .good, write := none, image := some ⟨s.plan.committed, s.plan.edition, s.plan.stamp⟩ } := by
      refine ⟨rfl, fun k hk => .inl ?_⟩
      cases hk
      rfl
    exact (Moves.of (.store s _ stored)).then (.withdrawSite _ _)
  · have failed : Moves s (s.withPlan { s.plan with condition := .fault, write := none, image := none }) :=
      .of (.store s _ (PlanStore.keepsCommitted_of_image rfl (.inl rfl)))
    exact failed.trans (moves_raise (k := .planFault) (by decide) _ none)

theorem moves_raiseSiteStop (s : State) : Moves s s.raiseSiteStop :=
  Moves.foldl (fun u c => .of (.stop u c _)) _ (moves_raise (by decide) s none)

theorem moves_startRaisings (s : State) : Moves s s.startRaisings := by
  unfold State.startRaisings
  dsimp only
  have faulted : Moves s (s.raise .planFault none) := moves_raise (by decide) s none
  cases s.plan.condition with
  | good =>
    dsimp only
    split
    · exact moves_raiseSiteStop s
    · exact .refl s
  | fault =>
    dsimp only
    split
    · exact faulted.trans (moves_raiseSiteStop _)
    · exact faulted

theorem moves_expireTimer (s : State) (c : Crane) : Moves s (s.expireTimer c) := by
  have raised := moves_raiseFor (k := .secureOverdue) (by decide) s c
  unfold State.expireTimer
  dsimp only
  split
  · exact raised.then (.timer _ c)
  · exact raised.then (.timer _ c)
  all_goals exact .of (.timer s c)

theorem moves_completeDwell (s : State) (c : Crane) : Moves s (s.completeDwell c) := by
  unfold State.completeDwell
  split
  · rename_i d runs
    exact (Moves.of (.dwell s c d runs)).trans (moves_windConditions _ c)
  · exact .refl s

theorem moves_turnSiren (s : State) : Moves s s.turnSiren := by
  unfold State.turnSiren
  split
  · exact .of (.lines s _)
  · exact .refl s

/-! ### Entry to securing, and the wind stage -/

/-- The relation of turns passes the follow-ups. -/
theorem followUps_turns : FollowUps Turns where
  refl := Turns.refl
  trans := Turns.trans
  walk s := (moves_walk s).turns
  resume s c withheld := .of (.move (.resume s c withheld))
  release s c waits permitted := .of (.move (.release s c waits permitted))

theorem turns_convert {s t : State} {rs : List CellReq} (h : Turns s (t.converted rs)) : Turns s (t.convert rs) :=
  followUps_turns.follow h

theorem turns_enterSecuring (s : State) (c : Crane) : Turns s (s.enterSecuring c) := by
  unfold State.enterSecuring
  dsimp only
  split
  case h_1 working => exact .of (.secure s c working)
  case h_2 out =>
    split
    case isFalse => exact .refl s
    rename_i withheld
    split
    case h_2 parked => exact .of (.parkOrder s c out withheld parked)
    rename_i free
    have waits : Turns s (s.withheldToVaneWait c) := .of (.withheldToVaneWait s c out withheld free)
    split
    · exact waits
    · rename_i here
      refine waits.trans (followUps_turns.testVane ?_)
      rw [State.withheldToVaneWait, inState_eq_of_service ((touches_denyCrane _ _ _) .service (by decide)), inState_setSvc]
      simpa using here
  all_goals exact .refl s

theorem turns_enterSecuringAll (s : State) : Turns s s.enterSecuringAll :=
  Turns.foldl turns_enterSecuring allCranes (.refl s)

theorem turns_reportStorm (s : State) (c : Crane) : Turns s (s.reportStorm c) := by
  have raised : Turns s (s.raiseFor .storm c) := (moves_raiseFor (by decide) s c).turns
  unfold State.reportStorm
  split
  case h_1 opened => exact (Turns.of (.storm s c opened)).trans (turns_enterSecuringAll _)
  all_goals exact raised

theorem turns_windStage (s : State) (c : Crane) (wind : Option Nat) : Turns s (s.windStage c wind) := by
  unfold State.windStage
  dsimp only
  have sampled (r : WindRec) : Turns s ((s.setWind c r).windConditions c) :=
    (Turns.of (.windSample s c r)).trans (moves_windConditions _ c).turns
  split
  · exact ((sampled _).trans (turns_reportStorm _ c)).then (.verdict _ c)
  · exact (sampled _).then (.verdict _ c)

/-! ### The site -/

/-- The follow-ups move cranes OUT_OF_SERVICE and VANE_WAIT alone. -/
def KeepsStandby (s t : State) : Prop := ∀ c, s.inState c .standby = true → t.inState c .standby = true

theorem framedStandby : Framed KeepsStandby [.service] where
  trans h k := fun c hc => k c (h c hc)
  same h := fun c hc => (inState_eq_of_service (h .service (by decide)) c _).trans hc

theorem keepsStandby_setSvc {s : State} {c : Crane} (h : s.inState c .standby = false) (r : ServiceRec) :
    KeepsStandby s (s.setSvc c r) := by
  intro d hd
  have other : c ≠ d := fun e => Bool.noConfusion (h.symm.trans (e ▸ hd))
  unfold State.inState at hd ⊢
  rwa [svc_setSvc, if_neg other]

theorem keepsStandby_outOfService {s : State} {c : Crane} (h : s.inState c .standby = false) (o : Order) (w : Bool) :
    KeepsStandby s (s.outOfService c o w) :=
  framedStandby.frame (touches_withdraw _ _ _) rfl (framedStandby.frame (touches_denyCrane _ _ _) rfl
    (keepsStandby_setSvc h _))

theorem keepsStandby_toService {s : State} {c : Crane} (h : s.inState c .standby = false) :
    KeepsStandby s (s.toService c) :=
  framedStandby.frame (touches_withdraw _ _ _) rfl (keepsStandby_setSvc h _)

theorem not_standby_of_inState {s : State} {c : Crane} {st : SvcState} (h : s.inState c st = true) (other : st ≠ .standby) :
    s.inState c .standby = false := by
  unfold State.inState at h ⊢
  rw [Bool.and_eq_true, decide_eq_true_eq] at h
  simp [h.2, other]

theorem followUps_standby : FollowUps KeepsStandby where
  refl := framedStandby.refl
  trans := framedStandby.trans
  walk s := framedStandby.of (touches_walk s) rfl
  resume s c withheld := by
    rw [State.isWithheld, Bool.and_eq_true] at withheld
    have changed : KeepsStandby s (s.changeCells (s.resumeReqs c)) := framedStandby.of (touches_changeCells _ _) rfl
    have notStandby : (s.changeCells (s.resumeReqs c)).inState c .standby = false := by
      rw [inState_eq_of_service ((touches_changeCells _ _) .service (by decide))]
      exact not_standby_of_inState withheld.1 (by decide)
    refine framedStandby.frame (touches_ownAndSeized _ _) rfl ?_
    unfold State.resumeChange
    dsimp only
    split
    · exact framedStandby.trans changed (keepsStandby_toService notStandby)
    · exact framedStandby.trans changed (keepsStandby_outOfService notStandby _ _)
  release s c waits _ := by
    have changed : KeepsStandby s (s.changeCells (vaneReqs c)) := framedStandby.of (touches_changeCells _ _) rfl
    have notStandby : (s.changeCells (vaneReqs c)).inState c .standby = false := by
      rw [inState_eq_of_service ((touches_changeCells _ _) .service (by decide))]
      exact not_standby_of_inState waits (by decide)
    exact framedStandby.frame (touches_ownAndSeized _ _) rfl
      (framedStandby.trans changed (keepsStandby_outOfService notStandby _ _))

theorem presentCranes_eq_of_plan {s t : State} (h : t.plan = s.plan) : t.presentCranes = s.presentCranes := by
  unfold State.presentCranes State.present State.entry
  rw [h]

/-- A check of every present crane that passes. -/
theorem requireAll_eq_none {s : State} {ok : Crane → Bool} {k : Code} :
    s.requireAll ok k = none ↔ ∀ c ∈ s.presentCranes, ok c = true := by
  simp [State.requireAll, State.firstFailing]

theorem firstRefusal_eq_none {l : List (Option Answer)} : firstRefusal l = none ↔ ∀ a ∈ l, a = none := by
  simp [firstRefusal]

/-- At an opening every present crane is STANDBY. -/
theorem standby_of_openCheck {s : State} (h : s.openCheck = none) : ∀ c ∈ s.presentCranes, s.inState c .standby = true :=
  requireAll_eq_none.mp (firstRefusal_eq_none.mp h (s.requireAll (fun c => s.inState c .standby) .badState) (by simp))

theorem turns_openFromSetup {s : State} (setup : s.site = .setup) (check : s.openCheck = none) :
    Turns s s.openFromSetup := by
  have calmed : Turns s (s.withdrawSite .storm) := .of (.move (.withdrawSite s .storm))
  have standby : ∀ c ∈ (s.withdrawSite .storm).presentCranes, (s.withdrawSite .storm).inState c .standby = true :=
    standby_of_openCheck check
  have setup' : (s.withdrawSite .storm).site = .setup := setup
  have check' : (s.withdrawSite .storm).openCheck = none := check
  unfold State.openFromSetup
  dsimp only
  generalize s.withdrawSite .storm = t at calmed standby setup' check'
  have seeded : Turns s (t.convert t.seedReqs) := calmed.trans (turns_convert (.of (.seed t setup' check')))
  have frame := touches_convert t t.seedReqs
  have still : ∀ c ∈ (t.convert t.seedReqs).presentCranes, (t.convert t.seedReqs).inState c .standby = true := by
    rw [presentCranes_eq_of_plan (frame .plan (by decide))]
    have kept : KeepsStandby t (t.convert t.seedReqs) :=
      followUps_standby.follow (framedStandby.of (touches_converted t _) rfl)
    exact fun c hc => kept c (standby c hc)
  have site : (t.convert t.seedReqs).site = .setup := by rw [frame .site (by decide), setup']
  exact (seeded.then (.startServices _ site still)).then (.site _ .opened (.inl rfl))

theorem turns_bringBack (s : State) : Turns s s.bringBack := by
  unfold State.bringBack
  have returned : ∀ (u : State) (c : Crane), Turns u (u.returnCrane c) := by
    intro u c
    unfold State.returnCrane
    split
    · rename_i back
      exact .of (.toService u c (by simpa using back))
    · exact .refl u
  have converted : ∀ (u : State) (c : Crane), Turns u (u.convertCrane c) := by
    intro u c
    unfold State.convertCrane
    split
    · rename_i out
      exact followUps_turns.resumeCrane (.of (.convert u c (by simpa using out)))
    · exact .refl u
  exact Turns.foldl converted allCranes (Turns.foldl returned allCranes (.refl s))

theorem turns_reopen (s : State) : Turns s s.reopen :=
  ((Turns.of (.move (.withdrawSite s .storm))).trans (turns_bringBack _)).then (.site _ .opened (.inl rfl))

theorem turns_resumeFromStorm (s : State) : Turns s s.resumeFromStorm :=
  ((Turns.of (.move (.withdrawSite s .storm))).trans (turns_bringBack _)).then (.calm _)

theorem turns_close {s : State} (noLift : s.bookings.any Booking.running = false) : Turns s s.close := by
  have secured : Turns s s.enterSecuringAll := turns_enterSecuringAll s
  have still : s.enterSecuringAll.bookings.any Booking.running = false := by
    rw [(touches_enterSecuringAll s) .bookings (by decide)]
    exact noLift
  unfold State.close
  dsimp only
  exact (secured.then (.site _ .closed (.inr (.inl ⟨rfl, still⟩)))).trans (moves_denyWaits _ _ _).turns

/-! ### The return to SETUP (R129) -/

/-- Freeing every record of a table leaves none. -/
theorem cancelAll_bookings (s : State) : s.cancelAll.bookings = [] := by
  have freed : ∀ (l : List Booking) (t : State), (∀ b ∈ t.bookings, ∃ a ∈ l, a.id = b.id) →
      (l.foldl (fun t b => (t.freeLift b.id).notifyLift b .cancelledBySupervisor []) t).bookings = [] := by
    intro l
    induction l with
    | nil => exact fun t h => List.eq_nil_iff_forall_not_mem.mpr fun b hb => by simpa using h b hb
    | cons a l ih =>
      intro t h
      refine ih _ (fun b hb => ?_)
      rw [(touches_notifyLift _ _ _ _) .bookings (by decide)] at hb
      obtain ⟨hb, other⟩ := List.mem_filter.mp hb
      obtain ⟨a', ha', same⟩ := h b hb
      rcases List.mem_cons.mp ha' with rfl | ha'
      · simp [same] at other
      · exact ⟨a', ha', same⟩
  exact freed s.bookings s (fun b hb => ⟨b, hb, rfl⟩)

theorem moves_cancelAll (s : State) : Moves s s.cancelAll := by
  unfold State.cancelAll
  exact Moves.foldl (fun u (b : Booking) => (Moves.of (.free u b.id)).trans (moves_notify _ b.crane _)) _ (.refl s)

/-- Denying every entry leaves none. -/
theorem denyWaits_all (s : State) (why : DenyReason) : (s.denyWaits (fun _ => true) why).waits = [] := by
  have emptied : ∀ (l : List Wait) (t : State), t.waits = [] →
      (l.foldl (fun s w => (s.notify w.crane (.deny w.sector why)).reviewOffPath w.crane) t).waits = [] := by
    intro l
    induction l with
    | nil => exact fun t h => h
    | cons w l ih =>
      intro t h
      refine ih _ ?_
      rw [(touches_reviewOffPath _ _) .waits (by decide), (touches_notify _ _ _) .waits (by decide)]
      exact h
  exact emptied _ _ (by simp)

theorem requireAll_maySetUp_of_same {s t : State} (plan : t.plan = s.plan) (service : t.service = s.service) :
    t.requireAll t.maySetUp .badState = s.requireAll s.maySetUp .badState := by
  have same : t.maySetUp = s.maySetUp := by
    funext c
    unfold State.maySetUp
    rw [inState_eq_of_service service, inState_eq_of_service service]
  unfold State.requireAll State.firstFailing
  rw [presentCranes_eq_of_plan plan, same]

theorem turns_setupReset {s : State} (closed : s.site = .closed) (out : s.requireAll s.maySetUp .badState = none)
    (noWaits : s.waits = []) (noLifts : s.bookings = []) : Turns s s.setupReset := by
  have reset : Turns s (s.freeAllCells.follow (s.changesOf setupReqs)) :=
    followUps_turns.follow (.of (.freeAll s closed out noWaits noLifts))
  have withdrawn : ∀ (u : State) (c : Crane), Moves u ((u.withdraw .restricted c).withdraw .offPath c) :=
    fun u c => (Moves.of (.withdraw u .restricted c (by decide))).then (.withdraw _ .offPath c (by decide))
  unfold State.setupReset
  dsimp only
  exact (reset.then (.move (.allRestricted _ _))).trans (Moves.foldl withdrawn allCranes (.refl _)).turns

theorem turns_toSetup {s : State} (closed : s.site = .closed) (out : s.requireAll s.maySetUp .badState = none) :
    Turns s s.toSetup := by
  have cancelled := ((moves_cancelAll s).trans (moves_denyWaits s.cancelAll (fun _ => true) .service)).turns
  have noWaits := denyWaits_all s.cancelAll .service
  have frame : Touches [.links, .bookings, .waits, .alerts] s (s.cancelAll.denyWaits (fun _ => true) .service) :=
    ((touches_cancelAll s).within rfl).step (touches_denyWaits _ _ _) (by decide)
  have noLifts : (s.cancelAll.denyWaits (fun _ => true) .service).bookings = [] := by
    rw [(touches_denyWaits _ _ _) .bookings (by decide)]
    exact cancelAll_bookings s
  have closed' : (s.cancelAll.denyWaits (fun _ => true) .service).site = .closed := by
    rw [frame .site (by decide), closed]
  have out' := (requireAll_maySetUp_of_same (frame .plan (by decide)) (frame .service (by decide))).trans out
  unfold State.toSetup
  dsimp only
  generalize s.cancelAll.denyWaits (fun _ => true) .service = t at cancelled noWaits noLifts closed' out'
  have reset := cancelled.trans (turns_setupReset closed' out' noWaits noLifts)
  have stillNoWaits : t.setupReset.waits = [] := List.sublist_nil.mp (noWaits ▸ waits_setupReset t)
  have stillNoLifts : t.setupReset.bookings = [] := by rw [(touches_setupReset t) .bookings (by decide), noLifts]
  refine (reset.then (.standbys _ stillNoWaits stillNoLifts)).then (.site _ .setup (.inr (.inr ⟨rfl, ?_⟩)))
  have stood : Touches [.service] t.setupReset (allCranes.foldl State.toStandby t.setupReset) :=
    (Touches.refl _ _).fold _ _ (fun u c => touches_toStandby u c)
  rw [stood .bookings (by decide), stillNoLifts]

/-! ### Whole changes of the site state -/

/-- One operation as a block makes it between states in which the laws of the service records hold: an operation on records, the
wind stage, or a whole change of the site state. -/
inductive Passage : List Part → State → State → Prop where
  | move {qs : List Part} {s t : State} (h : Move qs s t) : Passage qs s t
  | windStage (s : State) (c : Crane) (w : Option Nat) :
      Passage [.links, .cells, .waits, .restricted, .stops, .register, .wind, .site, .service, .bookings, .alerts, .lines]
        s (s.windStage c w)
  | openFromSetup (s : State) (setup : s.site = .setup) (check : s.openCheck = none) :
      Passage [.links, .cells, .waits, .restricted, .register, .site, .service, .alerts] s s.openFromSetup
  | reopen (s : State) (closed : s.site = .closed) (check : s.reopenCheck = none) :
      Passage [.links, .cells, .waits, .restricted, .register, .site, .service, .alerts] s s.reopen
  | resumeFromStorm (s : State) (storm : s.site = .storm) (check : s.resumeCheck = none) :
      Passage [.links, .cells, .waits, .restricted, .register, .site, .service, .bookings, .alerts] s s.resumeFromStorm
  | close (s : State) (working : s.site = .opened ∨ s.site = .storm) (noLift : s.bookings.any Booking.running = false) :
      Passage [.links, .cells, .waits, .restricted, .register, .site, .service, .alerts] s s.close
  | toSetup (s : State) (closed : s.site = .closed) (out : s.requireAll s.maySetUp .badState = none) :
      Passage [.links, .cells, .waits, .restricted, .register, .site, .service, .bookings, .alerts] s s.toSetup

theorem Passage.touches {qs : List Part} {s t : State} (h : Passage qs s t) : Touches qs s t := by
  cases h with
  | move h => exact h.touches
  | windStage s c w => exact touches_windStage s c w
  | openFromSetup s => exact touches_openFromSetup s
  | reopen s => exact touches_reopen s
  | resumeFromStorm s => exact touches_resumeFromStorm s
  | close s => exact touches_close s
  | toSetup s => exact touches_toSetup s

theorem Passage.turns {qs : List Part} {s t : State} (h : Passage qs s t) : Turns s t := by
  cases h with
  | move h => exact .of (.move h)
  | windStage s c w => exact turns_windStage s c w
  | openFromSetup s setup check => exact turns_openFromSetup setup check
  | reopen s => exact turns_reopen s
  | resumeFromStorm s => exact turns_resumeFromStorm s
  | close s _ noLift => exact turns_close noLift
  | toSetup s closed out => exact turns_toSetup closed out

/-- A chain of passages leads from `s` to `t`. -/
def Passages : State → State → Prop := Chain (fun s t => ∃ qs, Passage qs s t)

theorem Passages.refl (s : State) : Passages s s := Chain.refl

theorem Passages.of {qs : List Part} {s t : State} (h : Passage qs s t) : Passages s t := .single ⟨qs, h⟩

theorem Passages.trans {s t u : State} (h : Passages s t) (k : Passages t u) : Passages s u :=
  Chain.trans h k

theorem Passages.then {qs : List Part} {s t u : State} (h : Passages s t) (k : Passage qs t u) : Passages s u :=
  h.tail ⟨qs, k⟩

theorem Moves.passages {s t : State} (h : Moves s t) : Passages s t := by
  induction h with
  | refl => exact .refl s
  | tail _ last ih =>
    obtain ⟨_, move⟩ := last
    exact ih.then (.move move)

theorem Passages.turns {s t : State} (h : Passages s t) : Turns s t := by
  induction h with
  | refl => exact .refl s
  | tail _ last ih =>
    obtain ⟨_, passage⟩ := last
    exact ih.trans passage.turns

theorem passages_openTheSite (s : State) : Passages s (openTheSite s).1 := by
  unfold openTheSite
  split
  case h_1 setup =>
    split
    · exact .refl s
    · rename_i check; exact .of (.openFromSetup s setup check)
  case h_2 closed =>
    split
    · exact .refl s
    · rename_i check; exact .of (.reopen s closed check)
  all_goals exact .refl s

theorem passages_resumeTheSite (s : State) : Passages s (resumeTheSite s).1 := by
  unfold resumeTheSite
  split
  case h_1 storm =>
    split
    · exact .refl s
    · rename_i check; exact .of (.resumeFromStorm s storm check)
  all_goals exact .refl s

theorem passages_closeTheSite (s : State) : Passages s (closeTheSite s).1 := by
  unfold closeTheSite
  split
  case h_1 | h_2 => exact .refl s
  case h_3 working =>
    split
    · exact .refl s
    · rename_i noLift
      dsimp only
      exact .of (.close s (.inl working) (eq_false_of_ne_true noLift))
  case h_4 working =>
    split
    · exact .refl s
    · rename_i noLift
      dsimp only
      exact .of (.close s (.inr working) (eq_false_of_ne_true noLift))

theorem passages_returnSiteToSetup (s : State) : Passages s (returnSiteToSetup s).1 := by
  unfold returnSiteToSetup
  split
  case h_1 closed =>
    split
    · exact .refl s
    · rename_i out; exact .of (.toSetup s closed out)
  all_goals exact .refl s

/-! ### The delivery of a report (R42, R45) -/

/-- The delivery of a report's contents; a rejoining crane is no longer LOST. -/
theorem passages_deliver {s : State} {c : Crane} {rejoining : Bool} (back : rejoining = true → (s.svc c).lost = false)
    (r : Report) (wasZero : Bool) : Passages s (s.deliver c r rejoining wasZero) := by
  unfold State.deliver
  dsimp only
  generalize contentsOf r (s.entry c).reach = k
  have positioned := moves_positionStage s c k.angle
  have here : rejoining = true → ((s.positionStage c k.angle).svc c).lost = false :=
    fun h => (lost_positionStage s c k.angle c).trans (back h)
  generalize s.positionStage c k.angle = t at positioned here
  have dropped : ∃ u, (if (!wasZero && decide (k.load = some 0)) = true then t.loadDrop c else t) = u ∧ Moves s u ∧
      (rejoining = true → (u.svc c).lost = false) := by
    split
    · exact ⟨_, rfl, positioned.trans (moves_loadDrop t c), fun h => (lost_loadDrop t c c).trans (here h)⟩
    · exact ⟨_, rfl, positioned, here⟩
  obtain ⟨u, eq, delivered, stillHere⟩ := dropped
  rw [eq]
  have winded : Passages s (u.windStage c k.wind) := delivered.passages.then (.windStage u c k.wind)
  refine Passages.trans (Passages.trans ?_ (moves_liftStage _ c k.load k.radius).passages)
    (moves_securingStage _ c).passages
  split
  · rename_i rejoins
    exact winded.then (.move (.removeLost _ c ((lost_windStage u c k.wind c).trans (stillHere rejoins))))
  · exact winded

theorem passages_acceptStatus {s : State} {c : Crane} (inPlan : s.present c = true)
    (here : (s.craneRec c).presence = .present) (r : Report) : Passages s (s.acceptStatus c r) := by
  unfold State.acceptStatus
  dsimp only
  have recorded : Moves s (s.recordReport c r (s.craneRec c).noReading) := .of (.report s c r _ inPlan here)
  refine Passages.trans (Passages.trans ?_ (passages_deliver (rejoining := false) nofun r _)) (moves_acknowledge _ c _).passages
  split
  · exact (recorded.trans (moves_raiseFor (by decide) _ c)).passages
  · exact (recorded.then (.withdraw _ _ c (by decide))).passages

theorem passages_acceptRejoin {s : State} {c : Crane} (inPlan : s.present c = true)
    (away : (s.craneRec c).presence ≠ .present) (r : Report) : Passages s (s.acceptRejoin c r) := by
  unfold State.acceptRejoin
  dsimp only
  have rejoined := moves_rejoinService (.of (.rejoin s c r inPlan away))
  have delivered := passages_deliver (rejoining := true)
    (fun _ => lost_rejoinService ((s.recordReport c r 0).withdraw .reportEarly c) c) r (loadWasZero (s.craneRec c).contents)
  exact ((rejoined.passages.trans delivered).then (.move (.withdraw _ _ c (by decide)))).trans (moves_acknowledge _ c _).passages

/-! ### Every block's operation -/

theorem block_passages {qs : List Part} {s t : State} (h : Block qs s t) : Passages s t := by
  cases h with
  | powerOn s => exact ((Moves.of (.startUp s)).trans (moves_startRaisings _)).passages
  | halt s p => exact (moves_halt s p).passages
  | siteStopLevel s b => exact .of (.move (.pins s _))
  | siteStopRaised s => exact (moves_raiseSiteStop s).passages
  | siteStopWithdrawn s => exact .of (.move (.withdrawSite s _))
  | port s v => exact .of (.move (.port s v))
  | link s c ch => exact .of (.move (.link s c ch))
  | frameErrorRaised s c => exact (moves_raiseFor (by decide) s c).passages
  | frameErrorWithdrawn s c => exact .of (.move (.withdraw s _ c (by decide)))
  | status s c r inPlan here => exact passages_acceptStatus inPlan here r
  | rejoin s c r inPlan away => exact passages_acceptRejoin inPlan away r
  | enter s c n _ here => exact (moves_enterZone here n).passages
  | release s c n => exact (moves_releaseZone s c n).passages
  | propose s q n f => exact .of (.move (.propose s q n f))
  | confirm s q id => exact .of (.move (.confirm s q id))
  | amend s q id f => exact .of (.move (.amend s q id f))
  | cancel s q id => exact .of (.move (.cancel s q id))
  | lock s b q id => exact .of (.move (.lock s b q id))
  | start s q id => exact .of (.move (.start s q id))
  | endLift s n q id => exact (moves_endRunning s n q id).passages
  | suspend s q id => exact .of (.move (.suspend s q id))
  | resume s q id => exact .of (.move (.resumeLift s q id))
  | clock s t => exact (moves_setClock s t).passages
  | staging s p => exact .of (.move (.store s _ (PlanStore.keepsCommitted_of_image rfl (.inr rfl))))
  | commit s p => exact (moves_commitPlan s p).passages
  | openSite s => exact passages_openTheSite s
  | closeSite s => exact passages_closeTheSite s
  | resumeSite s => exact passages_resumeTheSite s
  | returnToSetup s => exact passages_returnSiteToSetup s
  | forceRelease s n m => exact (moves_forceCells s n m).passages
  | stopCrane s n => exact (moves_stopTheCrane s n).passages
  | clearStop s n m => exact (moves_clearTheStops s n m).passages
  | clearAlerts s ks => exact (moves_clearTheAlerts s ks).passages
  | second s => exact (moves_passSecond s).passages
  | writeEnd s good => exact (moves_endWrite s good).passages
  | lost s c due =>
    rw [State.boundDue, Bool.and_eq_true] at due
    exact (moves_becomeLost (by simpa [State.isPresent] using due.1)).passages
  | clearingEnd s q due =>
    rw [State.clearingDue, Bool.and_eq_true, decide_eq_true_eq] at due
    exact (moves_convert (.of (.expire s q due.1))).passages
  | waitEnd s c x => exact (((moves_dropWait s c x).trans (moves_notify _ c _)).trans (moves_reviewOffPath _ c)).passages
  | lapse s b => exact ((Moves.of (.free s b.id)).trans (moves_notify _ _ _)).passages
  | dwellEnd s c => exact (moves_completeDwell s c).passages
  | timerEnd s c => exact (moves_expireTimer s c).passages
  | sirenPhase s => exact (moves_turnSiren s).passages

/-- What a command does is a chain of passages. -/
theorem exec_passages {i : Instr} {s t : State} (h : exec i s = .next t) : Passages s t := by
  have blocks := exec_blocks h
  clear h
  induction blocks with
  | refl => exact .refl s
  | tail _ last ih =>
    obtain ⟨_, block⟩ := last
    exact ih.trans (block_passages block)

/-- A relation that passes every passage that touches one of its parts passes a chain of passages. -/
theorem Framed.passages {R : State → State → Prop} {ps : List Part} (fr : Framed R ps)
    (hR : ∀ {qs u v}, Passage qs u v → ps.any (fun p => qs.contains p) = true → R u v) {s t : State} (h : Passages s t) :
    R s t := by
  induction h with
  | refl => exact fr.refl s
  | tail _ last ih =>
    obtain ⟨qs, passage⟩ := last
    refine fr.trans ih ?_
    cases touched : ps.any (fun p => qs.contains p) with
    | true => exact hR passage touched
    | false => exact fr.untouched passage.touches touched

/-- Along a step, for a relation that reads neither the clock nor the queue nor the count of free values: by turns. -/
theorem Framed.step_of_turns {R : State → State → Prop} {ps : List Part} (fr : Framed R ps)
    (hps : ps.all (fun p => !([.clock, .draws, .pending] : List Part).contains p) = true)
    (hR : ∀ {qs u v}, Turn qs u v → ps.any (fun p => qs.contains p) = true → R u v) {s t : State}
    (h : Machine.step s = .next t) : R s t :=
  fr.step hps (fun _ _ k => fr.turns hR (exec_passages k).turns) h

/-- Along a step, for such a relation: by passages. -/
theorem Framed.step_of_passages {R : State → State → Prop} {ps : List Part} (fr : Framed R ps)
    (hps : ps.all (fun p => !([.clock, .draws, .pending] : List Part).contains p) = true)
    (hR : ∀ {qs u v}, Passage qs u v → ps.any (fun p => qs.contains p) = true → R u v) {s t : State}
    (h : Machine.step s = .next t) : R s t :=
  fr.step hps (fun _ _ k => fr.passages hR (exec_passages k)) h

end Sys2Proof.Machine
end

section
/-!
PROOF. The law of the conflict register (R85). A change of cells leaves the law but for the cells that have left SEIZED (`RegisterDue`),
and step 2 of the follow-ups settles them one by one; a seizure breaks it for the one cell, and INTRUSION and CONFLICT restore it.
-/
namespace Sys2Proof.Machine

/-! ### The states of changed cells -/

theorem cell_changeCell (s : State) (r : CellReq) (q : CellId) :
    ((s.changeCell r).cell q).state = if r.cell = q then r.goal else (s.cell q).state :=
  cell_changeCells_one s r q

/-- A cell has the state of the last request for it, and its old one when no request is for it. -/
theorem cell_changeCells (s : State) (rs : List CellReq) (q : CellId) :
    ((s.changeCells rs).cell q).state = (s.cell q).state ∧ (∀ r ∈ rs, r.cell ≠ q) ∨
      ∃ r ∈ rs, r.cell = q ∧ ((s.changeCells rs).cell q).state = r.goal := by
  unfold State.changeCells
  induction rs generalizing s with
  | nil => exact .inl ⟨rfl, fun _ h => nomatch h⟩
  | cons r rs ih =>
    rw [List.foldl_cons]
    rcases ih (s.changeCell r) with ⟨same, other⟩ | ⟨r', hr', asked, goal⟩
    · rw [same, cell_changeCell]
      by_cases here : r.cell = q
      · exact .inr ⟨r, List.mem_cons_self, here, if_pos here⟩
      · exact .inl ⟨if_neg here, List.forall_mem_cons.mpr ⟨here, other⟩⟩
    · exact .inr ⟨r', List.mem_cons_of_mem _ hr', asked, goal⟩

/-- Requests for no cell to become SEIZED seize none. -/
theorem seized_of_changeCells {s : State} {rs : List CellReq} (noSeizure : ∀ r ∈ rs, r.goal ≠ .seized) {q : CellId}
    (h : ((s.changeCells rs).cell q).state = .seized) : (s.cell q).state = .seized := by
  rcases cell_changeCells s rs q with ⟨same, _⟩ | ⟨r, hr, _, goal⟩
  · rwa [same] at h
  · exact absurd (goal.symm.trans h) (noSeizure r hr)

/-- A cell that leaves SEIZED is among the changes. -/
theorem change_of_left_seized {s : State} {rs : List CellReq} {q : CellId} (h : (s.cell q).state = .seized)
    (left : ((s.changeCells rs).cell q).state ≠ .seized) : ∃ d ∈ s.changesOf rs, d.old = .seized ∧ d.cell = q := by
  rcases cell_changeCells s rs q with ⟨same, _⟩ | ⟨r, hr, rfl, goal⟩
  · exact absurd (same.trans h) left
  · refine ⟨⟨r.cell, (s.cell r.cell).state, r.goal⟩, ?_, h, rfl⟩
    refine List.mem_filterMap.mpr ⟨r, hr, if_neg ?_⟩
    rw [h]
    exact fun e => left (goal.trans e.symm)

/-! ### The presence sets of CONFLICT and INTRUSION -/

/-- The presence sets of CONFLICT and INTRUSION are as they were. -/
def SameSeizureAlerts (s t : State) : Prop :=
  (t.alert .conflict).cranes = (s.alert .conflict).cranes ∧ (t.alert .intrusion).cranes = (s.alert .intrusion).cranes

theorem framedSeizureAlerts : Framed SameSeizureAlerts [.alerts] where
  trans h k := ⟨k.1.trans h.1, k.2.trans h.2⟩
  same h := by
    have same := h .alerts (by decide)
    simp only [Same] at same
    simp only [SameSeizureAlerts, State.alert, same, and_self]

theorem seizureAlerts_setAlert {s : State} {k : AlertKind} {r : AlertRec} (h : k.Other ∨ r.cranes = (s.alert k).cranes) :
    SameSeizureAlerts s (s.setAlert k r) := by
  unfold SameSeizureAlerts
  rw [alert_setAlert, alert_setAlert]
  rcases h with ⟨notConflict, notIntrusion⟩ | same
  · rw [if_neg notConflict, if_neg notIntrusion]
    exact ⟨rfl, rfl⟩
  · constructor
    all_goals
      split
      · rename_i e; rw [same, e]
      · rfl

theorem seizureAlerts_withdraw (s : State) {k : AlertKind} (other : k.Other) (c : Crane) :
    SameSeizureAlerts s (s.withdraw k c) := seizureAlerts_setAlert (.inl other)

theorem seizureAlerts_reviewOffPath (s : State) (c : Crane) : SameSeizureAlerts s (s.reviewOffPath c) := by
  unfold State.reviewOffPath
  split
  · exact seizureAlerts_withdraw s (by decide) c
  · exact framedSeizureAlerts.refl s

theorem seizureAlerts_denyWaits (s : State) (p : Wait → Bool) (why : DenyReason) :
    SameSeizureAlerts s (s.denyWaits p why) := by
  unfold State.denyWaits
  exact framedSeizureAlerts.fold (framedSeizureAlerts.of (touches_withWaits s _) rfl) _ _ (fun u w =>
    framedSeizureAlerts.trans (framedSeizureAlerts.of (touches_notify u w.crane _) rfl) (seizureAlerts_reviewOffPath _ _))

theorem seizureAlerts_denyCrane (s : State) (c : Crane) (why : DenyReason) : SameSeizureAlerts s (s.denyCrane c why) :=
  seizureAlerts_denyWaits s _ why

theorem seizureAlerts_addStop (s : State) (c : Crane) (r : StopReason) : SameSeizureAlerts s (s.addStop c r) := by
  have stopped (rs : List StopReason) : SameSeizureAlerts s (s.setStops c rs) :=
    framedSeizureAlerts.of (touches_setStops s c _) rfl
  unfold State.addStop
  dsimp only
  split
  · exact framedSeizureAlerts.frame (touches_addReasonTo _ _ _) rfl
      (framedSeizureAlerts.trans (stopped _) (seizureAlerts_denyCrane _ c _))
  · exact stopped _

theorem seizureAlerts_stopAction (s : State) (k : AlertKind) (c : Option Crane) :
    SameSeizureAlerts s (s.stopAction k c) := by
  unfold State.stopAction
  split
  · split
    · exact seizureAlerts_addStop s _ _
    · exact framedSeizureAlerts.refl s
  · exact framedSeizureAlerts.refl s

theorem seizureAlerts_latch (s : State) {k : AlertKind} (other : k.Other) (c : Option Crane) :
    SameSeizureAlerts s (s.latchAlert k c) := seizureAlerts_setAlert (.inl other)

theorem seizureAlerts_raise (s : State) {k : AlertKind} (other : k.Other) (c : Option Crane) :
    SameSeizureAlerts s (s.raise k c) :=
  framedSeizureAlerts.frame (touches_evaluateLines _) rfl
    (framedSeizureAlerts.trans (seizureAlerts_latch s other c) (seizureAlerts_stopAction _ k c))

theorem seizureAlerts_dropRestricted (s : State) (q : CellId) : SameSeizureAlerts s (s.dropRestricted q) := by
  have dropped (xs : List Sector) : SameSeizureAlerts s (s.setRestricted q.crane xs) :=
    framedSeizureAlerts.of (touches_setRestricted s _ _) rfl
  unfold State.dropRestricted
  dsimp only
  split
  · exact framedSeizureAlerts.trans (dropped _) (seizureAlerts_withdraw _ (by decide) _)
  · exact dropped _

theorem seizureAlerts_ownConditions (s : State) (chg : List Change) : SameSeizureAlerts s (s.ownConditions chg) := by
  unfold State.ownConditions
  refine framedSeizureAlerts.fold (framedSeizureAlerts.fold (framedSeizureAlerts.refl s) _ _ (fun u d => ?_)) _ _
    (fun u d => seizureAlerts_reviewOffPath u _)
  split
  · exact seizureAlerts_dropRestricted u _
  · exact framedSeizureAlerts.refl u

theorem seizureAlerts_toService (s : State) (c : Crane) : SameSeizureAlerts s (s.toService c) :=
  framedSeizureAlerts.trans (framedSeizureAlerts.of (touches_setSvc s c _) rfl) (seizureAlerts_withdraw _ (by decide) c)

theorem seizureAlerts_outOfService (s : State) (c : Crane) (o : Order) (w : Bool) :
    SameSeizureAlerts s (s.outOfService c o w) :=
  framedSeizureAlerts.trans (framedSeizureAlerts.trans (framedSeizureAlerts.of (touches_setSvc s c _) rfl)
    (seizureAlerts_denyCrane _ c _)) (seizureAlerts_withdraw _ (by decide) c)

theorem seizureAlerts_craneLeaves (s : State) (c : Crane) : SameSeizureAlerts s (s.craneLeaves c) := by
  have withdrawn {u : State} (h : SameSeizureAlerts s u) {k : AlertKind} (other : k.Other) :
      SameSeizureAlerts s (u.withdraw k c) := framedSeizureAlerts.trans h (seizureAlerts_withdraw u other c)
  have reset : SameSeizureAlerts s (s.setCrane c CraneRec.initial) := framedSeizureAlerts.of (touches_setCrane s c _) rfl
  have presence := withdrawn (withdrawn (withdrawn reset (k := .craneLost) (by decide)) (k := .reportEarly) (by decide))
    (k := .frameError) (by decide)
  have records := framedSeizureAlerts.frame (touches_setWind _ c WindRec.initial) rfl (framedSeizureAlerts.frame
    (touches_setStops _ c []) rfl (framedSeizureAlerts.frame (touches_setOccupied _ c none) rfl presence))
  exact framedSeizureAlerts.frame (touches_setSvc _ c _) rfl (withdrawn (withdrawn (withdrawn records
    (k := .windCaution) (by decide)) (k := .windHold) (by decide)) (k := .windUnknown) (by decide))

theorem seizureAlerts_craneJoins (s : State) (c : Crane) : SameSeizureAlerts s (s.craneJoins c) := by
  have joined : Touches [.cranes, .wind, .service, .stops] s
      ((((s.setCrane c CraneRec.initial).setWind c WindRec.initial).setSvc c ServiceRec.initial).setStops c []) :=
    ((((touches_setCrane s c _).within rfl).step (touches_setWind _ c _) (by decide)).step (touches_setSvc _ c _)
      (by decide)).step (touches_setStops _ c _) (by decide)
  unfold State.craneJoins
  dsimp only
  split
  · exact framedSeizureAlerts.trans (framedSeizureAlerts.of joined rfl) (seizureAlerts_addStop _ c _)
  · exact framedSeizureAlerts.of joined rfl

theorem seizureAlerts_followPresence (old : Plan) (s : State) (c : Crane) :
    SameSeizureAlerts s (s.followPresence old c) := by
  unfold State.followPresence
  split
  · exact seizureAlerts_craneLeaves s c
  · exact seizureAlerts_craneJoins s c
  all_goals exact framedSeizureAlerts.refl s

theorem seizureAlerts_writeModes (s : State) : SameSeizureAlerts s s.writeModes := by
  unfold State.writeModes
  refine framedSeizureAlerts.fold (framedSeizureAlerts.refl s) _ _ (fun u k => ?_)
  split
  · exact seizureAlerts_setAlert (.inr rfl)
  · exact framedSeizureAlerts.refl u

theorem AlertRec.clear_cranes (r : AlertRec) : r.clear.cranes = r.cranes := by
  unfold AlertRec.clear
  split <;> rfl

theorem seizureAlerts_clearKind (s : State) (k : AlertKind) : SameSeizureAlerts s (s.clearKind k) := by
  unfold State.clearKind
  split
  · exact seizureAlerts_setAlert (.inr (AlertRec.clear_cranes _))
  · exact framedSeizureAlerts.refl s

/-! ### Step 2 of the follow-ups -/

/-- The law of the conflict register, but for cells that have left SEIZED and whose seizures are still to be ended. -/
structure RegisterDue (s : State) (due : List CellId) : Prop where
  seized : ∀ e ∈ s.register, (s.cell e.cell).state = .seized ∨ e.cell ∈ due
  partners : ∀ e ∈ s.register, e.partners ≠ [] ∧ e.cell.crane ∉ e.partners
  once : (s.register.map RegEntry.cell).Nodup
  conflict : ∀ c, c ∈ (s.alert .conflict).cranes ↔ s.inConflict c = true
  intruding : ∀ c x, (s.cell ⟨c, x⟩).state = .seized → c ∈ (s.alert .intrusion).cranes
  intruded : ∀ c ∈ (s.alert .intrusion).cranes, (∃ x, (s.cell ⟨c, x⟩).state = .seized) ∨ ∃ q ∈ due, q.crane = c

theorem registerLaw_of_due_nil {s : State} (h : RegisterDue s []) : RegisterLaw s where
  seized e he := (h.seized e he).resolve_right List.not_mem_nil
  partners := h.partners
  once := h.once
  conflict := h.conflict
  intrusion c := ⟨fun hc => (h.intruded c hc).resolve_right (fun ⟨_, hq, _⟩ => List.not_mem_nil hq),
    fun ⟨x, hx⟩ => h.intruding c x hx⟩

/-- The law read in a state with the same register and presence sets, after cells have left SEIZED. -/
theorem RegisterLaw.due {s t : State} (h : RegisterLaw s) (register : t.register = s.register)
    (alerts : SameSeizureAlerts s t) {due : List CellId}
    (kept : ∀ q, (t.cell q).state = .seized → (s.cell q).state = .seized)
    (left : ∀ q, (s.cell q).state = .seized → (t.cell q).state = .seized ∨ q ∈ due) : RegisterDue t due where
  seized e he := left _ (h.seized e (register ▸ he))
  partners e he := h.partners e (register ▸ he)
  once := register ▸ h.once
  conflict c := by
    rw [alerts.1, State.inConflict, register]
    exact h.conflict c
  intruding c x hx := by
    rw [alerts.2]
    exact (h.intrusion c).mpr ⟨x, kept _ hx⟩
  intruded c hc := by
    rw [alerts.2] at hc
    obtain ⟨x, hx⟩ := (h.intrusion c).mp hc
    exact (left _ hx).imp (fun still => ⟨x, still⟩) (fun gone => ⟨_, gone, rfl⟩)

theorem inConflict_iff {s : State} {x : Crane} :
    s.inConflict x = true ↔ ∃ e ∈ s.register, e.cell.crane = x ∨ x ∈ e.partners := by
  simp [State.inConflict]

theorem inConflict_of_register {s t : State} (h : t.register = s.register) (x : Crane) :
    t.inConflict x = s.inConflict x := by
  rw [State.inConflict, h]
  rfl

theorem mem_withdraw_same {s : State} {k : AlertKind} {c d : Crane} :
    d ∈ ((s.withdraw k c).alert k).cranes ↔ d ∈ (s.alert k).cranes ∧ d ≠ c := by
  rw [State.withdraw, State.setAlert_alert_same, setDel_eq_filter]
  simp

/-- CONFLICT is withdrawn for a crane that is in conflict no longer (R85). -/
def State.endConflict (s : State) (x : Crane) : State := if s.inConflict x then s else s.withdraw .conflict x

theorem touches_endConflict (s : State) (x : Crane) : Touches [.alerts] s (s.endConflict x) := by
  unfold State.endConflict
  split
  · exact Touches.refl _ s
  · exact touches_withdraw s _ x

theorem mem_endConflict {s : State} {x c : Crane} :
    c ∈ ((s.endConflict x).alert .conflict).cranes ↔
      c ∈ (s.alert .conflict).cranes ∧ (c = x → s.inConflict c = true) := by
  unfold State.endConflict
  split
  · rename_i still
    exact ⟨fun h => ⟨h, fun e => e ▸ still⟩, fun h => h.1⟩
  · rename_i ended
    rw [mem_withdraw_same]
    refine and_congr_right (fun _ => ⟨fun h e => absurd e h, fun h e => ended (e ▸ h e)⟩)

theorem mem_endConflicts {s : State} {xs : List Crane} {c : Crane} :
    c ∈ ((xs.foldl State.endConflict s).alert .conflict).cranes ↔
      c ∈ (s.alert .conflict).cranes ∧ (c ∈ xs → s.inConflict c = true) := by
  induction xs generalizing s with
  | nil => simp
  | cons x xs ih =>
    rw [List.foldl_cons, ih, mem_endConflict, inConflict_of_register ((touches_endConflict s x) .register (by decide)),
      List.mem_cons]
    grind

theorem touches_endConflicts (s : State) (xs : List Crane) : Touches [.alerts] s (xs.foldl State.endConflict s) :=
  (Touches.refl _ s).fold _ _ (fun u x => touches_endConflict u x)

theorem intrusion_endConflicts (s : State) (xs : List Crane) :
    ((xs.foldl State.endConflict s).alert .intrusion).cranes = (s.alert .intrusion).cranes := by
  induction xs generalizing s with
  | nil => rfl
  | cons x xs ih =>
    rw [List.foldl_cons, ih, State.endConflict]
    split
    · rfl
    · rw [State.withdraw, State.setAlert_alert_ne _ _ (by decide)]

/-- The register's part of the end of a seizure (R85): its entry leaves, and the conflicts with it. -/
def State.registerEnded (s : State) (q : CellId) : State :=
  ((s.register.filter (fun e => decide (e.cell = q))).flatMap (fun e => e.cell.crane :: e.partners)).foldl
    State.endConflict (s.withRegister (s.register.filter (fun e => !decide (e.cell = q))))

theorem seizureEnded_eq (s : State) (q : CellId) :
    s.seizureEnded q =
      if ((s.registerEnded q).sectorsIn q.crane .seized).isEmpty then (s.registerEnded q).withdraw .intrusion q.crane
      else s.registerEnded q := rfl

theorem touches_registerEnded (s : State) (q : CellId) : Touches [.register, .alerts] s (s.registerEnded q) :=
  ((touches_withRegister s _).within rfl).step (touches_endConflicts _ _) (by decide)

theorem register_registerEnded (s : State) (q : CellId) :
    (s.registerEnded q).register = s.register.filter (fun e => !decide (e.cell = q)) :=
  (touches_endConflicts _ _) .register (by decide)

/-- CONFLICT follows the register when an entry leaves it. -/
theorem conflict_registerEnded {s : State} (h : ∀ c, c ∈ (s.alert .conflict).cranes ↔ s.inConflict c = true) (q : CellId)
    (c : Crane) : c ∈ ((s.registerEnded q).alert .conflict).cranes ↔ (s.registerEnded q).inConflict c = true := by
  have left : (s.registerEnded q).inConflict c = true ↔
      ∃ e ∈ s.register, e.cell ≠ q ∧ (e.cell.crane = c ∨ c ∈ e.partners) := by
    rw [inConflict_iff, register_registerEnded]
    simp [and_assoc]
  have ended : (s.withRegister (s.register.filter (fun e => !decide (e.cell = q)))).inConflict c =
      (s.registerEnded q).inConflict c :=
    (inConflict_of_register ((touches_endConflicts _ _) .register (by decide)) c).symm
  have before : (s.withRegister (s.register.filter (fun e => !decide (e.cell = q)))).alert .conflict = s.alert .conflict :=
    rfl
  rw [left, State.registerEnded, mem_endConflicts, ended, before, h, inConflict_iff, left]
  constructor
  · rintro ⟨⟨e, he, named⟩, gone⟩
    by_cases here : e.cell = q
    · refine gone (List.mem_flatMap.mpr ⟨e, List.mem_filter.mpr ⟨he, by simpa using here⟩, ?_⟩)
      exact List.mem_cons.mpr (named.imp Eq.symm id)
    · exact ⟨e, he, here, named⟩
  · rintro ⟨e, he, other, named⟩
    exact ⟨⟨e, he, named⟩, fun _ => ⟨e, he, other, named⟩⟩

theorem registerDue_seizureEnded {s : State} {q : CellId} {due : List CellId} (h : RegisterDue s (q :: due)) :
    RegisterDue (s.seizureEnded q) due := by
  have cells : (s.registerEnded q).cells = s.cells := (touches_registerEnded s q) .cells (by decide)
  have intrusion : ((s.registerEnded q).alert .intrusion).cranes = (s.alert .intrusion).cranes :=
    intrusion_endConflicts _ _
  have conflict := conflict_registerEnded h.conflict q
  have register := register_registerEnded s q
  have entry {e : RegEntry} (he : e ∈ (s.registerEnded q).register) : e ∈ s.register ∧ e.cell ≠ q := by
    rw [register, List.mem_filter] at he
    exact ⟨he.1, by simpa using he.2⟩
  have once : ((s.registerEnded q).register.map RegEntry.cell).Nodup := by
    rw [register]
    exact h.once.sublist (List.filter_sublist.map _)
  rw [seizureEnded_eq]
  generalize s.registerEnded q = t at *
  have cell (r : CellId) : t.cell r = s.cell r := cell_eq_of_cells cells r
  have seized : ∀ e ∈ t.register, (t.cell e.cell).state = .seized ∨ e.cell ∈ due := by
    intro e he
    rw [cell]
    exact (h.seized e (entry he).1).imp_right (fun hd => (List.mem_cons.mp hd).resolve_left (entry he).2)
  split
  · rename_i none
    have cells' : (t.withdraw .intrusion q.crane).cells = t.cells := rfl
    refine ⟨seized, fun e he => h.partners e (entry he).1, once, fun c => ?_, fun c x hx => ?_, fun c hc => ?_⟩
    · rw [State.withdraw, State.setAlert_alert_ne _ _ (by decide)]
      exact conflict c
    · have free : c ≠ q.crane := by
        rintro rfl
        have := List.isEmpty_iff.mp none
        have mem : x ∈ t.sectorsIn q.crane .seized :=
          List.mem_filter.mpr ⟨List.mem_finRange x, decide_eq_true hx⟩
        simp [this] at mem
      refine mem_withdraw_same.mpr ⟨intrusion ▸ h.intruding c x ?_, free⟩
      rw [← cell]
      exact hx
    · obtain ⟨hc, other⟩ := mem_withdraw_same.mp hc
      rcases h.intruded c (intrusion ▸ hc) with ⟨x, hx⟩ | ⟨r, hr, rfl⟩
      · exact .inl ⟨x, by rw [cell_eq_of_cells cells', cell]; exact hx⟩
      · exact .inr ⟨r, (List.mem_cons.mp hr).resolve_left (fun e => other (e ▸ rfl)), rfl⟩
  · rename_i some
    refine ⟨seized, fun e he => h.partners e (entry he).1, once, conflict, fun c x hx => ?_, fun c hc => ?_⟩
    · exact intrusion ▸ h.intruding c x (cell _ ▸ hx)
    · rcases h.intruded c (intrusion ▸ hc) with ⟨x, hx⟩ | ⟨r, hr, rfl⟩
      · exact .inl ⟨x, by rw [cell]; exact hx⟩
      · rcases List.mem_cons.mp hr with rfl | hr
        · rw [List.isEmpty_iff] at some
          obtain ⟨x, hx⟩ := List.exists_mem_of_ne_nil _ some
          exact .inl ⟨x, by simpa using (List.mem_filter.mp hx).2⟩
        · exact .inr ⟨r, hr, rfl⟩

/-- The cells that changes take out of SEIZED. -/
def seizuresOf (chg : List Change) : List CellId :=
  (chg.filter (fun d => decide (d.old = .seized))).map Change.cell

theorem registerLaw_endSeizures {s : State} {chg : List Change} (h : RegisterDue s (seizuresOf chg)) :
    RegisterLaw (s.endSeizures chg) := by
  unfold State.endSeizures
  induction chg generalizing s with
  | nil => exact registerLaw_of_due_nil h
  | cons d chg ih =>
    rw [List.foldl_cons]
    by_cases seizure : d.old = .seized
    · rw [if_pos seizure]
      refine ih (registerDue_seizureEnded ?_)
      simpa [seizuresOf, seizure] using h
    · rw [if_neg seizure]
      refine ih ?_
      simpa [seizuresOf, seizure] using h

/-- Changes that seize no cell, and record those that leave SEIZED, keep the law with their own follow-ups. -/
theorem RegisterLaw.ownAndSeized {s t : State} (h : RegisterLaw s) (register : t.register = s.register)
    (alerts : SameSeizureAlerts s t) {chg : List Change}
    (kept : ∀ q, (t.cell q).state = .seized → (s.cell q).state = .seized)
    (left : ∀ q, (s.cell q).state = .seized → (t.cell q).state ≠ .seized → ∃ d ∈ chg, d.old = .seized ∧ d.cell = q) :
    RegisterLaw (t.ownAndSeized chg) := by
  have own := touches_ownConditions t chg
  have cell (q : CellId) : (t.ownConditions chg).cell q = t.cell q := cell_eq_of_cells (own .cells (by decide)) q
  have register' : (t.ownConditions chg).register = s.register := by rw [own .register (by decide), register]
  refine registerLaw_endSeizures (h.due register'
    (framedSeizureAlerts.trans alerts (seizureAlerts_ownConditions t chg)) (fun q hq => kept q (cell q ▸ hq))
    (fun q hq => ?_))
  rw [cell]
  by_cases still : (t.cell q).state = .seized
  · exact .inl still
  · obtain ⟨d, hd, seizure, rfl⟩ := left q hq still
    exact .inr (List.mem_map.mpr ⟨d, List.mem_filter.mpr ⟨hd, by simpa using seizure⟩, rfl⟩)

/-- The same for requests of which none is for SEIZED, with other parts changed between. -/
theorem RegisterLaw.changed {s t : State} (h : RegisterLaw s) {rs : List CellReq} (noSeizure : ∀ r ∈ rs, r.goal ≠ .seized)
    (cells : t.cells = (s.changeCells rs).cells) (register : t.register = s.register) (alerts : SameSeizureAlerts s t) :
    RegisterLaw (t.ownAndSeized (s.changesOf rs)) := by
  refine h.ownAndSeized register alerts (fun q hq => ?_) (fun q hq left => ?_)
  · rw [cell_eq_of_cells cells] at hq
    exact seized_of_changeCells noSeizure hq
  · rw [cell_eq_of_cells cells] at left
    exact change_of_left_seized hq left

theorem RegisterLaw.converted {s : State} (h : RegisterLaw s) {rs : List CellReq} (noSeizure : ∀ r ∈ rs, r.goal ≠ .seized) :
    RegisterLaw (s.converted rs) :=
  h.changed noSeizure rfl ((touches_changeCells s rs) .register (by decide))
    (framedSeizureAlerts.of (touches_changeCells s rs) rfl)

end Sys2Proof.Machine
end

section
/-!
PROOF. Every operation keeps the law of the conflict register, CONFLICT and INTRUSION (R84, R85).
-/
namespace Sys2Proof.Machine

/-- The law of the conflict register is kept. -/
def KeepsRegister (s t : State) : Prop := RegisterLaw s → RegisterLaw t

theorem keepsRegister_of_alerts {s t : State} (h : SameSeizureAlerts s t) (cells : t.cells = s.cells)
    (register : t.register = s.register) : KeepsRegister s t :=
  fun law => registerLaw_of_due_nil (law.due register h (fun q hq => cell_eq_of_cells cells q ▸ hq)
    (fun q hq => .inl ((cell_eq_of_cells cells q).symm ▸ hq)))

theorem framedRegister : Framed KeepsRegister [.cells, .register, .alerts] where
  trans h k := fun law => k (h law)
  same h := keepsRegister_of_alerts
    (framedSeizureAlerts.same (fun p hp => h p (by rw [List.mem_singleton.mp hp]; decide)))
    (h .cells (by decide)) (h .register (by decide))

/-- An operation that touches neither cells nor the register, and leaves the presence sets of CONFLICT and INTRUSION. -/
theorem keepsRegister_of_touches {qs : List Part} {s t : State} (k : Touches qs s t)
    (hqs : ([.cells, .register] : List Part).all (fun p => !qs.contains p) = true) (h : SameSeizureAlerts s t) :
    KeepsRegister s t := by
  have outside : ∀ p ∈ ([.cells, .register] : List Part), p ∉ qs := by
    intro p hp
    simpa using List.all_eq_true.mp hqs p hp
  exact keepsRegister_of_alerts h (k .cells (outside _ (by decide))) (k .register (outside _ (by decide)))

/-! ### Requests that seize no cell -/

theorem beginClearing_goal (s : State) (q : CellId) :
    (s.beginClearing q).goal = .clearing ∨ (s.beginClearing q).goal = .free := by
  unfold State.beginClearing
  dsimp only
  split
  · exact .inl rfl
  · exact .inr rfl

theorem beginClearing_noSeizure (s : State) (q : CellId) : (s.beginClearing q).goal ≠ .seized := by
  rcases beginClearing_goal s q with h | h <;> simp [h]

theorem resumeReqs_noSeizure (s : State) (c : Crane) : ∀ r ∈ s.resumeReqs c, r.goal ≠ .seized := by
  intro r hr
  unfold State.resumeReqs at hr
  rcases List.mem_append.mp hr with outside | inside
  · obtain ⟨x, _, asked⟩ := List.mem_filterMap.mp outside
    split at asked
    · cases asked
    split at asked
    · cases asked; simp
    · cases asked; simp
    · cases asked; exact beginClearing_noSeizure s _
    all_goals cases asked
  · split at inside
    · obtain ⟨q, _, rfl⟩ := List.mem_map.mp inside
      simp
    · exact nomatch inside

theorem vaneReqs_noSeizure (c : Crane) : ∀ r ∈ vaneReqs c, r.goal ≠ .seized := by
  intro r hr
  obtain ⟨x, _, rfl⟩ := List.mem_map.mp hr
  simp

theorem parkReqs_noSeizure (s : State) (c : Crane) : ∀ r ∈ s.parkReqs c, r.goal ≠ .seized := by
  intro r hr
  obtain ⟨x, _, asked⟩ := List.mem_filterMap.mp hr
  split at asked
  · split at asked
    · cases asked; simp
    · cases asked; exact beginClearing_noSeizure s _
  · split at asked
    · cases asked
    · cases asked; exact beginClearing_noSeizure s _
  all_goals cases asked

theorem forceReqs_noSeizure (s : State) (c : Crane) (named : List Sector) : ∀ r ∈ s.forceReqs c named, r.goal ≠ .seized := by
  intro r hr
  obtain ⟨x, _, rfl⟩ := List.mem_map.mp hr
  exact beginClearing_noSeizure s _

theorem seedReqs_noSeizure (s : State) : ∀ r ∈ s.seedReqs, r.goal ≠ .seized := by
  intro r hr
  obtain ⟨c, _, inCrane⟩ := List.mem_flatMap.mp hr
  obtain ⟨x, _, rfl⟩ := List.mem_map.mp inCrane
  simp

theorem setupReqs_mem (q : CellId) : (⟨q, .free, .keep⟩ : CellReq) ∈ setupReqs :=
  List.mem_flatMap.mpr ⟨q.crane, mem_allCranes _, List.mem_map.mpr ⟨q.sector, List.mem_finRange _, rfl⟩⟩

/-! ### A seizure (R84) -/

/-- Raising a kind for a crane adds the crane to that kind's presence set alone, CONFLICT and INTRUSION looked at. -/
theorem mem_conflict_raiseFor {s : State} {k : AlertKind} (perCrane : k.siteScoped = false) {d c : Crane} :
    c ∈ ((s.raiseFor k d).alert .conflict).cranes ↔ k = .conflict ∧ c = d ∨ c ∈ (s.alert .conflict).cranes := by
  have raised : SameSeizureAlerts (s.latchAlert k (some d)) (s.raiseFor k d) :=
    framedSeizureAlerts.frame (touches_evaluateLines _) rfl (seizureAlerts_stopAction _ k (some d))
  rw [raised.1, State.latchAlert, alert_setAlert]
  split
  · rename_i same
    subst same
    simp [perCrane, mem_setAdd mem_allCranes]
  · rename_i other
    simp [other]

theorem mem_intrusion_raiseFor {s : State} {k : AlertKind} (perCrane : k.siteScoped = false) {d c : Crane} :
    c ∈ ((s.raiseFor k d).alert .intrusion).cranes ↔ k = .intrusion ∧ c = d ∨ c ∈ (s.alert .intrusion).cranes := by
  have raised : SameSeizureAlerts (s.latchAlert k (some d)) (s.raiseFor k d) :=
    framedSeizureAlerts.frame (touches_evaluateLines _) rfl (seizureAlerts_stopAction _ k (some d))
  rw [raised.2, State.latchAlert, alert_setAlert]
  split
  · rename_i same
    subst same
    simp [perCrane, mem_setAdd mem_allCranes]
  · rename_i other
    simp [other]

theorem raiseConflicts (s : State) (ds : List Crane) :
    let t := ds.foldl (fun s d => s.raiseFor .conflict d) s
    t.cells = s.cells ∧ t.register = s.register ∧ (t.alert .intrusion).cranes = (s.alert .intrusion).cranes ∧
      ∀ c, c ∈ (t.alert .conflict).cranes ↔ c ∈ ds ∨ c ∈ (s.alert .conflict).cranes := by
  induction ds generalizing s with
  | nil => simp
  | cons d ds ih =>
    obtain ⟨cells, register, intrusion, conflict⟩ := ih (s.raiseFor .conflict d)
    have one := touches_raiseFor s .conflict d
    have kept : SameSeizureAlerts (s.latchAlert .conflict (some d)) (s.raiseFor .conflict d) :=
      framedSeizureAlerts.frame (touches_evaluateLines _) rfl (seizureAlerts_stopAction _ _ _)
    refine ⟨cells.trans (one .cells (by decide)), register.trans (one .register (by decide)), intrusion.trans ?_,
      fun c => ?_⟩
    · rw [kept.2, State.latchAlert, State.setAlert_alert_ne _ _ (by decide)]
    · rw [List.foldl_cons, conflict, mem_conflict_raiseFor rfl, List.mem_cons]
      grind

/-- The law is kept when a cell that no entry names is SEIZED, and raised. -/
theorem registerLaw_intrude {s t : State} {q : CellId} (h : RegisterLaw s) (fresh : (s.cell q).state ≠ .seized)
    (cells : ∀ r, (t.cell r).state = if q = r then .seized else (s.cell r).state) (register : t.register = s.register)
    (alerts : SameSeizureAlerts s t) : RegisterLaw (t.intrude q) := by
  have raise := touches_raiseFor t .intrusion q.crane
  have seized (r : CellId) : ((t.raiseFor .intrusion q.crane).cell r).state = if q = r then .seized else (s.cell r).state := by
    rw [cell_eq_of_cells (raise .cells (by decide)), cells]
  have entries : (t.raiseFor .intrusion q.crane).register = s.register := by rw [raise .register (by decide), register]
  have conflict (c : Crane) : c ∈ ((t.raiseFor .intrusion q.crane).alert .conflict).cranes ↔ s.inConflict c = true := by
    rw [mem_conflict_raiseFor rfl, alerts.1, h.conflict]
    simp
  have intrusion (c : Crane) : c ∈ ((t.raiseFor .intrusion q.crane).alert .intrusion).cranes ↔
      ∃ x, ((t.raiseFor .intrusion q.crane).cell ⟨c, x⟩).state = .seized := by
    rw [mem_intrusion_raiseFor rfl, alerts.2, h.intrusion]
    constructor
    · rintro (⟨_, rfl⟩ | ⟨x, hx⟩)
      · exact ⟨q.sector, by rw [seized, if_pos rfl]⟩
      · exact ⟨x, by rw [seized, hx]; split <;> rfl⟩
    · rintro ⟨x, hx⟩
      by_cases here : q = ⟨c, x⟩
      · exact .inl ⟨rfl, by rw [here]⟩
      · rw [seized, if_neg here] at hx
        exact .inr ⟨x, hx⟩
  have unlisted : ∀ e ∈ s.register, e.cell ≠ q := fun e he same => fresh (same ▸ h.seized e he)
  have still : ∀ e ∈ s.register, ((t.raiseFor .intrusion q.crane).cell e.cell).state = .seized := by
    intro e he
    rw [seized, if_neg (fun same => unlisted e he same.symm)]
    exact h.seized e he
  unfold State.intrude
  dsimp only
  generalize t.raiseFor .intrusion q.crane = u at *
  split
  · refine ⟨fun e he => still e (entries ▸ he), fun e he => h.partners e (entries ▸ he), entries ▸ h.once, fun c => ?_,
      intrusion⟩
    rw [conflict, inConflict_of_register entries]
  · rename_i some
    have keep : u.register.filter (fun e => !decide (e.cell = q)) = s.register := by
      rw [entries]
      exact List.filter_eq_self.mpr (fun e he => by simpa using unlisted e he)
    obtain ⟨cells', register', intrusion', conflict'⟩ :=
      raiseConflicts (u.register_ q (u.conflictPartners q)) (q.crane :: u.conflictPartners q)
    have newest : (u.register_ q (u.conflictPartners q)).register = ⟨q, u.conflictPartners q⟩ :: s.register := by
      rw [State.register_, State.withRegister_register, keep]
    have others : q.crane ∉ u.conflictPartners q := by
      intro own
      obtain ⟨⟨k, o⟩, hp, same⟩ := List.any_eq_true.mp (List.mem_filter.mp own).2
      obtain ⟨_, _, _, different, _⟩ := (mem_partners _ _ _ _).mp hp
      exact different (of_decide_eq_true ((Bool.and_eq_true _ _).mp same).1)
    generalize (q.crane :: u.conflictPartners q).foldl (fun s d => s.raiseFor .conflict d)
      (u.register_ q (u.conflictPartners q)) = v at *
    generalize u.conflictPartners q = ds at *
    have entry : v.register = ⟨q, ds⟩ :: s.register := register'.trans newest
    have cell (r : CellId) : v.cell r = u.cell r := cell_eq_of_cells cells' r
    refine ⟨?_, ?_, ?_, fun c => ?_, fun c => ?_⟩
    · rw [entry, List.forall_mem_cons]
      refine ⟨by rw [cell, seized, if_pos rfl], fun e he => by rw [cell]; exact still e he⟩
    · rw [entry, List.forall_mem_cons]
      exact ⟨⟨by simpa using some, others⟩, h.partners⟩
    · rw [entry, List.map_cons, List.nodup_cons]
      refine ⟨fun listed => ?_, h.once⟩
      obtain ⟨e, he, same⟩ := List.mem_map.mp listed
      exact unlisted e he same
    · have before : c ∈ ((u.register_ q ds).alert .conflict).cranes ↔ s.inConflict c = true := conflict c
      rw [conflict', before, inConflict_iff, inConflict_iff, entry, List.mem_cons, eq_comm]
      simp [or_assoc]
    · have before : ((u.register_ q ds).alert .intrusion).cranes = (u.alert .intrusion).cranes := rfl
      rw [intrusion', before, intrusion]
      simp only [cell]

theorem registerLaw_seize {s : State} {q : CellId} (may : (s.cell q).state = .clearing ∨ (s.cell q).state = .free)
    (h : RegisterLaw s) : RegisterLaw ((s.converted [⟨q, .seized, .set .seize⟩]).intrude q) := by
  have old : (s.cell q).state ≠ .seized := by rcases may with h | h <;> simp [h]
  have none : s.changesOf [⟨q, .seized, .set .seize⟩] = [⟨q, (s.cell q).state, .seized⟩] := by
    simp [State.changesOf, old]
  have own : s.converted [⟨q, .seized, .set .seize⟩] =
      (s.changeCells [⟨q, .seized, .set .seize⟩]).ownConditions [⟨q, (s.cell q).state, .seized⟩] := by
    unfold State.converted State.ownAndSeized State.endSeizures
    rw [none, List.foldl_cons, if_neg old, List.foldl_nil]
  have changed := touches_changeCells s [⟨q, .seized, .set .seize⟩]
  have conditions := touches_ownConditions (s.changeCells [⟨q, .seized, .set .seize⟩]) [⟨q, (s.cell q).state, .seized⟩]
  rw [own]
  refine registerLaw_intrude h old (fun r => ?_) ?_ ?_
  · rw [cell_eq_of_cells (conditions .cells (by decide)), cell_changeCells_one]
  · rw [conditions .register (by decide), changed .register (by decide)]
  · exact framedSeizureAlerts.trans (framedSeizureAlerts.of changed rfl) (seizureAlerts_ownConditions _ _)

/-! ### Every operation -/

theorem registerLaw_startUp (s : State) : RegisterLaw s.startUp where
  seized _ he := nomatch he
  partners _ he := nomatch he
  once := List.nodup_nil
  conflict c := by
    have none : (s.startUp.alert .conflict).cranes = [] := rfl
    rw [none, inConflict_iff]
    exact ⟨fun h => (nomatch h), fun ⟨_, he, _⟩ => (nomatch he)⟩
  intrusion c := by
    have none : (s.startUp.alert .intrusion).cranes = [] := rfl
    have free (x : Sector) : (s.startUp.cell ⟨c, x⟩).state = .free := by
      show (tget (tget (tconst 8 (tconst 16 Cell.initial)) c) x).state = .free
      rw [tget_tconst, tget_tconst]
      rfl
    rw [none]
    exact ⟨fun h => (nomatch h), fun ⟨x, hx⟩ => absurd ((free x).symm.trans hx) (by decide)⟩

theorem registerLaw_tryGrant {s : State} (w : Wait) (h : RegisterLaw s) : RegisterLaw (s.tryGrant w) := by
  unfold State.tryGrant
  dsimp only
  split
  · generalize (if (s.cell ⟨w.crane, w.sector⟩).state = .seized then OriginRule.keep else .set .wait) = o
    have noted (u : State) : Touches [.links, .waits] u ((u.dropWait w.crane w.sector).notify w.crane (.grant w.sector)) :=
      ((touches_dropWait u _ _).within rfl).step (touches_notify _ _ _) (by decide)
    have changed := touches_changeCells s [⟨⟨w.crane, w.sector⟩, .held, o⟩]
    refine h.changed (by simp) ((noted _) .cells (by decide)) ?_ ?_
    · rw [(noted _) .register (by decide), changed .register (by decide)]
    · exact framedSeizureAlerts.frame (noted _) rfl (framedSeizureAlerts.of changed rfl)
  · exact h

theorem registerLaw_heldOutside {s : State} (q : CellId) (h : RegisterLaw s) : RegisterLaw (s.heldOutside q) := by
  have changed := touches_changeCells s [⟨q, .held, .keep⟩]
  unfold State.heldOutside
  dsimp only
  split
  · have noted (u : State) : Touches [.links, .waits] u ((u.dropWait q.crane q.sector).notify q.crane (.grant q.sector)) :=
      ((touches_dropWait u _ _).within rfl).step (touches_notify _ _ _) (by decide)
    refine h.changed (by simp) ((noted _) .cells (by decide)) ?_ ?_
    · rw [(noted _) .register (by decide), changed .register (by decide)]
    · exact framedSeizureAlerts.frame (noted _) rfl (framedSeizureAlerts.of changed rfl)
  · exact h.converted (rs := [⟨q, .held, .keep⟩]) (by simp)

theorem registerLaw_resume {s : State} (c : Crane) (h : RegisterLaw s) :
    RegisterLaw ((s.resumeChange c).ownAndSeized (s.changesOf (s.resumeReqs c))) := by
  have changed := touches_changeCells s (s.resumeReqs c)
  have alerts : SameSeizureAlerts s (s.changeCells (s.resumeReqs c)) := framedSeizureAlerts.of changed rfl
  have noSeizure := resumeReqs_noSeizure s c
  unfold State.resumeChange
  dsimp only
  generalize s.resumeReqs c = rs at *
  split
  · have back := touches_toService (s.changeCells rs) c
    exact h.changed noSeizure (back .cells (by decide))
      (by rw [back .register (by decide), changed .register (by decide)])
      (framedSeizureAlerts.trans alerts (seizureAlerts_toService _ c))
  · have out := touches_outOfService (s.changeCells rs) c .remainSecured true
    exact h.changed noSeizure (out .cells (by decide))
      (by rw [out .register (by decide), changed .register (by decide)])
      (framedSeizureAlerts.trans alerts (seizureAlerts_outOfService _ c _ _))

theorem registerLaw_release {s : State} (c : Crane) (h : RegisterLaw s) :
    RegisterLaw (((s.changeCells (vaneReqs c)).outOfService c .vaneRelease false).ownAndSeized
      (s.changesOf (vaneReqs c))) := by
  have changed := touches_changeCells s (vaneReqs c)
  have out := touches_outOfService (s.changeCells (vaneReqs c)) c .vaneRelease false
  exact h.changed (vaneReqs_noSeizure c) (out .cells (by decide))
    (by rw [out .register (by decide), changed .register (by decide)])
    (framedSeizureAlerts.trans (framedSeizureAlerts.of changed rfl) (seizureAlerts_outOfService _ c _ _))

theorem registerLaw_freeAll {s : State} (h : RegisterLaw s) :
    RegisterLaw (s.freeAllCells.ownAndSeized (s.changesOf setupReqs)) := by
  have alerts : SameSeizureAlerts s s.freeAllCells := framedSeizureAlerts.of (touches_freeAllCells s) rfl
  refine h.ownAndSeized (t := s.freeAllCells) rfl alerts (fun q hq => ?_) (fun q hq _ => ?_)
  · rw [cell_freeAllCells] at hq
    cases hq
  · exact ⟨⟨q, (s.cell q).state, .free⟩, List.mem_filterMap.mpr ⟨_, setupReqs_mem q, if_neg (by simp [hq])⟩, hq, rfl⟩

theorem keepsRegister_denyCrane (s : State) (c : Crane) (why : DenyReason) : KeepsRegister s (s.denyCrane c why) :=
  keepsRegister_of_touches (touches_denyCrane s c why) rfl (seizureAlerts_denyCrane s c why)

theorem keepsRegister_serviceDenied (s : State) (c : Crane) (r : ServiceRec) (why : DenyReason) :
    KeepsRegister s ((s.setSvc c r).denyCrane c why) :=
  framedRegister.trans (framedRegister.of (touches_setSvc s c r) rfl) (keepsRegister_denyCrane _ c why)

theorem keepsRegister_lostRecords (s : State) (c : Crane) : KeepsRegister s (s.lostRecords c) := by
  unfold State.lostRecords
  exact framedRegister.frame (touches_addReasonTo _ c _) rfl
    (framedRegister.trans (framedRegister.of (touches_setCrane s c _) rfl) (keepsRegister_serviceDenied _ c _ _))

theorem keepsRegister_adopted (s : State) :
    KeepsRegister s (allCranes.foldl (State.followPresence s.plan.committed) s.adoptPlan) :=
  framedRegister.fold (framedRegister.of (touches_adoptPlan s) rfl) _ _ (fun u c =>
    keepsRegister_of_touches (touches_followPresence _ u c) rfl (seizureAlerts_followPresence _ u c))

theorem register_move {qs : List Part} {s t : State} (h : Move qs s t)
    (touched : ([.cells, .register, .alerts] : List Part).any (fun p => qs.contains p) = true) : KeepsRegister s t := by
  cases h with
  | grant s w => exact registerLaw_tryGrant w
  | resume s c => exact registerLaw_resume c
  | release s c => exact registerLaw_release c
  | hold s q => exact registerLaw_heldOutside q
  | seize s q may => exact registerLaw_seize may
  | enter s q o => exact fun law => law.converted (by simp)
  | clear s q => exact fun law => law.converted (by simpa using beginClearing_noSeizure s q)
  | expire s q => exact fun law => law.converted (by simp)
  | park s c =>
    exact fun law => (keepsRegister_serviceDenied s c _ .service law).converted (parkReqs_noSeizure _ c)
  | force s c named =>
    exact fun law => (framedRegister.of (touches_forceService s c named) rfl law).converted (forceReqs_noSeizure s c named)
  | vaneWait s c => exact keepsRegister_serviceDenied s c _ _
  | rejoin s c r =>
    have reported : KeepsRegister s (s.recordReport c r 0) := framedRegister.of (touches_recordReport s c r 0) rfl
    have withdrawn := keepsRegister_of_touches (touches_withdraw (s.recordReport c r 0) .reportEarly c) rfl
      (seizureAlerts_withdraw _ (by decide) c)
    exact framedRegister.frame (touches_rejoinedService _ c) rfl (framedRegister.trans reported withdrawn)
  | lost s c => exact keepsRegister_lostRecords s c
  | stop s c r => exact keepsRegister_of_touches (touches_addStop s c r) rfl (seizureAlerts_addStop s c r)
  | latch s k c other => exact keepsRegister_of_touches (touches_latchAlert s k c) rfl (seizureAlerts_latch s other c)
  | withdraw s k c other => exact keepsRegister_of_touches (touches_withdraw s k c) rfl (seizureAlerts_withdraw s other c)
  | withdrawSite s k => exact keepsRegister_of_touches (touches_withdrawSite s k) rfl (seizureAlerts_setAlert (.inr rfl))
  | clearKind s k => exact keepsRegister_of_touches (touches_clearKind s k) rfl (seizureAlerts_clearKind s k)
  | modes s => exact keepsRegister_of_touches (touches_writeModes s) rfl (seizureAlerts_writeModes s)
  | append s c x =>
    exact framedRegister.trans (framedRegister.of (touches_withWaits s _) rfl)
      (keepsRegister_of_touches (touches_reviewOffPath _ c) rfl (seizureAlerts_reviewOffPath _ c))
  | adopt s => exact keepsRegister_adopted s
  | startUp s => exact fun _ => registerLaw_startUp s
  | _ => exact absurd touched (by decide)

theorem register_turn {qs : List Part} {s t : State} (h : Turn qs s t)
    (touched : ([.cells, .register, .alerts] : List Part).any (fun p => qs.contains p) = true) : KeepsRegister s t := by
  cases h with
  | move h => exact register_move h touched
  | convert s c => exact registerLaw_resume c
  | seed s => exact fun law => law.converted (seedReqs_noSeizure s)
  | freeAll s => exact registerLaw_freeAll
  | withheldToVaneWait s c => exact keepsRegister_serviceDenied s c _ _
  | toService s c => exact keepsRegister_of_touches (touches_toService s c) rfl (seizureAlerts_toService s c)
  | storm s c =>
    have raised := keepsRegister_of_touches (touches_raiseFor (s.withSite .storm) .storm c) rfl
      (seizureAlerts_raise _ (by decide) _)
    exact framedRegister.frame (touches_addReasonAll _ _) rfl
      (framedRegister.trans (framedRegister.of (touches_withSite s _) rfl) raised)
  | _ => exact absurd touched (by decide)

end Sys2Proof.Machine

open Sys2Proof.Machine

/-- Settles O52: a step is a chain of turns, and each keeps the law of the register. -/
theorem stepKeepsRegister : Obligations.StepKeepsRegister := by
  unfold Obligations.StepKeepsRegister
  exact fun s t law h => framedRegister.step_of_turns rfl register_turn h law
end

section
/-!
PROOF. The laws of the service records (R113, R114, R115, R123), one record at a time: what a record may be under a site state
(`ServiceRec.Serves`), which every operation on records keeps, and which each change of the site state brings about crane by crane.
-/
namespace Sys2Proof.Machine

/-! ### The parts a frame leaves -/

section

variable {qs : List Part} {s t : State} (k : Touches qs s t)

include k

theorem Touches.plan_eq (h : Part.plan ∉ qs) : t.plan = s.plan := k .plan h

theorem Touches.clock_eq (h : Part.clock ∉ qs) : t.clock = s.clock := k .clock h

theorem Touches.links_eq (h : Part.links ∉ qs) : t.links = s.links := k .links h

theorem Touches.cranes_eq (h : Part.cranes ∉ qs) : t.cranes = s.cranes := k .cranes h

theorem Touches.cells_eq (h : Part.cells ∉ qs) : t.cells = s.cells := k .cells h

theorem Touches.waits_eq (h : Part.waits ∉ qs) : t.waits = s.waits := k .waits h

theorem Touches.stops_eq (h : Part.stops ∉ qs) : t.stops = s.stops := k .stops h

theorem Touches.wind_eq (h : Part.wind ∉ qs) : t.wind = s.wind := k .wind h

theorem Touches.site_eq (h : Part.site ∉ qs) : t.site = s.site := k .site h

theorem Touches.service_eq (h : Part.service ∉ qs) : t.service = s.service := k .service h

theorem Touches.bookings_eq (h : Part.bookings ∉ qs) : t.bookings = s.bookings := k .bookings h

theorem Touches.alerts_eq (h : Part.alerts ∉ qs) : t.alerts = s.alerts := k .alerts h

end

/-! ### One service record -/

/-- What a crane's service record may be, of a site state, its place in the plan, its vane mode and its presence. -/
structure ServiceRec.Serves (p : SiteState) (inPlan : Bool) (v : VaneMode) (pr : Presence) (r : ServiceRec) : Prop where
  working : p = .opened → r.state ≠ .securing ∧ r.state ≠ .vaneWait ∧ (r.state = .outOfService → r.withheld = true)
  withheld : r.withheld = true → p = .opened ∧ r.state = .outOfService ∧ r.order = .remainSecured
  setup : p = .setup → r.state = .offline ∨ r.state = .standby
  standby : r.state = .standby → p = .setup
  absent : inPlan = false → r.state = .offline ∧ r.lost = false ∧ pr = .offline
  vane : r.state = .vaneWait ∨ r.state = .outOfService ∧ r.order = .vaneRelease → v = .free

/-- The records a site state allows, read with the plan and the presences of a state. -/
def State.serves (s : State) (p : SiteState) (c : Crane) (r : ServiceRec) : Prop :=
  r.Serves p (s.present c) (s.entry c).vane (s.craneRec c).presence

theorem serviceLaw_iff {s : State} : ServiceLaw s ↔ ∀ c, s.serves s.site c (s.svc c) := by
  constructor
  · intro h c
    exact ⟨fun e => h.working e c, h.withheld c, fun e => h.setup e c, h.standby c, h.absent c, h.vane c⟩
  · intro h
    exact ⟨fun e c => (h c).working e, fun c => (h c).withheld, fun e c => (h c).setup e, fun c => (h c).standby,
      fun c => (h c).absent, fun c => (h c).vane⟩

theorem serves_of_same {s t : State} (plan : t.plan = s.plan) (cranes : t.cranes = s.cranes) (p : SiteState) :
    t.serves p = s.serves p := by
  funext c r
  unfold State.serves State.present State.entry State.craneRec
  rw [plan, cranes]

/-- Every crane whose record has a property keeps it. -/
def KeepsEach (P : Crane → ServiceRec → Prop) (s t : State) : Prop := ∀ c, P c (s.svc c) → P c (t.svc c)

theorem framedEach (P : Crane → ServiceRec → Prop) : Framed (KeepsEach P) [.service] where
  trans h k := fun c hc => k c (h c hc)
  same h := fun c hc => by
    have same := h .service (by decide)
    rw [State.svc, same]
    exact hc

variable {P : Crane → ServiceRec → Prop}

theorem each_setSvc {s : State} {c : Crane} {r : ServiceRec} (h : P c (s.svc c) → P c r) :
    KeepsEach P s (s.setSvc c r) := by
  intro d hd
  rw [svc_setSvc]
  split
  · rename_i same; subst same; exact h hd
  · exact hd

/-- The record of a crane in service. -/
def ServiceRec.back (r : ServiceRec) : ServiceRec :=
  { r with state := .inService, order := .work, timer := none, withheld := false }

/-- The record of a crane out of service. -/
def ServiceRec.out (r : ServiceRec) (o : Order) (w : Bool) : ServiceRec :=
  { r with state := .outOfService, order := o, timer := none, withheld := w }

theorem each_toService {s : State} {c : Crane} (h : P c (s.svc c) → P c (s.svc c).back) :
    KeepsEach P s (s.toService c) :=
  (framedEach P).frame (touches_withdraw _ _ c) rfl (each_setSvc h)

theorem each_outOfService {s : State} {c : Crane} {o : Order} {w : Bool} (h : P c (s.svc c) → P c ((s.svc c).out o w)) :
    KeepsEach P s (s.outOfService c o w) :=
  (framedEach P).frame (touches_withdraw _ _ c) rfl ((framedEach P).frame (touches_denyCrane _ c _) rfl (each_setSvc h))

theorem inState_iff {s : State} {c : Crane} {st : SvcState} :
    s.inState c st = true ↔ (s.svc c).lost = false ∧ (s.svc c).state = st := by
  simp [State.inState]

theorem svc_changeCells (s : State) (rs : List CellReq) (c : Crane) : (s.changeCells rs).svc c = s.svc c := by
  rw [State.svc, (touches_changeCells s rs) .service (by decide)]
  rfl

/-- A resume conversion takes the crane back, or leaves it out of service, withheld. -/
theorem each_resumeChange {s : State} {c : Crane} (back : P c (s.svc c) → P c (s.svc c).back)
    (out : P c (s.svc c) → P c ((s.svc c).out .remainSecured true)) : KeepsEach P s (s.resumeChange c) := by
  have changed : KeepsEach P s (s.changeCells (s.resumeReqs c)) := (framedEach P).of (touches_changeCells _ _) rfl
  unfold State.resumeChange
  dsimp only
  split
  · exact (framedEach P).trans changed (each_toService (by rwa [svc_changeCells]))
  · exact (framedEach P).trans changed (each_outOfService (by rwa [svc_changeCells]))

theorem each_resume {s : State} {c : Crane} (chg : List Change) (back : P c (s.svc c) → P c (s.svc c).back)
    (out : P c (s.svc c) → P c ((s.svc c).out .remainSecured true)) :
    KeepsEach P s ((s.resumeChange c).ownAndSeized chg) :=
  (framedEach P).frame (touches_ownAndSeized _ _) rfl (each_resumeChange back out)

theorem each_release {s : State} {c : Crane} (chg : List Change)
    (out : P c (s.svc c) → P c ((s.svc c).out .vaneRelease false)) :
    KeepsEach P s (((s.changeCells (vaneReqs c)).outOfService c .vaneRelease false).ownAndSeized chg) :=
  (framedEach P).frame (touches_ownAndSeized _ _) rfl ((framedEach P).trans
    ((framedEach P).of (touches_changeCells _ _) rfl) (each_outOfService (by rwa [svc_changeCells])))

/-- A property of records that a resume of a withheld crane and a vane release keep, the follow-ups keep. -/
theorem followUps_each
    (back : ∀ c r, r.lost = false → r.state = .outOfService → r.withheld = true → P c r → P c r.back)
    (out : ∀ c r, r.lost = false → r.state = .outOfService → r.withheld = true → P c r → P c (r.out .remainSecured true))
    (release : ∀ c r, r.lost = false → r.state = .vaneWait → P c r → P c (r.out .vaneRelease false)) :
    FollowUps (KeepsEach P) where
  refl := (framedEach P).refl
  trans := (framedEach P).trans
  walk s := (framedEach P).of (touches_walk s) rfl
  resume s c withheld := by
    rw [State.isWithheld, Bool.and_eq_true] at withheld
    obtain ⟨here, state⟩ := inState_iff.mp withheld.1
    exact each_resume _ (back c _ here state withheld.2) (out c _ here state withheld.2)
  release s c waits _ := by
    obtain ⟨here, state⟩ := inState_iff.mp waits
    exact each_release _ (release c _ here state)

namespace ServiceRec.Serves

variable {p : SiteState} {a : Bool} {v : VaneMode} {pr : Presence} {r : ServiceRec}

/-- A record with another readiness or timer. -/
theorem congr {q : ServiceRec} (h : r.Serves p a v pr) (state : q.state = r.state) (lost : q.lost = r.lost)
    (order : q.order = r.order) (withheld : q.withheld = r.withheld) : q.Serves p a v pr := by
  obtain ⟨h1, h2, h3, h4, h5, h6⟩ := h
  rw [← state, ← withheld] at h1
  rw [← state, ← withheld, ← order] at h2
  rw [← state] at h3 h4
  rw [← state, ← lost] at h5
  rw [← state, ← order] at h6
  exact ⟨h1, h2, h3, h4, h5, h6⟩

/-- A crane that serves is in the plan. -/
theorem inPlan (h : r.Serves p a v pr) (serving : r.state ≠ .offline) : a = true := by
  cases a with
  | true => rfl
  | false => exact absurd (h.absent rfl).1 serving

theorem notSetup (h : r.Serves p a v pr) (offline : r.state ≠ .offline) (standby : r.state ≠ .standby) : p ≠ .setup :=
  fun e => (h.setup e).elim offline standby

theorem notOpened (h : r.Serves p a v pr) (waits : r.state = .securing ∨ r.state = .vaneWait) : p ≠ .opened :=
  fun e => waits.elim (h.working e).1 (h.working e).2.1

theorem notWithheld (h : r.Serves p a v pr) (out : r.state ≠ .outOfService) : r.withheld = false := by
  cases w : r.withheld with
  | false => rfl
  | true => exact absurd (h.withheld w).2.1 out

theorem back (away : p ≠ .setup) (inPlan : a = true) : r.back.Serves p a v pr where
  working _ := ⟨nofun, nofun, nofun⟩
  withheld := nofun
  setup e := absurd e away
  standby := nofun
  absent e := absurd (inPlan.symm.trans e) (by decide)
  vane e := by simp [ServiceRec.back] at e

theorem outWithheld (opened : p = .opened) (inPlan : a = true) : (r.out .remainSecured true).Serves p a v pr where
  working _ := ⟨nofun, nofun, fun _ => rfl⟩
  withheld _ := ⟨opened, rfl, rfl⟩
  setup e := nomatch opened.symm.trans e
  standby := nofun
  absent e := absurd (inPlan.symm.trans e) (by decide)
  vane e := by simp [ServiceRec.out] at e

theorem released (h : r.Serves p a v pr) (waits : r.state = .vaneWait) : (r.out .vaneRelease false).Serves p a v pr where
  working e := absurd e (h.notOpened (.inr waits))
  withheld := nofun
  setup e := absurd e (h.notSetup (by simp [waits]) (by simp [waits]))
  standby := nofun
  absent e := absurd ((h.inPlan (by simp [waits])).symm.trans e) (by decide)
  vane _ := h.vane (.inl waits)

end ServiceRec.Serves

/-- The follow-ups keep each record within what a site state allows. -/
theorem followUps_serves (s : State) (p : SiteState) : FollowUps (KeepsEach (s.serves p)) := by
  refine followUps_each ?_ ?_ ?_
  · exact fun c r _ out _ h => .back (h.notSetup (by simp [out]) (by simp [out])) (h.inPlan (by simp [out]))
  · exact fun c r _ out w h => .outWithheld (h.withheld w).1 (h.inPlan (by simp [out]))
  · exact fun c r _ waits h => h.released waits

/-! ### Every operation on records -/

/-- The laws of the service records are kept. -/
def KeepsService (s t : State) : Prop := ServiceLaw s → ServiceLaw t

theorem framedService : Framed KeepsService [.plan, .cranes, .site, .service] where
  trans h k := fun law => k (h law)
  same h := fun law => by
    have service : ∀ c, _ = _ := fun c => congrArg (tget · c) (h .service (by decide))
    rw [serviceLaw_iff] at law ⊢
    intro c
    rw [serves_of_same (h .plan (by decide)) (h .cranes (by decide)), h .site (by decide), State.svc, service]
    exact law c

/-- An operation on service records that keeps each within what the site state allows. -/
theorem keepsService_of_each {qs : List Part} {s t : State} (k : Touches qs s t)
    (hqs : ([.plan, .cranes, .site] : List Part).all (fun p => !qs.contains p) = true)
    (h : KeepsEach (s.serves s.site) s t) : KeepsService s t := by
  have outside : ∀ p ∈ ([.plan, .cranes, .site] : List Part), p ∉ qs := by
    intro p hp
    simpa using List.all_eq_true.mp hqs p hp
  intro law
  rw [serviceLaw_iff] at law ⊢
  intro c
  rw [serves_of_same (k .plan (outside _ (by decide))) (k .cranes (outside _ (by decide))), k .site (outside _ (by decide))]
  exact h c (law c)

theorem each_serviceDenied {s : State} {c : Crane} {r : ServiceRec} (why : DenyReason) (h : P c (s.svc c) → P c r) :
    KeepsEach P s ((s.setSvc c r).denyCrane c why) :=
  (framedEach P).frame (touches_denyCrane _ c why) rfl (each_setSvc h)

/-- Of a SECURING crane's record, one that leaves SECURING for VANE_WAIT or PARKED. -/
theorem serves_secured {p : SiteState} {a : Bool} {v : VaneMode} {pr : Presence} {r q : ServiceRec}
    (h : r.Serves p a v pr) (securing : r.state = .securing)
    (may : q.state = .vaneWait ∧ v = .free ∨ q.state = .outOfService ∧ q.order = .park)
    (withheld : q.withheld = r.withheld) : q.Serves p a v pr where
  working e := absurd e (h.notOpened (.inl securing))
  withheld w := absurd ((h.notWithheld (by simp [securing])).symm.trans (withheld.symm.trans w)) (by decide)
  setup e := absurd e (h.notSetup (by simp [securing]) (by simp [securing]))
  standby e := by rcases may with may | may <;> exact nomatch e.symm.trans may.1
  absent e := absurd ((h.inPlan (by simp [securing])).symm.trans e) (by decide)
  vane e := by
    rcases may with may | may
    · exact may.2
    · rcases e with e | e
      · exact nomatch e.symm.trans may.1
      · exact nomatch e.2.symm.trans may.2

theorem each_forceService (s : State) (c : Crane) (named : List Sector) :
    KeepsEach (s.serves s.site) s (s.forceService c named) := by
  unfold State.forceService
  dsimp only
  split
  · rename_i forced
    simp only [Bool.and_eq_true, decide_eq_true_eq] at forced
    obtain ⟨⟨⟨_, _⟩, out⟩, order⟩ := forced
    refine each_setSvc (fun h => ?_)
    have notWithheld : (s.svc c).withheld = false := by
      cases w : (s.svc c).withheld with
      | false => rfl
      | true => exact nomatch order.symm.trans (h.withheld w).2.2
    exact
      { working := fun e => absurd ((h.working e).2.2 out) (by simp [notWithheld])
        withheld := fun w => absurd (notWithheld.symm.trans w) (by decide)
        setup := fun e => absurd e (h.notSetup (by simp [out]) (by simp [out]))
        standby := nofun
        absent := fun e => absurd ((h.inPlan (by simp [out])).symm.trans e) (by decide)
        vane := fun _ => h.vane (.inr ⟨out, order⟩) }
  · exact (framedEach _).refl s

theorem craneRec_setCrane (s : State) (c d : Crane) (r : CraneRec) :
    (s.setCrane c r).craneRec d = if c = d then r else s.craneRec d := by
  unfold State.craneRec State.setCrane State.withCranes
  exact tget_tput _ _ _ _

/-- The record of a crane of the plan does not depend on its presence. -/
theorem serves_presence {p : SiteState} {v : VaneMode} {pr pr' : Presence} {r : ServiceRec} (h : r.Serves p true v pr) :
    r.Serves p true v pr' :=
  ⟨h.working, h.withheld, h.setup, h.standby, nofun, h.vane⟩

theorem serves_setCrane {s : State} {p : SiteState} {c d : Crane} {k : CraneRec} {r : ServiceRec}
    (inPlan : s.present c = true) (h : s.serves p d r) : (s.setCrane c k).serves p d r := by
  unfold State.serves at h ⊢
  have entry : (s.setCrane c k).entry d = s.entry d := rfl
  have present : (s.setCrane c k).present d = s.present d := rfl
  rw [entry, present, craneRec_setCrane]
  split
  · rename_i same
    subst same
    rw [inPlan] at h ⊢
    exact serves_presence h
  · exact h

theorem keepsService_setCrane {s : State} {c : Crane} (inPlan : s.present c = true) (k : CraneRec) :
    KeepsService s (s.setCrane c k) := by
  intro law
  rw [serviceLaw_iff] at law ⊢
  exact fun d => serves_setCrane inPlan (law d)

theorem each_rejoinedService (s : State) (c : Crane) (inPlan : s.present c = true) :
    KeepsEach (s.serves s.site) s (s.rejoinedService c) := by
  unfold State.rejoinedService
  dsimp only
  split
  · refine each_setSvc (fun h => ?_)
    exact ⟨h.working, h.withheld, h.setup, h.standby, fun e => absurd (inPlan.symm.trans e) (by decide), h.vane⟩
  split
  · rename_i offline
    have absent {q : SiteState} {r : ServiceRec} : s.present c = false → r.state = .offline ∧ r.lost = false ∧ q = .setup :=
      fun e => absurd (inPlan.symm.trans e) (by decide)
    split
    · rename_i site
      refine each_setSvc (fun h => ?_)
      have notWithheld := h.notWithheld (by simp [offline])
      exact
        { working := fun e => nomatch site.symm.trans e
          withheld := fun w => absurd (notWithheld.symm.trans w) (by decide)
          setup := fun _ => .inr rfl
          standby := fun _ => site
          absent := fun e => absurd (inPlan.symm.trans e) (by decide)
          vane := fun e => by simp at e }
    all_goals
      rename_i site
      refine each_setSvc (fun h => ?_)
      have notWithheld := h.notWithheld (by simp [offline])
      exact
        { working := fun e => ⟨nofun, nofun, nofun⟩
          withheld := fun w => absurd (notWithheld.symm.trans w) (by decide)
          setup := fun e => nomatch site.symm.trans e
          standby := nofun
          absent := fun e => absurd (inPlan.symm.trans e) (by decide)
          vane := fun e => by simp at e }
  · exact (framedEach _).refl s

theorem keepsService_rejoin (s : State) (c : Crane) (r : Report) (inPlan : s.present c = true) :
    KeepsService s (((s.recordReport c r 0).withdraw .reportEarly c).rejoinedService c) := by
  have recorded : KeepsService s ((s.recordReport c r 0).withdraw .reportEarly c) :=
    framedService.frame (touches_withdraw _ _ c) rfl (keepsService_setCrane inPlan _)
  exact framedService.trans recorded (keepsService_of_each (touches_rejoinedService _ c) rfl
    (each_rejoinedService _ c inPlan))

theorem keepsService_lost (s : State) (c : Crane) (here : (s.craneRec c).presence = .present) :
    KeepsService s (s.lostRecords c) := by
  intro law
  have inPlan : s.present c = true := by
    refine Classical.byContradiction (fun absent => ?_)
    exact nomatch here.symm.trans (law.absent c (by simpa using absent)).2.2
  have denied (u : State) (r : ServiceRec) (why : DenyReason) :
      Touches [.service, .links, .waits, .alerts] u ((u.setSvc c r).denyCrane c why) :=
    ((touches_setSvc u c r).within rfl).step (touches_denyCrane _ c why) (by decide)
  refine framedService.frame (touches_addReasonTo _ c _) rfl (framedService.trans (keepsService_setCrane inPlan _)
    (keepsService_of_each (denied _ _ _) rfl (each_serviceDenied _ (fun h => ?_)))) law
  have inPlan' : ∀ e, (s.setCrane c e).present c = true := fun _ => inPlan
  exact ⟨h.working, h.withheld, h.setup, h.standby, fun e => absurd ((inPlan' _).symm.trans e) (by decide), h.vane⟩

theorem serviceLaw_startUp (s : State) : ServiceLaw s.startUp := by
  have svc (c : Crane) : s.startUp.svc c = ServiceRec.initial := tget_tconst _ c
  have crane (c : Crane) : s.startUp.craneRec c = CraneRec.initial := tget_tconst _ c
  rw [serviceLaw_iff]
  intro c
  have site : s.startUp.site = .setup := rfl
  rw [site, State.serves, svc, crane]
  exact ⟨nofun, nofun, fun _ => .inl rfl, nofun, fun _ => ⟨rfl, rfl, rfl⟩, fun e => by simp [ServiceRec.initial] at e⟩

/-! ### A new plan, crane by crane -/

/-- An operation made for each crane in turn, that brings each crane from one property to another and leaves the others. -/
theorem foldl_each {g : State → Crane → State} {Pre Post : Crane → State → Prop}
    (own : ∀ u c, Pre c u ∨ Post c u → Post c (g u c)) (pre : ∀ u c d, c ≠ d → Pre c u → Pre c (g u d) ∨ Post c (g u d))
    (post : ∀ u c d, c ≠ d → Post c u → Post c (g u d)) {s : State} (h : ∀ c, Pre c s) (c : Crane) :
    Post c (allCranes.foldl g s) := by
  have along : ∀ (l : List Crane) (u : State), (∀ c, Pre c u ∨ Post c u) → (∀ c, c ∈ l ∨ Post c u) →
      ∀ c, Post c (l.foldl g u) := by
    intro l
    induction l with
    | nil => exact fun u _ done c => (done c).resolve_left List.not_mem_nil
    | cons d l ih =>
      intro u either done
      refine ih (g u d) (fun c => ?_) (fun c => ?_)
      · by_cases here : c = d
        · exact here ▸ .inr (own u c (either c))
        · exact (either c).elim (pre u c d here) (fun h => .inr (post u c d here h))
      · by_cases here : c = d
        · exact here ▸ .inr (own u c (either c))
        · exact (done c).imp (fun hc => (List.mem_cons.mp hc).resolve_left here) (post u c d here)
  exact along allCranes s (fun c => .inl (h c)) (fun c => .inl (mem_allCranes c)) c

theorem craneLeaves_eq (s : State) (c : Crane) :
    ∃ u, s.craneLeaves c = u.setSvc c ServiceRec.initial ∧
      Touches [.alerts, .occupied, .stops, .wind] (s.setCrane c CraneRec.initial) u :=
  ⟨_, rfl, (((((((((touches_withdraw _ _ c).within rfl).step (touches_withdraw _ _ c) (by decide)).step
    (touches_withdraw _ _ c) (by decide)).step (touches_setOccupied _ c _) (by decide)).step (touches_setStops _ c _)
    (by decide)).step (touches_setWind _ c _) (by decide)).step (touches_withdraw _ _ c) (by decide)).step
    (touches_withdraw _ _ c) (by decide)).step (touches_withdraw _ _ c) (by decide)⟩

theorem craneJoins_after (s : State) (c : Crane) :
    Touches [.links, .waits, .stops, .bookings, .alerts]
      (((s.setCrane c CraneRec.initial).setWind c WindRec.initial).setSvc c ServiceRec.initial) (s.craneJoins c) := by
  unfold State.craneJoins
  dsimp only
  generalize ((s.setCrane c CraneRec.initial).setWind c WindRec.initial).setSvc c ServiceRec.initial = u
  have stops : Touches [.links, .waits, .stops, .bookings, .alerts] u (u.setStops c []) := (touches_setStops u c []).within rfl
  split
  · exact stops.step (touches_addStop _ c _) (by decide)
  · exact stops

theorem svc_of_touches {qs : List Part} {s t : State} (k : Touches qs s t) (h : Part.service ∉ qs) (c : Crane) :
    t.svc c = s.svc c := by
  rw [State.svc, k .service h]
  rfl

theorem craneRec_of_touches {qs : List Part} {s t : State} (k : Touches qs s t) (h : Part.cranes ∉ qs) (c : Crane) :
    t.craneRec c = s.craneRec c := by
  rw [State.craneRec, k .cranes h]
  rfl

theorem craneLeaves_records (s : State) (c d : Crane) :
    (s.craneLeaves d).svc c = (if d = c then ServiceRec.initial else s.svc c) ∧
      (s.craneLeaves d).craneRec c = if d = c then CraneRec.initial else s.craneRec c := by
  obtain ⟨u, eq, k⟩ := craneLeaves_eq s d
  rw [eq, svc_setSvc, svc_of_touches k (by decide), craneRec_of_touches (touches_setSvc u d _) (by decide),
    craneRec_of_touches k (by decide), craneRec_setCrane]
  exact ⟨rfl, rfl⟩

theorem craneJoins_records (s : State) (c d : Crane) :
    (s.craneJoins d).svc c = (if d = c then ServiceRec.initial else s.svc c) ∧
      (s.craneJoins d).craneRec c = if d = c then CraneRec.initial else s.craneRec c := by
  have k := craneJoins_after s d
  rw [svc_of_touches k (by decide), craneRec_of_touches k (by decide), svc_setSvc,
    craneRec_of_touches (touches_setSvc _ d _) (by decide), craneRec_of_touches (touches_setWind _ d _) (by decide),
    craneRec_setCrane]
  exact ⟨rfl, rfl⟩

/-- A new plan leaves the records of the other cranes. -/
theorem followPresence_others (old : Plan) (s : State) {c d : Crane} (other : c ≠ d) :
    (s.followPresence old d).svc c = s.svc c ∧ (s.followPresence old d).craneRec c = s.craneRec c := by
  unfold State.followPresence
  split
  · obtain ⟨svc, crane⟩ := craneLeaves_records s c d
    exact ⟨svc.trans (if_neg other.symm), crane.trans (if_neg other.symm)⟩
  · obtain ⟨svc, crane⟩ := craneJoins_records s c d
    exact ⟨svc.trans (if_neg other.symm), crane.trans (if_neg other.symm)⟩
  all_goals exact ⟨rfl, rfl⟩

/-- A crane that leaves the plan, or joins it, has the initial records. -/
theorem followPresence_own (old : Plan) (s : State) (c : Crane) :
    ((s.followPresence old c).svc c = ServiceRec.initial ∧ (s.followPresence old c).craneRec c = CraneRec.initial) ∨
      s.followPresence old c = s ∧ (old.entry c).present = s.present c := by
  unfold State.followPresence
  split
  · obtain ⟨svc, crane⟩ := craneLeaves_records s c c
    exact .inl ⟨svc.trans (if_pos rfl), crane.trans (if_pos rfl)⟩
  · obtain ⟨svc, crane⟩ := craneJoins_records s c c
    exact .inl ⟨svc.trans (if_pos rfl), crane.trans (if_pos rfl)⟩
  · rename_i old' new; exact .inr ⟨rfl, old'.trans new.symm⟩
  · rename_i old' new; exact .inr ⟨rfl, old'.trans new.symm⟩

/-- In SETUP a record serves every crane of a plan, and the initial records serve every crane. -/
theorem serves_setup {a b : Bool} {v w : VaneMode} {pr : Presence} {r : ServiceRec} (h : r.Serves .setup a v pr)
    (same : a = b) : r.Serves .setup b w pr where
  working := nofun
  withheld e := nomatch (h.withheld e).1
  setup := h.setup
  standby := h.standby
  absent e := h.absent (same.trans e)
  vane e := by
    rcases h.setup rfl with o | o <;> rw [o] at e <;> simp at e

theorem serves_initial {b : Bool} {w : VaneMode} : ServiceRec.initial.Serves .setup b w CraneRec.initial.presence :=
  ⟨nofun, nofun, fun _ => .inl rfl, nofun, fun _ => ⟨rfl, rfl, rfl⟩, fun e => by simp [ServiceRec.initial] at e⟩

theorem keepsService_adopt (s : State) (setup : s.site = .setup) :
    KeepsService s (allCranes.foldl (State.followPresence s.plan.committed) s.adoptPlan) := by
  intro law
  rw [serviceLaw_iff] at law ⊢
  have followed (u : State) (c : Crane) := touches_followPresence s.plan.committed u c
  have plan (u : State) (c : Crane) : (u.followPresence s.plan.committed c).plan = u.plan := (followed u c) .plan (by decide)
  have site : (allCranes.foldl (State.followPresence s.plan.committed) s.adoptPlan).site = .setup := by
    rw [(touches_adopted s) .site (by decide), setup]
  rw [site]
  refine fun c => (foldl_each (Pre := fun c u => u.plan = s.adoptPlan.plan ∧ u.svc c = s.svc c ∧ u.craneRec c = s.craneRec c)
    (Post := fun c u => u.plan = s.adoptPlan.plan ∧ u.serves .setup c (u.svc c)) ?_ ?_ ?_ (fun c => ⟨rfl, rfl, rfl⟩) c).2
  · intro u c h
    have samePlan : u.plan = s.adoptPlan.plan := h.elim (·.1) (·.1)
    refine ⟨(plan u c).trans samePlan, ?_⟩
    rcases followPresence_own s.plan.committed u c with ⟨svc, crane⟩ | ⟨same, presence⟩
    · rw [State.serves, svc, crane]
      exact serves_initial
    · rw [same]
      rcases h with ⟨_, svc, crane⟩ | ⟨_, serves⟩
      · rw [State.serves, svc, crane]
        exact serves_setup (setup ▸ law c) presence
      · exact serves
  · intro u c d other ⟨samePlan, svc, crane⟩
    obtain ⟨svc', crane'⟩ := followPresence_others s.plan.committed u other
    exact .inl ⟨(plan u d).trans samePlan, svc'.trans svc, crane'.trans crane⟩
  · intro u c d other ⟨samePlan, serves⟩
    obtain ⟨svc', crane'⟩ := followPresence_others s.plan.committed u other
    refine ⟨(plan u d).trans samePlan, ?_⟩
    rw [State.serves, svc', crane', State.present, State.entry, plan]
    exact serves

theorem keepsService_store {s : State} {v : PlanStore} (keeps : s.plan.KeepsCommitted v) : KeepsService s (s.withPlan v) := by
  intro law
  rw [serviceLaw_iff] at law ⊢
  intro c
  have entry : (s.withPlan v).entry c = s.entry c := by
    rw [State.entry, State.withPlan_plan, keeps.committed]
    rfl
  rw [State.serves, State.present, entry]
  exact law c

theorem service_move {qs : List Part} {s t : State} (h : Move qs s t)
    (touched : ([.plan, .cranes, .site, .service] : List Part).any (fun p => qs.contains p) = true) :
    KeepsService s t := by
  cases h with
  | resume s c withheld =>
    exact keepsService_of_each (Move.resume s c withheld).touches rfl ((followUps_serves s s.site).resume s c withheld)
  | release s c waits permitted =>
    exact keepsService_of_each (Move.release s c waits permitted).touches rfl
      ((followUps_serves s s.site).release s c waits permitted)
  | park s c securing parked noLift =>
    refine keepsService_of_each (Move.park s c securing parked noLift).touches rfl
      ((framedEach _).frame (touches_converted _ _) rfl (each_serviceDenied _ (fun h => ?_)))
    exact serves_secured h (inState_iff.mp securing).2 (.inr ⟨rfl, rfl⟩) rfl
  | force s c named =>
    exact keepsService_of_each (((touches_forceService s c named).within rfl).step (touches_converted _ _) (by decide)
      (ps := [.service, .cells, .restricted, .register, .alerts])) rfl
      ((framedEach _).frame (touches_converted _ _) rfl (each_forceService s c named))
  | vaneWait s c securing free noLift =>
    refine keepsService_of_each (Move.vaneWait s c securing free noLift).touches rfl (each_serviceDenied _ (fun h => ?_))
    exact serves_secured h (inState_iff.mp securing).2 (.inl ⟨rfl, free⟩) rfl
  | readiness s c r =>
    exact keepsService_of_each (touches_setSvc s c _) rfl (each_setSvc (fun h => h.congr rfl rfl rfl rfl))
  | timer s c =>
    exact keepsService_of_each (touches_setSvc s c _) rfl (each_setSvc (fun h => h.congr rfl rfl rfl rfl))
  | report s c r n inPlan => exact keepsService_setCrane inPlan _
  | rejoin s c r inPlan => exact keepsService_rejoin s c r inPlan
  | lost s c here => exact keepsService_lost s c here
  | store s v keeps => exact keepsService_store keeps
  | adopt s setup => exact keepsService_adopt s setup
  | startUp s => exact fun _ => serviceLaw_startUp s
  | _ => exact absurd touched (by decide)

end Sys2Proof.Machine
end

section
/-!
PROOF. Where a running booking comes from. Every operation but START_LIFT's leaves to each running booking the running booking it was,
with its crane, its fields and, but for those an operation takes off, its suspension reasons (R154, R155).
-/
namespace Sys2Proof.Machine

/-- `b` is the booking `a` with, perhaps, other marks; it runs only if `a` does, and of the reasons of `a` only those in `gone` are
missing then. -/
structure Booking.Continues (gone : SuspReason → Prop) (a b : Booking) : Prop where
  id : a.id = b.id
  crane : a.crane = b.crane
  data : a.data = b.data
  running : b.running = true → a.running = true
  reasons : b.running = true → ∀ r ∈ a.reasons, r ∈ b.reasons ∨ gone r

/-- Each booking after it was a booking before; `gone` says which reasons may be taken off a crane's booking. -/
def RecordsFrom (gone : Crane → SuspReason → Prop) (s t : State) : Prop :=
  ∀ b ∈ t.bookings, ∃ a ∈ s.bookings, a.Continues (gone b.crane) b

/-- Each running booking after it was a running booking before. -/
def LiftsFrom (gone : Crane → SuspReason → Prop) (s t : State) : Prop :=
  ∀ b ∈ t.bookings, b.running = true → ∃ a ∈ s.bookings, a.Continues (gone b.crane) b

theorem RecordsFrom.lifts {gone : Crane → SuspReason → Prop} {s t : State} (h : RecordsFrom gone s t) :
    LiftsFrom gone s t := fun b hb _ => h b hb

theorem Booking.Continues.refl {gone : SuspReason → Prop} (b : Booking) : b.Continues gone b :=
  ⟨rfl, rfl, rfl, fun run => run, fun _ _ hr => .inl hr⟩

theorem Booking.Continues.trans {gone : SuspReason → Prop} {a b c : Booking} (h : a.Continues gone b)
    (k : b.Continues gone c) : a.Continues gone c :=
  ⟨h.id.trans k.id, h.crane.trans k.crane, h.data.trans k.data, fun run => h.running (k.running run),
    fun run r hr => (h.reasons (k.running run) r hr).elim (k.reasons run r) .inr⟩

/-- A record that does not run, with the id, the crane and the fields of another. -/
theorem Booking.Continues.idle {gone : SuspReason → Prop} {a b : Booking} (idle : b.running = false) (id : a.id = b.id)
    (crane : a.crane = b.crane) (data : a.data = b.data) : a.Continues gone b :=
  ⟨id, crane, data, fun run => absurd (idle.symm.trans run) (by decide),
    fun run => absurd (idle.symm.trans run) (by decide)⟩

variable {gone : Crane → SuspReason → Prop}

theorem framedRecords (gone : Crane → SuspReason → Prop) : Framed (RecordsFrom gone) [.bookings] where
  trans h k := fun b hb => by
    obtain ⟨a, ha, from_a⟩ := k b hb
    obtain ⟨o, ho, from_o⟩ := h a ha
    exact ⟨o, ho, (from_a.crane ▸ from_o).trans from_a⟩
  same h := fun b hb => by
    have same := h .bookings (by decide)
    rw [same] at hb
    exact ⟨b, hb, .refl b⟩

theorem framedLifts (gone : Crane → SuspReason → Prop) : Framed (LiftsFrom gone) [.bookings] where
  trans h k := fun b hb run => by
    obtain ⟨a, ha, from_a⟩ := k b hb run
    obtain ⟨o, ho, from_o⟩ := h a ha (from_a.running run)
    exact ⟨o, ho, (from_a.crane ▸ from_o).trans from_a⟩
  same h := ((framedRecords gone).same h).lifts

/-! ### The booking table's operations -/

theorem mem_putLift {s : State} {b r : Booking} (h : r ∈ (s.putLift b).bookings) : r = b ∨ r ∈ s.bookings := by
  obtain ⟨a, ha, eq⟩ := List.mem_map.mp h
  split at eq
  · exact .inl eq.symm
  · exact .inr (eq ▸ ha)

theorem records_putLift {s : State} {b r : Booking} (hb : b ∈ s.bookings) (h : b.Continues (gone r.crane) r) :
    RecordsFrom gone s (s.putLift r) := fun a ha => by
  rcases mem_putLift ha with rfl | old
  · exact ⟨b, hb, h⟩
  · exact ⟨a, old, .refl a⟩

theorem records_freeLift (s : State) (id : Nat) : RecordsFrom gone s (s.freeLift id) :=
  fun b hb => ⟨b, (List.mem_filter.mp hb).1, .refl b⟩

theorem records_notifyLift {s t : State} (h : RecordsFrom gone s t) (b : Booking) (e : NoticeEvent) (rs : List SuspReason) :
    RecordsFrom gone s (t.notifyLift b e rs) := (framedRecords gone).frame (touches_notifyLift t b e rs) rfl h

theorem findLift_mem {s : State} {id : Nat} {b : Booking} (h : s.findLift id = some b) : b ∈ s.bookings :=
  List.mem_of_find?_eq_some h

theorem runningLift_mem {s : State} {c : Crane} {b : Booking} (h : s.runningLift c = some b) :
    b ∈ s.bookings ∧ b.running = true ∧ b.crane = c := by
  have := List.find?_some h
  rw [Bool.and_eq_true, decide_eq_true_eq] at this
  exact ⟨List.mem_of_find?_eq_some h, this.1, this.2⟩

theorem Booking.reasons_suspended {b : Booking} {rs : List SuspReason} (h : b.state = .suspended rs) : b.reasons = rs := by
  rw [Booking.reasons, h]

theorem Booking.reasons_active {b : Booking} (h : b.state = .active) : b.reasons = [] := by
  rw [Booking.reasons, h]

theorem Booking.running_active {b : Booking} (h : b.state = .active) : b.running = true := by
  rw [Booking.running, h]

theorem Booking.running_suspended {b : Booking} {rs : List SuspReason} (h : b.state = .suspended rs) : b.running = true := by
  rw [Booking.running, h]

theorem SuspReason.mem_setAdd {r r' : SuspReason} {rs : List SuspReason} :
    r' ∈ setAdd SuspReason.all r rs ↔ r' = r ∨ r' ∈ rs := Machine.mem_setAdd SuspReason.mem_all

theorem records_put_onto {s u : State} (h : RecordsFrom gone s u) {b r : Booking} (hb : b ∈ s.bookings)
    (put : b.Continues (gone r.crane) r) : RecordsFrom gone s (u.putLift r) := fun a ha => by
  rcases mem_putLift ha with rfl | old
  · exact ⟨b, hb, put⟩
  · exact h a old

/-- A running booking with a reason more. -/
theorem Booking.continues_suspend {gone : SuspReason → Prop} {b : Booking} {new : List SuspReason} (run : b.running = true)
    (h : ∀ r ∈ b.reasons, r ∈ new ∨ gone r) : b.Continues gone { b with state := .suspended new } :=
  ⟨rfl, rfl, rfl, fun _ => run, fun _ r hr => h r hr⟩

theorem records_addReason_onto {s u : State} (h : RecordsFrom gone s u) {b : Booking} (hb : b ∈ s.bookings) (r : SuspReason) :
    RecordsFrom gone s (u.addReason b r) := by
  unfold State.addReason
  split
  · rename_i active
    refine records_notifyLift (records_put_onto h hb (Booking.continues_suspend (Booking.running_active active) ?_)) _ _ _
    rw [Booking.reasons_active active]
    exact fun _ hr => absurd hr List.not_mem_nil
  · rename_i rs suspended
    refine records_put_onto h hb (Booking.continues_suspend (Booking.running_suspended suspended) ?_)
    rw [Booking.reasons_suspended suspended]
    exact fun _ hr => .inl (SuspReason.mem_setAdd.mpr (.inr hr))
  all_goals exact h

theorem records_addReason {s : State} {b : Booking} (hb : b ∈ s.bookings) (r : SuspReason) :
    RecordsFrom gone s (s.addReason b r) := records_addReason_onto ((framedRecords gone).refl s) hb r

theorem records_addReasonTo (s : State) (c : Crane) (r : SuspReason) : RecordsFrom gone s (s.addReasonTo c r) := by
  unfold State.addReasonTo
  split
  · rename_i found; exact records_addReason (runningLift_mem found).1 r
  · exact (framedRecords gone).refl s

theorem records_removeReason_onto {s u : State} (h : RecordsFrom gone s u) {b : Booking} {r : SuspReason}
    (hb : b ∈ s.bookings) (off : gone b.crane r) : RecordsFrom gone s (u.removeReason b r) := by
  unfold State.removeReason
  split
  · rename_i rs suspended
    split
    · dsimp only
      have put : RecordsFrom gone s (u.putLift { b with state := .suspended (setDel r rs) }) := by
        refine records_put_onto h hb (Booking.continues_suspend (Booking.running_suspended suspended) (fun r' hr' => ?_))
        rw [Booking.reasons_suspended suspended] at hr'
        by_cases same : r' = r
        · subst same; exact .inr off
        · exact .inl (by simp [setDel_eq_filter, hr', same])
      split
      · exact records_notifyLift put _ _ _
      · exact put
    · exact h
  all_goals exact h

theorem records_removeReason {s : State} {b : Booking} {r : SuspReason} (hb : b ∈ s.bookings) (off : gone b.crane r) :
    RecordsFrom gone s (s.removeReason b r) := records_removeReason_onto ((framedRecords gone).refl s) hb off

theorem records_removeReasonFrom (s : State) {c : Crane} {r : SuspReason} (off : gone c r) :
    RecordsFrom gone s (s.removeReasonFrom c r) := by
  unfold State.removeReasonFrom
  split
  · rename_i b found
    obtain ⟨hb, _, crane⟩ := runningLift_mem found
    exact records_removeReason hb (crane ▸ off)
  · exact (framedRecords gone).refl s

/-- Operations on each record of the table as it was, whose results are those records but for their reasons. -/
theorem records_foldl {s : State} {g : State → Booking → State}
    (step : ∀ {u b}, RecordsFrom gone s u → b ∈ s.bookings → RecordsFrom gone s (g u b)) :
    RecordsFrom gone s (s.bookings.foldl g s) := by
  have along : ∀ (l : List Booking) (u : State), (∀ b ∈ l, b ∈ s.bookings) → RecordsFrom gone s u →
      RecordsFrom gone s (l.foldl g u) := by
    intro l
    induction l with
    | nil => exact fun _ _ h => h
    | cons b l ih => exact fun u sub h => ih _ (fun a ha => sub a (List.mem_cons_of_mem _ ha)) (step h (sub b List.mem_cons_self))
  exact along s.bookings s (fun _ h => h) ((framedRecords gone).refl s)

theorem records_addReasonAll (s : State) (r : SuspReason) : RecordsFrom gone s (s.addReasonAll r) := by
  unfold State.addReasonAll
  exact records_foldl (fun h hb => records_addReason_onto h hb r)

theorem records_removeReasonAll (s : State) {r : SuspReason} (off : ∀ c, gone c r) :
    RecordsFrom gone s (s.removeReasonAll r) := by
  unfold State.removeReasonAll
  exact records_foldl (fun h hb => records_removeReason_onto h hb (off _))

/-! ### Stops and alerts -/

theorem records_addStop (s : State) (c : Crane) (r : StopReason) : RecordsFrom gone s (s.addStop c r) := by
  have stopped (rs : List StopReason) : RecordsFrom gone s (s.setStops c rs) :=
    (framedRecords gone).of (touches_setStops s c rs) rfl
  unfold State.addStop
  dsimp only
  split
  · exact (framedRecords gone).trans ((framedRecords gone).frame (touches_denyCrane _ c _) rfl (stopped _))
      (records_addReasonTo _ c _)
  · exact stopped _

theorem records_stopAction (s : State) (k : AlertKind) (c : Option Crane) : RecordsFrom gone s (s.stopAction k c) := by
  unfold State.stopAction
  split
  · split
    · exact records_addStop s _ _
    · exact (framedRecords gone).refl s
  · exact (framedRecords gone).refl s

theorem records_raise (s : State) (k : AlertKind) (c : Option Crane) : RecordsFrom gone s (s.raise k c) :=
  (framedRecords gone).frame (touches_evaluateLines _) rfl ((framedRecords gone).trans
    ((framedRecords gone).of (touches_latchAlert s k c) rfl) (records_stopAction _ k c))

theorem records_intrude (s : State) (q : CellId) : RecordsFrom gone s (s.intrude q) := by
  unfold State.intrude
  dsimp only
  split
  · exact records_raise s _ _
  · exact (framedRecords gone).fold ((framedRecords gone).frame (touches_register_ _ q _) rfl (records_raise s _ _)) _ _
      (fun u d => records_raise u _ _)

theorem records_lostRecords (s : State) (c : Crane) : RecordsFrom gone s (s.lostRecords c) := by
  unfold State.lostRecords
  dsimp only
  refine (framedRecords gone).trans ((framedRecords gone).frame (touches_denyCrane _ c _) rfl ((framedRecords gone).frame
    (touches_setSvc _ c _) rfl ((framedRecords gone).of (touches_setCrane s c _) rfl))) (records_addReasonTo _ c _)

theorem records_clearStops (s : State) {c : Crane} (off : gone c .stopOrder) (named : List StopReason) :
    RecordsFrom gone s (s.clearStops c named) := by
  have cleared (rs : List StopReason) : RecordsFrom gone s (s.setStops c rs) :=
    (framedRecords gone).of (touches_setStops s c rs) rfl
  unfold State.clearStops
  dsimp only
  split
  · exact (framedRecords gone).trans (cleared _) (records_removeReasonFrom _ off)
  · exact cleared _

theorem records_handVerdict (s : State) {c : Crane} (off : gone c .wind) : RecordsFrom gone s (s.handVerdict c) := by
  unfold State.handVerdict
  split
  · rename_i b found
    obtain ⟨hb, _, crane⟩ := runningLift_mem found
    unfold State.actOnVerdict
    split
    · exact records_addReason hb _
    · exact records_removeReason hb (crane ▸ off)
    · exact (framedRecords gone).refl s
  · exact (framedRecords gone).refl s

theorem records_followPresence (old : Plan) (s : State) (c : Crane) : RecordsFrom gone s (s.followPresence old c) := by
  have left : Touches [.cranes, .alerts, .occupied, .stops, .wind, .service] s (s.craneLeaves c) := by
    obtain ⟨u, eq, k⟩ := craneLeaves_eq s c
    rw [eq]
    exact (((touches_setCrane s c _).within rfl).step k (by decide)).step (touches_setSvc u c _) (by decide)
  unfold State.followPresence
  split
  · exact (framedRecords gone).of left rfl
  · unfold State.craneJoins
    dsimp only
    have joined : RecordsFrom gone s
        ((((s.setCrane c CraneRec.initial).setWind c WindRec.initial).setSvc c ServiceRec.initial).setStops c []) :=
      (framedRecords gone).frame (touches_setStops _ c _) rfl ((framedRecords gone).frame (touches_setSvc _ c _) rfl
        ((framedRecords gone).frame (touches_setWind _ c _) rfl ((framedRecords gone).of (touches_setCrane s c _) rfl)))
    split
    · exact (framedRecords gone).trans joined (records_addStop _ c _)
    · exact joined
  all_goals exact (framedRecords gone).refl s

theorem records_adopted (s : State) :
    RecordsFrom gone s (allCranes.foldl (State.followPresence s.plan.committed) s.adoptPlan) :=
  (framedRecords gone).fold ((framedRecords gone).of (touches_adoptPlan s) rfl) _ _ (fun u c => records_followPresence _ u c)

/-! ### Requests and minutes -/

theorem Booking.stamp_continues (b : Booking) (s : State) (q : Requester) {gone : SuspReason → Prop} :
    b.Continues gone (b.stamp s q) := ⟨rfl, rfl, rfl, fun run => run, fun _ _ hr => .inl hr⟩

theorem running_of_booked {b : Booking} (h : b.state = .booked) : b.running = false := by rw [Booking.running, h]

theorem running_of_pending {b : Booking} {t : Nat} (h : b.state = .pending t) : b.running = false := by
  rw [Booking.running, h]

theorem Booking.due_continues (b : Booking) {gone : SuspReason → Prop} : b.Continues gone { b with due := true } :=
  ⟨rfl, rfl, rfl, fun run => run, fun _ _ hr => .inl hr⟩

theorem records_due {s : State} {b : Booking} (hb : b ∈ s.bookings) :
    RecordsFrom gone s ((s.putLift { b with due := true }).notifyLift b .due []) :=
  records_notifyLift (records_putLift hb b.due_continues) _ _ _

theorem records_testDue {s : State} {b : Booking} (hb : b ∈ s.bookings) : RecordsFrom gone s (s.testDue b) := by
  unfold State.testDue
  split
  · exact records_due hb
  · exact (framedRecords gone).refl s

theorem records_testBooked (s : State) (n id : Nat) : RecordsFrom gone s (s.testBooked n id) := by
  unfold State.testBooked
  split
  · exact (framedRecords gone).refl s
  rename_i b found
  split
  · split
    · exact records_notifyLift (records_freeLift s id) _ _ _
    split
    · exact records_due (findLift_mem found)
    · exact (framedRecords gone).refl s
  · exact (framedRecords gone).refl s

theorem records_overrun {s : State} {b : Booking} (found : s.findLift b.id = some b) :
    RecordsFrom gone s (s.putLift { b with overrun := true }) :=
  records_putLift (findLift_mem found) ⟨rfl, rfl, rfl, fun run => run, fun _ _ hr => .inl hr⟩

theorem mem_insertLift {b r : Booking} {l : List Booking} (h : r ∈ insertLift b l) : r = b ∨ r ∈ l := by
  induction l with
  | nil => exact .inl (List.mem_singleton.mp h)
  | cons a l ih =>
    unfold insertLift at h
    split at h
    · exact List.mem_cons.mp h
    · rcases List.mem_cons.mp h with rfl | h
      · exact .inr List.mem_cons_self
      · exact (ih h).imp_right (List.mem_cons_of_mem _)

theorem putLift_mem {s : State} {b r : Booking} (hb : b ∈ s.bookings) (id : b.id = r.id) : r ∈ (s.putLift r).bookings :=
  List.mem_map.mpr ⟨b, hb, if_pos id⟩

theorem records_confirm (s : State) (q : Requester) (id : Nat) : RecordsFrom gone s (confirm q id s).1 := by
  unfold confirm
  split
  · exact (framedRecords gone).refl s
  rename_i b found
  split
  · exact (framedRecords gone).refl s
  split
  · dsimp only
    split
    · exact records_freeLift s id
    · have hb := findLift_mem found
      have booked : RecordsFrom gone s (s.putLift { b.stamp s q with state := .booked }) :=
        records_putLift hb (Booking.Continues.idle rfl rfl rfl rfl)
      exact (framedRecords gone).trans booked (records_testDue (putLift_mem hb rfl))
  all_goals exact (framedRecords gone).refl s

theorem records_cancel (s : State) (q : Requester) (id : Nat) : RecordsFrom gone s (cancel q id s).1 := by
  unfold cancel
  split
  · exact (framedRecords gone).refl s
  split
  · exact (framedRecords gone).refl s
  split
  · exact (framedRecords gone).refl s
  split
  · exact (framedRecords gone).refl s
  · dsimp only
    split
    · exact records_notifyLift (records_freeLift s id) _ _ _
    · exact records_freeLift s id

theorem records_setLock (s : State) (locked : Bool) (q : Requester) (id : Nat) :
    RecordsFrom gone s (setLock locked q id s).1 := by
  unfold setLock
  split
  · exact (framedRecords gone).refl s
  split
  · exact (framedRecords gone).refl s
  · rename_i found
    exact records_putLift (findLift_mem found) ⟨rfl, rfl, rfl, fun run => run, fun _ _ hr => .inl hr⟩

theorem records_suspend (s : State) (q : Requester) (id : Nat) : RecordsFrom gone s (suspend q id s).1 := by
  unfold suspend
  split
  · exact (framedRecords gone).refl s
  split
  · exact (framedRecords gone).refl s
  split
  · rename_i b found _
    dsimp only
    have hb := findLift_mem found
    exact (framedRecords gone).trans (records_putLift hb (b.stamp_continues s _))
      (records_addReason (putLift_mem (r := b.stamp s .supervisor) hb rfl) _)
  · exact (framedRecords gone).refl s

/-- RESUME_LIFT takes off no reason but SUPERVISOR and NONCONFORM (R158). -/
theorem records_resume (s : State) (q : Requester) (id : Nat)
    (off : ∀ c r, r = .supervisor ∨ r = .nonconform → gone c r) : RecordsFrom gone s (resume q id s).1 := by
  unfold resume
  split
  · exact (framedRecords gone).refl s
  split
  · exact (framedRecords gone).refl s
  split
  · rename_i b found _ _ rs suspended
    refine records_putLift (findLift_mem found)
      ⟨rfl, rfl, rfl, fun _ => Booking.running_suspended suspended, fun _ r hr => ?_⟩
    rw [Booking.reasons_suspended suspended] at hr
    have left : r ∈ s.resumedReasons q b rs ∨ r = .supervisor ∨ r = .nonconform := by
      unfold State.resumedReasons
      split
      · by_cases same : r = .supervisor
        · exact .inr (.inl same)
        · exact .inl (by simp [setDel_eq_filter, hr, same])
      · split
        · by_cases same : r = .nonconform
          · exact .inr (.inr same)
          · exact .inl (by simp [setDel_eq_filter, hr, same])
        · exact .inl hr
    refine left.imp (fun kept => ?_) (off _ r)
    have some : (s.resumedReasons q b rs).isEmpty = false := by
      cases h : s.resumedReasons q b rs with
      | nil => exact absurd (h ▸ kept) List.not_mem_nil
      | cons _ _ => rfl
    simp only [Booking.reasons, some]
    exact kept
  all_goals exact (framedRecords gone).refl s

/-! ### Requests that make or change a booking that does not run -/

theorem lifts_propose (s : State) (q : Requester) (n : Nat) (f : LiftFields) : LiftsFrom gone s (propose q n f s).1 := by
  unfold propose
  split
  · exact (framedLifts gone).refl s
  split
  · exact (framedLifts gone).refl s
  split
  · exact (framedLifts gone).refl s
  · intro r hr run
    rcases mem_insertLift hr with rfl | old
    · exact nomatch run
    · exact ⟨r, old, .refl r⟩

/-- A record that does not run is put for another, with other fields perhaps. -/
theorem lifts_putLift_idle {s : State} {r : Booking} (h : r.running = false) : LiftsFrom gone s (s.putLift r) :=
  fun a ha run => by
    rcases mem_putLift ha with rfl | old
    · exact absurd (h.symm.trans run) (by decide)
    · exact ⟨a, old, .refl a⟩

theorem lifts_amend (s : State) (q : Requester) (id : Nat) (f : LiftFields) : LiftsFrom gone s (amend q id f s).1 := by
  unfold amend
  split
  · exact (framedLifts gone).refl s
  split
  · exact (framedLifts gone).refl s
  rename_i b found
  split
  · exact (framedLifts gone).refl s
  split
  · exact (framedLifts gone).refl s
  rename_i booked
  split
  · exact (framedLifts gone).refl s
  split
  · exact (framedLifts gone).refl s
  · rename_i d _
    have idle : ({ b.stamp s q with data := d, due := false } : Booking).running = false :=
      running_of_booked (show b.state = .booked by simpa using booked)
    have put := putLift_mem (r := { b.stamp s q with data := d, due := false }) (findLift_mem found) rfl
    exact (framedLifts gone).trans (lifts_putLift_idle idle) (records_testDue put).lifts

end Sys2Proof.Machine
end

section
/-!
PROOF. The changes of the site state bring each service record to what the new state allows (R114, R126 to R129); and while the site
is in SETUP nothing gives a cell, takes a wait entry or starts a lift (R70, R74, R151).
-/
namespace Sys2Proof.Machine

/-! ### Entry to securing -/

/-- A record under a site state that is neither OPEN nor SETUP serves under another. -/
theorem ServiceRec.Serves.shift {p q : SiteState} {a : Bool} {v : VaneMode} {pr : Presence} {r : ServiceRec}
    (h : r.Serves p a v pr) (from_ : p ≠ .setup) (opened : q ≠ .opened) (setup : q ≠ .setup)
    (withheld : r.withheld = false) : r.Serves q a v pr where
  working e := absurd e opened
  withheld w := absurd (withheld.symm.trans w) (by decide)
  setup e := absurd e setup
  standby e := absurd (h.standby e) from_
  absent := h.absent
  vane := h.vane

theorem followUps_others {P : Crane → ServiceRec → Prop} (f : FollowUps (KeepsEach P)) {s : State} {c d : Crane}
    (other : c ≠ d) (h : P c (s.svc c)) : P c ((s.enterSecuring d).svc c) := by
  have put (r : ServiceRec) : (s.setSvc d r).svc c = s.svc c := by rw [svc_setSvc, if_neg other.symm]
  unfold State.enterSecuring
  dsimp only
  split
  · rw [State.toSecuring, put]; exact h
  · split
    · have waits : P c ((s.withheldToVaneWait d).svc c) := by
        rw [State.withheldToVaneWait, svc_of_touches (touches_denyCrane _ d _) (by decide), put]
        exact h
      split
      · split
        · exact waits
        · rename_i here
          refine f.testVane (inState_iff.mpr ?_) c waits
          rw [State.withheldToVaneWait, svc_of_touches (touches_denyCrane _ d _) (by decide), svc_setSvc, if_pos rfl]
          exact ⟨by simpa using here, rfl⟩
      · rw [put]; exact h
    · exact h
  all_goals exact h

/-- A crane's own entry to securing, from OPEN or STORM to a state in which no crane works. -/
theorem enterSecuring_own {s u : State} {p q : SiteState} {c : Crane} (plan : u.plan = s.plan) (from_ : p ≠ .setup)
    (opened : q ≠ .opened) (setup : q ≠ .setup) (h : s.serves p c (u.svc c)) :
    s.serves q c ((u.enterSecuring c).svc c) := by
  have put (r : ServiceRec) : (u.setSvc c r).svc c = r := by rw [svc_setSvc, if_pos rfl]
  have entry : u.entry c = s.entry c := by rw [State.entry, plan]; rfl
  unfold State.enterSecuring
  dsimp only
  split
  · rename_i working
    have notWithheld := h.notWithheld (by simp [working])
    have inPlan := h.inPlan (by simp [working])
    rw [State.toSecuring, put]
    exact
      { working := fun e => absurd e opened
        withheld := fun w => absurd (notWithheld.symm.trans w) (by decide)
        setup := fun e => absurd e setup
        standby := nofun
        absent := fun e => absurd (inPlan.symm.trans e) (by decide)
        vane := fun e => by simp at e }
  · rename_i out
    have inPlan := h.inPlan (by simp [out])
    split
    · split
      · rename_i free
        have waits : s.serves q c ((u.withheldToVaneWait c).svc c) := by
          rw [State.withheldToVaneWait, svc_of_touches (touches_denyCrane _ c _) (by decide), put]
          exact
            { working := fun e => absurd e opened
              withheld := nofun
              setup := fun e => absurd e setup
              standby := nofun
              absent := fun e => absurd (inPlan.symm.trans e) (by decide)
              vane := fun _ => entry ▸ free }
        split
        · exact waits
        · rename_i here
          refine (followUps_serves s q).testVane (inState_iff.mpr ?_) c waits
          rw [State.withheldToVaneWait, svc_of_touches (touches_denyCrane _ c _) (by decide), put]
          exact ⟨by simpa using here, rfl⟩
      · rw [put]
        exact
          { working := fun e => absurd e opened
            withheld := nofun
            setup := fun e => absurd e setup
            standby := fun e => nomatch out.symm.trans e
            absent := fun e => absurd (inPlan.symm.trans e) (by decide)
            vane := fun e => by simp [out] at e }
    · rename_i notWithheld
      exact h.shift from_ opened setup (by simpa using notWithheld)
  all_goals
    rename_i state
    exact h.shift from_ opened setup (h.notWithheld (by simp [state]))

theorem serves_enterSecuringAll {s u : State} {p q : SiteState} (plan : u.plan = s.plan) (from_ : p ≠ .setup)
    (opened : q ≠ .opened) (setup : q ≠ .setup) (h : ∀ c, s.serves p c (u.svc c)) (c : Crane) :
    s.serves q c (u.enterSecuringAll.svc c) := by
  have kept (v : State) (d : Crane) : (v.enterSecuring d).plan = v.plan := (touches_enterSecuring v d) .plan (by decide)
  refine (foldl_each (g := State.enterSecuring) (Pre := fun c v => v.plan = s.plan ∧ s.serves p c (v.svc c))
    (Post := fun c v => v.plan = s.plan ∧ s.serves q c (v.svc c)) ?_ ?_ ?_ (fun c => ⟨plan, h c⟩) c).2
  · rintro v d (⟨samePlan, before⟩ | ⟨samePlan, after⟩)
    · exact ⟨(kept v d).trans samePlan, enterSecuring_own samePlan from_ opened setup before⟩
    · exact ⟨(kept v d).trans samePlan, enterSecuring_own samePlan setup opened setup after⟩
  · exact fun v c d other ⟨samePlan, before⟩ =>
      .inl ⟨(kept v d).trans samePlan, followUps_others (followUps_serves s p) other before⟩
  · exact fun v c d other ⟨samePlan, after⟩ =>
      ⟨(kept v d).trans samePlan, followUps_others (followUps_serves s q) other after⟩

/-- The law, of the records at a state with the same plan and presences and another site state. -/
theorem serviceLaw_of_serves {s t : State} (plan : t.plan = s.plan) (cranes : t.cranes = s.cranes)
    (h : ∀ c, s.serves t.site c (t.svc c)) : ServiceLaw t := by
  rw [serviceLaw_iff]
  intro c
  rw [serves_of_same plan cranes]
  exact h c

theorem keepsService_enterStorm (s : State) (c : Crane) (opened : s.site = .opened) : KeepsService s (s.enterStorm c) := by
  intro law
  rw [serviceLaw_iff, opened] at law
  have entered : Touches [.site, .links, .waits, .stops, .bookings, .alerts, .lines] s
      (((s.withSite .storm).raiseFor .storm c).addReasonAll .storm) :=
    (((touches_withSite s _).within rfl).step (touches_raiseFor _ _ c) (by decide)).step (touches_addReasonAll _ _)
      (by decide)
  have storm : (((s.withSite .storm).raiseFor .storm c).addReasonAll .storm).site = .storm := by
    rw [(touches_addReasonAll _ _) .site (by decide), (touches_raiseFor _ _ c) .site (by decide)]
    rfl
  unfold State.enterStorm
  generalize ((s.withSite .storm).raiseFor .storm c).addReasonAll .storm = u at entered storm
  have secured := touches_enterSecuringAll u
  have serves := serves_enterSecuringAll (p := .opened) (q := .storm) (entered .plan (by decide)) (by decide) (by decide)
    (by decide) (fun c => by rw [svc_of_touches entered (by decide)]; exact law c)
  refine serviceLaw_of_serves (s := s) ?_ ?_ (fun c => ?_)
  · rw [secured .plan (by decide), entered .plan (by decide)]
  · rw [secured .cranes (by decide), entered .cranes (by decide)]
  · rw [secured .site (by decide), storm]
    exact serves c

theorem keepsService_reportStorm (s : State) (c : Crane) : KeepsService s (s.reportStorm c) := by
  unfold State.reportStorm
  split
  case h_1 opened => exact keepsService_enterStorm s c opened
  all_goals exact framedService.of (touches_raiseFor s _ c) rfl

theorem keepsService_windStage (s : State) (c : Crane) (w : Option Nat) : KeepsService s (s.windStage c w) := by
  have sampled (r : WindRec) : KeepsService s ((s.setWind c r).windConditions c) :=
    framedService.frame (touches_windConditions _ c) rfl (framedService.of (touches_setWind s c r) rfl)
  unfold State.windStage
  dsimp only
  split
  · exact framedService.frame (touches_handVerdict _ c) rfl (framedService.trans (sampled _) (keepsService_reportStorm _ c))
  · exact framedService.frame (touches_handVerdict _ c) rfl (sampled _)

theorem keepsService_close {s : State} (working : s.site = .opened ∨ s.site = .storm) : KeepsService s s.close := by
  intro law
  rw [serviceLaw_iff] at law
  have secured := touches_enterSecuringAll s
  have from_ : s.site ≠ .setup := by rcases working with h | h <;> simp [h]
  have serves := serves_enterSecuringAll (q := .closed) (rfl : s.plan = s.plan) from_ (by decide) (by decide) law
  unfold State.close
  dsimp only
  generalize s.enterSecuringAll = u at *
  have closed := touches_withSite u .closed
  have denied := touches_denyWaits (u.withSite .closed) (fun w => !(u.withSite .closed).inState w.crane .securing) .service
  refine serviceLaw_of_serves (s := s) ?_ ?_ (fun c => ?_)
  · rw [denied .plan (by decide), closed .plan (by decide), secured .plan (by decide)]
  · rw [denied .cranes (by decide), closed .cranes (by decide), secured .cranes (by decide)]
  · rw [denied .site (by decide), svc_of_touches denied (by decide), svc_of_touches closed (by decide)]
    exact serves c

/-! ### The return to OPEN -/

/-- On the way back to OPEN: a record as outside OPEN, here and not SECURING, or one as in OPEN. -/
def State.comesBack (s : State) (p : SiteState) (c : Crane) (r : ServiceRec) : Prop :=
  s.serves p c r ∧ r.lost = false ∧ r.state ≠ .securing ∨ s.serves .opened c r

theorem followUps_comesBack (s : State) {p : SiteState} (opened : p ≠ .opened) :
    FollowUps (KeepsEach (s.comesBack p)) := by
  refine followUps_each ?_ ?_ ?_
  · rintro c r _ out w (⟨h, _⟩ | h)
    · exact absurd (h.withheld w).1 opened
    · exact .inr (.back (by decide) (h.inPlan (by simp [out])))
  · rintro c r _ out w (⟨h, _⟩ | h)
    · exact absurd (h.withheld w).1 opened
    · exact .inr (.outWithheld rfl (h.inPlan (by simp [out])))
  · rintro c r here waits (⟨h, _, _⟩ | h)
    · exact .inl ⟨h.released waits, here, by simp [ServiceRec.out]⟩
    · exact absurd rfl (h.notOpened (.inr waits))

theorem returnCrane_own {s u : State} {p : SiteState} {c : Crane} (setup : p ≠ .setup)
    (h : s.serves p c (u.svc c) ∧ (u.svc c).lost = false) :
    s.serves p c ((u.returnCrane c).svc c) ∧ ((u.returnCrane c).svc c).lost = false ∧
      ((u.returnCrane c).svc c).state ≠ .securing := by
  obtain ⟨serves, here⟩ := h
  unfold State.returnCrane
  split
  · rename_i back
    have state : (u.svc c).state ≠ .offline := by
      simp only [State.inState, Bool.or_eq_true, Bool.and_eq_true, decide_eq_true_eq] at back
      rcases back with back | back
      · simp [back.2]
      · simp [back.1.2]
    have own : (u.toService c).svc c = (u.svc c).back := by
      rw [State.toService, svc_of_touches (touches_withdraw _ _ c) (by decide), svc_setSvc, if_pos rfl]
      rfl
    rw [own]
    exact ⟨.back setup (serves.inPlan state), here, by simp [ServiceRec.back]⟩
  · rename_i stays
    refine ⟨serves, here, fun securing => stays ?_⟩
    rw [Bool.or_eq_true]
    exact .inl (inState_iff.mpr ⟨here, securing⟩)

theorem returnCrane_others (s : State) {c d : Crane} (other : c ≠ d) : (s.returnCrane d).svc c = s.svc c := by
  unfold State.returnCrane
  split
  · rw [State.toService, svc_of_touches (touches_withdraw _ _ d) (by decide), svc_setSvc, if_neg other.symm]
  · rfl

theorem resumeChange_own (s : State) (c : Crane) :
    (s.resumeChange c).svc c = (s.svc c).back ∨ (s.resumeChange c).svc c = (s.svc c).out .remainSecured true := by
  have kept := svc_changeCells s (s.resumeReqs c) c
  unfold State.resumeChange
  dsimp only
  generalize s.changeCells (s.resumeReqs c) = t at *
  split
  · left
    rw [State.toService, svc_of_touches (touches_withdraw _ _ c) (by decide), svc_setSvc, if_pos rfl, kept]
    rfl
  · right
    rw [State.outOfService, svc_of_touches (touches_withdraw _ _ c) (by decide),
      svc_of_touches (touches_denyCrane _ c _) (by decide), svc_setSvc, if_pos rfl, kept]
    rfl

theorem convertCrane_own {s u : State} {p : SiteState} {c : Crane} (setup : p ≠ .setup)
    (h : s.comesBack p c (u.svc c)) : s.serves .opened c ((u.convertCrane c).svc c) := by
  have inPlan (state : (u.svc c).state ≠ .offline) : s.present c = true := h.elim (·.1.inPlan state) (·.inPlan state)
  unfold State.convertCrane
  split
  · rename_i out
    have state : (u.svc c).state ≠ .offline := by
      rw [Bool.or_eq_true, inState_iff, inState_iff] at out
      rcases out with out | out <;> simp [out.2]
    have converted : s.serves .opened c (((u.resumeChange c).ownAndSeized (u.changesOf (u.resumeReqs c))).svc c) := by
      rw [svc_of_touches (touches_ownAndSeized _ _) (by decide)]
      rcases resumeChange_own u c with eq | eq
      · exact eq ▸ .back (by decide) (inPlan state)
      · exact eq ▸ .outWithheld rfl (inPlan state)
    exact (followUps_serves s .opened).follow ((followUps_serves s .opened).refl _) c converted
  · rename_i stays
    rw [Bool.or_eq_true, inState_iff, inState_iff] at stays
    rcases h with ⟨h, here, securing⟩ | h
    · have notOut : (u.svc c).state ≠ .outOfService := fun e => stays (.inl ⟨here, e⟩)
      have notWaits : (u.svc c).state ≠ .vaneWait := fun e => stays (.inr ⟨here, e⟩)
      have notWithheld := h.notWithheld notOut
      exact
        { working := fun _ => ⟨securing, notWaits, fun e => absurd e notOut⟩
          withheld := fun w => absurd (notWithheld.symm.trans w) (by decide)
          setup := nofun
          standby := fun e => absurd (h.standby e) setup
          absent := h.absent
          vane := h.vane }
    · exact h

theorem convertCrane_others {P : Crane → ServiceRec → Prop} (f : FollowUps (KeepsEach P)) {u : State} {c d : Crane}
    (other : c ≠ d) (h : P c (u.svc c)) : P c ((u.convertCrane d).svc c) := by
  unfold State.convertCrane
  split
  · have kept : KeepsEach (fun e r => e ≠ d → P e r) u ((u.resumeChange d).ownAndSeized (u.changesOf (u.resumeReqs d))) :=
      each_resume _ (fun _ e => absurd rfl e) (fun _ e => absurd rfl e)
    exact f.follow (f.refl _) c (kept c (fun _ => h) other)
  · exact h

theorem serves_bringBack {s : State} {p : SiteState} (opened : p ≠ .opened) (setup : p ≠ .setup)
    (h : ∀ c, s.serves p c (s.svc c) ∧ (s.svc c).lost = false) (c : Crane) :
    s.serves .opened c (s.bringBack.svc c) := by
  have returned (d : Crane) : s.comesBack p d ((allCranes.foldl State.returnCrane s).svc d) := by
    refine .inl (foldl_each (g := State.returnCrane)
      (Pre := fun c u => s.serves p c (u.svc c) ∧ (u.svc c).lost = false)
      (Post := fun c u => s.serves p c (u.svc c) ∧ (u.svc c).lost = false ∧ (u.svc c).state ≠ .securing)
      ?_ ?_ ?_ h d)
    · exact fun u c either => returnCrane_own setup (either.elim id (fun ⟨serves, here, _⟩ => ⟨serves, here⟩))
    · intro u c d other before
      rw [returnCrane_others u other]
      exact .inl before
    · intro u c d other after
      rw [returnCrane_others u other]
      exact after
  have comes := followUps_comesBack s opened
  exact foldl_each (g := State.convertCrane) (Pre := fun c u => s.comesBack p c (u.svc c))
    (Post := fun c u => s.serves .opened c (u.svc c))
    (fun u c either => convertCrane_own setup (either.elim id .inr))
    (fun u c d other before => .inl (convertCrane_others comes other before))
    (fun u c d other after => convertCrane_others (followUps_serves s .opened) other after) returned c

theorem noneLost_of_check {s : State} (law : ServiceLaw s) (check : s.noneLost = none) (c : Crane) :
    (s.svc c).lost = false := by
  cases inPlan : s.present c with
  | false => exact (law.absent c inPlan).2.1
  | true =>
    have ok := requireAll_eq_none.mp check c (List.mem_filter.mpr ⟨mem_allCranes c, inPlan⟩)
    simpa using ok

theorem keepsService_broughtBack {s : State} (away : s.site = .storm ∨ s.site = .closed) (check : s.noneLost = none)
    {qs : List Part} {t : State} (after : Touches qs (s.withdrawSite .storm).bringBack t)
    (hqs : ([.plan, .cranes, .service] : List Part).all (fun p => !qs.contains p) = true) (opened : t.site = .opened) :
    KeepsService s t := by
  intro law
  have outside : ∀ p ∈ ([.plan, .cranes, .service] : List Part), p ∉ qs := by
    intro p hp
    simpa using List.all_eq_true.mp hqs p hp
  have here := noneLost_of_check law check
  rw [serviceLaw_iff] at law
  have calmed := touches_withdrawSite s .storm
  have back := touches_bringBack (s.withdrawSite .storm)
  have serves := serves_bringBack (s := s.withdrawSite .storm) (p := s.site) (by rcases away with h | h <;> simp [h])
    (by rcases away with h | h <;> simp [h]) (fun c => ⟨law c, here c⟩)
  refine serviceLaw_of_serves (s := s.withdrawSite .storm) ?_ ?_ (fun c => ?_)
  · rw [after .plan (outside _ (by decide)), back .plan (by decide)]
  · rw [after .cranes (outside _ (by decide)), back .cranes (by decide)]
  · rw [opened, svc_of_touches after (outside _ (by decide))]
    exact serves c

theorem keepsService_reopen {s : State} (closed : s.site = .closed) (check : s.reopenCheck = none) :
    KeepsService s s.reopen :=
  keepsService_broughtBack (.inr closed) (firstRefusal_eq_none.mp check s.noneLost (by simp)) (touches_withSite _ .opened)
    rfl rfl

theorem keepsService_resumeFromStorm {s : State} (storm : s.site = .storm) (check : s.resumeCheck = none) :
    KeepsService s s.resumeFromStorm :=
  keepsService_broughtBack (.inl storm) (firstRefusal_eq_none.mp check s.noneLost (by simp))
    (((touches_removeReasonAll _ .storm).within rfl).step (touches_withSite _ .opened) (by decide)
      (ps := [.links, .bookings, .site])) rfl rfl

/-! ### The opening from SETUP, and the return to it -/

/-- An operation made for each crane of a list brings a crane of it to its property, when the others leave that crane. -/
theorem foldl_one {g : State → Crane → State} {c : Crane} {Pre Post : State → Prop}
    (own : ∀ u, Pre u ∨ Post u → Post (g u c)) (pre : ∀ u d, c ≠ d → Pre u → Pre (g u d))
    (post : ∀ u d, c ≠ d → Post u → Post (g u d)) (l : List Crane) {s : State} (h : Pre s ∨ Post s)
    (done : c ∈ l ∨ Post s) : Post (l.foldl g s) := by
  induction l generalizing s with
  | nil => exact done.resolve_left List.not_mem_nil
  | cons d l ih =>
    by_cases here : c = d
    · subst here
      exact ih (.inr (own s h)) (.inr (own s h))
    · exact ih (h.imp (pre s d here) (post s d here))
        (done.imp (fun hc => (List.mem_cons.mp hc).resolve_left here) (post s d here))

theorem svc_startServices {s : State} {c : Crane} (l : List Crane) (h : c ∉ l) :
    (l.foldl State.startService s).svc c = s.svc c := by
  induction l generalizing s with
  | nil => rfl
  | cons d l ih =>
    rw [List.mem_cons, not_or] at h
    rw [List.foldl_cons, ih h.2, State.startService, svc_setSvc, if_neg (fun e => h.1 e.symm)]

/-- In SETUP: a record that the opening takes into service, STANDBY for a crane of the plan. -/
def State.standsBy (s : State) (c : Crane) (r : ServiceRec) : Prop :=
  s.serves .setup c r ∧ (s.present c = true → r.state = .standby)

theorem followUps_standsBy (s : State) : FollowUps (KeepsEach s.standsBy) := by
  refine followUps_each ?_ ?_ ?_
  · exact fun c r _ out w h => absurd rfl (h.1.notSetup (by simp [out]) (by simp [out]))
  · exact fun c r _ out w h => absurd rfl (h.1.notSetup (by simp [out]) (by simp [out]))
  · exact fun c r _ waits h => absurd rfl (h.1.notSetup (by simp [waits]) (by simp [waits]))

theorem serves_opened_absent {s : State} {c : Crane} {r : ServiceRec} (h : s.serves .setup c r) (out : s.present c = false) :
    s.serves .opened c r := by
  have offline := (h.absent out).1
  have notWithheld := h.notWithheld (by simp [offline])
  exact
    { working := fun _ => ⟨by simp [offline], by simp [offline], by simp [offline]⟩
      withheld := fun w => absurd (notWithheld.symm.trans w) (by decide)
      setup := nofun
      standby := fun e => nomatch offline.symm.trans e
      absent := h.absent
      vane := h.vane }

theorem serves_started {s : State} {c : Crane} {r : ServiceRec} (inPlan : s.present c = true) (w : r.withheld = false) :
    s.serves .opened c { r with state := .inService, order := .work } where
  working _ := ⟨nofun, nofun, nofun⟩
  withheld e := absurd (w.symm.trans e) (by decide)
  setup := nofun
  standby := nofun
  absent e := absurd (inPlan.symm.trans e) (by decide)
  vane e := by simp at e

theorem keepsService_openFromSetup {s : State} (setup : s.site = .setup) (check : s.openCheck = none) :
    KeepsService s s.openFromSetup := by
  intro law
  have standby := standby_of_openCheck check
  rw [serviceLaw_iff, setup] at law
  have stands (c : Crane) : s.standsBy c (s.svc c) :=
    ⟨law c, fun inPlan => (inState_iff.mp (standby c (List.mem_filter.mpr ⟨mem_allCranes c, inPlan⟩))).2⟩
  unfold State.openFromSetup
  dsimp only
  have calmed := touches_withdrawSite s .storm
  have seeded := touches_convert (s.withdrawSite .storm) (s.withdrawSite .storm).seedReqs
  have still : KeepsEach s.standsBy (s.withdrawSite .storm)
      ((s.withdrawSite .storm).convert (s.withdrawSite .storm).seedReqs) :=
    (followUps_standsBy s).follow ((framedEach _).of (touches_converted _ _) rfl)
  have stands' (c : Crane) := still c (stands c)
  have presentCranes : ((s.withdrawSite .storm).convert (s.withdrawSite .storm).seedReqs).presentCranes = s.presentCranes :=
    presentCranes_eq_of_plan (by rw [seeded .plan (by decide), calmed .plan (by decide)])
  have plan : ((s.withdrawSite .storm).convert (s.withdrawSite .storm).seedReqs).plan = s.plan := by
    rw [seeded .plan (by decide), calmed .plan (by decide)]
  have cranes : ((s.withdrawSite .storm).convert (s.withdrawSite .storm).seedReqs).cranes = s.cranes := by
    rw [seeded .cranes (by decide), calmed .cranes (by decide)]
  rw [presentCranes]
  generalize (s.withdrawSite .storm).convert (s.withdrawSite .storm).seedReqs = u at stands' plan cranes
  have started : Touches [.service] u (s.presentCranes.foldl State.startService u) :=
    (Touches.refl _ u).fold _ _ (fun v c => touches_startService v c)
  refine serviceLaw_of_serves (s := s) ?_ ?_ (fun c => ?_)
  · exact (started.plan_eq (by decide)).trans plan
  · exact (started.cranes_eq (by decide)).trans cranes
  · show s.serves .opened c ((s.presentCranes.foldl State.startService u).svc c)
    cases inPlan : s.present c with
    | false =>
      have out : c ∉ s.presentCranes := fun hc => absurd (inPlan.symm.trans (List.mem_filter.mp hc).2) (by decide)
      rw [svc_startServices _ out]
      exact serves_opened_absent (stands' c).1 inPlan
    | true =>
      have inList : c ∈ s.presentCranes := List.mem_filter.mpr ⟨mem_allCranes c, inPlan⟩
      refine (foldl_one (g := State.startService) (c := c) (Pre := fun v => s.standsBy c (v.svc c))
        (Post := fun v => (v.svc c).withheld = false ∧ s.serves .opened c (v.svc c)) (fun v either => ?_) (fun v d other h => ?_)
        (fun v d other h => ?_) s.presentCranes (.inl (stands' c)) (.inl inList)).2
      · have notWithheld : (v.svc c).withheld = false :=
          either.elim (fun h => h.1.notWithheld (by simp [h.2 inPlan])) (·.1)
        rw [State.startService, svc_setSvc, if_pos rfl]
        exact ⟨notWithheld, serves_started inPlan notWithheld⟩
      · rw [State.startService, svc_setSvc, if_neg other.symm]
        exact h
      · rw [State.startService, svc_setSvc, if_neg other.symm]
        exact h

/-- On the return to SETUP: the record of a crane out of service, or OFFLINE. -/
def State.isDown (s : State) (c : Crane) (r : ServiceRec) : Prop :=
  s.serves .closed c r ∧ r.lost = false ∧ (r.state = .outOfService ∨ r.state = .offline)

theorem followUps_isDown (s : State) : FollowUps (KeepsEach s.isDown) := by
  refine followUps_each ?_ ?_ ?_
  · exact fun c r _ out w h => nomatch (h.1.withheld w).1
  · exact fun c r _ out w h => nomatch (h.1.withheld w).1
  · exact fun c r _ waits h => by rcases h.2.2 with e | e <;> exact nomatch waits.symm.trans e

theorem isDown_of_maySetUp {s : State} (law : ServiceLaw s) (closed : s.site = .closed)
    (out : s.requireAll s.maySetUp .badState = none) (c : Crane) : s.isDown c (s.svc c) := by
  have serves := serviceLaw_iff.mp law c
  rw [closed] at serves
  cases inPlan : s.present c with
  | false =>
    obtain ⟨offline, here, _⟩ := law.absent c inPlan
    exact ⟨serves, here, .inr offline⟩
  | true =>
    have may := requireAll_eq_none.mp out c (List.mem_filter.mpr ⟨mem_allCranes c, inPlan⟩)
    rw [State.maySetUp, Bool.or_eq_true, inState_iff, inState_iff] at may
    rcases may with ⟨here, state⟩ | ⟨here, state⟩
    · exact ⟨serves, here, .inl state⟩
    · exact ⟨serves, here, .inr state⟩

theorem toStandby_own {s u : State} {c : Crane} (h : s.isDown c (u.svc c)) :
    s.serves .setup c ((u.toStandby c).svc c) := by
  obtain ⟨serves, here, state⟩ := h
  unfold State.toStandby
  split
  · rename_i out
    have inPlan := serves.inPlan (by simp [(inState_iff.mp out).2])
    rw [svc_setSvc, if_pos rfl]
    exact
      { working := nofun
        withheld := nofun
        setup := fun _ => .inr rfl
        standby := fun _ => rfl
        absent := fun e => absurd (inPlan.symm.trans e) (by decide)
        vane := fun e => by simp at e }
  · rename_i stays
    rw [inState_iff] at stays
    have offline := state.resolve_left (fun e => stays ⟨here, e⟩)
    have notWithheld := serves.notWithheld (by simp [offline])
    exact
      { working := nofun
        withheld := fun w => absurd (notWithheld.symm.trans w) (by decide)
        setup := fun _ => .inl offline
        standby := fun _ => rfl
        absent := serves.absent
        vane := serves.vane }

theorem toStandby_others (s : State) {c d : Crane} (other : c ≠ d) : (s.toStandby d).svc c = s.svc c := by
  unfold State.toStandby
  split
  · rw [svc_setSvc, if_neg other.symm]
  · rfl

/-- What the return to SETUP does before the cranes become STANDBY. -/
def State.setUpCells (s : State) : State := (s.cancelAll.denyWaits (fun _ => true) .service).setupReset

theorem toSetup_eq (s : State) : s.toSetup = (allCranes.foldl State.toStandby s.setUpCells).withSite .setup := rfl

theorem touches_setUpCells (s : State) :
    Touches [.links, .cells, .waits, .restricted, .register, .service, .bookings, .alerts] s s.setUpCells :=
  (((touches_cancelAll s).within rfl).step (touches_denyWaits _ _ _) (by decide)).step (touches_setupReset _) (by decide)

theorem each_setupReset {P : Crane → ServiceRec → Prop} (f : FollowUps (KeepsEach P)) (s : State) :
    KeepsEach P s s.setupReset := by
  have freed : KeepsEach P s (s.freeAllCells.ownAndSeized (s.changesOf setupReqs)) :=
    (framedEach P).frame (touches_ownAndSeized _ _) rfl ((framedEach P).of (touches_freeAllCells s) rfl)
  unfold State.setupReset
  dsimp only
  refine (framedEach P).fold ((framedEach P).frame (touches_withRestricted _ _) rfl (f.follow freed)) _ _ (fun u c => ?_)
  exact (framedEach P).frame (touches_withdraw _ _ c) rfl ((framedEach P).of (touches_withdraw u _ c) rfl)

theorem each_setUpCells {P : Crane → ServiceRec → Prop} (f : FollowUps (KeepsEach P)) (s : State) :
    KeepsEach P s s.setUpCells :=
  (framedEach P).trans ((framedEach P).frame (touches_denyWaits _ _ _) rfl ((framedEach P).of (touches_cancelAll s) rfl))
    (each_setupReset f _)

theorem keepsService_toSetup {s : State} (closed : s.site = .closed) (out : s.requireAll s.maySetUp .badState = none) :
    KeepsService s s.toSetup := by
  intro law
  have down (c : Crane) : s.isDown c (s.setUpCells.svc c) :=
    each_setUpCells (followUps_isDown s) s c (isDown_of_maySetUp law closed out c)
  have emptied := touches_setUpCells s
  rw [toSetup_eq]
  generalize s.setUpCells = u at *
  have stood : Touches [.service] u (allCranes.foldl State.toStandby u) :=
    (Touches.refl _ u).fold _ _ (fun v c => touches_toStandby v c)
  have standing (c : Crane) : s.serves .setup c ((allCranes.foldl State.toStandby u).svc c) := by
    refine foldl_one (g := State.toStandby) (c := c) (Pre := fun v => s.isDown c (v.svc c))
      (Post := fun v => s.serves .setup c (v.svc c)) (fun v either => ?_) (fun v d other h => ?_) (fun v d other h => ?_)
      allCranes (.inl (down c)) (.inl (mem_allCranes c))
    · rcases either with h | h
      · exact toStandby_own h
      · have notOut : v.inState c .outOfService = false := by
          rcases h.setup rfl with e | e <;> simp [State.inState, e]
        unfold State.toStandby
        rw [if_neg (by simp [notOut])]
        exact h
    · rw [toStandby_others v other]; exact h
    · rw [toStandby_others v other]; exact h
  generalize allCranes.foldl State.toStandby u = w at stood standing
  exact serviceLaw_of_serves (s := s) ((stood.plan_eq (by decide)).trans (emptied.plan_eq (by decide)))
    ((stood.cranes_eq (by decide)).trans (emptied.cranes_eq (by decide))) standing

/-! ### Every passage -/

theorem service_passage {qs : List Part} {s t : State} (h : Passage qs s t)
    (touched : ([.plan, .cranes, .site, .service] : List Part).any (fun p => qs.contains p) = true) :
    KeepsService s t := by
  cases h with
  | move h => exact service_move h touched
  | windStage s c w => exact keepsService_windStage s c w
  | openFromSetup s setup check => exact keepsService_openFromSetup setup check
  | reopen s closed check => exact keepsService_reopen closed check
  | resumeFromStorm s storm check => exact keepsService_resumeFromStorm storm check
  | close s working => exact keepsService_close working
  | toSetup s closed out => exact keepsService_toSetup closed out

end Sys2Proof.Machine
end

section
/-!
PROOF. While the site is in SETUP every cell is FREE, no crane waits and no lift runs (R70, R74, R151).
-/
namespace Sys2Proof.Machine

/-! ### A state in SETUP -/

/-- What the laws of the service records and of SETUP say of a state in SETUP. -/
structure InSetup (s : State) : Prop where
  site : s.site = .setup
  cells : ∀ q, (s.cell q).state = .free
  waits : s.waits = []
  lifts : ∀ b ∈ s.bookings, b.running = false
  service : ∀ c, (s.svc c).state = .offline ∨ (s.svc c).state = .standby

theorem InSetup.of_laws {s : State} (law : ServiceLaw s) (setup : SetupLaw s) (site : s.site = .setup) : InSetup s :=
  ⟨site, setup.cells site, setup.waits site, setup.lifts site, law.setup site⟩

namespace InSetup

variable {s : State} (h : InSetup s)

include h

theorem not_inState {c : Crane} {st : SvcState} (offline : st ≠ .offline) (standby : st ≠ .standby) :
    s.inState c st ≠ true := by
  intro e
  have state := (inState_iff.mp e).2
  exact (h.service c).elim (fun o => offline (state.symm.trans o)) (fun o => standby (state.symm.trans o))

theorem not_withheld {c : Crane} : s.isWithheld c ≠ true := by
  intro e
  rw [State.isWithheld, Bool.and_eq_true] at e
  exact h.not_inState (by decide) (by decide) e.1

theorem not_enter {c : Crane} : s.enterCheck c ≠ none := by
  have securing := h.not_inState (c := c) (st := .securing) (by decide) (by decide)
  unfold State.enterCheck
  rw [if_neg (by simp [h.site, securing])]
  exact nofun

theorem not_taken {q : CellId} {st : CellState} (taken : st ≠ .free) : (s.cell q).state ≠ st :=
  fun e => taken (e.symm.trans (h.cells q))

theorem no_lifts {gone : Crane → SuspReason → Prop} {t : State} (k : LiftsFrom gone s t) :
    ∀ b ∈ t.bookings, b.running = false := by
  intro b hb
  refine Classical.byContradiction (fun run => ?_)
  obtain ⟨a, ha, from_a⟩ := k b hb (by simpa using run)
  exact absurd ((h.lifts a ha).symm.trans (from_a.running (by simpa using run))) (by decide)

theorem no_waits {t : State} (k : KeepsWaits s t) : t.waits = [] := List.sublist_nil.mp (h.waits ▸ k)

end InSetup

/-! ### Every operation on records, in SETUP -/

/-- What a START_LIFT that is not refused has found (R152). -/
structure Startable (s : State) (c : Crane) (b : Booking) : Prop where
  opened : s.site = .opened
  working : s.inState c .inService = true
  noStops : s.stopSet c = []
  noLift : s.runningLift c = none
  wind : (s.windRec c).verdict (s.entry c) b.data.cls ≠ .overLimit
  path : s.busyPath c b.data.path = none

theorem startable_of_check {s : State} {c : Crane} {b : Booking} (h : s.startCheck c b = none) : Startable s c b := by
  unfold State.startCheck at h
  dsimp only at h
  split at h
  · exact nomatch h
  split at h
  · exact nomatch h
  split at h
  · exact nomatch h
  rename_i opened
  split at h
  · exact nomatch h
  rename_i working
  split at h
  · exact nomatch h
  rename_i noStops
  split at h
  · exact nomatch h
  rename_i noLift
  split at h
  · exact nomatch h
  rename_i wind
  exact ⟨by simpa using opened, by simpa using working, by simpa using noStops, noLift, wind, by simpa using h⟩

/-- START_LIFT changes nothing, or makes a BOOKED record of the requesting crane ACTIVE. -/
theorem start_cases (s : State) (q : Requester) (id : Nat) :
    (start q id s).1 = s ∨ ∃ c b, s.findLift id = some b ∧ b.crane = c ∧ b.state = .booked ∧ Startable s c b ∧
      (start q id s).1 = (s.putLift { b.stamp s q with state := .active }).setLastConf c none := by
  unfold start
  split
  · exact .inl rfl
  rename_i c
  split
  · exact .inl rfl
  rename_i b found
  split
  · exact .inl rfl
  rename_i own
  split
  · exact .inl rfl
  rename_i booked
  split
  · exact .inl rfl
  · rename_i check
    exact .inr ⟨c, b, found, by simpa using own, by simpa using booked, startable_of_check check, rfl⟩

theorem forcedCells_of_free {s : State} (h : ∀ q, (s.cell q).state = .free) (c : Crane) (named : List Sector) :
    s.forcedCells c named = [] := by
  unfold State.forcedCells
  rw [List.filter_eq_nil_iff]
  intro x _
  simp [h]

theorem cell_startUp (s : State) (q : CellId) : (s.startUp.cell q).state = .free := by
  show (tget (tget (tconst 8 (tconst 16 Cell.initial)) q.crane) q.sector).state = .free
  rw [tget_tconst, tget_tconst]
  rfl

theorem setup_cells {qs : List Part} {s t : State} (h : Move qs s t) (inSetup : InSetup s) (q : CellId) :
    (t.cell q).state = .free := by
  have same {qs : List Part} {t : State} (k : Touches qs s t) (hqs : Part.cells ∉ qs) : (t.cell q).state = .free := by
    rw [cell_eq_of_cells (k.cells_eq hqs)]
    exact inSetup.cells q
  have k := h.touches
  cases h with
  | grant s w waiting => exact absurd (inSetup.waits ▸ waiting) List.not_mem_nil
  | resume s c withheld => exact absurd withheld inSetup.not_withheld
  | release s c waits => exact absurd waits (inSetup.not_inState (by decide) (by decide))
  | hold s r may => exact may.elim (absurd ·.1 (inSetup.not_taken (by decide))) (absurd ·.1 (inSetup.not_taken (by decide)))
  | seize s r may away => exact absurd inSetup.site away
  | enter s r o here check => exact absurd check inSetup.not_enter
  | clear s r taken => exact taken.elim (absurd · (inSetup.not_taken (by decide))) (absurd · (inSetup.not_taken (by decide)))
  | expire s r clearing => exact absurd clearing (inSetup.not_taken (by decide))
  | park s c securing => exact absurd securing (inSetup.not_inState (by decide) (by decide))
  | force s c named =>
    have none : s.forceReqs c named = [] := by rw [State.forceReqs, forcedCells_of_free inSetup.cells]; rfl
    rw [none]
    exact same (((touches_forceService s c named).within rfl).step (touches_ownAndSeized _ _) (by decide)
      (ps := [.service, .restricted, .register, .alerts])) (by decide)
  | startUp s => exact cell_startUp s q
  | _ => exact same k (by decide)

theorem setup_waits {qs : List Part} {s t : State} (h : Move qs s t) (inSetup : InSetup s) : t.waits = [] := by
  have k := h.touches
  cases h with
  | grant s w waiting => exact absurd (inSetup.waits ▸ waiting) List.not_mem_nil
  | resume s c withheld => exact absurd withheld inSetup.not_withheld
  | release s c waits => exact absurd waits (inSetup.not_inState (by decide) (by decide))
  | hold s r may => exact may.elim (absurd ·.1 (inSetup.not_taken (by decide))) (absurd ·.1 (inSetup.not_taken (by decide)))
  | seize s r may away => exact absurd inSetup.site away
  | park s c securing => exact absurd securing (inSetup.not_inState (by decide) (by decide))
  | vaneWait s c securing => exact absurd securing (inSetup.not_inState (by decide) (by decide))
  | lost s c =>
    refine inSetup.no_waits (framedWaits.frame (touches_addReasonTo _ c _) rfl (framedWaits.trans
      (framedWaits.frame (touches_setSvc _ c _) rfl (framedWaits.of (touches_setCrane s c _) rfl)) (waits_denyCrane _ c _)))
  | stop s c r => exact inSetup.no_waits (waits_addStop s c r)
  | waits s p => exact inSetup.no_waits List.filter_sublist
  | append s c x here check => exact absurd check inSetup.not_enter
  | adopt s =>
    exact inSetup.no_waits (framedWaits.fold (framedWaits.of (touches_adoptPlan s) rfl) _ _
      (fun u c => waits_followPresence _ u c))
  | startUp s => rfl
  | _ => exact (k.waits_eq (by decide)).trans inSetup.waits

/-- Any reason may be taken off. -/
def anyGone : Crane → SuspReason → Prop := fun _ _ => True

/-- A START_LIFT apart, an operation on records lets no booking begin to run. -/
theorem lifts_move {qs : List Part} {s t : State} (h : Move qs s t) :
    LiftsFrom anyGone s t ∨ ∃ q id, t = (start q id s).1 := by
  have k := h.touches
  cases h with
  | seize s r =>
    exact .inl ((framedRecords _).trans ((framedRecords _).of (touches_converted s _) rfl) (records_intrude _ r)).lifts
  | lost s c => exact .inl (records_lostRecords s c).lifts
  | stop s c r => exact .inl (records_addStop s c r).lifts
  | unstop s c named => exact .inl (records_clearStops s trivial named).lifts
  | addReason s c r => exact .inl (records_addReasonTo s c r).lifts
  | removeLost s c => exact .inl (records_removeReasonFrom s trivial).lifts
  | booked s n id => exact .inl (records_testBooked s n id).lifts
  | overrun s b found => exact .inl (records_overrun found).lifts
  | free s id => exact .inl (records_freeLift s id).lifts
  | propose s q n f => exact .inl (lifts_propose s q n f)
  | confirm s q id => exact .inl (records_confirm s q id).lifts
  | amend s q id f => exact .inl (lifts_amend s q id f)
  | cancel s q id => exact .inl (records_cancel s q id).lifts
  | lock s b q id => exact .inl (records_setLock s b q id).lifts
  | start s q id => exact .inr ⟨q, id, rfl⟩
  | suspend s q id => exact .inl (records_suspend s q id).lifts
  | resumeLift s q id => exact .inl (records_resume s q id (fun _ _ _ => trivial)).lifts
  | adopt s => exact .inl (records_adopted s).lifts
  | startUp s => exact .inl (fun _ member => nomatch member)
  | _ => exact .inl ((framedLifts _).of k rfl)

theorem setup_lifts {qs : List Part} {s t : State} (h : Move qs s t) (inSetup : InSetup s) :
    ∀ b ∈ t.bookings, b.running = false := by
  rcases lifts_move h with lifts | ⟨q, id, rfl⟩
  · exact inSetup.no_lifts lifts
  · rcases start_cases s q id with same | ⟨c, b, _, _, _, startable, _⟩
    · rw [same]
      exact inSetup.lifts
    · exact nomatch inSetup.site.symm.trans startable.opened

/-- An operation on records leaves the site state, the start of the part apart. -/
theorem Move.site_eq {qs : List Part} {s t : State} (h : Move qs s t) : t.site = s.site ∨ t = s.startUp := by
  have k := h.touches
  cases h with
  | startUp s => exact .inr rfl
  | _ => exact .inl (k.site_eq (by decide))

theorem setupLaw_of_away {s : State} (away : s.site ≠ .setup) : SetupLaw s :=
  ⟨fun e => absurd e away, fun e => absurd e away, fun e => absurd e away⟩

theorem setup_move {qs : List Part} {s t : State} (h : Move qs s t) (law : ServiceLaw s) (setup : SetupLaw s) :
    SetupLaw t := by
  by_cases site : s.site = .setup
  · have inSetup := InSetup.of_laws law setup site
    exact ⟨fun _ => setup_cells h inSetup, fun _ => setup_waits h inSetup, fun _ => setup_lifts h inSetup⟩
  · rcases h.site_eq with same | rfl
    · exact setupLaw_of_away (same ▸ site)
    · exact ⟨fun _ => cell_startUp s, fun _ => rfl, fun _ b hb => nomatch hb⟩

/-! ### The wind stage in SETUP, and the return to SETUP -/

theorem reportStorm_of_setup {s : State} (h : s.site = .setup) (c : Crane) : s.reportStorm c = s.raiseFor .storm c := by
  unfold State.reportStorm
  rw [h]

theorem site_reportStorm (s : State) (c : Crane) : (s.reportStorm c).site = s.site ∨ (s.reportStorm c).site = .storm := by
  unfold State.reportStorm
  split
  · right
    unfold State.enterStorm
    rw [(touches_enterSecuringAll _).site_eq (by decide), (touches_addReasonAll _ _).site_eq (by decide),
      (touches_raiseFor _ _ c).site_eq (by decide)]
    rfl
  all_goals exact .inl ((touches_raiseFor s _ c).site_eq (by decide))

/-- The wind stage as it is for a sample that brings no storm, or brings it to a site that is not OPEN. -/
theorem windStage_cases (s : State) (c : Crane) (w : Option Nat) :
    ∃ u, Touches [.wind, .alerts, .lines] s u ∧
      (s.windStage c w = u.handVerdict c ∨ s.windStage c w = (u.reportStorm c).handVerdict c) := by
  have sampled (r : WindRec) : Touches [.wind, .alerts, .lines] s ((s.setWind c r).windConditions c) :=
    ((touches_setWind s c r).within rfl).step (touches_windConditions_quiet _ c) (by decide)
  unfold State.windStage
  dsimp only
  split
  · exact ⟨_, sampled _, .inr rfl⟩
  · exact ⟨_, sampled _, .inl rfl⟩

theorem setup_windStage {s : State} (c : Crane) (w : Option Nat) (law : ServiceLaw s) (setup : SetupLaw s) :
    SetupLaw (s.windStage c w) := by
  obtain ⟨u, sampled, eq⟩ := windStage_cases s c w
  by_cases site : s.site = .setup
  · have inSetup := InSetup.of_laws law setup site
    have stage : Touches [.wind, .alerts, .lines, .links, .waits, .stops, .bookings] s (s.windStage c w) ∧
        LiftsFrom anyGone s (s.windStage c w) := by
      have kept : LiftsFrom anyGone s u := (framedLifts _).of sampled rfl
      rcases eq with eq | eq
      · rw [eq]
        exact ⟨(sampled.within rfl).step (touches_handVerdict u c) (by decide),
          (framedLifts _).trans kept (records_handVerdict u trivial).lifts⟩
      · rw [eq, reportStorm_of_setup ((sampled.site_eq (by decide)).trans site)]
        exact ⟨((sampled.within rfl).step (touches_raiseFor u _ c) (by decide)).step (touches_handVerdict _ c) (by decide),
          (framedLifts _).trans ((framedLifts _).trans kept (records_raise u _ _).lifts) (records_handVerdict _ trivial).lifts⟩
    refine ⟨fun _ q => ?_, fun _ => inSetup.no_waits (waits_windStage s c w), fun _ => inSetup.no_lifts stage.2⟩
    rw [cell_eq_of_cells (stage.1.cells_eq (by decide))]
    exact inSetup.cells q
  · refine setupLaw_of_away (fun h => site ?_)
    rcases eq with eq | eq
    · rw [eq, (touches_handVerdict u c).site_eq (by decide), sampled.site_eq (by decide)] at h
      exact h
    · rw [eq, (touches_handVerdict _ c).site_eq (by decide)] at h
      rcases site_reportStorm u c with same | storm
      · rw [same, sampled.site_eq (by decide)] at h
        exact h
      · exact nomatch storm.symm.trans h

/-- Nothing is left for the follow-ups to grant, retry or release. -/
structure Quiet (s : State) : Prop where
  waits : s.waits = []
  withheld : ∀ c, s.isWithheld c = false
  vane : ∀ c, s.inState c .vaneWait = false

/-- A quiet state stays quiet, and its cells as they are. -/
def StaysQuiet (s t : State) : Prop := Quiet s → Quiet t ∧ t.cells = s.cells

theorem followUps_quiet : FollowUps StaysQuiet where
  refl s h := ⟨h, rfl⟩
  trans h k quiet := by
    obtain ⟨quiet, cells⟩ := h quiet
    obtain ⟨quiet', cells'⟩ := k quiet
    exact ⟨quiet', cells'.trans cells⟩
  walk s quiet := by
    rw [State.walk, quiet.waits]
    exact ⟨quiet, rfl⟩
  resume s c withheld quiet := absurd ((quiet.withheld c).symm.trans withheld) (by decide)
  release s c waits _ quiet := absurd ((quiet.vane c).symm.trans waits) (by decide)

theorem quiet_of_same {s t : State} (quiet : Quiet s) (waits : t.waits = s.waits) (service : t.service = s.service) :
    Quiet t := by
  refine ⟨waits.trans quiet.waits, fun c => ?_, fun c => ?_⟩
  · rw [State.isWithheld, inState_eq_of_service service, State.svc, service]
    exact quiet.withheld c
  · rw [inState_eq_of_service service]
    exact quiet.vane c

theorem cells_setupReset_free {s : State} (quiet : Quiet s) (q : CellId) : (s.setupReset.cell q).state = .free := by
  have own := touches_ownAndSeized s.freeAllCells (s.changesOf setupReqs)
  have quiet' : Quiet (s.freeAllCells.ownAndSeized (s.changesOf setupReqs)) :=
    quiet_of_same quiet (own.waits_eq (by decide)) (own.service_eq (by decide))
  have kept := (followUps_quiet.follow (followUps_quiet.refl _) quiet').2
  have after : Touches [.restricted, .alerts] (s.freeAllCells.follow (s.changesOf setupReqs)) s.setupReset := by
    unfold State.setupReset
    dsimp only
    exact ((touches_withRestricted _ _).within rfl).fold _ _ (fun u c =>
      ((touches_withdraw u _ c).within rfl).step (touches_withdraw _ _ c) (by decide))
  rw [cell_eq_of_cells (after.cells_eq (by decide)), cell_eq_of_cells kept, cell_eq_of_cells (own.cells_eq (by decide)),
    cell_freeAllCells]

theorem setup_toSetup {s : State} (closed : s.site = .closed) (out : s.requireAll s.maySetUp .badState = none)
    (law : ServiceLaw s) : SetupLaw s.toSetup := by
  have cancelled : Touches [.links, .bookings, .waits, .alerts] s (s.cancelAll.denyWaits (fun _ => true) .service) :=
    ((touches_cancelAll s).within rfl).step (touches_denyWaits _ _ _) (by decide)
  have noWaits := denyWaits_all s.cancelAll .service
  have noLifts : (s.cancelAll.denyWaits (fun _ => true) .service).bookings = [] :=
    ((touches_denyWaits _ _ _).bookings_eq (by decide)).trans (cancelAll_bookings s)
  have quiet : Quiet (s.cancelAll.denyWaits (fun _ => true) .service) := by
    refine ⟨noWaits, fun c => ?_, fun c => ?_⟩
    · obtain ⟨serves, _, _⟩ := isDown_of_maySetUp law closed out c
      rw [State.isWithheld, svc_of_touches cancelled (by decide)]
      cases w : (s.svc c).withheld with
      | false => exact Bool.and_false _
      | true => exact nomatch (serves.withheld w).1
    · obtain ⟨_, _, state⟩ := isDown_of_maySetUp law closed out c
      rw [inState_eq_of_service (cancelled.service_eq (by decide))]
      rcases state with e | e <;> simp [State.inState, e]
  have free := cells_setupReset_free quiet
  rw [toSetup_eq, State.setUpCells]
  have stillNoWaits : (s.cancelAll.denyWaits (fun _ => true) .service).setupReset.waits = [] :=
    List.sublist_nil.mp (noWaits ▸ waits_setupReset _)
  have stillNoLifts : (s.cancelAll.denyWaits (fun _ => true) .service).setupReset.bookings = [] :=
    ((touches_setupReset _).bookings_eq (by decide)).trans noLifts
  generalize (s.cancelAll.denyWaits (fun _ => true) .service).setupReset = u at *
  have stood : Touches [.service, .site] u ((allCranes.foldl State.toStandby u).withSite .setup) :=
    (((Touches.refl [.service] u).fold _ _ (fun v c => touches_toStandby v c)).within rfl).step (touches_withSite _ _)
      (by decide)
  generalize (allCranes.foldl State.toStandby u).withSite .setup = v at stood
  refine ⟨fun _ q => ?_, fun _ => (stood.waits_eq (by decide)).trans stillNoWaits, fun _ b hb => ?_⟩
  · rw [cell_eq_of_cells (stood.cells_eq (by decide))]
    exact free q
  · rw [stood.bookings_eq (by decide), stillNoLifts] at hb
    exact nomatch hb

/-! ### Every passage -/

theorem setup_passage {qs : List Part} {s t : State} (h : Passage qs s t) (law : ServiceLaw s) (setup : SetupLaw s) :
    SetupLaw t := by
  cases h with
  | move h => exact setup_move h law setup
  | windStage s c w => exact setup_windStage c w law setup
  | openFromSetup s => exact setupLaw_of_away nofun
  | reopen s => exact setupLaw_of_away nofun
  | resumeFromStorm s => exact setupLaw_of_away nofun
  | close s =>
    have site : s.close.site = .closed := (touches_denyWaits _ _ _).site_eq (by decide)
    exact setupLaw_of_away (by simp [site])
  | toSetup s closed out => exact setup_toSetup closed out law

theorem keepsService_passage {qs : List Part} {s t : State} (h : Passage qs s t) : KeepsService s t := by
  cases touched : ([.plan, .cranes, .site, .service] : List Part).any (fun p => qs.contains p) with
  | true => exact service_passage h touched
  | false => exact framedService.untouched h.touches touched

/-- The laws of the service records and of SETUP are kept together. -/
def KeepsSetup (s t : State) : Prop := ServiceLaw s ∧ SetupLaw s → ServiceLaw t ∧ SetupLaw t

theorem framedSetup : Framed KeepsSetup [.plan, .cranes, .site, .service, .cells, .waits, .bookings] where
  trans h k := fun laws => k (h laws)
  same h := fun ⟨law, setup⟩ => by
    refine ⟨framedService.same (fun p hp => h p ?_) law, ?_⟩
    · revert hp
      revert p
      decide
    · have site := h .site (by decide)
      have cells := h .cells (by decide)
      have waits := h .waits (by decide)
      have bookings := h .bookings (by decide)
      simp only [Same] at site cells waits bookings
      refine ⟨fun e q => ?_, fun e => ?_, fun e => ?_⟩
      · rw [cell_eq_of_cells cells]
        exact setup.cells (site ▸ e) q
      · rw [waits]
        exact setup.waits (site ▸ e)
      · rw [bookings]
        exact setup.lifts (site ▸ e)

end Sys2Proof.Machine

open Sys2Proof.Machine

/-- Settles O57: a step is a chain of passages, and each keeps the laws of the service records and, with them, those of SETUP. -/
theorem stepKeepsService : Obligations.StepKeepsService := by
  unfold Obligations.StepKeepsService
  constructor
  · exact fun s t law h => framedService.step_of_passages rfl service_passage h law
  · intro s t law setup h
    exact (framedSetup.step_of_passages rfl (fun k _ laws => ⟨keepsService_passage k laws.1, setup_passage k laws.1 laws.2⟩) h
      ⟨law, setup⟩).2
end

section
/-!
PROOF. The limits of the transmit queues (R46), block by block; the presence of a crane and its service record (R36, R40, R48), and the
wait list (R72), turn by turn.
-/
namespace Sys2Proof.Machine

/-! ### The transmit queues -/

/-- An answer that a link has room for is queued within the limit (R34, R47). -/
theorem queueLaw_queueAnswer {s : State} {c : Crane} (law : QueueLaw s)
    (room : answersIn (s.link c).queue < Config.maxQueue) (f : TxFrame) : QueueLaw (s.queueAnswer c f) := by
  intro d
  unfold State.queueAnswer
  dsimp only
  rw [link_setLink_at]
  split
  · exact Nat.le_trans (pump_length _) (pushAnswer_length (law c) room)
  · exact law d

/-- A report's operations on the other records add no answer, so that the acknowledgement finds the room that was there. -/
theorem queueLaw_acknowledged {s t : State} {c : Crane} (law : QueueLaw s) (room : s.mayTake c = true)
    (h : KeepsQueue s t) (k : Code) : QueueLaw (t.acknowledge c k) :=
  queueLaw_queueAnswer (h.1 law) (Nat.lt_of_le_of_lt (h.2 c) (of_decide_eq_true room)) _

theorem queue_acceptStatus_before (s : State) (c : Crane) (r : Report) :
    ∃ t, KeepsQueue s t ∧ s.acceptStatus c r = t.acknowledge c .ok := by
  have recorded : KeepsQueue s (s.recordReport c r (s.craneRec c).noReading) := framedQueue.of (touches_recordReport s c r _) rfl
  unfold State.acceptStatus
  dsimp only
  refine ⟨_, framedQueue.trans ?_ (queue_deliver _ c r false _), rfl⟩
  split
  · exact framedQueue.trans recorded (queue_raiseFor _ _ c)
  · exact framedQueue.frame (touches_withdraw _ _ c) rfl recorded

theorem queue_acceptRejoin_before (s : State) (c : Crane) (r : Report) :
    ∃ t, KeepsQueue s t ∧ s.acceptRejoin c r = t.acknowledge c .ok := by
  have recorded : KeepsQueue s ((s.recordReport c r 0).withdraw .reportEarly c) :=
    framedQueue.frame (touches_withdraw _ _ c) rfl (framedQueue.of (touches_recordReport s c r _) rfl)
  exact ⟨_, framedQueue.frame (touches_withdraw _ _ c) rfl (framedQueue.trans (framedQueue.trans recorded
    (queue_rejoinService _ c)) (queue_deliver _ c r true _)), rfl⟩

/-- The law of the transmit queues is kept. -/
def KeepsQueueLaw (s t : State) : Prop := QueueLaw s → QueueLaw t

theorem framedQueueLaw : Framed KeepsQueueLaw [.links] where
  trans h k := fun law => k (h law)
  same h := (framedQueue.same h).1

theorem queue_block {qs : List Part} {s t : State} (h : Block qs s t)
    (touched : ([.links] : List Part).any (fun p => qs.contains p) = true) : KeepsQueueLaw s t := by
  cases h with
  | powerOn s => exact (framedQueue.trans (queue_startUp s) (queue_startRaisings _)).1
  | halt s p => exact (queue_halt s p).1
  | siteStopRaised s => exact (queue_raiseSiteStop s).1
  | link s c ch keeps =>
    intro law d
    rw [link_setLink_at]
    split
    · exact keeps (law c)
    · exact law d
  | status s c r inPlan here room =>
    intro law
    obtain ⟨t, h, eq⟩ := queue_acceptStatus_before s c r
    exact eq ▸ queueLaw_acknowledged law room h _
  | rejoin s c r inPlan away room =>
    intro law
    obtain ⟨t, h, eq⟩ := queue_acceptRejoin_before s c r
    exact eq ▸ queueLaw_acknowledged law room h _
  | enter s c n => exact (queue_enterZone c n s).1
  | release s c n => exact (queue_releaseZone c n s).1
  | confirm s q id => exact (queue_confirm q id s).1
  | amend s q id f => exact (queue_amend q id f s).1
  | cancel s q id => exact (queue_cancel q id s).1
  | endLift s n q id => exact (queue_endRunning n q id s).1
  | suspend s q id => exact (queue_suspend q id s).1
  | clock s t => exact (queue_setClock t s).1
  | commit s p => exact (queue_commitPlan p s).1
  | openSite s => exact (queue_openTheSite s).1
  | closeSite s => exact (queue_closeTheSite s).1
  | resumeSite s => exact (queue_resumeTheSite s).1
  | returnToSetup s => exact (queue_returnSiteToSetup s).1
  | forceRelease s n m => exact (queue_forceCells n m s).1
  | stopCrane s n => exact (queue_stopTheCrane n s).1
  | clearStop s n m => exact (queue_clearTheStops n m s).1
  | second s => exact (queue_passSecond s).1
  | lost s c => exact (queue_becomeLost s c).1
  | clearingEnd s q => exact (queue_expireClearing s q).1
  | waitEnd s c x => exact (queue_expireWait s c x).1
  | lapse s b => exact (queue_lapse s b).1
  | _ => exact absurd touched (by decide)

/-! ### Presence -/

/-- What the presence law says of one crane's records. -/
structure CraneRec.Fits (k : CraneRec) (r : ServiceRec) : Prop where
  report : k.presence = .present ↔ k.lastReport.isSome = true
  bound : k.presence = .present ↔ k.bound.isSome = true
  lost : r.lost = true ↔ k.presence = .lost
  offline : r.state = .offline ↔ k.presence = .offline

theorem presenceLaw_iff {s : State} : PresenceLaw s ↔ ∀ c, (s.craneRec c).Fits (s.svc c) :=
  forall_congr' fun _ =>
    ⟨fun ⟨report, bound, lost, offline⟩ => ⟨report, bound, lost, offline⟩, fun h => ⟨h.report, h.bound, h.lost, h.offline⟩⟩

/-- A service record that stays LOST or not, and OFFLINE or not. -/
theorem CraneRec.Fits.congr {k : CraneRec} {r q : ServiceRec} (h : k.Fits r) (lost : q.lost = r.lost)
    (offline : q.state = .offline ↔ r.state = .offline) : k.Fits q :=
  ⟨h.report, h.bound, lost ▸ h.lost, offline.trans h.offline⟩

/-- A crane of no OFFLINE state goes to another of none. -/
theorem CraneRec.Fits.serving {k : CraneRec} {r q : ServiceRec} (h : k.Fits r) (lost : q.lost = r.lost)
    (before : r.state ≠ .offline) (after : q.state ≠ .offline) : k.Fits q :=
  h.congr lost ⟨fun e => absurd e after, fun e => absurd e before⟩

theorem fits_initial : CraneRec.initial.Fits ServiceRec.initial := by
  constructor <;> simp [CraneRec.initial, ServiceRec.initial]

/-- The presence law is kept. -/
def KeepsPresence (s t : State) : Prop := PresenceLaw s → PresenceLaw t

theorem framedPresence : Framed KeepsPresence [.cranes, .service] where
  trans h k := fun law => k (h law)
  same h := fun law c => by
    have cranes := h .cranes (by decide)
    have service := h .service (by decide)
    rw [State.craneRec, State.svc, cranes, service]
    exact law c

theorem keepsPresence_of_each {qs : List Part} {s t : State} (k : Touches qs s t) (hqs : Part.cranes ∉ qs)
    (h : KeepsEach (fun c r => (s.craneRec c).Fits r) s t) : KeepsPresence s t := by
  intro law
  rw [presenceLaw_iff] at law ⊢
  intro c
  rw [craneRec_of_touches k hqs]
  exact h c (law c)

theorem followUps_fits (s : State) : FollowUps (KeepsEach (fun c r => (s.craneRec c).Fits r)) := by
  refine followUps_each ?_ ?_ ?_
  · exact fun c r _ out _ h => h.serving rfl (by simp [out]) (by simp [ServiceRec.back])
  · exact fun c r _ out _ h => h.serving rfl (by simp [out]) (by simp [ServiceRec.out])
  · exact fun c r _ waits h => h.serving rfl (by simp [waits]) (by simp [ServiceRec.out])

theorem keepsPresence_setCrane {s : State} {c : Crane} {k : CraneRec} (h : (s.craneRec c).Fits (s.svc c) → k.Fits (s.svc c)) :
    KeepsPresence s (s.setCrane c k) := by
  intro law
  rw [presenceLaw_iff] at law ⊢
  intro d
  rw [craneRec_setCrane, svc_of_touches (touches_setCrane s c k) (by decide)]
  split
  · rename_i same; subst same; exact h (law c)
  · exact law d

theorem keepsPresence_report (s : State) (c : Crane) (r : Report) (n : Nat) (here : (s.craneRec c).presence = .present) :
    KeepsPresence s (s.recordReport c r n) :=
  keepsPresence_setCrane fun h => by
    constructor
    · simp
    · simp
    · have := h.lost; simp_all
    · have := h.offline; simp_all

theorem rejoinedService_own (s : State) (c : Crane) :
    ((s.rejoinedService c).svc c).lost = false ∧ ((s.rejoinedService c).svc c).state ≠ .offline ∨
      (s.svc c).lost = true ∧ (s.svc c).state = .offline := by
  unfold State.rejoinedService
  dsimp only
  split
  · rename_i lost
    by_cases offline : (s.svc c).state = .offline
    · exact .inr ⟨lost, offline⟩
    · left
      rw [svc_setSvc, if_pos rfl]
      exact ⟨rfl, offline⟩
  · rename_i here
    left
    split
    · split
      all_goals
        rw [svc_setSvc, if_pos rfl]
        exact ⟨by simpa using here, nofun⟩
    · rename_i serving
      exact ⟨by simpa using here, serving⟩

theorem rejoinedService_others (s : State) {c d : Crane} (other : d ≠ c) : (s.rejoinedService c).svc d = s.svc d := by
  unfold State.rejoinedService
  dsimp only
  have put (r : ServiceRec) : (s.setSvc c r).svc d = s.svc d := by rw [svc_setSvc, if_neg other.symm]
  split
  · exact put _
  split
  · split <;> exact put _
  · rfl

theorem keepsPresence_rejoin (s : State) (c : Crane) (r : Report) :
    KeepsPresence s (((s.recordReport c r 0).withdraw .reportEarly c).rejoinedService c) := by
  intro law
  rw [presenceLaw_iff] at law ⊢
  intro d
  have withdrawn := touches_withdraw (s.recordReport c r 0) .reportEarly c
  have svc : ((s.recordReport c r 0).withdraw .reportEarly c).svc d = s.svc d := rfl
  rw [craneRec_of_touches (touches_rejoinedService _ c) (by decide), craneRec_of_touches withdrawn (by decide),
    State.recordReport, craneRec_setCrane]
  by_cases same : c = d
  · subst same
    rw [if_pos rfl]
    rcases rejoinedService_own ((s.recordReport c r 0).withdraw .reportEarly c) c with ⟨lost, serving⟩ | ⟨lost, offline⟩
    · constructor
      · simp
      · simp
      · rw [← State.recordReport, lost]; simp
      · exact ⟨fun e => absurd e serving, nofun⟩
    · rw [svc] at lost offline
      exact nomatch ((law c).lost.mp lost).symm.trans ((law c).offline.mp offline)
  · rw [if_neg same, ← State.recordReport, rejoinedService_others _ (Ne.symm same), svc]
    exact law d

theorem svc_lostRecords (s : State) (c d : Crane) :
    (s.lostRecords c).svc d = if c = d then { s.svc c with lost := true } else s.svc d := by
  unfold State.lostRecords
  dsimp only
  rw [svc_of_touches (touches_addReasonTo _ c _) (by decide), svc_of_touches (touches_denyCrane _ c _) (by decide), svc_setSvc]
  rfl

theorem craneRec_lostRecords (s : State) (c d : Crane) :
    (s.lostRecords c).craneRec d =
      if c = d then { s.craneRec c with presence := .lost, lastReport := none, bound := none } else s.craneRec d := by
  unfold State.lostRecords
  dsimp only
  rw [craneRec_of_touches (touches_addReasonTo _ c _) (by decide), craneRec_of_touches (touches_denyCrane _ c _) (by decide),
    craneRec_of_touches (touches_setSvc _ c _) (by decide), craneRec_setCrane]

theorem keepsPresence_lost (s : State) (c : Crane) (here : (s.craneRec c).presence = .present) :
    KeepsPresence s (s.lostRecords c) := by
  intro law
  rw [presenceLaw_iff] at law ⊢
  intro d
  rw [svc_lostRecords, craneRec_lostRecords]
  split
  · have serving : (s.svc c).state ≠ .offline := fun e => nomatch here.symm.trans ((law c).offline.mp e)
    constructor
    · simp
    · simp
    · simp
    · exact ⟨fun e => absurd e serving, nofun⟩
  · exact law d

theorem keepsPresence_followPresence (old : Plan) (s : State) (c : Crane) : KeepsPresence s (s.followPresence old c) := by
  intro law
  rw [presenceLaw_iff] at law ⊢
  intro d
  by_cases same : d = c
  · subst same
    rcases followPresence_own old s d with ⟨svc, crane⟩ | ⟨eq, _⟩
    · rw [svc, crane]; exact fits_initial
    · rw [eq]; exact law d
  · obtain ⟨svc, crane⟩ := followPresence_others old s same
    rw [svc, crane]
    exact law d

theorem presence_move {qs : List Part} {s t : State} (h : Move qs s t)
    (touched : ([.cranes, .service] : List Part).any (fun p => qs.contains p) = true) : KeepsPresence s t := by
  have k := h.touches
  cases h with
  | resume s c withheld => exact keepsPresence_of_each k (by decide) ((followUps_fits s).resume s c withheld)
  | release s c waits permitted => exact keepsPresence_of_each k (by decide) ((followUps_fits s).release s c waits permitted)
  | park s c securing =>
    exact keepsPresence_of_each k (by decide) ((framedEach _).frame (touches_converted _ _) rfl
      (each_serviceDenied _ (fun h => h.serving rfl (by simp [(inState_iff.mp securing).2]) nofun)))
  | force s c named =>
    have forced : KeepsEach (fun c r => (s.craneRec c).Fits r) s (s.forceService c named) := by
      unfold State.forceService
      dsimp only
      split
      · rename_i forced
        simp only [Bool.and_eq_true, decide_eq_true_eq] at forced
        exact each_setSvc (fun h => h.serving rfl (by simp [forced.1.2]) nofun)
      · exact (framedEach _).refl s
    exact keepsPresence_of_each k (by decide) ((framedEach _).frame (touches_converted _ _) rfl forced)
  | vaneWait s c securing =>
    exact keepsPresence_of_each k (by decide)
      (each_serviceDenied _ (fun h => h.serving rfl (by simp [(inState_iff.mp securing).2]) nofun))
  | readiness s c r => exact keepsPresence_of_each k (by decide) (each_setSvc (fun h => h.congr rfl .rfl))
  | timer s c => exact keepsPresence_of_each k (by decide) (each_setSvc (fun h => h.congr rfl .rfl))
  | report s c r n _ here => exact keepsPresence_report s c r n here
  | rejoin s c r => exact keepsPresence_rejoin s c r
  | lost s c here => exact keepsPresence_lost s c here
  | adopt s =>
    exact framedPresence.fold (framedPresence.of (touches_adoptPlan s) rfl) _ _ (fun u c => keepsPresence_followPresence _ u c)
  | startUp s =>
    intro _
    have svc (c : Crane) : s.startUp.svc c = ServiceRec.initial := tget_tconst _ c
    have crane (c : Crane) : s.startUp.craneRec c = CraneRec.initial := tget_tconst _ c
    rw [presenceLaw_iff]
    intro c
    rw [svc, crane]
    exact fits_initial
  | _ => exact absurd touched (by decide)

theorem fits_startServices {s : State} {l : List Crane} (h : ∀ c ∈ l, (s.svc c).state ≠ .offline) :
    KeepsEach (fun c r => (s.craneRec c).Fits r) s (l.foldl State.startService s) := by
  intro c hc
  by_cases inList : c ∈ l
  · refine (foldl_one (g := State.startService) (c := c)
      (Pre := fun v => (s.craneRec c).Fits (v.svc c) ∧ (v.svc c).state ≠ .offline) (Post := fun v =>
        (s.craneRec c).Fits (v.svc c) ∧ (v.svc c).state ≠ .offline) (fun v either => ?_) (fun v d other kept => ?_)
      (fun v d other kept => ?_) l (.inl ⟨hc, h c inList⟩) (.inl inList)).1
    · have before := either.elim id id
      rw [State.startService, svc_setSvc, if_pos rfl]
      exact ⟨before.1.serving rfl before.2 nofun, nofun⟩
    · rwa [State.startService, svc_setSvc, if_neg other.symm]
    · rwa [State.startService, svc_setSvc, if_neg other.symm]
  · rw [svc_startServices l inList]
    exact hc

theorem presence_turn {qs : List Part} {s t : State} (h : Turn qs s t)
    (touched : ([.cranes, .service] : List Part).any (fun p => qs.contains p) = true) : KeepsPresence s t := by
  have k := h.touches
  cases h with
  | move h => exact presence_move h touched
  | convert s c out =>
    have state : (s.svc c).state ≠ .offline := by
      rw [inState_iff, inState_iff] at out
      rcases out with out | out <;> simp [out.2]
    exact keepsPresence_of_each k (by decide) (each_resume _ (fun h => h.serving rfl state nofun)
      (fun h => h.serving rfl state nofun))
  | secure s c working =>
    exact keepsPresence_of_each k (by decide) (each_setSvc (fun h => h.serving rfl (by simp [working]) nofun))
  | withheldToVaneWait s c out =>
    exact keepsPresence_of_each k (by decide) (each_serviceDenied _ (fun h => h.serving rfl (by simp [out]) nofun))
  | parkOrder s c => exact keepsPresence_of_each k (by decide) (each_setSvc (fun h => h.congr rfl .rfl))
  | toService s c back =>
    have state : (s.svc c).state ≠ .offline := by
      rw [inState_iff, inState_iff] at back
      rcases back with back | back
      · simp [back.2]
      · simp [back.1.2]
    exact keepsPresence_of_each k (by decide) (each_toService (fun h => h.serving rfl state nofun))
  | startServices s setup standby =>
    exact keepsPresence_of_each k (by decide)
      (fits_startServices (fun c hc => by simp [(inState_iff.mp (standby c hc)).2]))
  | standbys s =>
    refine keepsPresence_of_each k (by decide) ((framedEach _).fold ((framedEach _).refl s) _ _ (fun u c => ?_))
    unfold State.toStandby
    split
    · rename_i out
      exact each_setSvc (fun h => h.serving rfl (by simp [(inState_iff.mp out).2]) nofun)
    · exact (framedEach _).refl u
  | _ => exact absurd touched (by decide)

/-! ### The wait list -/

/-- A crane whose wait entries may stand (R72). -/
def ServiceRec.mayWait (r : ServiceRec) : Prop := r.lost = false ∧ r.state ≠ .vaneWait ∧ r.state ≠ .outOfService

/-- The law of the wait list is kept when entries leave, and those of each crane that may wait no longer all do. -/
theorem WaitLaw.sublist {s t : State} (law : WaitLaw s) (sub : KeepsWaits s t)
    (served : ∀ c, (s.svc c).mayWait → (t.svc c).mayWait ∨ ∀ w ∈ t.waits, w.crane ≠ c) : WaitLaw t where
  total := Nat.le_trans sub.length_le law.total
  each c := by
    have fewer : (t.waitingSectors c).Sublist (s.waitingSectors c) := (sub.filter _).map _
    exact Nat.le_trans fewer.length_le (law.each c)
  once := law.once.sublist (sub.map _)
  served w hw := ((served w.crane (law.served w (sub.mem hw))).resolve_right (fun none => none w hw rfl))

/-- The law of the wait list is kept, beside the presence law. -/
def KeepsWaitLaw (s t : State) : Prop := PresenceLaw s ∧ WaitLaw s → PresenceLaw t ∧ WaitLaw t

theorem framedWaitLaw : Framed KeepsWaitLaw [.cranes, .service, .waits] where
  trans h k := fun laws => k (h laws)
  same h := fun ⟨presence, law⟩ => by
    have service := h .service (by decide)
    have waits := h .waits (by decide)
    refine ⟨framedPresence.same (fun p hp => h p ?_) presence, law.sublist (framedWaits.same fun p hp => h p ?_)
      (fun c may => .inl ?_)⟩
    · revert hp; revert p; decide
    · revert hp; revert p; decide
    · rw [State.svc, service]
      exact may

theorem denyWaits_waits (s : State) (p : Wait → Bool) (why : DenyReason) :
    (s.denyWaits p why).waits = s.waits.filter (fun w => !p w) := by
  have kept : ∀ (l : List Wait) (t : State),
      (l.foldl (fun s w => (s.notify w.crane (.deny w.sector why)).reviewOffPath w.crane) t).waits = t.waits := by
    intro l
    induction l with
    | nil => exact fun t => rfl
    | cons w l ih =>
      intro t
      rw [List.foldl_cons, ih, (touches_reviewOffPath _ _).waits_eq (by decide), (touches_notify _ _ _).waits_eq (by decide)]
  exact kept _ _

theorem denyCrane_none (s : State) (c : Crane) (why : DenyReason) : ∀ w ∈ (s.denyCrane c why).waits, w.crane ≠ c := by
  intro w hw
  rw [State.denyCrane, denyWaits_waits, List.mem_filter] at hw
  simpa using hw.2

theorem WaitLaw.each_sublist {s t : State} (law : WaitLaw s) (sub : KeepsWaits s t)
    (h : KeepsEach (fun _ r => r.mayWait) s t) : WaitLaw t := law.sublist sub (fun c may => .inl (h c may))

/-- The law, of an operation on service records of one crane that denies that crane's entries. -/
theorem WaitLaw.denied {s t : State} {c : Crane} (law : WaitLaw s) (sub : KeepsWaits s t)
    (others : ∀ d, d ≠ c → t.svc d = s.svc d) (none : ∀ w ∈ t.waits, w.crane ≠ c) : WaitLaw t := by
  refine law.sublist sub (fun d may => ?_)
  by_cases same : d = c
  · exact .inr (same ▸ none)
  · exact .inl (others d same ▸ may)

theorem waits_serviceDenied (s : State) (c : Crane) (r : ServiceRec) (why : DenyReason) :
    KeepsWaits s ((s.setSvc c r).denyCrane c why) :=
  framedWaits.trans (framedWaits.of (touches_setSvc s c r) rfl) (waits_denyCrane _ c why)

theorem WaitLaw.serviceDenied {s : State} {c : Crane} (law : WaitLaw s) (r : ServiceRec) (why : DenyReason) :
    WaitLaw ((s.setSvc c r).denyCrane c why) :=
  law.denied (waits_serviceDenied s c r why)
    (fun d other => by rw [svc_of_touches (touches_denyCrane _ c why) (by decide), svc_setSvc, if_neg other.symm])
    (denyCrane_none _ c why)

theorem WaitLaw.frame {s t : State} {qs : List Part} (law : WaitLaw s) (k : Touches qs s t)
    (hqs : ([.waits, .service] : List Part).all (fun p => !qs.contains p) = true) : WaitLaw t := by
  have outside : ∀ p ∈ ([.waits, .service] : List Part), p ∉ qs := by
    intro p hp
    simpa using List.all_eq_true.mp hqs p hp
  refine law.sublist ?_ (fun c may => .inl ?_)
  · simpa only [KeepsWaits, k.waits_eq (outside _ (by decide))] using List.Sublist.refl s.waits
  · rwa [svc_of_touches k (outside _ (by decide))]

/-- One entry more (R57): its crane may wait, has no entry for the sector, and the list has room for it. -/
theorem waitLaw_append {s : State} {c : Crane} {x : Sector} (law : WaitLaw s) (may : (s.svc c).mayWait)
    (new : s.waitFor c x = none) (room : s.waitsFull c = false) : WaitLaw (s.appendWait c x) := by
  unfold State.appendWait
  refine WaitLaw.frame ?_ (touches_reviewOffPath _ c) rfl
  have full : s.waits.length < Config.maxWaits ∧ (s.waitingSectors c).length < Config.maxWaitsPerCrane := by
    simpa [State.waitsFull] using room
  have fresh : ∀ w ∈ s.waits, (w.crane, w.sector) ≠ (c, x) := by
    intro w hw same
    have none := List.find?_eq_none.mp new w hw
    simp only [Prod.mk.injEq] at same
    simp [same] at none
  constructor
  · rw [State.withWaits_waits, List.length_append]
    exact full.1
  · intro d
    have sectors : ((s.withWaits (s.waits ++ [⟨c, x, s.now, s.now + s.params.wait * 1000⟩])).waitingSectors d) =
        s.waitingSectors d ++ if c = d then [x] else [] := by
      simp only [State.waitingSectors, State.withWaits_waits, List.filter_append, List.map_append]
      congr 1
      by_cases same : c = d <;> simp [same]
    rw [sectors, List.length_append]
    split
    · rename_i same
      exact same ▸ full.2
    · exact law.each d
  · rw [State.withWaits_waits, List.map_append, List.nodup_append]
    refine ⟨law.once, by simp, ?_⟩
    intro p hp q hq same
    obtain ⟨w, hw, rfl⟩ := List.mem_map.mp hp
    simp only [List.map_cons, List.map_nil, List.mem_singleton] at hq
    exact fresh w hw (same.trans hq)
  · intro w hw
    rw [State.withWaits_waits] at hw
    rcases List.mem_append.mp hw with old | added
    · exact law.served w old
    · rw [List.mem_singleton.mp added]
      exact may

end Sys2Proof.Machine
end

section
/-!
PROOF. Every turn keeps the law of the wait list (R72): entries leave, those of a crane that is LOST, VANE_WAIT or OUT_OF_SERVICE all at
once, and one is appended for a crane that may wait alone.
-/
namespace Sys2Proof.Machine

theorem followUps_mayWait : FollowUps (KeepsEach (fun _ r => r.mayWait)) := by
  refine followUps_each ?_ ?_ ?_
  · exact fun c r _ out _ h => absurd out h.2.2
  · exact fun c r _ out _ h => absurd out h.2.2
  · exact fun c r _ waits h => absurd waits h.2.1

/-- What ENTER's checks say of the crane (R57), with the presence law: it may wait. -/
theorem mayWait_of_enterCheck {s : State} {c : Crane} (presence : PresenceLaw s)
    (here : (s.craneRec c).presence = .present) (check : s.enterCheck c = none) : (s.svc c).mayWait := by
  have notLost : (s.svc c).lost = false := by
    cases lost : (s.svc c).lost with
    | false => rfl
    | true => exact nomatch here.symm.trans ((presence c).2.2.1.mp lost)
  unfold State.enterCheck at check
  split at check
  · split at check
    · exact nomatch check
    split at check
    · exact nomatch check
    · rename_i may
      rw [Bool.or_eq_true, inState_iff, inState_iff, not_or] at may
      exact ⟨notLost, fun e => may.2 ⟨notLost, e⟩, fun e => may.1 ⟨notLost, e⟩⟩
  · exact nomatch check

theorem waitLaw_converted {s : State} (law : WaitLaw s) (rs : List CellReq) : WaitLaw (s.converted rs) :=
  law.frame (touches_converted s rs) rfl

theorem waits_heldOutside (s : State) (q : CellId) : KeepsWaits s (s.heldOutside q) := by
  have changed : KeepsWaits s (s.changeCells [⟨q, .held, .keep⟩]) := framedWaits.of (touches_changeCells s _) rfl
  unfold State.heldOutside
  dsimp only
  refine framedWaits.frame (touches_ownAndSeized _ _) rfl ?_
  split
  · exact framedWaits.frame (touches_notify _ _ _) rfl (framedWaits.trans changed (waits_dropWait _ _ _))
  · exact changed

theorem waits_lostRecords (s : State) (c : Crane) : KeepsWaits s (s.lostRecords c) :=
  framedWaits.frame (touches_addReasonTo _ c _) rfl (framedWaits.trans (framedWaits.of (touches_setCrane s c _) rfl)
    (waits_serviceDenied _ c _ _))

theorem waitLaw_lost {s : State} (law : WaitLaw s) (c : Crane) : WaitLaw (s.lostRecords c) := by
  refine law.denied (c := c) (waits_lostRecords s c) (fun d other => ?_) ?_
  · rw [svc_lostRecords, if_neg other.symm]
  · unfold State.lostRecords
    dsimp only
    rw [(touches_addReasonTo _ c _).waits_eq (by decide)]
    exact denyCrane_none _ c _

theorem each_forceService_out {P : Crane → ServiceRec → Prop} {s : State} {c : Crane}
    (h : ∀ r, r.state = .outOfService → P c r →
      P c { r with state := .vaneWait, order := .secure, timer := some s.securingEnd }) (named : List Sector) :
    KeepsEach P s (s.forceService c named) := by
  unfold State.forceService
  dsimp only
  split
  · rename_i forced
    simp only [Bool.and_eq_true, decide_eq_true_eq] at forced
    exact each_setSvc (h _ forced.1.2)
  · exact (framedEach _).refl s

theorem mayWait_rejoinedService (s : State) (c : Crane) : KeepsEach (fun _ r => r.mayWait) s (s.rejoinedService c) := by
  unfold State.rejoinedService
  dsimp only
  split
  · rename_i lost
    exact each_setSvc (fun h => absurd (h.1.symm.trans lost) (by decide))
  split
  · split
    all_goals exact each_setSvc (fun h => ⟨h.1, nofun, nofun⟩)
  · exact (framedEach _).refl s

theorem waitLaw_followPresence {s : State} (law : WaitLaw s) (old : Plan) (c : Crane) : WaitLaw (s.followPresence old c) := by
  refine law.each_sublist (waits_followPresence old s c) (fun d may => ?_)
  by_cases same : d = c
  · subst same
    rcases followPresence_own old s d with ⟨svc, _⟩ | ⟨eq, _⟩
    · rw [svc]; exact ⟨rfl, nofun, nofun⟩
    · rw [eq]; exact may
  · rw [(followPresence_others old s same).1]
    exact may

theorem waitLaw_adopted {s : State} (law : WaitLaw s) :
    WaitLaw (allCranes.foldl (State.followPresence s.plan.committed) s.adoptPlan) := by
  have along : ∀ (l : List Crane) (u : State), WaitLaw u → WaitLaw (l.foldl (State.followPresence s.plan.committed) u) := by
    intro l
    induction l with
    | nil => exact fun _ h => h
    | cons c l ih => exact fun u h => ih _ (waitLaw_followPresence h _ c)
  exact along allCranes _ (law.frame (touches_adoptPlan s) rfl)

theorem waitLaw_nil {s : State} (h : s.waits = []) : WaitLaw s := by
  constructor
  · rw [h]; exact Nat.zero_le _
  · intro c
    rw [State.waitingSectors, h]
    exact Nat.zero_le _
  · rw [h]; exact List.nodup_nil
  · rw [h]; exact fun w hw => nomatch hw

theorem waitLaw_move {qs : List Part} {s t : State} (h : Move qs s t) (presence : PresenceLaw s) (law : WaitLaw s) :
    WaitLaw t := by
  have k := h.touches
  cases h with
  | grant s w => exact law.each_sublist (waits_tryGrant s w) ((framedEach _).of k rfl)
  | resume s c withheld =>
    exact law.each_sublist (framedWaits.frame (touches_ownAndSeized _ _) rfl (waits_resumeChange s c))
      (followUps_mayWait.resume s c withheld)
  | release s c waits permitted =>
    refine law.each_sublist (framedWaits.frame (touches_ownAndSeized _ _) rfl (framedWaits.trans
      (framedWaits.of (touches_changeCells s _) rfl) (waits_outOfService _ c _ _))) ?_
    exact followUps_mayWait.release s c waits permitted
  | hold s q => exact law.each_sublist (waits_heldOutside s q) ((framedEach _).of k rfl)
  | seize s q =>
    exact law.each_sublist (framedWaits.trans (framedWaits.of (touches_converted s _) rfl) (waits_intrude _ q))
      ((framedEach _).of k rfl)
  | park s c => exact waitLaw_converted (law.serviceDenied _ .service) _
  | force s c named =>
    exact law.each_sublist (framedWaits.of k rfl) ((framedEach _).frame (touches_converted _ _) rfl
      (each_forceService_out (fun r out may => absurd out may.2.2) named))
  | vaneWait s c => exact law.serviceDenied _ _
  | readiness s c r => exact law.each_sublist (framedWaits.of k rfl) (each_setSvc id)
  | timer s c => exact law.each_sublist (framedWaits.of k rfl) (each_setSvc id)
  | rejoin s c r =>
    refine law.each_sublist (framedWaits.of k rfl) ((framedEach _).trans ((framedEach _).frame (touches_withdraw _ _ c) rfl
      ((framedEach _).of (touches_recordReport s c r 0) rfl)) (mayWait_rejoinedService _ c))
  | lost s c => exact waitLaw_lost law c
  | stop s c r => exact law.each_sublist (waits_addStop s c r) ((framedEach _).of k rfl)
  | waits s p => exact law.each_sublist List.filter_sublist ((framedEach _).refl s)
  | append s c x here check new room => exact waitLaw_append law (mayWait_of_enterCheck presence here check) new room
  | adopt s => exact waitLaw_adopted law
  | startUp s => exact waitLaw_nil rfl
  | _ => exact law.frame k rfl

theorem waitLaw_turn {qs : List Part} {s t : State} (h : Turn qs s t) (presence : PresenceLaw s) (law : WaitLaw s) :
    WaitLaw t := by
  have k := h.touches
  cases h with
  | move h => exact waitLaw_move h presence law
  | convert s c out =>
    have notMay : ¬ (s.svc c).mayWait := by
      rw [inState_iff, inState_iff] at out
      rintro ⟨_, notWaits, notOut⟩
      exact out.elim (fun h => notOut h.2) (fun h => notWaits h.2)
    exact law.each_sublist (framedWaits.frame (touches_ownAndSeized _ _) rfl (waits_resumeChange s c))
      (each_resume _ (fun may => absurd may notMay) (fun may => absurd may notMay))
  | secure s c => exact law.each_sublist (framedWaits.of k rfl) (each_setSvc (fun may => ⟨may.1, nofun, nofun⟩))
  | withheldToVaneWait s c => exact law.serviceDenied _ _
  | parkOrder s c => exact law.each_sublist (framedWaits.of k rfl) (each_setSvc id)
  | toService s c =>
    exact law.each_sublist (framedWaits.of k rfl) (each_toService (fun may => ⟨may.1, nofun, nofun⟩))
  | startServices s =>
    exact law.each_sublist (framedWaits.of k rfl) ((framedEach _).fold ((framedEach _).refl s) _ _
      (fun u c => each_setSvc (fun may => ⟨may.1, nofun, nofun⟩)))
  | standbys s noWaits =>
    exact waitLaw_nil ((k.waits_eq (by decide)).trans noWaits)
  | storm s c =>
    exact law.each_sublist (framedWaits.frame (touches_addReasonAll _ _) rfl (framedWaits.trans
      (framedWaits.of (touches_withSite s _) rfl) (waits_raiseFor _ _ c))) ((framedEach _).of k rfl)
  | _ => exact law.frame k rfl

theorem waits_turn {qs : List Part} {s t : State} (h : Turn qs s t)
    (_ : ([.cranes, .service, .waits] : List Part).any (fun p => qs.contains p) = true) : KeepsWaitLaw s t := by
  rintro ⟨presence, law⟩
  refine ⟨?_, waitLaw_turn h presence law⟩
  cases touched : ([.cranes, .service] : List Part).any (fun p => qs.contains p) with
  | true => exact presence_turn h touched presence
  | false => exact framedPresence.untouched h.touches touched presence

end Sys2Proof.Machine
end

section
/-!
PROOF. The law of the booking table (R131, R132, R138, R139): every operation but PROPOSE_LIFT, AMEND_LIFT and a new plan leaves to each
record its id, its crane and its fields; those three find room, a free id, and no overlap.
-/
namespace Sys2Proof.Machine

/-! ### Records that keep what the law reads -/

/-- What the law of the table reads of a record. -/
def Booking.key (b : Booking) : Nat × Crane × LiftData := (b.id, b.crane, b.data)

/-- The table law, of a list of what it reads. -/
structure TableKeys (p : Plan) (l : List (Nat × Crane × LiftData)) : Prop where
  total : l.length ≤ Config.maxBookings
  ascending : (l.map (·.1)).Pairwise (· < ·)
  ids : ∀ k ∈ l, 1 ≤ k.1 ∧ k.1 ≤ 65535
  each : ∀ c, (l.filter (fun k => decide (k.2.1 = c))).length ≤ Config.maxBookingsPerCrane
  apart : ∀ j ∈ l, ∀ k ∈ l, j.1 ≠ k.1 → j.2.2.overlaps k.2.2 = true →
    j.2.1 ≠ k.2.1 ∧ p.pathsJoined j.2.1 j.2.2.path k.2.1 k.2.2.path = false

theorem tableLaw_iff {s : State} : TableLaw s ↔
    TableKeys s.plan.committed (s.bookings.map Booking.key) ∧ 1 ≤ s.nextId ∧ s.nextId ≤ 65535 := by
  have ids : (s.bookings.map Booking.key).map (·.1) = s.bookings.map Booking.id := by
    rw [List.map_map]; rfl
  have each (c : Crane) : ((s.bookings.map Booking.key).filter (fun k => decide (k.2.1 = c))).length =
      (s.bookings.filter (fun b => decide (b.crane = c))).length := by
    rw [List.filter_map, List.length_map]; rfl
  constructor
  · intro h
    refine ⟨⟨by rw [List.length_map]; exact h.total, ids ▸ h.ascending, ?_, fun c => each c ▸ h.each c, ?_⟩, h.counter⟩
    · exact List.forall_mem_map.mpr h.ids
    · exact List.forall_mem_map.mpr (fun a ha => List.forall_mem_map.mpr (fun b hb => h.apart a ha b hb))
  · rintro ⟨h, counter⟩
    refine ⟨by have := h.total; rwa [List.length_map] at this, ids ▸ h.ascending, List.forall_mem_map.mp h.ids, counter,
      fun c => each c ▸ h.each c, fun a ha b hb => ?_⟩
    exact List.forall_mem_map.mp (List.forall_mem_map.mp h.apart a ha) b hb

theorem TableKeys.sublist {p : Plan} {l m : List (Nat × Crane × LiftData)} (h : TableKeys p l) (sub : m.Sublist l) :
    TableKeys p m where
  total := Nat.le_trans sub.length_le h.total
  ascending := h.ascending.sublist (sub.map _)
  ids k hk := h.ids k (sub.mem hk)
  each c := Nat.le_trans (sub.filter _).length_le (h.each c)
  apart j hj k hk := h.apart j (sub.mem hj) k (sub.mem hk)

/-- A key is found again by its id, in a table without an id twice. -/
theorem key_of_id {l : List Booking} (once : (l.map Booking.id).Nodup) {a b : Booking} (ha : a ∈ l) (hb : b ∈ l)
    (same : a.id = b.id) : a = b := by
  induction l with
  | nil => exact nomatch ha
  | cons r l ih =>
    obtain ⟨fresh, once⟩ := List.nodup_cons.mp once
    rcases List.mem_cons.mp ha with rfl | inA <;> rcases List.mem_cons.mp hb with rfl | inB
    · rfl
    · exact absurd (List.mem_map.mpr ⟨b, inB, same.symm⟩) fresh
    · exact absurd (List.mem_map.mpr ⟨a, inA, same⟩) fresh
    · exact ih once inA inB

/-- What the law reads of the record of an id. -/
def keyOf (l : List Booking) (n : Nat) : Option (Nat × Crane × LiftData) :=
  (l.find? (fun a => decide (a.id = n))).map Booking.key

theorem keyOf_id {l : List Booking} (once : (l.map Booking.id).Nodup) {a : Booking} (ha : a ∈ l) :
    keyOf l a.id = some a.key := by
  unfold keyOf
  cases found : l.find? (fun b => decide (b.id = a.id)) with
  | none => exact absurd (decide_eq_true rfl) (List.find?_eq_none.mp found a ha)
  | some b =>
    have same : b.id = a.id := by simpa using List.find?_some found
    rw [key_of_id once (List.mem_of_find?_eq_some found) ha same]
    rfl

/-- Records that come from records, their ids in order, keep what the law reads. -/
theorem keys_sublist {s t : State} {gone : Crane → SuspReason → Prop} (once : (s.bookings.map Booking.id).Nodup)
    (ids : KeepsIds s t) (h : RecordsFrom gone s t) :
    (t.bookings.map Booking.key).Sublist (s.bookings.map Booking.key) := by
  have along : ∀ (l m : List Booking), (m.map Booking.id).Sublist (l.map Booking.id) → (l.map Booking.id).Nodup →
      (∀ b ∈ m, ∃ a ∈ l, a.key = b.key) → (m.map Booking.key).Sublist (l.map Booking.key) := by
    intro l m sub once from_
    have found {b : Booking} (hb : ∃ a ∈ l, a.key = b.key) : keyOf l b.id = some b.key := by
      obtain ⟨a, ha, same⟩ := hb
      have id : a.id = b.id := congrArg Prod.fst same
      rw [← id, keyOf_id once ha, same]
    have both {n : List Booking} (hn : ∀ b ∈ n, ∃ a ∈ l, a.key = b.key) :
        n.map Booking.key = (n.map Booking.id).filterMap (keyOf l) := by
      induction n with
      | nil => rfl
      | cons b n ih =>
        rw [List.map_cons, List.map_cons, List.filterMap_cons_some (found (hn b List.mem_cons_self)),
          ih (fun r hr => hn r (List.mem_cons_of_mem _ hr))]
    rw [both from_, both (fun b hb => ⟨b, hb, rfl⟩)]
    exact sub.filterMap (keyOf l)
  refine along _ _ ids once (fun b hb => ?_)
  obtain ⟨a, ha, from_a⟩ := h b hb
  exact ⟨a, ha, by rw [Booking.key, from_a.id, from_a.crane, from_a.data]; rfl⟩

theorem TableLaw.once {s : State} (law : TableLaw s) : (s.bookings.map Booking.id).Nodup :=
  law.ascending.imp Nat.ne_of_lt

/-- The law of the table is kept. -/
def KeepsTable (s t : State) : Prop := TableLaw s → TableLaw t

theorem framedTable : Framed KeepsTable [.plan, .bookings, .nextId] where
  trans h k := fun law => k (h law)
  same h := fun law => by
    have plan := h .plan (by decide)
    have bookings := h .bookings (by decide)
    have nextId := h .nextId (by decide)
    simp only [Same] at plan bookings nextId
    rw [tableLaw_iff] at law ⊢
    rw [plan, bookings, nextId]
    exact law

/-- An operation that leaves ids, cranes and fields. -/
theorem keepsTable_of_records {qs : List Part} {s t : State} (k : Touches qs s t)
    (hqs : ([.plan, .nextId] : List Part).all (fun p => !qs.contains p) = true) (ids : KeepsIds s t)
    (h : RecordsFrom anyGone s t) : KeepsTable s t := by
  have outside : ∀ p ∈ ([.plan, .nextId] : List Part), p ∉ qs := by
    intro p hp
    simpa using List.all_eq_true.mp hqs p hp
  have nextId : t.nextId = s.nextId := k .nextId (outside _ (by decide))
  intro law
  have once := law.once
  rw [tableLaw_iff] at law ⊢
  rw [k.plan_eq (outside _ (by decide)), nextId]
  exact ⟨law.1.sublist (keys_sublist once ids h), law.2⟩

/-! ### Overlaps -/

theorem overlaps_symm (a b : LiftData) : a.overlaps b = b.overlaps a := by
  unfold LiftData.overlaps
  exact Bool.and_comm _ _

theorem pathsJoined_iff {p : Plan} {c d : Crane} {xs ys : List Sector} :
    p.pathsJoined c xs d ys = true ↔ ∃ x ∈ xs, ∃ k, ∃ y ∈ ys, (k, (⟨d, y⟩ : CellId)) ∈ p.partners ⟨c, x⟩ := by
  simp only [Plan.pathsJoined, List.any_eq_true, Bool.and_eq_true, decide_eq_true_eq]
  constructor
  · rintro ⟨x, hx, ⟨k, o⟩, hp, rfl, hy⟩
    exact ⟨x, hx, k, o.sector, hy, hp⟩
  · rintro ⟨x, hx, k, y, hy, hp⟩
    exact ⟨x, hx, (k, ⟨d, y⟩), hp, rfl, hy⟩

theorem pathsJoined_symm (p : Plan) (c d : Crane) (xs ys : List Sector) :
    p.pathsJoined c xs d ys = p.pathsJoined d ys c xs := by
  rw [Bool.eq_iff_iff, pathsJoined_iff, pathsJoined_iff]
  constructor
  · rintro ⟨x, hx, k, y, hy, hp⟩
    exact ⟨y, hy, k, x, hx, partners_symm hp⟩
  · rintro ⟨x, hx, k, y, hy, hp⟩
    exact ⟨y, hy, k, x, hx, partners_symm hp⟩

/-- What admission finds of the records it looks at (R138, R139). -/
structure Admits (s : State) (c : Crane) (d : LiftData) (amending : Option Nat) : Prop where
  apart : ∀ b ∈ s.bookings, some b.id ≠ amending → d.overlaps b.data = true →
    c ≠ b.crane ∧ s.plan.committed.pathsJoined c d.path b.crane b.data.path = false
  room : amending = none → s.bookings.length < Config.maxBookings ∧
    (s.bookings.filter (fun b => decide (b.crane = c))).length < Config.maxBookingsPerCrane

theorem admits_of_admission {s : State} {c : Crane} {f : LiftFields} {amending : Option Nat} {d : LiftData}
    (h : s.admission c f amending = .admitted d) : Admits s c d amending := by
  unfold State.admission at h
  dsimp only at h
  split at h
  · exact nomatch h
  split at h
  · exact nomatch h
  rename_i e _
  split at h
  case h_6 _ _ _ _ _ _ _ conflicts capacity =>
    cases h
    constructor
    · intro b hb other overlap
      have none := List.find?_eq_none.mp (Option.map_eq_none_iff.mp conflicts) b
        (List.mem_filter.mpr ⟨hb, by simpa using other⟩)
      unfold Plan.liftConflict at none
      rw [overlap, Bool.true_and, Bool.or_eq_true, not_or] at none
      exact ⟨fun same => none.1 (by simp [same]), by simpa using none.2⟩
    · rintro rfl
      have all : s.bookings.filter (fun b => !decide (some b.id = none)) = s.bookings := by simp
      rw [all] at capacity
      unfold checkCapacity at capacity
      simp only [Option.isSome_none, Bool.false_eq_true, if_false] at capacity
      split at capacity
      · exact nomatch capacity
      split at capacity
      · exact nomatch capacity
      · omega
  all_goals exact nomatch h

/-! ### A new record -/

theorem insertLift_perm (b : Booking) (l : List Booking) : (insertLift b l).Perm (b :: l) := by
  induction l with
  | nil => exact .refl _
  | cons a l ih =>
    unfold insertLift
    split
    · exact .refl _
    · exact (ih.cons a).trans (List.Perm.swap b a l)

theorem insertLift_ascending {b : Booking} {l : List Booking} (h : (l.map Booking.id).Pairwise (· < ·))
    (new : ∀ a ∈ l, a.id ≠ b.id) : ((insertLift b l).map Booking.id).Pairwise (· < ·) := by
  induction l with
  | nil => simp [insertLift]
  | cons a l ih =>
    rw [List.map_cons, List.pairwise_cons] at h
    obtain ⟨above, rest⟩ := h
    have above' : ∀ r ∈ l, a.id < r.id := fun r hr => above _ (List.mem_map_of_mem hr)
    unfold insertLift
    split
    · rename_i below
      refine List.pairwise_cons.mpr ⟨?_, List.pairwise_cons.mpr ⟨above, rest⟩⟩
      intro n hn
      obtain ⟨r, hr, rfl⟩ := List.mem_map.mp hn
      rcases List.mem_cons.mp hr with rfl | hr
      · exact below
      · exact Nat.lt_trans below (above' r hr)
    · rename_i notBelow
      refine List.pairwise_cons.mpr ⟨?_, ih rest (fun r hr => new r (List.mem_cons_of_mem _ hr))⟩
      intro n hn
      obtain ⟨r, hr, rfl⟩ := List.mem_map.mp hn
      rcases mem_insertLift hr with rfl | hr
      · have := new a List.mem_cons_self
        omega
      · exact above' r hr

theorem nextValue_range {n : Nat} (h : 1 ≤ n ∧ n ≤ 65535) : 1 ≤ nextValue n ∧ nextValue n ≤ 65535 := by
  unfold nextValue
  split <;> omega

/-- The id that is `i` places after `n`, 1 after 65535. -/
def idAfter (n i : Nat) : Nat := (n - 1 + i) % 65535 + 1

theorem idAfter_zero {n : Nat} (h : 1 ≤ n ∧ n ≤ 65535) : idAfter n 0 = n := by
  unfold idAfter
  omega

theorem idAfter_nextValue {n : Nat} (h : 1 ≤ n ∧ n ≤ 65535) (i : Nat) : idAfter (nextValue n) i = idAfter n (i + 1) := by
  unfold idAfter nextValue
  split <;> omega

theorem idAfter_ne {n i j : Nat} (before : i < j) (near : j < 65535) : idAfter n i ≠ idAfter n j := by
  unfold idAfter
  omega

/-- The search for an id ends at a free one, or has found 65 values all taken. -/
theorem freeId_spec (l : List Booking) (k : Nat) {n : Nat} (h : 1 ≤ n ∧ n ≤ 65535) :
    (∀ b ∈ l, b.id ≠ freeId l n k) ∨ ∀ i < k, ∃ b ∈ l, b.id = idAfter n i := by
  induction k generalizing n with
  | zero => exact .inr (fun i hi => absurd hi (Nat.not_lt_zero i))
  | succ k ih =>
    unfold freeId
    split
    · rename_i taken
      refine (ih (nextValue_range h)).imp_right (fun all i hi => ?_)
      cases i with
      | zero =>
        rw [idAfter_zero h]
        simpa using taken
      | succ i =>
        rw [← idAfter_nextValue h]
        exact all i (Nat.lt_of_succ_lt_succ hi)
    · rename_i free
      exact .inl (fun b hb same => free (List.any_eq_true.mpr ⟨b, hb, by simpa using same⟩))

/-- As many values as are held, so many records hold them. -/
theorem held_values {l : List Booking} {n m : Nat} (small : m ≤ 65535) (held : ∀ j < m, ∃ b ∈ l, b.id = idAfter n j) :
    m ≤ l.length := by
  have apart : ((List.range m).map (idAfter n)).Nodup :=
    List.pairwise_map.mpr (List.pairwise_lt_range.imp_of_mem (fun _ near before =>
      idAfter_ne before (Nat.lt_of_lt_of_le (List.mem_range.mp near) small)))
  have taken : (List.range m).map (idAfter n) ⊆ l.map Booking.id := by
    intro value member
    obtain ⟨j, less, rfl⟩ := List.mem_map.mp member
    obtain ⟨b, hb, same⟩ := held j (List.mem_range.mp less)
    exact List.mem_map.mpr ⟨b, hb, same⟩
  simpa using apart.length_le_of_subset taken

theorem freeId_range {l : List Booking} {n : Nat} (h : 1 ≤ n ∧ n ≤ 65535) (k : Nat) :
    1 ≤ freeId l n k ∧ freeId l n k ≤ 65535 := by
  induction k generalizing n with
  | zero => exact h
  | succ k ih =>
    unfold freeId
    split
    · exact ih (nextValue_range h)
    · exact h

/-- With fewer than 65 records the search for an id finds a free one (R132). -/
theorem freeId_free {l : List Booking} {n : Nat} (h : 1 ≤ n ∧ n ≤ 65535) (room : l.length < 65) :
    ∀ b ∈ l, b.id ≠ freeId l n 65 := by
  refine (freeId_spec l 65 h).resolve_right (fun all => ?_)
  have few := held_values (by decide) all
  omega

theorem keepsTable_propose (s : State) (q : Requester) (n : Nat) (f : LiftFields) : KeepsTable s (propose q n f s).1 := by
  intro law
  unfold propose
  split
  · exact law
  rename_i c _
  split
  · exact law
  split
  · exact law
  rename_i d admitted
  have admits := admits_of_admission admitted
  obtain ⟨total, each⟩ := admits.room rfl
  have free := freeId_free (l := s.bookings) law.counter (Nat.lt_of_lt_of_le total (by decide))
  have range := freeId_range (l := s.bookings) law.counter 65
  dsimp only
  generalize freeId s.bookings s.nextId 65 = id at free range
  generalize hb : (⟨id, c, .pending (s.now + Config.confirmTime), d, q, false, false, false, s.clock.site, q⟩ : Booking) = b
  have bid : b.id = id := by rw [← hb]
  have bcrane : b.crane = c := by rw [← hb]
  have bdata : b.data = d := by rw [← hb]
  have perm := insertLift_perm b s.bookings
  have overlap {r : Booking} (hr : r ∈ s.bookings) (lap : b.data.overlaps r.data = true) :=
    admits.apart r hr nofun (bdata ▸ lap)
  constructor
  · show (insertLift b s.bookings).length ≤ _
    rw [perm.length_eq]
    exact total
  · exact insertLift_ascending law.ascending (fun a ha => bid.symm ▸ free a ha)
  · intro r hr
    rcases mem_insertLift hr with rfl | old
    · exact bid.symm ▸ range
    · exact law.ids r old
  · exact nextValue_range range
  · intro e
    show ((insertLift b s.bookings).filter _).length ≤ _
    rw [(perm.filter _).length_eq, List.filter_cons]
    split
    · rename_i same
      rw [decide_eq_true_eq, bcrane] at same
      rw [← same]
      exact each
    · exact law.each e
  · intro r hr r' hr' other lap
    show r.crane ≠ r'.crane ∧ s.plan.committed.pathsJoined r.crane r.data.path r'.crane r'.data.path = false
    rcases mem_insertLift hr with rfl | old <;> rcases mem_insertLift hr' with rfl | old'
    · exact absurd rfl other
    · have := overlap old' lap
      rwa [← bcrane, ← bdata] at this
    · rw [overlaps_symm] at lap
      have := overlap old lap
      rw [← bcrane, ← bdata] at this
      exact ⟨this.1.symm, by rw [pathsJoined_symm]; exact this.2⟩
    · exact law.apart r old r' old' other lap

/-! ### New fields -/

/-- A record of the table is given other fields, which admission has found apart from the others (R143). -/
theorem tableLaw_putLift {s : State} (law : TableLaw s) {b r : Booking} (hb : b ∈ s.bookings) (id : r.id = b.id)
    (crane : r.crane = b.crane) (admits : Admits s r.crane r.data (some b.id)) : TableLaw (s.putLift r) := by
  have put : (s.putLift r).bookings = s.bookings.map (fun a => if a.id = b.id then r else a) := by
    rw [← id]; rfl
  have mem {a : Booking} (ha : a ∈ (s.putLift r).bookings) : a = r ∨ a ∈ s.bookings ∧ a.id ≠ b.id := by
    rw [put] at ha
    obtain ⟨o, ho, eq⟩ := List.mem_map.mp ha
    split at eq
    · exact .inl eq.symm
    · rename_i other
      exact .inr (eq ▸ ⟨ho, other⟩)
  have ids : (s.putLift r).bookings.map Booking.id = s.bookings.map Booking.id := by
    rw [put, List.map_map]
    refine List.map_congr_left (fun a _ => ?_)
    simp only [Function.comp_apply]
    split
    · rename_i same; exact id.trans same.symm
    · rfl
  have apart {o : Booking} (ho : o ∈ s.bookings) (other : o.id ≠ b.id) (lap : r.data.overlaps o.data = true) :=
    admits.apart o ho (fun e => other (Option.some.inj e)) lap
  constructor
  · rw [put, List.length_map]; exact law.total
  · rw [ids]; exact law.ascending
  · intro a ha
    rcases mem ha with rfl | ⟨old, _⟩
    · exact id.symm ▸ law.ids b hb
    · exact law.ids a old
  · exact law.counter
  · intro c
    have same : ((s.putLift r).bookings.filter (fun a => decide (a.crane = c))).length =
        (s.bookings.filter (fun a => decide (a.crane = c))).length := by
      rw [put, List.filter_map, List.length_map]
      refine congrArg List.length (List.filter_congr (fun a ha => ?_))
      simp only [Function.comp_apply]
      split
      · rename_i same
        rw [crane, key_of_id law.once ha hb same]
      · rfl
    rw [same]
    exact law.each c
  · intro a ha a' ha' other lap
    show a.crane ≠ a'.crane ∧ s.plan.committed.pathsJoined a.crane a.data.path a'.crane a'.data.path = false
    rcases mem ha with rfl | ⟨old, ne⟩ <;> rcases mem ha' with rfl | ⟨old', ne'⟩
    · exact absurd rfl other
    · exact apart old' ne' lap
    · rw [overlaps_symm] at lap
      obtain ⟨cranes, paths⟩ := apart old ne lap
      exact ⟨cranes.symm, by rw [pathsJoined_symm]; exact paths⟩
    · exact law.apart a old a' old' other lap

theorem keepsTable_testDue {s : State} {b : Booking} (hb : b ∈ s.bookings) : KeepsTable s (s.testDue b) :=
  keepsTable_of_records (touches_testDue s b) rfl (ids_testDue s b) (records_testDue hb)

theorem keepsTable_amend (s : State) (q : Requester) (id : Nat) (f : LiftFields) : KeepsTable s (amend q id f s).1 := by
  intro law
  unfold amend
  split
  · exact law
  split
  · exact law
  rename_i b found
  split
  · exact law
  split
  · exact law
  split
  · exact law
  split
  · exact law
  · rename_i d admitted
    have hb := findLift_mem found
    have same : b.id = id := by simpa using List.find?_some found
    have admits := admits_of_admission admitted
    rw [← same] at admits
    have amended := tableLaw_putLift law (r := { b.stamp s q with data := d, due := false }) hb rfl rfl admits
    exact keepsTable_testDue (putLift_mem (r := { b.stamp s q with data := d, due := false }) hb rfl) amended

/-! ### Every turn -/

theorem tableLaw_nil {s : State} (none : s.bookings = []) (counter : 1 ≤ s.nextId ∧ s.nextId ≤ 65535) : TableLaw s := by
  rw [tableLaw_iff, none]
  exact ⟨⟨Nat.zero_le _, List.Pairwise.nil, nofun, fun _ => Nat.zero_le _, nofun⟩, counter⟩

theorem keepsTable_start (s : State) (q : Requester) (id : Nat) : KeepsTable s (start q id s).1 := by
  rcases start_cases s q id with same | ⟨c, b, found, _, _, _, eq⟩
  · rw [same]; exact framedTable.refl s
  · rw [eq]
    refine framedTable.frame (touches_setLastConf _ c none) rfl (fun law => ?_)
    have hb := findLift_mem found
    refine tableLaw_putLift law (r := { b.stamp s q with state := .active }) hb rfl rfl ⟨fun o ho other lap => ?_, nofun⟩
    exact law.apart b hb o ho (fun e => other (congrArg some e.symm)) lap

theorem table_move {qs : List Part} {s t : State} (h : Move qs s t)
    (touched : ([.plan, .bookings, .nextId] : List Part).any (fun p => qs.contains p) = true) : KeepsTable s t := by
  have k := h.touches
  cases h with
  | seize s q =>
    exact keepsTable_of_records k rfl (framedIds.trans (framedIds.of (touches_converted s _) rfl) (ids_intrude _ q))
      ((framedRecords _).trans ((framedRecords _).of (touches_converted s _) rfl) (records_intrude _ q))
  | lost s c =>
    refine keepsTable_of_records k rfl ?_ (records_lostRecords s c)
    exact framedIds.trans (framedIds.frame (touches_denyCrane _ c _) rfl (framedIds.frame (touches_setSvc _ c _) rfl
      (framedIds.of (touches_setCrane s c _) rfl))) (ids_addReasonTo _ c _)
  | stop s c r => exact keepsTable_of_records k rfl (ids_addStop s c r) (records_addStop s c r)
  | unstop s c named => exact keepsTable_of_records k rfl (ids_clearStops s c named) (records_clearStops s trivial named)
  | addReason s c r => exact keepsTable_of_records k rfl (ids_addReasonTo s c r) (records_addReasonTo s c r)
  | removeLost s c => exact keepsTable_of_records k rfl (ids_removeReasonFrom s c _) (records_removeReasonFrom s trivial)
  | booked s n id => exact keepsTable_of_records k rfl (ids_testBooked s n id) (records_testBooked s n id)
  | overrun s b found => exact keepsTable_of_records k rfl (ids_putLift s _) (records_overrun found)
  | free s id => exact keepsTable_of_records k rfl (ids_freeLift s id) (records_freeLift s id)
  | propose s q n f => exact keepsTable_propose s q n f
  | confirm s q id => exact keepsTable_of_records k rfl (ids_confirm q id s) (records_confirm s q id)
  | amend s q id f => exact keepsTable_amend s q id f
  | cancel s q id => exact keepsTable_of_records k rfl (ids_cancel q id s) (records_cancel s q id)
  | lock s b q id => exact keepsTable_of_records k rfl (ids_setLock b q id s) (records_setLock s b q id)
  | start s q id => exact keepsTable_start s q id
  | suspend s q id => exact keepsTable_of_records k rfl (ids_suspend q id s) (records_suspend s q id)
  | resumeLift s q id =>
    exact keepsTable_of_records k rfl (ids_resume q id s) (records_resume s q id (fun _ _ _ => trivial))
  | store s v keeps =>
    intro law
    rw [tableLaw_iff] at law ⊢
    rw [State.withPlan_plan, keeps.committed]
    exact law
  | adopt s setup noLifts =>
    intro law
    refine tableLaw_nil (List.eq_nil_iff_forall_not_mem.mpr (fun b hb => ?_)) ?_
    · obtain ⟨a, ha, _⟩ := records_adopted (gone := anyGone) s b hb
      rw [noLifts] at ha
      exact nomatch ha
    · have nextId : _ = s.nextId := k .nextId (by decide)
      rw [nextId]
      exact law.counter
  | startUp s =>
    have counter : s.startUp.nextId = 1 := rfl
    exact fun _ => tableLaw_nil rfl (by rw [counter]; decide)
  | _ => exact absurd touched (by decide)

theorem table_turn {qs : List Part} {s t : State} (h : Turn qs s t)
    (touched : ([.plan, .bookings, .nextId] : List Part).any (fun p => qs.contains p) = true) : KeepsTable s t := by
  have k := h.touches
  cases h with
  | move h => exact table_move h touched
  | verdict s c => exact keepsTable_of_records k rfl (ids_handVerdict s c) (records_handVerdict s trivial)
  | storm s c =>
    refine keepsTable_of_records k rfl (framedIds.trans (framedIds.trans (framedIds.of (touches_withSite s _) rfl)
      (ids_raiseFor _ _ c)) (ids_addReasonAll _ _)) ?_
    exact (framedRecords _).trans ((framedRecords _).trans ((framedRecords _).of (touches_withSite s _) rfl)
      (records_raise _ _ _)) (records_addReasonAll _ _)
  | calm s =>
    exact keepsTable_of_records k rfl (framedIds.frame (touches_withSite _ _) rfl (ids_removeReasonAll s _))
      ((framedRecords _).frame (touches_withSite _ _) rfl (records_removeReasonAll s (fun _ => trivial)))
  | _ => exact absurd touched (by decide)

end Sys2Proof.Machine

open Sys2Proof.Machine

/-- Settles O54: the queues block by block, the wait list (with the presence law) and the booking table turn by turn. -/
theorem stepKeepsListLimits : Obligations.StepKeepsListLimits := by
  unfold Obligations.StepKeepsListLimits
  refine ⟨fun s t law h => ?_, fun s t presence law h => ?_, fun s t law h => ?_⟩
  · exact framedQueueLaw.step_of_blocks rfl queue_block h law
  · exact (framedWaitLaw.step_of_turns rfl waits_turn h ⟨presence, law⟩).2
  · exact framedTable.step_of_turns rfl table_turn h law
end

section
/-!
PROOF. What the part does when no command waits (entry 1): the timed commands that are due, and the order they are queued in.
-/
namespace Sys2Proof.Machine

/-! ### The order drawn (entry 2) -/

theorem cons_eraseIdx_perm {α : Type} {l : List α} {i : Nat} (inRange : i < l.length) : (l[i] :: l.eraseIdx i).Perm l := by
  induction l generalizing i with
  | nil => exact nomatch inRange
  | cons a l ih =>
    cases i with
    | zero => exact .refl _
    | succ i =>
      have rest : i < l.length := Nat.lt_of_succ_lt_succ inRange
      exact (List.Perm.swap a l[i] (l.eraseIdx i)).trans ((ih rest).cons a)

theorem drawOrder_perm (n d : Nat) (l : List Instr) : (drawOrder n d l).Perm l := by
  induction n generalizing d l with
  | zero => exact .refl l
  | succ n ih =>
    unfold drawOrder
    split
    · rename_i c found
      obtain ⟨inRange, rfl⟩ := List.getElem?_eq_some_iff.mp found
      exact ((ih _ _).cons _).trans (cons_eraseIdx_perm inRange)
    · exact .refl l

theorem ordered_perm (s : State) (l : List Instr) : (s.ordered l).Perm l := by
  unfold State.ordered
  split
  · exact .refl _
  · exact .refl _
  · exact drawOrder_perm _ _ _

/-! ### What is due -/

theorem mem_dueIf {b : Bool} {c i : Instr} : i ∈ dueIf b c ↔ b = true ∧ i = c := by
  unfold dueIf
  split <;> simp_all

theorem reached_iff {s : State} {e : Option Nat} : s.reached e = true ↔ ∃ t, e = some t ∧ t ≤ s.clock.mono := by
  unfold State.reached State.now
  split <;> simp

theorem mem_dueOf {s : State} {c : Crane} {i : Instr} :
    i ∈ s.dueOf c ↔ s.boundDue c = true ∧ i = .reportBoundExpiry c ∨ s.assemblyOverdue c = true ∧ i = .assemblyTimeout c ∨
      s.dwellDue c = true ∧ i = .dwellCompletion c ∨ s.timerDue c = true ∧ i = .securingTimerExpiry c ∨
      ∃ x, s.clearingDue ⟨c, x⟩ = true ∧ i = .clearingExpiry c x := by
  have sector (x : Sector) : x ∈ allSectors := List.mem_finRange x
  simp [State.dueOf, mem_dueIf, sector]

theorem mem_dueDeadlines {s : State} {i : Instr} :
    i ∈ s.dueDeadlines ↔ (∃ w ∈ s.waits, w.deadline ≤ s.now ∧ i = .waitDeadline w.crane w.sector) ∨
      ∃ b ∈ s.bookings, s.reached b.deadline = true ∧ i = .confirmDeadline b.id := by
  simp [State.dueDeadlines, mem_dueIf]

theorem mem_dueCommands {s : State} {i : Instr} :
    i ∈ s.dueCommands ↔
      s.reached s.plan.write = true ∧ i = .storeWriteEnd (Config.readBackGood s.draws) ∨
      s.boundaryDue = true ∧ i = .siteSecondBoundary ∨ (∃ c, i ∈ s.dueOf c) ∨ i ∈ s.dueDeadlines ∨
      s.phaseDue = true ∧ i = .sirenPulsePhase := by
  simp [State.dueCommands, State.dueWrite, mem_dueIf, mem_allCranes]

theorem deadline_iff {s : State} {b : Booking} :
    s.reached b.deadline = true ↔ ∃ t, b.state = .pending t ∧ t ≤ s.clock.mono := by
  rw [reached_iff]
  unfold Booking.deadline
  split <;> simp_all

theorem assemblyOverdue_iff {s : State} {c : Crane} :
    s.assemblyOverdue c = true ↔ ∃ bytes last, (s.link c).rx = .assembling bytes last ∧ last + 5 ≤ s.clock.mono := by
  unfold State.assemblyOverdue
  split
  · simp_all
  · rename_i bytes last rx
    rw [rx, decide_eq_true_iff]
    refine ⟨fun h => ⟨bytes, last, rfl, h⟩, ?_⟩
    rintro ⟨_, _, same, h⟩
    cases same
    exact h

theorem boundDue_iff {s : State} {c : Crane} :
    s.boundDue c = true ↔ (s.craneRec c).presence = .present ∧ ∃ t, (s.craneRec c).bound = some t ∧ t ≤ s.clock.mono := by
  rw [State.boundDue, Bool.and_eq_true, reached_iff, State.isPresent, decide_eq_true_iff]

theorem dwellDue_iff {s : State} {c : Crane} :
    s.dwellDue c = true ↔ ∃ d, (s.windRec c).dwell = some d ∧ d.start + d.step.time ≤ s.clock.mono := by
  rw [State.dwellDue, reached_iff]
  constructor
  · rintro ⟨t, ends, past⟩
    obtain ⟨d, runs, rfl⟩ := Option.map_eq_some_iff.mp ends
    exact ⟨d, runs, past⟩
  · rintro ⟨d, runs, past⟩
    exact ⟨_, Option.map_eq_some_iff.mpr ⟨d, runs, rfl⟩, past⟩

theorem clearingDue_iff {s : State} {q : CellId} :
    s.clearingDue q = true ↔ (s.cell q).state = .clearing ∧ ∃ t, (s.cell q).clearEnd = some t ∧ t ≤ s.clock.mono := by
  rw [State.clearingDue, Bool.and_eq_true, reached_iff, decide_eq_true_iff]

/-! ### No command is due twice -/

theorem nodup_flatMap_of {α β : Type} {f : α → List β} {l : List α} (each : ∀ a ∈ l, (f a).Nodup)
    (apart : l.Pairwise (fun a b => ∀ i, i ∈ f a → i ∈ f b → False)) : (l.flatMap f).Nodup :=
  List.pairwise_flatMap.mpr ⟨each, apart.imp (fun disjoint i here j there same => disjoint i here ((show i = j from same) ▸ there))⟩

theorem dueIf_nodup (b : Bool) (c : Instr) : (dueIf b c).Nodup := by
  unfold dueIf
  split
  · exact List.pairwise_singleton _ c
  · exact List.nodup_nil

theorem dueOf_nodup (s : State) (c : Crane) : (s.dueOf c).Nodup := by
  have clearings : (allSectors.flatMap (fun x => dueIf (s.clearingDue ⟨c, x⟩) (.clearingExpiry c x))).Nodup := by
    refine nodup_flatMap_of (fun x _ => dueIf_nodup _ _) ((List.nodup_finRange 16).imp (fun {x y} other => ?_))
    intro i hx hy
    have same := (mem_dueIf.mp hx).2.symm.trans (mem_dueIf.mp hy).2
    exact other (by cases same; rfl)
  unfold State.dueOf
  simp only [List.nodup_append, dueIf_nodup, clearings, mem_dueIf, List.mem_append, List.mem_flatMap, true_and]
  refine ⟨⟨⟨?_, ?_⟩, ?_⟩, ?_⟩ <;> grind

theorem dueDeadlines_nodup {s : State} (waits : (s.waits.map (fun w => (w.crane, w.sector))).Nodup)
    (ids : (s.bookings.map Booking.id).Nodup) : s.dueDeadlines.Nodup := by
  refine List.nodup_append.mpr ⟨?_, ?_, ?_⟩
  · refine nodup_flatMap_of (fun w _ => dueIf_nodup _ _) ((List.pairwise_map.mp waits).imp (fun {v w} other => ?_))
    intro i hv hw
    have same := (mem_dueIf.mp hv).2.symm.trans (mem_dueIf.mp hw).2
    simp only [Instr.waitDeadline.injEq] at same
    exact other (by rw [same.1, same.2])
  · refine nodup_flatMap_of (fun b _ => dueIf_nodup _ _) ((List.pairwise_map.mp ids).imp (fun {a b} other => ?_))
    intro i ha hb
    have same := (mem_dueIf.mp ha).2.symm.trans (mem_dueIf.mp hb).2
    simp only [Instr.confirmDeadline.injEq] at same
    exact other same
  · rintro i hi j hj rfl
    obtain ⟨w, _, hw⟩ := List.mem_flatMap.mp hi
    obtain ⟨b, _, hb⟩ := List.mem_flatMap.mp hj
    exact nomatch (mem_dueIf.mp hw).2.symm.trans (mem_dueIf.mp hb).2

theorem dueCommands_nodup {s : State} (waits : (s.waits.map (fun w => (w.crane, w.sector))).Nodup)
    (ids : (s.bookings.map Booking.id).Nodup) : s.dueCommands.Nodup := by
  have cranes : (allCranes.flatMap s.dueOf).Nodup := by
    refine nodup_flatMap_of (fun c _ => dueOf_nodup s c) ((List.nodup_finRange 8).imp (fun {c d} other => ?_))
    intro i hc hd
    rw [mem_dueOf] at hc hd
    grind
  unfold State.dueCommands State.dueWrite
  simp only [List.nodup_append, dueIf_nodup, cranes, dueDeadlines_nodup waits ids, mem_dueIf, List.mem_append,
    List.mem_flatMap, mem_dueOf, mem_dueDeadlines, true_and]
  refine ⟨⟨⟨?_, ?_⟩, ?_⟩, ?_⟩ <;> grind

end Sys2Proof.Machine

open Sys2Proof.Machine

/-- Settles O2: the three branches of an idle step, and what each list of due commands holds. -/
theorem emptyQueueIdles : Obligations.EmptyQueueIdles := by
  unfold Obligations.EmptyQueueIdles
  refine ⟨fun s none => ⟨fun off => ?_, fun on quiet => ?_, fun on due => ?_⟩, fun s => ?_⟩
  · rw [step_of_empty none, State.idle, off]
    rfl
  · rw [step_of_empty none, State.idle, on, quiet]
    rfl
  · have some : s.dueCommands.isEmpty = false := by simpa using due
    rw [step_of_empty none, State.idle, on, some]
    exact ⟨_, _, ordered_perm s _, rfl⟩
  · dsimp only
    refine ⟨?_, fun good => ?_, ?_, fun c => ⟨?_, ?_, ?_, ?_, fun x => ⟨?_, ?_⟩⟩, fun id => ?_, fun i hi => ?_,
      dueCommands_nodup⟩
    · have boundary : s.boundaryDue = true ↔ s.clock.boundary ≤ s.clock.mono := decide_eq_true_iff
      simp [mem_dueCommands, mem_dueOf, mem_dueDeadlines, boundary]
    · simp [mem_dueCommands, mem_dueOf, mem_dueDeadlines, reached_iff]
    · simp [mem_dueCommands, mem_dueOf, mem_dueDeadlines, State.phaseDue, reached_iff]
    · simp [mem_dueCommands, mem_dueOf, mem_dueDeadlines, assemblyOverdue_iff]
    · simp [mem_dueCommands, mem_dueOf, mem_dueDeadlines, boundDue_iff]
    · refine Iff.trans (b := ∃ d, (s.windRec c).dwell = some d ∧ d.start + d.step.time ≤ s.clock.mono) ?_ Iff.rfl
      simp [mem_dueCommands, mem_dueOf, mem_dueDeadlines, dwellDue_iff]
    · simp [mem_dueCommands, mem_dueOf, mem_dueDeadlines, State.timerDue, reached_iff]
    · simp [mem_dueCommands, mem_dueOf, mem_dueDeadlines, clearingDue_iff]
    · simp only [mem_dueCommands, mem_dueOf, mem_dueDeadlines, State.now]
      grind
    · simp only [mem_dueCommands, mem_dueOf, mem_dueDeadlines, deadline_iff]
      grind
    · simp only [mem_dueCommands, mem_dueOf, mem_dueDeadlines] at hi
      grind
end

section
/-!
PROOF. The forms of the records: a cell's clearing end and origin (R50, R52), the port (R173), site time (R22), the alert modes
(R163), and presence (R36).
-/
namespace Sys2Proof.Machine

/-! ### Cells -/

theorem cells_block {qs : List Part} {s t : State} (h : Block qs s t)
    (touched : ([.cells] : List Part).any (fun p => qs.contains p) = true) : KeepsCells s t := by
  cases h with
  | powerOn s => exact framedCells.frame (touches_startRaisings _) rfl (cells_startUp s)
  | status s c r => exact cells_acceptStatus s c r
  | rejoin s c r => exact cells_acceptRejoin s c r
  | enter s c n => exact cells_enterZone c n s
  | release s c n => exact cells_releaseZone c n s
  | endLift s n q id => exact cells_endRunning n q id s
  | openSite s => exact cells_openTheSite s
  | closeSite s => exact cells_closeTheSite s
  | resumeSite s => exact cells_resumeTheSite s
  | returnToSetup s => exact cells_returnSiteToSetup s
  | forceRelease s n m => exact cells_forceCells n m s
  | clearingEnd s q => exact cells_expireClearing s q
  | _ => exact absurd touched (by decide)

/-! ### The port -/

/-- The law of the port is kept. -/
def KeepsPort (s t : State) : Prop := PortLaw s → PortLaw t

theorem framedPort : Framed KeepsPort [.port, .pins] where
  trans h k := fun law => k (h law)
  same h := fun law => by
    have port := h .port (by decide)
    have pins := h .pins (by decide)
    simp only [Same] at port pins
    refine ⟨fun on => ?_, ?_⟩
    · rw [State.running, pins] at on
      rw [port]
      exact law.ready on
    · rw [port]
      exact law.released

/-- A state whose port and supply state are those of another. -/
theorem keepsPort_of_same {s t : State} (port : t.port = s.port) (power : t.pins.power = s.pins.power) :
    KeepsPort s t := fun law => by
  refine ⟨fun on => ?_, port ▸ law.released⟩
  rw [State.running, power] at on
  rw [port]
  exact law.ready on

theorem not_running_halt (s : State) {p : Power} (stopped : p ≠ .running) : (s.halt p).running = false := by
  simp [State.running, State.halt, stopped]

theorem port_block {qs : List Part} {s t : State} (h : Block qs s t)
    (touched : ([.port, .pins] : List Part).any (fun p => qs.contains p) = true) : KeepsPort s t := by
  cases h with
  | powerOn s =>
    exact framedPort.frame (touches_startRaisings _) rfl (fun _ => ⟨fun _ => rfl, rfl⟩)
  | halt s p stopped =>
    exact fun _ => ⟨fun on => absurd ((not_running_halt s stopped).symm.trans on) (by decide), rfl⟩
  | siteStopLevel s b => exact keepsPort_of_same rfl rfl
  | port s v keeps => exact fun law => ⟨fun on => keeps.ready (law.ready on), keeps.released law.released⟩
  | commit s p =>
    have sampled : KeepsPort s (s.withPins { s.pins with protect := p }) := keepsPort_of_same rfl rfl
    unfold commitPlan
    dsimp only
    split
    · exact sampled
    · exact framedPort.frame (touches_commit _) rfl sampled
  | _ => exact absurd touched (by decide)

/-! ### Site time -/

theorem site_moveTime (s : State) (t : Nat) : (s.moveTime t).clock.site = t := by
  unfold State.moveTime
  dsimp only
  split
  · rfl
  · rw [(touches_minuteEvent _ _).clock_eq (by decide)]
    rfl

theorem time_passSecond {s : State} (h : s.clock.site ≤ Config.maxSiteTime) :
    s.passSecond.clock.site ≤ Config.maxSiteTime := by
  unfold State.passSecond
  dsimp only
  split
  · rename_i below
    rw [site_moveTime]
    exact below
  · exact h

theorem time_setClock {s : State} {t : Nat} (h : s.clock.site ≤ Config.maxSiteTime) (ht : t ≤ Config.maxSiteTime) :
    (setClock t s).1.clock.site ≤ Config.maxSiteTime := by
  unfold setClock
  split
  · exact h
  · dsimp only
    unfold State.acceptTime
    rw [site_moveTime]
    exact ht

theorem time_startUp (s : State) : s.startUp.startRaisings.clock.site ≤ Config.maxSiteTime := by
  rw [(touches_startRaisings _).clock_eq (by decide)]
  exact Nat.zero_le _

theorem time_exec {i : Instr} {s t : State} (h : exec i s = .next t) (top : s.clock.site ≤ Config.maxSiteTime)
    (arg : ∀ n, i = .setTime n → n ≤ Config.maxSiteTime) : t.clock.site ≤ Config.maxSiteTime := by
  have k := commandFrames i s t h
  by_cases clock : i.touched.contains .clock = true
  · cases i with
    | powerOn =>
      cases (exec_powerOn s).symm.trans h
      exact time_startUp s
    | siteSecondBoundary =>
      rw [exec_siteSecondBoundary] at h
      unfold State.whileRunning at h
      cases h
      dsimp only
      split
      · split
        · exact time_passSecond top
        · exact top
      · exact top
    | setTime n =>
      rw [exec_setTime] at h
      unfold State.supervised State.whileRunning State.serve at h
      cases h
      split
      · dsimp only
        rw [(touches_respond _ _ _).clock_eq (by decide)]
        exact time_setClock (((touches_gather s _).clock_eq (by decide)).symm ▸ top) (arg n rfl)
      · exact top
    | _ => exact absurd clock Bool.false_ne_true
  · rw [k.clock_eq (fun touched => clock (List.elem_eq_true_of_mem touched))]
    exact top

theorem pending_not_touched (i : Instr) : Part.pending ∉ i.touched := fun touched => by
  have found : i.touched.contains .pending = true := List.elem_eq_true_of_mem touched
  cases i <;> exact Bool.false_ne_true found

theorem timeLaw_step {s t : State} (law : TimeLaw s) (h : step s = .next t) : TimeLaw t := by
  cases hs : s.pending with
  | nil =>
    rw [step_of_empty hs] at h
    cases h
    unfold State.idle
    split
    · split
      · exact ⟨law.top, law.waiting⟩
      · refine ⟨law.top, fun n queued => absurd ((ordered_perm s _).subset queued) fun due => ?_⟩
        simp [mem_dueCommands, mem_dueOf, mem_dueDeadlines] at due
    · exact law
  | cons i rest =>
    rw [step_of_pending hs] at h
    refine ⟨time_exec h law.top (fun n set => law.waiting n ?_), fun n queued => law.waiting n ?_⟩
    · rw [hs, set]
      exact List.mem_cons_self
    · have kept : t.pending = rest := commandFrames i _ t h .pending (pending_not_touched i)
      rw [hs]
      exact List.mem_cons_of_mem _ (kept ▸ queued)

/-! ### Alert modes (R163) -/

/-- A record under the committed mode of its kind. -/
def State.moded (s : State) (k : AlertKind) (r : AlertRec) : AlertRec :=
  match k.slot with
  | some j => { r with mode := tget s.plan.committed.modes j }
  | none => r

/-- After the modes of the kinds of a list are written: each of them has its committed mode, and the others are as they were. -/
theorem alert_foldl_modes (l : List AlertKind) (once : l.Nodup) (s : State) (k : AlertKind) :
    (l.foldl (fun t k => match k.slot with
      | some j => t.setAlert k { t.alert k with mode := tget t.plan.committed.modes j }
      | none => t) s).alert k = if k ∈ l then s.moded k (s.alert k) else s.alert k := by
  induction l generalizing s with
  | nil => rfl
  | cons a l ih =>
    obtain ⟨new, once⟩ := List.nodup_cons.mp once
    rw [List.foldl_cons, ih once]
    cases slot : a.slot with
    | none =>
      dsimp only
      by_cases same : k = a
      · subst same
        rw [if_neg new, if_pos List.mem_cons_self, State.moded, slot]
      · simp [same]
    | some j =>
      dsimp only
      by_cases same : k = a
      · subst same
        rw [if_neg new, if_pos List.mem_cons_self, State.moded, slot, alert_setAlert, if_pos rfl]
      · have other : a ≠ k := fun h => same h.symm
        simp only [List.mem_cons, same, false_or, alert_setAlert, if_neg other]
        rfl

theorem alert_writeModes (s : State) (k : AlertKind) : s.writeModes.alert k = s.moded k (s.alert k) := by
  have all : k ∈ AlertKind.all := by cases k <;> decide
  exact (alert_foldl_modes AlertKind.all (by decide) s k).trans (if_pos all)

/-- The law of the modes is kept. -/
def KeepsModeLaw (s t : State) : Prop := ModeLaw s → ModeLaw t

theorem framedModeLaw : Framed KeepsModeLaw [.plan, .alerts] where
  trans h k := fun law => k (h law)
  same h := fun law k => by
    have plan := h .plan (by decide)
    have alerts := h .alerts (by decide)
    simp only [Same] at plan alerts
    rw [State.alert, alerts, plan]
    exact law k

theorem KeepsModes.law {s t : State} (modes : KeepsModes s t) (committed : t.plan.committed = s.plan.committed) :
    KeepsModeLaw s t := fun law k => by
  rw [modes, committed]
  exact law k

/-- An operation that keeps the modes and does not touch the plan. -/
theorem KeepsModes.lawOf {s t : State} {ps : List Part} (modes : KeepsModes s t) (touches : Touches ps s t)
    (noPlan : Part.plan ∉ ps) : KeepsModeLaw s t :=
  modes.law (congrArg PlanStore.committed (touches.plan_eq noPlan))

theorem modeLaw_startUp (s : State) : ModeLaw s.startUp := fun k => by
  cases k <;> rfl

theorem modeLaw_writeModes {s : State} (fixed : ∀ k : AlertKind, k.slot = none → (s.alert k).mode = .stop) :
    ModeLaw s.writeModes := fun k => by
  have plan : s.writeModes.plan = s.plan := (touches_writeModes s).plan_eq (by decide)
  rw [alert_writeModes, State.moded, plan]
  cases slot : k.slot with
  | none => exact fixed k slot
  | some j => rfl

theorem modeLaw_applyModes {s : State} (fixed : ∀ k : AlertKind, k.slot = none → (s.alert k).mode = .stop) :
    ModeLaw s.applyModes :=
  have evaluated := framedModeLaw.of (touches_evaluateLines _) rfl (modeLaw_writeModes fixed)
  (modes_handModeStops _).lawOf (touches_handModeStops _) (by decide) evaluated

theorem modeLaw_beginWrite {s : State} (law : ModeLaw s) : ModeLaw s.beginWrite := law

theorem modeLaw_commit (s : State) : KeepsModeLaw s s.commit := fun law => by
  have adopted : KeepsModes s s.adoptPlan := fun _ => rfl
  have walked : KeepsModes s (allCranes.foldl (State.followPresence s.plan.committed) s.adoptPlan) :=
    framedModes.fold adopted _ _ (fun u c => modes_followPresence _ u c)
  unfold State.commit
  generalize allCranes.foldl (State.followPresence s.plan.committed) s.adoptPlan = u at walked
  exact modeLaw_beginWrite (modeLaw_applyModes (fun k none => by rw [walked k, law k, none]))

theorem modeLaw_endWrite (s : State) (good : Bool) : KeepsModeLaw s (s.endWrite good) := by
  refine (modes_endWrite s good).law ?_
  unfold State.endWrite
  split
  · rw [(touches_withdrawSite _ _).plan_eq (by decide)]
    rfl
  · rw [(touches_raise _ _ _).plan_eq (by decide)]
    rfl

theorem modeLaw_halt (s : State) (p : Power) : KeepsModeLaw s (s.halt p) := by
  refine KeepsModes.law ?_ ?_
  · intro k
    unfold State.halt State.cutWrite
    split <;> rfl
  · unfold State.halt State.cutWrite
    split <;> rfl

theorem modeLaw_block {qs : List Part} {s t : State} (h : Block qs s t)
    (touched : ([.plan, .alerts] : List Part).any (fun p => qs.contains p) = true) : KeepsModeLaw s t := by
  cases h with
  | powerOn s =>
    exact fun _ => (modes_startRaisings _).lawOf (touches_startRaisings _) (by decide) (modeLaw_startUp s)
  | halt s p => exact modeLaw_halt s p
  | staging s p => exact KeepsModes.law (fun _ => rfl) rfl
  | commit s p =>
    have sampled : KeepsModeLaw s (s.withPins { s.pins with protect := p }) := KeepsModes.law (fun _ => rfl) rfl
    unfold commitPlan
    dsimp only
    split
    · exact sampled
    · exact framedModeLaw.after (modeLaw_commit _) sampled
  | writeEnd s good => exact modeLaw_endWrite s good
  | siteStopRaised s => exact (modes_raiseSiteStop s).lawOf (touches_raiseSiteStop s) (by decide)
  | siteStopWithdrawn s => exact (modes_withdrawSite s _).lawOf (touches_withdrawSite s _) (by decide)
  | frameErrorRaised s c => exact (modes_raiseFor s _ c).lawOf (touches_raiseFor s _ c) (by decide)
  | frameErrorWithdrawn s c => exact (modes_withdraw s _ c).lawOf (touches_withdraw s _ c) (by decide)
  | status s c r => exact (modes_acceptStatus s c r).lawOf (touches_acceptStatus s c r) (by decide)
  | rejoin s c r => exact (modes_acceptRejoin s c r).lawOf (touches_acceptRejoin s c r) (by decide)
  | enter s c n => exact (modes_enterZone c n s).lawOf (touches_enterZone c n s) (by decide)
  | release s c n => exact (modes_releaseZone c n s).lawOf (touches_releaseZone c n s) (by decide)
  | endLift s n q id => exact (modes_endRunning n q id s).lawOf (touches_endRunning n q id s) (by decide)
  | clock s t => exact (modes_setClock t s).lawOf (touches_setClock t s) (by decide)
  | openSite s => exact (modes_openTheSite s).lawOf (touches_openTheSite s) (by decide)
  | closeSite s => exact (modes_closeTheSite s).lawOf (touches_closeTheSite s) (by decide)
  | resumeSite s => exact (modes_resumeTheSite s).lawOf (touches_resumeTheSite s) (by decide)
  | returnToSetup s => exact (modes_returnSiteToSetup s).lawOf (touches_returnSiteToSetup s) (by decide)
  | forceRelease s n m => exact (modes_forceCells n m s).lawOf (touches_forceCells n m s) (by decide)
  | stopCrane s n => exact (modes_stopTheCrane n s).lawOf (touches_stopTheCrane n s) (by decide)
  | clearAlerts s ks => exact (modes_clearTheAlerts ks s).lawOf (touches_clearTheAlerts ks s) (by decide)
  | second s => exact (modes_passSecond s).lawOf (touches_passSecond s) (by decide)
  | lost s c => exact (modes_becomeLost s c).lawOf (touches_becomeLost s c) (by decide)
  | clearingEnd s q => exact (modes_expireClearing s q).lawOf (touches_expireClearing s q) (by decide)
  | waitEnd s c x => exact (modes_expireWait s c x).lawOf (touches_expireWait s c x) (by decide)
  | dwellEnd s c => exact (modes_completeDwell s c).lawOf (touches_completeDwell s c) (by decide)
  | timerEnd s c => exact (modes_expireTimer s c).lawOf (touches_expireTimer s c) (by decide)
  | _ => exact absurd touched (by decide)

end Sys2Proof.Machine

open Sys2Proof.Machine

/-- Settles O55: each record form along the commands that touch it; of the queue, that an idle step sets no time. -/
theorem stepKeepsRecordForms : Obligations.StepKeepsRecordForms := by
  unfold Obligations.StepKeepsRecordForms
  refine ⟨fun s t h => ⟨?_, ?_, fun law => timeLaw_step law h, ?_⟩, fun s t law h => ?_⟩
  · exact framedCells.step_of_blocks rfl cells_block h
  · exact framedPort.step_of_blocks rfl port_block h
  · exact framedModeLaw.step_of_blocks rfl modeLaw_block h
  · exact framedPresence.step_of_turns rfl presence_turn h law
end

section
/-!
PROOF. Supply and RESET# (entries 17, 27, 35): what the power-on reads, what a halt leaves, and a part that does not run.
-/
namespace Sys2Proof.Machine

/-! ### The power-on -/

/-- The reset state with the supply pins, the count of free values and the queue of a state before it. -/
def State.resetUnder (p : Pins) (draws : Nat) (pending : List Instr) : State :=
  { State.reset with pins := p, draws := draws, pending := pending }

/-- The state of a good image under such pins. -/
def PlanImage.state (k : PlanImage) (p : Pins) (draws : Nat) (pending : List Instr) : State :=
  { State.reset with
    plan := ⟨k.plan, k.plan, k.edition, k.stamp, .good, none, some k⟩
    alerts := alertTable k.plan.modes
    lines := ⟨false, false, none⟩
    pins := p
    draws := draws
    pending := pending }

theorem cutWrite_image_none {s : State} (h : s.plan.image = none ∨ s.plan.write ≠ none) : s.cutWrite.plan.image = none := by
  unfold State.cutWrite
  split
  · rfl
  · rename_i idle
    exact h.resolve_right (fun writing => writing idle)

theorem cutWrite_of_idle {s : State} (h : s.plan.write = none) : s.cutWrite = s := by
  rw [State.cutWrite, h]

theorem startUp_good {s : State} {k : PlanImage} (image : s.plan.image = some k) (idle : s.plan.write = none) :
    s.startUp = k.state { s.pins with power := .running } s.draws s.pending := by
  rw [State.startUp, cutWrite_of_idle idle, image]
  rfl

/-- Without a good image, PLAN_FAULT raised on both empty plans is the reset state. -/
theorem startUp_fault {s : State} (h : s.plan.image = none ∨ s.plan.write ≠ none) :
    s.startUp.raise .planFault none = State.resetUnder { s.pins with power := .running } s.draws s.pending ∧
      s.startUp.plan.condition = .fault := by
  rw [State.startUp, cutWrite_image_none h]
  exact ⟨rfl, rfl⟩

theorem startRaisings_good {s : State} (good : s.plan.condition = .good) :
    s.startRaisings = if s.pins.siteStop then s.raiseSiteStop else s := by
  rw [State.startRaisings, good]

theorem startRaisings_fault {s : State} (fault : s.plan.condition = .fault) :
    s.startRaisings =
      if (s.raise .planFault none).pins.siteStop then (s.raise .planFault none).raiseSiteStop else s.raise .planFault none := by
  rw [State.startRaisings, fault]

/-- Either image: the power-on ends in a state of the supply pins, with SITE_STOP# taken last. -/
theorem powerOn_cases (s : State) :
    ∃ f : Pins → State, (∀ p, (f p).pins = p) ∧ (∀ p q, f q = (f p).withPins q) ∧
      ∀ b, exec .powerOn (s.withPins { s.pins with siteStop := b }) =
        .next (if b then (f ⟨.running, b, s.pins.protect⟩).raiseSiteStop else f ⟨.running, b, s.pins.protect⟩) := by
  by_cases h : s.plan.image = none ∨ s.plan.write ≠ none
  · refine ⟨fun p => .resetUnder p s.draws s.pending, fun _ => rfl, fun _ _ => rfl, fun b => ?_⟩
    have faulty := startUp_fault (s := s.withPins { s.pins with siteStop := b }) h
    rw [exec_powerOn, startRaisings_fault faulty.2, faulty.1]
    rfl
  · obtain ⟨image, idle⟩ := not_or.mp h
    obtain ⟨k, image⟩ := Option.ne_none_iff_exists'.mp image
    refine ⟨fun p => k.state p s.draws s.pending, fun _ => rfl, fun _ _ => rfl, fun b => ?_⟩
    rw [exec_powerOn, startUp_good (s := s.withPins { s.pins with siteStop := b }) image (Classical.not_not.mp idle), startRaisings_good rfl]
    rfl

/-- A line found asserted is taken as it becomes asserted. -/
theorem powerOn_asserted {s u : State} (asserted : s.pins.siteStop = true)
    (h : exec .powerOn (s.withPins { s.pins with siteStop := false }) = .next u) :
    exec .powerOn s = exec .siteStopAsserted u := by
  obtain ⟨f, pins, moved, run⟩ := powerOn_cases s
  have self : s.withPins { s.pins with siteStop := true } = s := by
    rw [← asserted]
    rfl
  have on := run true
  have off := run false
  rw [self, if_pos rfl] at on
  rw [h, if_neg Bool.false_ne_true] at off
  cases off
  rw [on, exec_siteStopAsserted, pins, if_neg Bool.false_ne_true, moved ⟨.running, false, s.pins.protect⟩]
  rfl

/-! ### A part that does not run -/

/-- What a command that is not of the pins comes to, on a part that does not run. -/
theorem next_halted {s : State} (off : s.running = false) (t : State) :
    (Host.Outcome.next (if s.running then t else s) : Host.Outcome State Fault Refusal) = .next s := by
  rw [off]
  rfl

theorem exec_halted {s : State} (off : s.running = false) (i : Instr) (notPins : i.fromPins = false) :
    exec i s = .next s := by
  have halted := next_halted off
  cases i with
  | powerOn => nomatch notPins
  | resetAsserted => nomatch notPins
  | powerLoss => nomatch notPins
  | siteStopAsserted => nomatch notPins
  | siteStopDeasserted => nomatch notPins
  | proposeLift q => cases q <;> exact halted _
  | confirmLift q => cases q <;> exact halted _
  | amendLift q => cases q <;> exact halted _
  | cancelLift q => cases q <;> exact halted _
  | lockLift q => cases q <;> exact halted _
  | unlockLift q => cases q <;> exact halted _
  | queryLift q => cases q <;> exact halted _
  | listLifts q => cases q <;> exact halted _
  | startLift q => cases q <;> exact halted _
  | finishLift q => cases q <;> exact halted _
  | landLift q => cases q <;> exact halted _
  | suspendLift q => cases q <;> exact halted _
  | resumeLift q => cases q <;> exact halted _
  | _ => exact halted _

theorem alertTable_code (modes : Tab 13 AlertMode) (k : AlertKind) :
    tget (alertTable modes) k.code =
      AlertRec.initial (match k.slot with | some j => tget modes j | none => .stop) := by
  cases k <;> rfl

theorem halt_eq (s : State) (p : Power) :
    s.halt p =
      { s with
        plan := if s.plan.write = none then s.plan else { s.plan with write := none, image := none }
        pins := { s.pins with power := p }
        lines := ⟨false, false, none⟩
        port := { s.port with rdy := false, miso := .highImpedance }
        links := s.links.map (fun ch => { ch with sending := none }) } := by
  unfold State.halt State.cutWrite
  cases writing : s.plan.write with
  | none => rfl
  | some t => rfl

end Sys2Proof.Machine

open Sys2Proof.Machine

/-- Settles O4: the two images of the power-on, the halt, and every command of a part that does not run. -/
theorem powerAndReset : Obligations.PowerAndReset := by
  unfold Obligations.PowerAndReset
  refine ⟨⟨fun s u asserted h => powerOn_asserted asserted h, fun s off => ⟨fun k image idle => ?_, fun fault => ?_⟩⟩,
    fun s => ⟨?_, fun on => ?_, fun off => ?_⟩, fun i s off notPins => exec_halted off i notPins, fun modes k => ?_⟩
  · rw [exec_powerOn, startUp_good image idle, startRaisings_good rfl]
    exact congrArg _ (if_neg (by rw [PlanImage.state, off]; decide))
  · have faulty := startUp_fault fault
    rw [exec_powerOn, startRaisings_fault faulty.2, faulty.1]
    exact congrArg _ (if_neg (by rw [State.resetUnder, off]; decide))
  · rw [exec_powerLoss, halt_eq]
  · rw [exec_resetAsserted]
    cases power : s.pins.power with
    | off => exact absurd power on
    | inReset => exact congrArg _ (halt_eq s _)
    | running => exact congrArg _ (halt_eq s _)
  · rw [exec_resetAsserted, off]
  · rw [alertTable_code]
    exact ⟨fun none => by rw [none]; rfl, fun j some => by rw [some]; rfl⟩
end

section
/-!
PROOF. Sets given by masks and lists of items, stop reasons (R78..R80), the lines and CLEAR_ALERTS (R166, R167), SITE_STOP# (R165).
-/
namespace Sys2Proof.Machine

/-! ### More parts left alone -/

section
variable {qs : List Part} {s t : State} (k : Touches qs s t)
include k

theorem Touches.lines_eq (h : Part.lines ∉ qs) : t.lines = s.lines := k .lines h

theorem Touches.pins_eq (h : Part.pins ∉ qs) : t.pins = s.pins := k .pins h

theorem Touches.register_eq (h : Part.register ∉ qs) : t.register = s.register := k .register h

theorem Touches.occupied_eq (h : Part.occupied ∉ qs) : t.occupied = s.occupied := k .occupied h

theorem Touches.restricted_eq (h : Part.restricted ∉ qs) : t.restricted = s.restricted := k .restricted h

theorem Touches.lastConf_eq (h : Part.lastConf ∉ qs) : t.lastConf = s.lastConf := k .lastConf h

end

/-! ### Lists of items and masks -/

section
variable {α β : Type} {f : α → Option β}

/-- A list whose items all have a value, read item by item. -/
theorem allOf_eq_some_iff {l : List α} {ms : List β} : allOf f l = some ms ↔ l.map f = ms.map some := by
  induction l generalizing ms with
  | nil => cases ms <;> simp [allOf]
  | cons a l ih =>
    unfold allOf
    cases ha : f a with
    | none => cases ms <;> simp [ha]
    | some b =>
      cases hl : allOf f l with
      | none =>
        have never : ∀ ms : List β, l.map f ≠ ms.map some := fun ms h => by
          rw [ih.mpr h] at hl
          exact nomatch hl
        cases ms <;> simp [ha, never]
      | some bs =>
        have read : l.map f = bs.map some := ih.mp hl
        cases ms with
        | nil => simp
        | cons m ms => simp [ha, read, List.map_inj_right]

theorem allOf_eq_none_iff {l : List α} : allOf f l = none ↔ ∃ a ∈ l, f a = none := by
  induction l with
  | nil => simp [allOf]
  | cons a l ih =>
    unfold allOf
    cases ha : f a with
    | none => simp [ha]
    | some b =>
      cases hl : allOf f l with
      | none => simpa [ha] using ih.mp hl
      | some bs => simpa [ha, hl] using ih

theorem mem_of_allOf {l : List α} {ms : List β} (h : allOf f l = some ms) {b : β} : b ∈ ms ↔ ∃ a ∈ l, f a = some b := by
  have read := allOf_eq_some_iff.mp h
  have member : b ∈ ms ↔ some b ∈ ms.map some := by simp
  rw [member, ← read, List.mem_map]

theorem mem_setOfMask {all : List α} {m : Nat} {x : α} : x ∈ setOfMask all m ↔ ∃ i, all[i]? = some x ∧ m.testBit i = true := by
  simp [setOfMask, List.mem_zipIdx_iff_getElem?]

end

theorem mem_stopReasons {m : Nat} {r : StopReason} : r ∈ setOfMask StopReason.all m ↔ m.testBit r.bit = true := by
  rw [mem_setOfMask]
  refine ⟨?_, fun h => ⟨r.bit, by cases r <;> rfl, h⟩⟩
  rintro ⟨i, place, h⟩
  have bound : i < 9 := (List.getElem?_eq_some_iff.mp place).1
  have named : ∀ i < 9, StopReason.all[i]? = some r → i = r.bit := by cases r <;> decide
  exact named i bound place ▸ h

theorem alertOf_iff {n : Nat} {k : AlertKind} : alertOf n = some k ↔ n = k.code.val := by
  refine ⟨fun h => ?_, ?_⟩
  · have bound : n < 16 := (List.getElem?_eq_some_iff.mp h).1
    have named : ∀ n < 16, AlertKind.all[n]? = some k → n = k.code.val := by cases k <;> decide
    exact named n bound h
  · rintro rfl
    cases k <;> rfl

theorem alertOf_none {n : Nat} : alertOf n = none ↔ 16 ≤ n := List.getElem?_eq_none_iff

@[simp] theorem asked_present (s : State) (i : Instr) (c : Crane) : (s.asked i).present c = s.present c := rfl

theorem craneOf_iff {n : Nat} {c : Crane} : craneOf n = some c ↔ c.val = n := by
  unfold craneOf
  split
  · simp [Fin.ext_iff, eq_comm]
  · have small := c.isLt
    simp only [reduceCtorEq, false_iff]
    omega

/-! ### A reason joins a stop set (R78) -/

theorem mem_allSectors : ∀ x : Sector, x ∈ allSectors := by decide

theorem mem_sectorsIn {s : State} {c : Crane} {st : CellState} {x : Sector} :
    x ∈ s.sectorsIn c st ↔ (s.cell ⟨c, x⟩).state = st := by
  simp [State.sectorsIn, mem_allSectors x]


theorem mem_stopReasons_all (r : StopReason) : r ∈ StopReason.all := by cases r <;> decide

theorem stopSet_setStops (s : State) (c d : Crane) (rs : List StopReason) :
    (s.setStops c rs).stopSet d = if c = d then rs else s.stopSet d := by
  rw [State.stopSet, State.setStops, State.withStops_stops, tget_tput]
  rfl

theorem stopSet_addStop (s : State) (c d : Crane) (r : StopReason) :
    (s.addStop c r).stopSet d = if c = d then setAdd StopReason.all r (s.stopSet d) else s.stopSet d := by
  have written : (s.addStop c r).stops = (s.setStops c (setAdd StopReason.all r (s.stopSet c))).stops := by
    unfold State.addStop
    dsimp only
    split
    · rw [(touches_addReasonTo _ _ _).stops_eq (by decide), (touches_denyCrane _ _ _).stops_eq (by decide)]
    · rfl
  rw [State.stopSet, written]
  refine (stopSet_setStops s c d _).trans ?_
  split
  · rename_i same
    rw [same]
  · rfl

theorem mem_stopSet_addStop {s : State} {c d : Crane} {r x : StopReason} :
    x ∈ (s.addStop c r).stopSet d ↔ c = d ∧ x = r ∨ x ∈ s.stopSet d := by
  rw [stopSet_addStop]
  split
  · rename_i same
    rw [mem_setAdd mem_stopReasons_all]
    simp [same]
  · rename_i other
    simp [other]

theorem mem_stopSet_foldl {l : List Crane} {s : State} {d : Crane} {r x : StopReason} :
    x ∈ (l.foldl (fun t c => t.addStop c r) s).stopSet d ↔ d ∈ l ∧ x = r ∨ x ∈ s.stopSet d := by
  induction l generalizing s with
  | nil => simp
  | cons c l ih =>
    rw [List.foldl_cons, ih, mem_stopSet_addStop, List.mem_cons]
    grind

theorem stopSet_foldl_other {l : List Crane} {s : State} {d : Crane} {r : StopReason} (out : d ∉ l) :
    (l.foldl (fun t c => t.addStop c r) s).stopSet d = s.stopSet d := by
  induction l generalizing s with
  | nil => rfl
  | cons c l ih =>
    obtain ⟨other, out⟩ := not_or.mp ((not_congr List.mem_cons).mp out)
    rw [List.foldl_cons, ih out, stopSet_addStop, if_neg (Ne.symm other)]

/-! ### What a stop leaves of the alert records -/

/-- The record of a kind is the same. -/
def SameAlert (k : AlertKind) (s t : State) : Prop := t.alert k = s.alert k

theorem framedAlert (k : AlertKind) : Framed (SameAlert k) [.alerts] where
  trans h g := g.trans h
  same h := by
    have alerts := h .alerts (by decide)
    simp only [Same] at alerts
    simp only [SameAlert, State.alert, alerts]

variable {k : AlertKind}

theorem alert_withdraw (s : State) {j : AlertKind} (other : k ≠ j) (c : Crane) : SameAlert k s (s.withdraw j c) :=
  State.setAlert_alert_ne s _ other

theorem alert_reviewOffPath (s : State) (other : k ≠ .offPath) (c : Crane) : SameAlert k s (s.reviewOffPath c) := by
  unfold State.reviewOffPath
  split
  · exact alert_withdraw s other c
  · exact (framedAlert k).refl s

theorem alert_denyWaits (s : State) (other : k ≠ .offPath) (p : Wait → Bool) (why : DenyReason) :
    SameAlert k s (s.denyWaits p why) := by
  unfold State.denyWaits
  exact (framedAlert k).fold ((framedAlert k).of (touches_withWaits s _) rfl) _ _ (fun u w =>
    (framedAlert k).trans ((framedAlert k).of (touches_notify u w.crane _) rfl) (alert_reviewOffPath _ other _))

theorem alert_addStop (s : State) (other : k ≠ .offPath) (c : Crane) (r : StopReason) : SameAlert k s (s.addStop c r) := by
  have stopped (rs : List StopReason) : SameAlert k s (s.setStops c rs) :=
    (framedAlert k).of (touches_setStops s c _) rfl
  unfold State.addStop
  dsimp only
  split
  · exact (framedAlert k).frame (touches_addReasonTo _ _ _) rfl
      ((framedAlert k).trans (stopped _) (alert_denyWaits _ other _ _))
  · exact stopped _

/-! ### The lines (R166) -/

theorem State.alertDue_iff (s : State) :
    s.alertDue = true ↔ ∃ k, (s.alert k).latch ≠ none ∧ (s.alert k).mode ≠ .quiet := by
  simp [State.alertDue, AlertRec.latched, AlertKind.mem_all, Option.isSome_iff_ne_none]

theorem evaluateLines_alert (s : State) : s.evaluateLines.lines.alert = s.alertDue := rfl

theorem evaluateLines_quiet {s : State} (notDue : s.sirenDue = false) :
    s.evaluateLines.lines.siren = false ∧ s.evaluateLines.lines.phase = none := by
  unfold State.evaluateLines
  rw [notDue]
  exact ⟨rfl, rfl⟩

theorem evaluateLines_steady {s : State} (due : s.sirenDue = true) (cadence : s.params.cadence = .steady) :
    s.evaluateLines.lines.siren = true ∧ s.evaluateLines.lines.phase = none := by
  unfold State.evaluateLines
  rw [due, cadence]
  exact ⟨rfl, rfl⟩

theorem evaluateLines_pulsed {s : State} (due : s.sirenDue = true) (cadence : s.params.cadence = .pulsed) :
    (s.lines.phase = none →
      s.evaluateLines.lines.siren = true ∧ s.evaluateLines.lines.phase = some (s.clock.mono + 1000)) ∧
    (s.lines.phase ≠ none →
      s.evaluateLines.lines.siren = s.lines.siren ∧ s.evaluateLines.lines.phase = s.lines.phase) := by
  unfold State.evaluateLines
  rw [due, cadence]
  cases s.lines.phase with
  | none => exact ⟨fun _ => ⟨rfl, rfl⟩, fun some => absurd rfl some⟩
  | some e => exact ⟨nofun, fun _ => ⟨rfl, rfl⟩⟩

/-! ### SITE_STOP# (R165) -/

theorem mem_presentCranes {s : State} {c : Crane} : c ∈ s.presentCranes ↔ s.present c = true := by
  simp [State.presentCranes, mem_allCranes]

theorem raise_siteStop (s : State) :
    s.raise .siteStop none =
      (s.setAlert .siteStop
        { s.alert .siteStop with flag := true, latch := some ((s.alert .siteStop).latch.getD s.clock.site) }).evaluateLines :=
  State.raise_of_siteScoped rfl none

theorem raiseSiteStop_eq (s : State) :
    s.raiseSiteStop = s.presentCranes.foldl (fun t c => t.addStop c .siteStop) (s.raise .siteStop none) := by
  rw [State.raiseSiteStop, presentCranes_eq_of_plan ((touches_raise s .siteStop none).plan_eq (by decide))]

theorem lines_foldl_addStop (l : List Crane) (s : State) (r : StopReason) :
    (l.foldl (fun t c => t.addStop c r) s).lines = s.lines :=
  (Touches.fold (.refl [.links, .waits, .stops, .bookings, .alerts] s) _ _ (fun u c => touches_addStop u c r)).lines_eq (by decide)

theorem raiseSiteStop_spec (s : State) :
    (s.raiseSiteStop.alert .siteStop).flag = true ∧ (s.raiseSiteStop.alert .siteStop).latch.isSome = true ∧
      (∀ c, s.present c = true → StopReason.siteStop ∈ s.raiseSiteStop.stopSet c) ∧
      (∀ c, s.present c = false → s.raiseSiteStop.stopSet c = s.stopSet c) ∧
      (∀ c r, r ∈ s.stopSet c → r ∈ s.raiseSiteStop.stopSet c) ∧
      ((s.alert .siteStop).mode = .stop → s.raiseSiteStop.lines.alert = true) := by
  have raised : s.raiseSiteStop.alert .siteStop = (s.raise .siteStop none).alert .siteStop := by
    rw [raiseSiteStop_eq]
    exact (framedAlert .siteStop).fold ((framedAlert .siteStop).refl _) _ _ (fun u c => alert_addStop u (by decide) c _)
  have stops (c : Crane) : (s.raise .siteStop none).stopSet c = s.stopSet c := by
    rw [raise_siteStop]
    rfl
  have record : (s.raise .siteStop none).alert .siteStop =
      { s.alert .siteStop with flag := true, latch := some ((s.alert .siteStop).latch.getD s.clock.site) } := by
    rw [raise_siteStop]
    exact State.setAlert_alert_same s _ _
  refine ⟨?_, ?_, fun c inPlan => ?_, fun c out => ?_, fun c r given => ?_, fun stop => ?_⟩
  · rw [raised, record]
  · rw [raised, record]
    rfl
  · rw [raiseSiteStop_eq, mem_stopSet_foldl]
    exact .inl ⟨mem_presentCranes.mpr inPlan, rfl⟩
  · rw [raiseSiteStop_eq, stopSet_foldl_other (by simp [mem_presentCranes, out]), stops]
  · rw [raiseSiteStop_eq, mem_stopSet_foldl, stops]
    exact .inr given
  · rw [raiseSiteStop_eq, lines_foldl_addStop, raise_siteStop, evaluateLines_alert, State.alertDue_iff]
    refine ⟨.siteStop, ?_⟩
    rw [State.setAlert_alert_same]
    exact ⟨nofun, fun quiet => nomatch stop.symm.trans quiet⟩

/-! ### CLEAR_ALERTS (R167) -/

/-- What CLEAR_ALERTS makes of the record of a named kind. -/
def AlertRec.cleared (r : AlertRec) : AlertRec := if r.latched then r.clear else r

theorem AlertRec.cleared_of {r : AlertRec} (flag : r.flag = false) (cranes : r.cranes = []) (latch : r.latch ≠ none) :
    r.cleared = { r with latch := none, involved := [] } := by
  simp [cleared, clear, latched, isPresent, flag, cranes, Option.isSome_iff_ne_none, latch]

theorem AlertRec.cleared_other {r : AlertRec} (h : r.flag = true ∨ r.cranes ≠ [] ∨ r.latch = none) : r.cleared = r := by
  unfold cleared clear latched isPresent
  grind

theorem AlertRec.cleared_cleared (r : AlertRec) : r.cleared.cleared = r.cleared := by
  by_cases h : r.flag = true ∨ r.cranes ≠ [] ∨ r.latch = none
  · rw [cleared_other h, cleared_other h]
  · simp only [not_or, Bool.not_eq_true, Classical.not_not] at h
    rw [cleared_of h.1 h.2.1 h.2.2]
    exact cleared_other (.inr (.inr rfl))

theorem alert_clearKind (s : State) (j k : AlertKind) :
    (s.clearKind j).alert k = if j = k then (s.alert k).cleared else s.alert k := by
  unfold State.clearKind AlertRec.cleared
  split
  · rw [alert_setAlert]
    grind
  · grind

theorem alert_clearKinds (ks : List AlertKind) (s : State) (k : AlertKind) :
    (ks.foldl State.clearKind s).alert k = if k ∈ ks then (s.alert k).cleared else s.alert k := by
  induction ks generalizing s with
  | nil => rfl
  | cons j ks ih =>
    rw [List.foldl_cons, ih, alert_clearKind]
    by_cases same : j = k
    · subst same
      simp [AlertRec.cleared_cleared]
    · simp [same, Ne.symm same]

theorem touches_foldl_clearKind (ks : List AlertKind) (s : State) : Touches [.alerts] s (ks.foldl State.clearKind s) :=
  Touches.fold (.refl _ s) _ _ (fun u k => touches_clearKind u k)

end Sys2Proof.Machine

open Sys2Proof Sys2Proof.Machine

/-- Settles O31: the lines by what is due, the siren by its phase, CLEAR_ALERTS kind by kind. -/
theorem linesEvaluated : Obligations.LinesEvaluated := by
  unfold Obligations.LinesEvaluated
  refine ⟨fun s => ⟨touches_evaluateLines s, ?_, fun quiet => ?_, fun due => ?_, fun due => ?_⟩,
    fun s on => ⟨fun e phase => ⟨fun past => ?_, fun early => ?_⟩, fun phase => ?_⟩,
    fun s ns on => ⟨fun bad => ?_, fun sized short known => ?_⟩⟩
  · rw [evaluateLines_alert, State.alertDue_iff]
  · exact evaluateLines_quiet (Bool.eq_false_iff.mpr (fun due => quiet (s.sirenDue_iff.mp due)))
  · exact evaluateLines_steady (s.sirenDue_iff.mpr due)
  · exact evaluateLines_pulsed (s.sirenDue_iff.mpr due)
  · rw [exec_sirenPulsePhase, State.whileRunning, if_pos on, State.phaseDue, State.turnSiren, phase,
      if_pos (reached_iff.mpr ⟨e, rfl, past⟩)]
    rfl
  · rw [exec_sirenPulsePhase, State.whileRunning, if_pos on, State.phaseDue, phase, if_neg]
    rintro h
    obtain ⟨t, same, past⟩ := reached_iff.mp h
    cases same
    omega
  · rw [exec_sirenPulsePhase, State.whileRunning, if_pos on, State.phaseDue, phase]
    rfl
  · have refused : kindsOf ns = none := by
      unfold kindsOf
      split
      · rename_i sized
        rw [allOf_eq_none_iff]
        simp only [alertOf_none]
        exact bad.resolve_left (by omega) |>.resolve_left (by omega)
      · rfl
    rw [exec_clearAlerts, supervised_eq on]
    unfold clearTheAlerts
    rw [refused]
  · obtain ⟨ks, read⟩ : ∃ ks, allOf alertOf ns = some ks := by
      refine Option.ne_none_iff_exists'.mp (fun none => ?_)
      obtain ⟨n, hn, unknown⟩ := allOf_eq_none_iff.mp none
      exact absurd (known n hn) (Nat.not_lt.mpr (alertOf_none.mp unknown))
    have taken : kindsOf ns = some ks := by rw [kindsOf, if_pos ⟨sized, short⟩, read]
    have named : ∀ k, k ∈ ks ↔ k.code.val ∈ ns := fun k => by
      simp [mem_of_allOf read, alertOf_iff]
    refine ⟨ks.foldl State.clearKind (s.asked (.clearAlerts ns)), touches_foldl_clearKind ks _,
      fun k => ⟨fun listed flag cranes latch => ?_, fun kept => ?_⟩, ?_⟩
    · rw [alert_clearKinds, if_pos ((named k).mpr listed)]
      exact AlertRec.cleared_of flag cranes latch
    · rw [alert_clearKinds]
      split
      · rename_i listed
        exact AlertRec.cleared_other (kept.resolve_left (fun h => h ((named k).mp listed)))
      · rfl
    · rw [exec_clearAlerts, supervised_eq on]
      unfold clearTheAlerts
      rw [taken]
      rfl

/-- Settles O28: the stop set a reason joins by whether it was empty, the entries a denial takes out, and OFF_PATH. -/
theorem stopReasonJoins : Obligations.StopReasonJoins := by
  unfold Obligations.StopReasonJoins
  refine ⟨fun s c r => ⟨fun stopped => ?_, fun clear => ?_⟩, fun s c why => ⟨fun leaves => ?_, rfl, fun on => ?_, fun off => ?_, ?_⟩⟩
  · exact if_neg (by simpa using stopped)
  · have first : setAdd StopReason.all r [] = [r] := by cases r <;> decide
    rw [State.addStop, clear, first]
    rfl
  · have same : (fun w => decide (leaves w = false)) = fun w => !leaves w := by
      funext w
      cases leaves w <;> rfl
    rw [State.denyWaits, same]
  · rw [State.reviewOffPath, if_pos on]
  · rw [State.reviewOffPath, off]
    rfl
  · unfold State.onPath
    cases s.runningLift c with
    | none => simp
    | some b => 
      simp [mem_sectorsIn, State.waitingSectors]
      grind

/-- Settles O29: the refusals, the stop added, the reasons left, and when each reason has ended. -/
theorem stopCraneAndClearStop : Obligations.StopCraneAndClearStop := by
  unfold Obligations.StopCraneAndClearStop
  refine ⟨fun s n on => ⟨fun big => ?_, fun m bad => ?_, fun c same => ⟨fun out => ⟨?_, fun m low high => ?_⟩,
    fun inPlan => ⟨⟨?_, ?_⟩, fun m low high => ?_⟩⟩⟩, fun s c => ⟨?_, ?_, ?_, rfl, ?_⟩⟩
  · rw [exec_stopCrane, supervised_eq on, stopTheCrane, craneOf_none big]
  · rw [exec_clearStop, supervised_eq on, clearTheStops]
    rcases bad with big | none
    · rw [craneOf_none big]
    · rw [reasonsOf, if_pos none]
      cases craneOf n <;> rfl
  · rw [exec_stopCrane, supervised_eq on, stopTheCrane, craneOf_iff.mpr same]
    dsimp only
    rw [asked_present, if_pos out]
  · rw [exec_clearStop, supervised_eq on, clearTheStops, craneOf_iff.mpr same, reasonsOf, if_neg (by omega)]
    dsimp only
    rw [asked_present, if_pos out]
  · rw [exec_stopCrane, supervised_eq on, stopTheCrane, craneOf_iff.mpr same]
    dsimp only
    rw [if_neg (by rw [asked_present, inPlan]; decide)]
  · exact mem_stopSet_addStop.mpr (.inl ⟨rfl, rfl⟩)
  · intro left t
    have kept : (s.asked (.clearStop n m)).stopsLeft c (setOfMask StopReason.all m) = left := by
      refine List.filter_congr (fun r _ => ?_)
      have named : decide (r ∈ setOfMask StopReason.all m) = m.testBit r.bit := by
        rw [Bool.eq_iff_iff, decide_eq_true_iff]
        exact mem_stopReasons
      rw [named]
      rfl
    have run : clearTheStops n m (s.asked (.clearStop n m)) =
        (if !(s.stopSet c).isEmpty && left.isEmpty then t.removeReasonFrom c .stopOrder else t, okWith [fStops left]) := by
      rw [clearTheStops, craneOf_iff.mpr same, reasonsOf, if_neg (by omega)]
      dsimp only
      rw [if_neg (by rw [asked_present, inPlan]; decide), State.clearStops, kept]
      rfl
    rw [exec_clearStop, supervised_eq on, run]
    refine ⟨fun stopped none => ?_, fun other => ?_⟩
    · rw [if_pos (by simp [stopped, none])]
    · rw [if_neg]
      rcases other with clear | some
      · simp [clear]
      · simp [some]
  · simp [State.stopEnded, AlertRec.latched]
  · simp [State.stopEnded, State.inConflict]
  · simp [State.stopEnded, List.eq_nil_iff_forall_not_mem, mem_sectorsIn]
  · simp [State.stopEnded, State.hasAlert]

/-- Settles O5: an assertion raises SITE_STOP and adds its reason crane by crane; the edges without effect. -/
theorem siteStopFollowsItsLine : Obligations.SiteStopFollowsItsLine := by
  unfold Obligations.SiteStopFollowsItsLine
  refine ⟨fun s on => ⟨fun clear => ?_, fun set => ?_⟩,
    fun s => ⟨fun set => ?_, fun clear => ?_, fun off => ⟨fun clear => ?_, fun set => ?_⟩⟩⟩
  · have on' : (s.withPins { s.pins with siteStop := true }).running = true := on
    refine ⟨(s.withPins { s.pins with siteStop := true }).raiseSiteStop, ?_, ?_, ?_⟩
    · rw [exec_siteStopAsserted, clear]
      exact congrArg _ (if_pos on')
    · exact (touches_raiseSiteStop _).pins_eq (by decide)
    · exact raiseSiteStop_spec (s.withPins { s.pins with siteStop := true })
  · rw [exec_siteStopDeasserted, if_pos set]
    exact congrArg _ (if_pos on)
  · rw [exec_siteStopAsserted, if_pos set]
  · rw [exec_siteStopDeasserted, clear]
    rfl
  · rw [exec_siteStopAsserted, clear]
    exact congrArg _ (if_neg (off ▸ Bool.false_ne_true))
  · rw [exec_siteStopDeasserted, if_pos set]
    exact congrArg _ (if_neg (off ▸ Bool.false_ne_true))
end

section
/-!
PROOF. Site time and the minute event (R22..R26, R126, R127).
-/
namespace Sys2Proof.Machine

theorem timeApart_eq (a b : Nat) : timeApart a b = if a ≤ b then b - a else a - b := by
  unfold timeApart
  split <;> omega

theorem passSecond_below {s : State} (below : s.clock.site < 4294967295) :
    s.passSecond =
      let v := s.withClock { s.clock with site := s.clock.site + 1, boundary := s.clock.boundary + 1000 }
      if (s.clock.site + 1) / 60 = s.clock.site / 60 then v else v.minuteEvent ((s.clock.site + 1) / 60) :=
  if_pos below

theorem passSecond_top {s : State} (top : 4294967295 ≤ s.clock.site) :
    s.passSecond = s.withClock { s.clock with boundary := s.clock.boundary + 1000 } :=
  if_neg (Nat.not_lt.mpr top)

theorem clockJumps_iff {s : State} {n : Nat} :
    s.clockJumps n = true ↔ (s.site = .opened ∨ s.site = .storm) ∧ 60 < timeApart n s.clock.site := by
  unfold State.clockJumps
  cases s.site with
  | setup => simp
  | closed => simp
  | opened => exact ⟨fun h => ⟨.inl rfl, of_decide_eq_true h⟩, fun h => decide_eq_true h.2⟩
  | storm => exact ⟨fun h => ⟨.inr rfl, of_decide_eq_true h⟩, fun h => decide_eq_true h.2⟩

theorem boundaryDue_iff {s : State} : s.boundaryDue = true ↔ s.clock.boundary ≤ s.clock.mono := decide_eq_true_iff

theorem setClock_jumps {s : State} {n : Nat} (h : s.clockJumps n = true) :
    setClock n s = (s, ⟨.clockJump, [f4 s.clock.site]⟩) := if_pos h

theorem setClock_taken {s : State} {n : Nat} (h : s.clockJumps n ≠ true) :
    setClock n s = (s.acceptTime n, okWith [f4 s.clock.site, f4 n]) := if_neg h

theorem findLift_id {s : State} {id : Nat} {b : Booking} (h : s.findLift id = some b) : b.id = id := by
  simpa using List.find?_some h

theorem passed_iff {d : LiftData} {n : Nat} : d.passed n = true ↔ d.start + d.length ≤ n := decide_eq_true_iff

/-! ### The booking tests of a minute (R126) -/

variable {s : State} {n id : Nat} {b : Booking}

theorem testBooked_other (found : s.findLift id = some b) (other : b.state ≠ .booked) : s.testBooked n id = s := by
  rw [State.testBooked, found]
  exact if_neg other

theorem testBooked_booked (found : s.findLift id = some b) (booked : b.state = .booked) :
    s.testBooked n id =
      if b.data.passed n then (s.freeLift id).notifyLift b .expired []
      else if b.data.start ≤ n ∧ b.due = false then (s.putLift { b with due := true }).notifyLift b .due []
      else s := by
  rw [State.testBooked, found]
  exact if_pos booked

theorem testOverrun_idle (found : s.findLift id = some b) (idle : b.running = false) : s.testOverrun n id = s := by
  rw [State.testOverrun, found]
  exact if_neg (idle ▸ Bool.false_ne_true)

theorem testOverrun_running (found : s.findLift id = some b) (running : b.running = true) :
    s.testOverrun n id =
      let t := if b.data.passed n then s.putLift { b with overrun := true } else s
      if b.data.start + b.data.length + t.params.grace ≤ n then t.raiseFor .overrun b.crane else t := by
  rw [State.testOverrun, found]
  exact if_pos running

/-! ### The restricted set of a minute (R127) -/

/-- The crane's cells that a minute event makes restricted. -/
def State.restrictedAt (s : State) (n : Nat) (c : Crane) : List Sector :=
  (s.sectorsIn c .held).filter (fun x => s.bears c (s.plan.committed.restrictionAt ⟨c, x⟩ n))

theorem restrictedAt_sublist (s : State) (n : Nat) (c : Crane) : (s.restrictedAt n c).Sublist allSectors :=
  List.filter_sublist.trans List.filter_sublist

theorem bears_iff {s : State} {c : Crane} {r : RestrClass} :
    s.bears c r = true ↔ r = .barred ∨ r = .noLoad ∧ s.loadIsZero c = false := by
  unfold State.bears
  cases r <;> simp

theorem mem_restrictedAt {s : State} {n : Nat} {c : Crane} {x : Sector} :
    x ∈ s.restrictedAt n c ↔ (s.cell ⟨c, x⟩).state = .held ∧
      (s.plan.committed.restrictionAt ⟨c, x⟩ n = .barred ∨
        s.plan.committed.restrictionAt ⟨c, x⟩ n = .noLoad ∧ s.loadIsZero c = false) := by
  rw [State.restrictedAt, List.mem_filter, mem_sectorsIn, bears_iff]

theorem formRestricted_eq (s : State) (n : Nat) (c : Crane) :
    s.formRestricted n c =
      let v := s.setRestricted c (s.restrictedAt n c)
      let t := if (s.restrictedAt n c).any (fun x => !decide (x ∈ tget s.restricted c)) then v.raiseFor .restricted c else v
      if (s.restrictedAt n c).isEmpty then t.withdraw .restricted c else t := rfl

end Sys2Proof.Machine

open Sys2Proof Sys2Proof.Machine

/-- Settles O6: a boundary by whether it is reached and site time has room; SET_TIME by whether the clock would jump. -/
theorem siteTimeMoves : Obligations.SiteTimeMoves := by
  unfold Obligations.SiteTimeMoves
  refine ⟨fun s on => ⟨fun early => ?_, fun due below => ?_, fun due top => ?_⟩,
    fun s n on => ⟨fun mild => ?_, fun working far => ?_⟩, timeApart_eq⟩
  · rw [exec_siteSecondBoundary, State.whileRunning, if_pos on,
      if_neg (fun due => Nat.not_lt.mpr (boundaryDue_iff.mp due) early)]
  · rw [exec_siteSecondBoundary, State.whileRunning, if_pos on, if_pos (boundaryDue_iff.mpr due), passSecond_below below]
  · rw [exec_siteSecondBoundary, State.whileRunning, if_pos on, if_pos (boundaryDue_iff.mpr due), passSecond_top top]
  · have stays : (s.asked (.setTime n)).clockJumps n ≠ true := fun jumps => by
      obtain ⟨working, far⟩ := clockJumps_iff.mp jumps
      have site : (s.asked (.setTime n)).site = s.site := rfl
      have clock : (s.asked (.setTime n)).clock = s.clock := rfl
      rw [site] at working
      rw [clock] at far
      grind
    rw [exec_setTime, supervised_eq on, setClock_taken stays]
    rfl
  · have jumps : (s.asked (.setTime n)).clockJumps n = true := clockJumps_iff.mpr ⟨working, far⟩
    rw [exec_setTime, supervised_eq on, setClock_jumps jumps]
    rfl

/-- Settles O7: the record tests by state and window, and the restricted set by what it gains. -/
theorem minuteEventTests : Obligations.MinuteEventTests := by
  unfold Obligations.MinuteEventTests
  refine ⟨⟨fun s n => rfl, fun s n id b found => ?_⟩, fun s n c => ⟨s.restrictedAt n c, restrictedAt_sublist s n c,
    fun x => mem_restrictedAt, ?_⟩⟩
  · refine ⟨fun booked => ?_, testBooked_other found, fun running => ?_, testOverrun_idle found⟩
    · rw [testBooked_booked found booked]
      refine ⟨fun ended => ?_, fun going begun first => ?_, fun going no => ?_⟩
      · rw [if_pos (passed_iff.mpr ended)]
      · rw [if_neg ((not_congr passed_iff).mpr going), if_pos ⟨begun, first⟩]
      · rw [if_neg ((not_congr passed_iff).mpr going), if_neg]
        rintro ⟨begun, first⟩
        rcases no with early | due
        · omega
        · exact Bool.false_ne_true (first.symm.trans due)
    · rw [testOverrun_running found running]
      refine ⟨fun going => ?_, fun ended grace => ?_, fun ended late => ?_⟩
      · rw [if_neg ((not_congr passed_iff).mpr going)]
        exact if_neg (by omega)
      · rw [if_pos (passed_iff.mpr ended)]
        exact if_neg grace
      · rw [if_pos (passed_iff.mpr ended)]
        exact if_pos late
  · rw [formRestricted_eq]
    refine ⟨fun none => ?_, fun gains => ?_, fun some keeps => ?_⟩
    · simp [none]
    · obtain ⟨x, joins, new⟩ := gains
      have nonempty : (s.restrictedAt n c).isEmpty = false := by
        rw [List.isEmpty_eq_false_iff]
        exact List.ne_nil_of_mem joins
      have gained : (s.restrictedAt n c).any (fun x => !decide (x ∈ tget s.restricted c)) = true :=
        List.any_eq_true.mpr ⟨x, joins, by simpa using new⟩
      rw [gained, nonempty]
      rfl
    · have none : (s.restrictedAt n c).any (fun x => !decide (x ∈ tget s.restricted c)) = false := by
        simpa using keeps
      rw [none, List.isEmpty_eq_false_iff.mpr some]
      rfl
end

section
/-!
PROOF. The plan edits (R3..R12): how an edit ends, the numbers its fields name, and the entries it writes.
-/
namespace Sys2Proof.Machine

/-! ### How an edit ends (R3) -/

theorem edit_taken {s : State} (i : Instr) (change : Plan → Option (Plan × Answer)) (site : s.site = .setup)
    (idle : s.plan.write = none) : (s.asked i).edit change =
    match change s.plan.staging with
    | none => (s.asked i, answer .badValue)
    | some (p, a) => ((s.asked i).setStaging p, a) := by
  have quiet : (s.asked i).plan.write.isSome ≠ true := fun h => by
    have none : (s.asked i).plan.write = none := idle
    rw [none] at h
    exact nomatch h
  exact (if_neg (Classical.not_not.mpr site)).trans (if_neg quiet)

section
variable {s : State} {i : Instr} {change : Plan → Option (Plan × Answer)} (command : exec i s = s.supervised i (fun t => t.edit change))
  (on : s.running = true)
include command on

theorem edit_badState (site : s.site ≠ .setup) : exec i s = .next ((s.asked i).replied i (answer .badState)) := by
  have refused : (s.asked i).edit change = (s.asked i, answer .badState) := if_pos site
  rw [command, supervised_eq on, refused]

theorem edit_busy (site : s.site = .setup) (writing : s.plan.write ≠ none) :
    exec i s = .next ((s.asked i).replied i (answer .busy)) := by
  have writes : (s.asked i).plan.write.isSome = true := Option.isSome_iff_ne_none.mpr writing
  have refused : (s.asked i).edit change = (s.asked i, answer .busy) :=
    (if_neg (Classical.not_not.mpr site)).trans (if_pos writes)
  rw [command, supervised_eq on, refused]

variable (site : s.site = .setup) (idle : s.plan.write = none)
include site idle

theorem edit_badValue (refused : change s.plan.staging = none) :
    exec i s = .next ((s.asked i).replied i (answer .badValue)) := by
  rw [command, supervised_eq on, edit_taken i change site idle, refused]

theorem edit_done {p : Plan} {a : Answer} (done : change s.plan.staging = some (p, a)) :
    exec i s = .next (((s.asked i).withPlan { s.plan with staging := p }).replied i a) := by
  rw [command, supervised_eq on, edit_taken i change site idle, done]
  rfl

end

/-! ### The numbers of the fields (Table 12-2) -/

theorem flagOf_eq (n : Nat) : flagOf n = if n = 0 then some false else if n = 1 then some true else none := by
  rcases n with _ | _ | n <;> simp [flagOf]

theorem vaneOf_eq (n : Nat) : vaneOf n = if n = 0 then some .free else if n = 1 then some .parked else none := by
  rcases n with _ | _ | n <;> simp [vaneOf]

theorem classOf_eq (n : Nat) : classOf n =
    if n = 0 then some .unrestricted else if n = 1 then some .noLoad else if n = 2 then some .barred else none := by
  rcases n with _ | _ | _ | n <;> simp [classOf]

theorem disciplineOf_eq (n : Nat) :
    disciplineOf n = if n = 0 then some .strict else if n = 1 then some .loose else none := by
  rcases n with _ | _ | n <;> simp [disciplineOf]

theorem cadenceOf_eq (n : Nat) :
    cadenceOf n = if n = 0 then some .steady else if n = 1 then some .pulsed else none := by
  rcases n with _ | _ | n <;> simp [cadenceOf]

theorem modeOf_iff {n : Nat} {m : AlertMode} : modeOf n = some m ↔ n = m.code := by
  rcases n with _ | _ | _ | n <;> cases m <;> simp [modeOf, AlertMode.code]

theorem sectorOf_iff {n : Nat} {x : Sector} : sectorOf n = some x ↔ x.val = n := by
  unfold sectorOf
  split
  · simp [Fin.ext_iff, eq_comm]
  · have small := x.isLt
    simp only [reduceCtorEq, false_iff]
    omega

theorem sectorOf_none_iff {n : Nat} : sectorOf n = none ↔ 16 ≤ n := by
  unfold sectorOf
  split <;> simp <;> omega

theorem scheduleRefOf_absent {n : Nat} : scheduleRefOf n = some none ↔ n = 0 := by
  unfold scheduleRefOf
  split
  · simp [*]
  · split <;> simp [*]

theorem scheduleRefOf_iff {n : Nat} {k : Fin 8} : scheduleRefOf n = some (some k) ↔ n = k.val + 1 := by
  unfold scheduleRefOf
  have small := k.isLt
  split
  · simp
    omega
  · split
    · simp only [Option.some.injEq, Fin.ext_iff]
      omega
    · simp only [reduceCtorEq, false_iff]
      omega

theorem scheduleRefOf_none {n : Nat} : scheduleRefOf n = none ↔ 9 ≤ n := by
  unfold scheduleRefOf
  split
  · simp
    omega
  · split <;> simp <;> omega

theorem scheduleOf_iff {n : Nat} {k : Fin 8} : scheduleOf n = some k ↔ n = k.val + 1 := by
  unfold scheduleOf
  have small := k.isLt
  split
  · simp
    omega
  · split
    · simp only [Option.some.injEq, Fin.ext_iff]
      omega
    · simp only [reduceCtorEq, false_iff]
      omega

theorem scheduleOf_none {n : Nat} : scheduleOf n = none ↔ n = 0 ∨ 9 ≤ n := by
  unfold scheduleOf
  split
  · simp [*]
  · split <;> simp <;> omega

theorem setOfMask_sublist {α : Type} (all : List α) (m : Nat) : (setOfMask all m).Sublist all := by
  have whole : all.zipIdx.map Prod.fst = all := List.zipIdx_map_fst 0 all
  have part : (setOfMask all m).Sublist (all.zipIdx.map Prod.fst) := List.filter_sublist.map Prod.fst
  rwa [whole] at part

theorem allSectors_getElem {i : Nat} {x : Sector} : allSectors[i]? = some x ↔ i = x.val := by
  refine ⟨fun h => ?_, ?_⟩
  · have bound : i < 16 := (List.getElem?_eq_some_iff.mp h).1
    have place : ∀ i < 16, ∀ x, allSectors[i]? = some x → i = x.val := by decide
    exact place i bound x h
  · rintro rfl
    revert x
    decide

theorem allDays_getElem {i : Nat} {d : Fin 7} : allDays[i]? = some d ↔ i = d.val := by
  refine ⟨fun h => ?_, ?_⟩
  · have bound : i < 7 := (List.getElem?_eq_some_iff.mp h).1
    have place : ∀ i < 7, ∀ d, allDays[i]? = some d → i = d.val := by decide
    exact place i bound d h
  · rintro rfl
    revert d
    decide

theorem mem_sectorsOf {n : Nat} {x : Sector} : x ∈ sectorsOf n ↔ n.testBit x.val = true := by
  simp [sectorsOf, mem_setOfMask, allSectors_getElem]

theorem mem_daysOf {n : Nat} {d : Fin 7} : d ∈ daysOf n ↔ n.testBit d.val = true := by
  simp [daysOf, mem_setOfMask, allDays_getElem]

theorem slot_iff {a : AlertKind} {k : Fin 13} : a.slot = some k ↔ a.code.val = k.val + 3 := by
  revert k
  cases a <;> decide

theorem configurable_iff {n : Nat} {k : Fin 13} : (alertOf n).bind AlertKind.slot = some k ↔ n = k.val + 3 := by
  simp only [Option.bind_eq_some_iff, alertOf_iff, slot_iff]
  refine ⟨fun ⟨a, code, slot⟩ => code.trans slot, fun h => ?_⟩
  have known : alertOf n ≠ none := fun unknown => by
    have big := alertOf_none.mp unknown
    have small := k.isLt
    omega
  obtain ⟨a, known⟩ := Option.ne_none_iff_exists'.mp known
  exact ⟨a, alertOf_iff.mp known, (alertOf_iff.mp known).symm.trans h⟩

theorem modeItem_iff {i : Nat × Nat} {k : Fin 13} {m : AlertMode} :
    modeItem i = some (k, m) ↔ i.1 = k.val + 3 ∧ i.2 = m.code := by
  rw [← configurable_iff, ← modeOf_iff]
  unfold modeItem
  split <;> grind

end Sys2Proof.Machine

open Sys2Proof Sys2Proof.Machine

/-- Settles O8: each edit's fields read, then the entry it writes. -/
theorem planEditsReplaceEntries : Obligations.PlanEditsReplaceEntries := by
  unfold Obligations.PlanEditsReplaceEntries
  refine ⟨fun s on site idle => ?_, flagOf_eq, vaneOf_eq, classOf_eq, disciplineOf_eq, cadenceOf_eq,
    fun n => ⟨fun x => sectorOf_iff, sectorOf_none_iff⟩,
    fun n => ⟨scheduleRefOf_absent, fun k => scheduleRefOf_iff, scheduleRefOf_none⟩,
    fun n => ⟨setOfMask_sublist _ n, fun x => mem_sectorsOf⟩, fun n => ⟨setOfMask_sublist _ n, fun d => mem_daysOf⟩,
    fun i k m => modeItem_iff, fun items ms => allOf_eq_some_iff⟩
  refine ⟨fun c f pr v pk present vane park => ?_, fun c points two eight => ?_, fun c mask cls k sch r named kind ref => ?_,
    fun k days a b => ?_, fun k days a b => ?_, fun f d k discipline cadence => ?_, fun items ms sized short read => ?_⟩
  · refine edit_done (exec_planCrane ..) on site idle ?_
    rw [Plan.putCrane, craneOf_val, present, vane, park]
  · refine edit_done (exec_planChart ..) on site idle ?_
    rw [Plan.putChart, craneOf_val]
    exact if_pos ⟨two, eight⟩
  · refine edit_done (exec_planCells ..) on site idle ?_
    rw [Plan.putCells, craneOf_val, kind, ref]
    exact if_neg (by simpa using named)
  · refine edit_done (exec_planScheduleDefine ..) on site idle ?_
    rw [Plan.defineSchedule, scheduleOf_iff.mpr rfl]
  · refine edit_done (exec_planScheduleRemove ..) on site idle ?_
    rw [Plan.removeSchedule, scheduleOf_iff.mpr rfl]
    rfl
  · refine edit_done (exec_planSite ..) on site idle ?_
    rw [Plan.putSite, discipline, cadence]
  · refine edit_done (exec_planAlertModes ..) on site idle ?_
    rw [Plan.putModes, if_pos ⟨sized, short⟩, read]
end

section
/-!
PROOF. The conflict pair set (R1, R6, R7): the order of pairs, the pair found, and what insertion and merging leave.
-/
namespace Sys2Proof.Machine

/-! ### Cells by number (R1) -/

theorem number_inj {q r : CellId} : q.number = r.number ↔ q = r := by
  refine ⟨fun h => ?_, congrArg _⟩
  obtain ⟨c, x⟩ := q
  obtain ⟨d, y⟩ := r
  have hx := x.isLt
  have hy := y.isLt
  simp only [CellId.number] at h
  simp only [CellId.mk.injEq, Fin.ext_iff]
  omega

theorem cellOf_iff {n : Nat} {q : CellId} : cellOf n = some q ↔ n = q.number := by
  obtain ⟨c, x⟩ := q
  have hx := x.isLt
  have hc := c.isLt
  have parts : cellOf n = some ⟨c, x⟩ ↔ craneOf (n / 16) = some c ∧ sectorOf (n % 16) = some x := by
    unfold cellOf
    split <;> grind
  rw [parts, craneOf_iff, sectorOf_iff, CellId.number]
  dsimp only
  omega

theorem cellOf_none {n : Nat} : cellOf n = none ↔ 128 ≤ n := by
  have sector : sectorOf (n % 16) ≠ none := fun h => by
    have := sectorOf_none_iff.mp h
    omega
  obtain ⟨x, hx⟩ := Option.ne_none_iff_exists'.mp sector
  unfold cellOf
  rw [hx]
  by_cases big : 8 ≤ n / 16
  · rw [craneOf_none big]
    simp only [true_iff]
    omega
  · have known : craneOf (n / 16) = some ⟨n / 16, by omega⟩ := craneOf_iff.mpr rfl
    rw [known]
    simp only [reduceCtorEq, false_iff]
    omega

/-! ### The pairs of a list of items -/

theorem kindOf_iff {n : Nat} {k : PairKind} : kindOf n = some k ↔ n = k.code := by
  rcases n with _ | _ | n <;> cases k <;> simp [kindOf, PairKind.code]

/-- The pair an item names. -/
def Pair.NamedBy (readKind : Bool) (i : PairItem) (p : Pair) : Prop :=
  p.lo.crane ≠ p.hi.crane ∧ p.lo.number < p.hi.number ∧
    (i.first = p.lo.number ∧ i.second = p.hi.number ∨ i.first = p.hi.number ∧ i.second = p.lo.number) ∧
    (readKind = true → i.kind = p.kind.code) ∧ (readKind = false → p.kind = .struct)

theorem make_iff {a b : CellId} {k : PairKind} {p : Pair} (other : a.crane ≠ b.crane) :
    Pair.make a b k = p ↔ p.kind = k ∧ p.lo.number < p.hi.number ∧ (a = p.lo ∧ b = p.hi ∨ a = p.hi ∧ b = p.lo) := by
  have apart : a.number ≠ b.number := fun same => other (congrArg CellId.crane (number_inj.mp same))
  obtain ⟨lo, hi, kind⟩ := p
  unfold Pair.make
  split <;> simp only [Pair.mk.injEq] <;> grind

theorem pairOf_iff {readKind : Bool} {i : PairItem} {p : Pair} : pairOf readKind i = some p ↔ p.NamedBy readKind i := by
  have parts : pairOf readKind i = some p ↔ ∃ a b k, cellOf i.first = some a ∧ cellOf i.second = some b ∧
      (if readKind then kindOf i.kind else some .struct) = some k ∧ a.crane ≠ b.crane ∧ Pair.make a b k = p := by
    unfold pairOf
    split <;> grind
  have kinds (k : PairKind) : (if readKind then kindOf i.kind else some .struct) = some k ↔
      (readKind = true → i.kind = k.code) ∧ (readKind = false → k = .struct) := by
    cases readKind
    · simp [eq_comm]
    · simp [kindOf_iff]
  rw [parts, Pair.NamedBy]
  simp only [cellOf_iff, kinds]
  refine ⟨?_, fun ⟨other, ordered, cells, kind, struct⟩ => ?_⟩
  · rintro ⟨a, b, k, first, second, kind, other, made⟩
    obtain ⟨rfl, ordered, cells⟩ := (make_iff other).mp made
    grind
  · rcases cells with ⟨first, second⟩ | ⟨first, second⟩
    · exact ⟨p.lo, p.hi, p.kind, first, second, ⟨kind, struct⟩, other, (make_iff other).mpr ⟨rfl, ordered, .inl ⟨rfl, rfl⟩⟩⟩
    · exact ⟨p.hi, p.lo, p.kind, first, second, ⟨kind, struct⟩, other.symm,
        (make_iff other.symm).mpr ⟨rfl, ordered, .inr ⟨rfl, rfl⟩⟩⟩

theorem map_eq_map_some_iff {α β : Type} {f : α → Option β} {l : List α} {ms : List β} :
    l.map f = ms.map some ↔ ms.length = l.length ∧ ∀ (n : Nat) (a : α) (b : β), l[n]? = some a → ms[n]? = some b → f a = some b := by
  induction l generalizing ms with
  | nil => cases ms <;> simp
  | cons a l ih =>
    cases ms with
    | nil => simp
    | cons b ms =>
      rw [List.map_cons, List.map_cons, List.cons.injEq, ih]
      refine ⟨fun ⟨head, short, rest⟩ => ⟨congrArg (· + 1) short, fun n c d => ?_⟩, fun ⟨short, all⟩ => ⟨?_, ?_, fun n c d => ?_⟩⟩
      · cases n with
        | zero => grind
        | succ n => exact rest n c d
      · exact all 0 a b rfl rfl
      · exact Nat.succ.inj short
      · exact all (n + 1) c d

theorem pairsOf_iff {readKind : Bool} {items : List PairItem} {ps : List Pair} :
    pairsOf readKind items = some ps ↔ 1 ≤ items.length ∧ items.length ≤ 16 ∧ ps.length = items.length ∧
      ∀ (n : Nat) (i : PairItem) (p : Pair), items[n]? = some i → ps[n]? = some p → p.NamedBy readKind i := by
  unfold pairsOf
  simp only [← pairOf_iff]
  split
  · rename_i sized
    rw [allOf_eq_some_iff, map_eq_map_some_iff]
    simp [sized.1, sized.2]
  · grind

/-! ### Pairs that join the same cells -/

theorem same_iff {p q : Pair} : p.same q = true ↔ p.lo = q.lo ∧ p.hi = q.hi := by simp [Pair.same]

theorem same_symm {p q : Pair} (h : p.same q = true) : q.same p = true := by
  obtain ⟨lo, hi⟩ := same_iff.mp h
  exact same_iff.mpr ⟨lo.symm, hi.symm⟩

theorem same_trans {p q r : Pair} (h : p.same q = true) (k : q.same r = true) : p.same r = true := by
  obtain ⟨lo, hi⟩ := same_iff.mp h
  obtain ⟨lo', hi'⟩ := same_iff.mp k
  exact same_iff.mpr ⟨lo.trans lo', hi.trans hi'⟩

theorem before_iff {p q : Pair} : p.before q = true ↔
    p.lo.number < q.lo.number ∨ p.lo.number = q.lo.number ∧ p.hi.number < q.hi.number := by simp [Pair.before]

theorem before_trans {p q r : Pair} (h : p.before q = true) (k : q.before r = true) : p.before r = true := by
  rw [before_iff] at *
  omega

theorem before_of_not {p q : Pair} (h : p.before q ≠ true) (k : p.same q ≠ true) : q.before p = true := by
  have h := (not_congr before_iff).mp h
  have k := (not_congr same_iff).mp k
  rw [← number_inj, ← number_inj] at k
  rw [before_iff]
  omega

theorem not_same_of_before {p q : Pair} (h : p.before q = true) : p.same q ≠ true := fun k => by
  obtain ⟨lo, hi⟩ := same_iff.mp k
  rw [before_iff, lo, hi] at h
  omega

theorem before_congr {p q r : Pair} (h : p.same q = true) : p.before r = q.before r ∧ r.before p = r.before q := by
  obtain ⟨lo, hi⟩ := same_iff.mp h
  unfold Pair.before
  rw [lo, hi]
  exact ⟨rfl, rfl⟩

/-! ### A set in pair order -/

/-- In pair order, each pair once. -/
def InPairOrder (set : List Pair) : Prop := set.Pairwise (fun p q => p.before q = true)

theorem InPairOrder.apart {set : List Pair} (h : InPairOrder set) {p q : Pair} (hp : p ∈ set) (hq : q ∈ set)
    (other : p ≠ q) : p.same q ≠ true := by
  have before : set.Pairwise (fun a b => a ≠ b → a.same b ≠ true) := by
    refine List.Pairwise.imp (fun k => ?_) h
    exact fun _ => not_same_of_before k
  have after : set.Pairwise (fun a b => b ≠ a → b.same a ≠ true) := by
    refine List.Pairwise.imp (fun k => ?_) h
    exact fun _ same => not_same_of_before k (same_symm same)
  exact before.forall_of_forall_of_flip (fun _ _ same => absurd rfl same) after hp hq other

theorem mem_insertPair {p r : Pair} {set : List Pair} (h : r ∈ insertPair p set) : r = p ∨ r ∈ set := by
  induction set with
  | nil => exact .inl (List.mem_singleton.mp h)
  | cons q set ih =>
    unfold insertPair at h
    grind

theorem inPairOrder_insert {p : Pair} {set : List Pair} (h : InPairOrder set) : InPairOrder (insertPair p set) := by
  induction set with
  | nil => exact List.pairwise_singleton _ _
  | cons q set ih =>
    obtain ⟨first, rest⟩ := List.pairwise_cons.mp h
    unfold insertPair
    split
    · rename_i same
      exact List.pairwise_cons.mpr ⟨fun r hr => (before_congr same).1.trans (first r hr), rest⟩
    · split
      · rename_i before
        refine List.pairwise_cons.mpr ⟨fun r hr => ?_, h⟩
        rcases List.mem_cons.mp hr with rfl | hr
        · exact before
        · exact before_trans before (first r hr)
      · rename_i other after
        refine List.pairwise_cons.mpr ⟨fun r hr => ?_, ih rest⟩
        rcases mem_insertPair hr with rfl | hr
        · exact before_of_not after other
        · exact first r hr

/-! ### The pair found -/

theorem findPair_none {set : List Pair} {p : Pair} : findPair set p = none ↔ ∀ q ∈ set, p.same q ≠ true := by
  simp [findPair]

theorem findPair_some {set : List Pair} {p q : Pair} (h : findPair set p = some q) : q ∈ set ∧ p.same q = true :=
  ⟨List.mem_of_find?_eq_some h, List.find?_some h⟩

theorem findPair_congr {set : List Pair} {p q : Pair} (h : p.same q = true) : findPair set p = findPair set q := by
  obtain ⟨lo, hi⟩ := same_iff.mp h
  have same : p.same = q.same := by
    funext r
    unfold Pair.same
    rw [lo, hi]
  rw [findPair, findPair, same]

theorem findPair_iff {set : List Pair} (order : InPairOrder set) {p q : Pair} :
    findPair set p = some q ↔ q ∈ set ∧ p.same q = true := by
  refine ⟨findPair_some, fun ⟨member, same⟩ => ?_⟩
  obtain ⟨r, found⟩ : ∃ r, findPair set p = some r :=
    Option.ne_none_iff_exists'.mp (fun none => findPair_none.mp none q member same)
  obtain ⟨there, also⟩ := findPair_some found
  by_cases equal : r = q
  · rw [found, equal]
  · exact absurd (same_trans (same_symm also) same) (order.apart there member equal)

theorem findPair_cons (q : Pair) (set : List Pair) (p : Pair) :
    findPair (q :: set) p = if p.same q then some q else findPair set p := by
  unfold findPair
  rw [List.find?_cons]
  cases p.same q <;> rfl

theorem findPair_insert (p r : Pair) (set : List Pair) :
    findPair (insertPair p set) r = if r.same p then some p else findPair set r := by
  induction set with
  | nil => exact findPair_cons p [] r
  | cons q set ih =>
    unfold insertPair
    split
    · rename_i same
      have both : r.same q = r.same p := Bool.eq_iff_iff.mpr
        ⟨fun h => same_trans h (same_symm same), fun h => same_trans h same⟩
      rw [findPair_cons, findPair_cons, both]
      split <;> rfl
    · split
      · exact findPair_cons p _ r
      · rename_i other after
        rw [findPair_cons, findPair_cons, ih]
        split
        · rename_i here
          exact (if_neg (fun h => other (same_trans (same_symm h) here))).symm
        · rfl

/-! ### A list merged -/

/-- The list gives the pair as STRUCT. -/
def GivesStruct (ps : List Pair) (r : Pair) : Prop := ∃ p ∈ ps, r.same p = true ∧ p.kind = .struct

/-- The pair that a set holds after one more is merged. -/
theorem findPair_merge (acc : List Pair) (p r : Pair) :
    findPair (mergePair acc p) r =
      if r.same p then
        match findPair acc r with
        | some q => if p.kind = .struct ∧ q.kind = .hook then some p else some q
        | none => some p
      else findPair acc r := by
  unfold mergePair
  by_cases same : r.same p = true
  · rw [if_pos same, findPair_congr (set := acc) same]
    cases found : findPair acc p with
    | none =>
      dsimp only
      rw [findPair_insert, if_pos same]
    | some q =>
      dsimp only
      split
      · rw [findPair_insert, if_pos same]
      · rw [findPair_congr same, found]
  · rw [if_neg same]
    cases findPair acc p with
    | none =>
      dsimp only
      rw [findPair_insert, if_neg same]
    | some q =>
      dsimp only
      split
      · rw [findPair_insert, if_neg same]
      · rfl

theorem inPairOrder_merge {acc : List Pair} (h : InPairOrder acc) (p : Pair) : InPairOrder (mergePair acc p) := by
  unfold mergePair
  split
  · split
    · exact inPairOrder_insert h
    · exact h
  · exact inPairOrder_insert h

theorem inPairOrder_distinct (ps : List Pair) : InPairOrder (distinctPairs ps) :=
  List.foldlRecOn ps mergePair List.Pairwise.nil (fun _ h p _ => inPairOrder_merge h p)

/-- What merging a list leaves of a pair: it is there when it was or is listed, and STRUCT when it was or a listing gives it. -/
theorem findPair_foldl_merge (ps acc : List Pair) (r : Pair) :
    (findPair (ps.foldl mergePair acc) r = none ↔ findPair acc r = none ∧ findPair ps r = none) ∧
      ∀ q, findPair (ps.foldl mergePair acc) r = some q →
        (q.kind = .struct ↔ (∃ q, findPair acc r = some q ∧ q.kind = .struct) ∨ GivesStruct ps r) := by
  induction ps generalizing acc with
  | nil =>
    refine ⟨by simp [findPair], fun q found => ?_⟩
    have here : findPair acc r = some q := found
    simp [here, GivesStruct]
  | cons p ps ih =>
    obtain ⟨none, kind⟩ := ih (mergePair acc p)
    rw [List.foldl_cons, none, findPair_cons, findPair_merge]
    refine ⟨?_, fun q found => ?_⟩
    · split
      · split <;> simp
        split <;> simp
      · rfl
    · rw [kind q found, findPair_merge]
      have given : GivesStruct (p :: ps) r ↔ r.same p = true ∧ p.kind = .struct ∨ GivesStruct ps r := by
        simp [GivesStruct, or_and_right, exists_or]
      rw [given]
      have two (k : PairKind) : k = .struct ∨ k = .hook := by cases k <;> simp
      split
      · rename_i same
        cases found : findPair acc r with
        | none => simp [same]
        | some o =>
          dsimp only
          split
          · rename_i turns
            simp [same, turns]
          · rename_i keeps
            have kinds := two o.kind
            simp only [Option.some.injEq]
            grind
      · rename_i other
        simp [other]

theorem findPair_distinct (ps : List Pair) (r : Pair) :
    (findPair (distinctPairs ps) r = none ↔ findPair ps r = none) ∧
      ∀ q, findPair (distinctPairs ps) r = some q → (q.kind = .struct ↔ GivesStruct ps r) := by
  obtain ⟨none, kind⟩ := findPair_foldl_merge ps [] r
  have empty : findPair [] r = Option.none := rfl
  rw [empty] at none kind
  exact ⟨none.trans (and_iff_right rfl), fun q found => (kind q found).trans (by simp)⟩

/-! ### New pairs and upgrades put into a set (R6) -/

theorem isUpgrade_iff {set : List Pair} {p : Pair} :
    isUpgrade set p = true ↔ p.kind = .struct ∧ ∃ q, findPair set p = some q ∧ q.kind = .hook := by
  unfold isUpgrade
  split <;> grind

theorem findPair_foldl_insert {l : List Pair} (order : InPairOrder l) (set : List Pair) (r : Pair) :
    findPair (l.foldl (fun acc q => insertPair q acc) set) r = (findPair l r).or (findPair set r) := by
  induction l generalizing set with
  | nil => rfl
  | cons p l ih =>
    obtain ⟨first, rest⟩ := List.pairwise_cons.mp order
    rw [List.foldl_cons, ih rest, findPair_insert, findPair_cons]
    split
    · rename_i same
      have none : findPair l r = none := findPair_none.mpr (fun q hq here =>
        not_same_of_before (first q hq) (same_trans (same_symm same) here))
      rw [none]
      rfl
    · rfl

/-- What PLAN_CONFLICTS puts into the set: the pairs that are new, then those that turn from HOOK to STRUCT. -/
def edited (set ps : List Pair) : List Pair :=
  ((distinctPairs ps).filter (fun q => (findPair set q).isNone) ++ (distinctPairs ps).filter (isUpgrade set)).foldl
    (fun acc q => insertPair q acc) set

theorem findPair_edited (set ps : List Pair) (r : Pair) :
    ((findPair (edited set ps) r).isSome = true ↔
        (findPair set r).isSome = true ∨ ∃ q ∈ ps, r.same q = true) ∧
      ∀ q, findPair (edited set ps) r = some q →
        (q.kind = .struct ↔ (∃ q, findPair set r = some q ∧ q.kind = .struct) ∨ GivesStruct ps r) := by
  have order := inPairOrder_distinct ps
  obtain ⟨listed, kind⟩ := findPair_distinct ps r
  have new (q : Pair) : findPair ((distinctPairs ps).filter (fun q => (findPair set q).isNone)) r = some q ↔
      findPair (distinctPairs ps) r = some q ∧ findPair set r = none := by
    rw [findPair_iff (order.filter _), findPair_iff order, List.mem_filter, Option.isNone_iff_eq_none]
    refine ⟨fun ⟨⟨member, fresh⟩, same⟩ => ⟨⟨member, same⟩, (findPair_congr same).trans fresh⟩,
      fun ⟨⟨member, same⟩, fresh⟩ => ⟨⟨member, (findPair_congr same).symm.trans fresh⟩, same⟩⟩
  have up (q : Pair) : findPair ((distinctPairs ps).filter (isUpgrade set)) r = some q ↔
      findPair (distinctPairs ps) r = some q ∧ q.kind = .struct ∧ ∃ o, findPair set r = some o ∧ o.kind = .hook := by
    rw [findPair_iff (order.filter _), findPair_iff order, List.mem_filter, isUpgrade_iff]
    refine ⟨fun ⟨⟨member, struct, hook⟩, same⟩ => ⟨⟨member, same⟩, struct, ?_⟩,
      fun ⟨⟨member, same⟩, struct, hook⟩ => ⟨⟨member, struct, ?_⟩, same⟩⟩
    · rwa [findPair_congr same]
    · rwa [← findPair_congr same]
  have put : findPair (edited set ps) r =
      (findPair ((distinctPairs ps).filter (isUpgrade set)) r).or
        ((findPair ((distinctPairs ps).filter (fun q => (findPair set q).isNone)) r).or (findPair set r)) := by
    rw [edited, List.foldl_append, findPair_foldl_insert (order.filter _), findPair_foldl_insert (order.filter _)]
  have fresh : findPair ((distinctPairs ps).filter (fun q => (findPair set q).isNone)) r =
      if findPair set r = none then findPair (distinctPairs ps) r else none := by
    ext q
    rw [new]
    split <;> simp [*]
  rw [put, fresh]
  have anyListed : findPair ps r ≠ none ↔ ∃ q ∈ ps, r.same q = true := by
    rw [Ne, findPair_none]
    simp
  cases hD : findPair (distinctPairs ps) r with
  | none =>
    have noUp : findPair ((distinctPairs ps).filter (isUpgrade set)) r = none := by
      ext q
      rw [up, hD]
      simp
    have unlisted : findPair ps r = none := listed.mp hD
    have noStruct : ¬ GivesStruct ps r := fun ⟨p, hp, same, _⟩ => anyListed.mpr ⟨p, hp, same⟩ unlisted
    rw [noUp, ← anyListed]
    simp [unlisted, noStruct]
    grind
  | some d =>
    have dListed : findPair ps r ≠ none := fun h => by
      rw [listed.mpr h] at hD
      exact nomatch hD
    have dKind := kind d hD
    cases hS : findPair set r with
    | none =>
      have noUp : findPair ((distinctPairs ps).filter (isUpgrade set)) r = none := by
        ext q
        rw [up, hS]
        simp
      rw [noUp, ← anyListed]
      simp [dListed, dKind]
    | some o =>
      rw [if_neg (Option.some_ne_none o), ← anyListed]
      by_cases turns : d.kind = .struct ∧ o.kind = .hook
      · have upFound := (up d).mpr ⟨hD, turns.1, o, hS, turns.2⟩
        rw [upFound]
        simp [dKind.mp turns.1, turns.1]
      · have noUp : findPair ((distinctPairs ps).filter (isUpgrade set)) r = none := by
          ext q
          rw [up, hD, hS]
          grind
        have kinds : o.kind = .struct ∨ o.kind = .hook := by cases o.kind <;> simp
        rw [noUp]
        simp only [Option.none_or, Option.isSome_some, true_or, Option.some.injEq, ← dKind, true_and]
        grind

end Sys2Proof.Machine

open Sys2Proof Sys2Proof.Machine

/-- Settles O9: the three edits of the set, the set after an accepted list pair by pair, and the pairs of a list. -/
theorem conflictPairsEdited : Obligations.ConflictPairsEdited := by
  unfold Obligations.ConflictPairsEdited
  refine ⟨fun s on site idle => ⟨fun items ps read => ⟨fun fits => ?_, fun passes => ?_⟩, fun items ps read => ?_, ?_⟩,
    fun set ps r => findPair_edited set ps r,
    fun readKind items ps => pairsOf_iff, fun p q => same_iff,
    fun set p => ⟨by simp [findPair_none, same_iff], fun q found => ?_, isUpgrade_iff, ?_⟩,
    fun ps => ⟨?_, fun r => ⟨(findPair_distinct ps r).1, fun q found => ?_⟩⟩⟩
  · refine edit_done (exec_planConflicts ..) on site idle ?_
    rw [Plan.addPairs, read]
    exact if_neg (Nat.not_lt.mpr fits)
  · refine edit_done (exec_planConflicts ..) on site idle ?_
    rw [Plan.addPairs, read]
    exact if_pos passes
  · refine edit_done (exec_planRemoveConflicts ..) on site idle ?_
    rw [Plan.removePairs, read]
  · exact edit_done (exec_planClearConflicts _) on site idle rfl
  · obtain ⟨member, same⟩ := findPair_some found
    exact ⟨member, same_iff.mp same⟩
  · intro order
    have kept := inPairOrder_insert (p := p) (order.imp before_iff.mpr)
    exact kept.imp before_iff.mp
  · exact (inPairOrder_distinct ps).imp before_iff.mp
  · rw [(findPair_distinct ps r).2 q found]
    simp [GivesStruct, same_iff, and_assoc]
end

section
/-!
PROOF. The refusals of the plan requests (R3, R13..R15) and validation as one list of checks.
-/
namespace Sys2Proof.Machine

/-! ### Refusals of the edits -/

/-- An edit, by what it makes of the staging plan. -/
def Instr.Edits (i : Instr) (change : Plan → Option (Plan × Answer)) : Prop :=
  ∀ s, exec i s = s.supervised i (fun t => t.edit change)

theorem isPlanEdit_cases {i : Instr} (edits : i.isPlanEdit = true) :
    i = .planDiscard ∨ ∃ change, Instr.Edits i change := by
  cases i with
  | planCrane n f => exact .inr ⟨_, fun s => exec_planCrane s n f⟩
  | planChart n ps => exact .inr ⟨_, fun s => exec_planChart s n ps⟩
  | planConflicts is => exact .inr ⟨_, fun s => exec_planConflicts s is⟩
  | planRemoveConflicts is => exact .inr ⟨_, fun s => exec_planRemoveConflicts s is⟩
  | planClearConflicts => exact .inr ⟨_, fun s => exec_planClearConflicts s⟩
  | planCells n m k r => exact .inr ⟨_, fun s => exec_planCells s n m k r⟩
  | planScheduleDefine k d a b => exact .inr ⟨_, fun s => exec_planScheduleDefine s k d a b⟩
  | planScheduleRemove k f => exact .inr ⟨_, fun s => exec_planScheduleRemove s k f⟩
  | planSite f => exact .inr ⟨_, fun s => exec_planSite s f⟩
  | planAlertModes is => exact .inr ⟨_, fun s => exec_planAlertModes s is⟩
  | planDiscard => exact .inl rfl
  | _ => exact absurd edits Bool.false_ne_true

variable {s : State}

theorem discard_badState (on : s.running = true) (site : s.site ≠ .setup) :
    exec .planDiscard s = .next ((s.asked .planDiscard).replied .planDiscard (answer .badState)) := by
  have refused : discardPlan (s.asked .planDiscard) = (s.asked .planDiscard, answer .badState) := if_pos site
  rw [exec_planDiscard, supervised_eq on, refused]

theorem discard_busy (on : s.running = true) (site : s.site = .setup) (writing : s.plan.write ≠ none) :
    exec .planDiscard s = .next ((s.asked .planDiscard).replied .planDiscard (answer .busy)) := by
  have writes : (s.asked .planDiscard).plan.write.isSome = true := Option.isSome_iff_ne_none.mpr writing
  have refused : discardPlan (s.asked .planDiscard) = (s.asked .planDiscard, answer .busy) :=
    (if_neg (Classical.not_not.mpr site)).trans (if_pos writes)
  rw [exec_planDiscard, supervised_eq on, refused]

theorem discard_done (on : s.running = true) (site : s.site = .setup) (idle : s.plan.write = none) :
    exec .planDiscard s =
      .next (((s.asked .planDiscard).withPlan { s.plan with staging := s.plan.committed }).replied .planDiscard
        (okWith [f2 s.plan.edition])) := by
  have quiet : (s.asked .planDiscard).plan.write.isSome ≠ true := fun writing =>
    Option.isSome_iff_ne_none.mp writing idle
  have done : discardPlan (s.asked .planDiscard) =
      ((s.asked .planDiscard).setStaging s.plan.committed, okWith [f2 s.plan.edition]) :=
    (if_neg (Classical.not_not.mpr site)).trans (if_neg quiet)
  rw [exec_planDiscard, supervised_eq on, done]
  rfl

/-! ### Fields that name nothing -/

theorem flagOf_none {n : Nat} (h : 2 ≤ n) : flagOf n = none := by
  rw [flagOf_eq, if_neg (by omega), if_neg (by omega)]

theorem vaneOf_none {n : Nat} (h : 2 ≤ n) : vaneOf n = none := by
  rw [vaneOf_eq, if_neg (by omega), if_neg (by omega)]

theorem classOf_none {n : Nat} (h : 3 ≤ n) : classOf n = none := by
  rw [classOf_eq, if_neg (by omega), if_neg (by omega), if_neg (by omega)]

theorem disciplineOf_none {n : Nat} (h : 2 ≤ n) : disciplineOf n = none := by
  rw [disciplineOf_eq, if_neg (by omega), if_neg (by omega)]

theorem cadenceOf_none {n : Nat} (h : 2 ≤ n) : cadenceOf n = none := by
  rw [cadenceOf_eq, if_neg (by omega), if_neg (by omega)]

theorem kindOf_none {n : Nat} (h : 2 ≤ n) : kindOf n = none := by
  match n, h with
  | n + 2, _ => rfl

theorem modeOf_none {n : Nat} (h : 3 ≤ n) : modeOf n = none := by
  match n, h with
  | n + 3, _ => rfl

theorem putCrane_none {n : Nat} {f : CraneFields} (p : Plan)
    (h : 8 ≤ n ∨ 2 ≤ f.present ∨ 2 ≤ f.vane ∨ 16 ≤ f.park) : Plan.putCrane n f p = none := by
  unfold Plan.putCrane
  split
  · rename_i crane present vane park
    rcases h with h | h | h | h
    · exact nomatch (craneOf_none h).symm.trans crane
    · exact nomatch (flagOf_none h).symm.trans present
    · exact nomatch (vaneOf_none h).symm.trans vane
    · exact nomatch (sectorOf_none h).symm.trans park
  · rfl

theorem putChart_none {n : Nat} {ps : List ChartPoint} (p : Plan) (h : 8 ≤ n ∨ ps.length < 2 ∨ 8 < ps.length) :
    Plan.putChart n ps p = none := by
  unfold Plan.putChart
  split
  · rename_i crane
    rcases h with h | h
    · exact nomatch (craneOf_none h).symm.trans crane
    · exact if_neg (by omega)
  · rfl

theorem putCells_none {n m k r : Nat} (p : Plan) (h : 8 ≤ n ∨ sectorsOf m = [] ∨ 3 ≤ k ∨ 9 ≤ r) :
    Plan.putCells n m k r p = none := by
  unfold Plan.putCells
  split
  · rename_i crane cls ref
    rcases h with h | h | h | h
    · exact nomatch (craneOf_none h).symm.trans crane
    · exact if_pos (by rw [h]; rfl)
    · exact nomatch (classOf_none h).symm.trans cls
    · exact nomatch (scheduleRefOf_none.mpr h).symm.trans ref
  · rfl

theorem pairOf_none {readKind : Bool} {i : PairItem}
    (h : 128 ≤ i.first ∨ 128 ≤ i.second ∨ i.first / 16 = i.second / 16) : pairOf readKind i = none := by
  unfold pairOf
  split
  · rename_i a b k first second kind
    rcases h with h | h | h
    · exact nomatch (cellOf_none.mpr h).symm.trans first
    · exact nomatch (cellOf_none.mpr h).symm.trans second
    · refine if_pos (Fin.ext ?_)
      rw [cellOf_iff.mp first, cellOf_iff.mp second] at h
      have ha := a.sector.isLt
      have hb := b.sector.isLt
      simp only [CellId.number] at h
      omega
  · rfl

theorem pairOf_none_of_kind {i : PairItem} (h : 2 ≤ i.kind) : pairOf true i = none := by
  unfold pairOf
  split
  · rename_i first second kind
    exact nomatch (kindOf_none h).symm.trans kind
  · rfl

theorem pairsOf_none {readKind : Bool} {items : List PairItem}
    (h : items.length = 0 ∨ 16 < items.length ∨ ∃ k ∈ items, pairOf readKind k = none) : pairsOf readKind items = none := by
  unfold pairsOf
  split
  · rw [allOf_eq_none_iff]
    exact (h.resolve_left (by omega)).resolve_left (by omega)
  · rfl

theorem modeItem_none {i : Nat × Nat} (h : i.1 ≤ 2 ∨ 16 ≤ i.1 ∨ 3 ≤ i.2) : modeItem i = none := by
  unfold modeItem
  split
  · rename_i k m kind mode
    have place := configurable_iff.mp kind
    have small := k.isLt
    rcases h with h | h | h
    · omega
    · omega
    · exact nomatch (modeOf_none h).symm.trans mode
  · rfl

theorem putModes_none {items : List (Nat × Nat)} (p : Plan)
    (h : items.length = 0 ∨ 13 < items.length ∨ ∃ k ∈ items, k.1 ≤ 2 ∨ 16 ≤ k.1 ∨ 3 ≤ k.2) :
    Plan.putModes items p = none := by
  unfold Plan.putModes
  split
  · obtain ⟨k, hk, bad⟩ := (h.resolve_left (by omega)).resolve_left (by omega)
    rw [allOf_eq_none_iff.mpr ⟨k, hk, modeItem_none bad⟩]
  · rfl

/-! ### Validation (R13) -/

open Classical in
/-- A check of R13: what fails it, and the violation it answers. -/
noncomputable def violationIf (k : Prop × Violation) : Option Violation := if k.1 then some k.2 else none

theorem require_eq {ok : Bool} {bad : Prop} {v : Violation} (h : bad ↔ ok = false) : require ok v = violationIf (bad, v) := by
  unfold require violationIf
  cases ok <;> simp_all

theorem firstOf_append (a b : List (Option Violation)) : firstOf (a ++ b) = (firstOf a).or (firstOf b) :=
  List.findSome?_append

theorem firstOf_cons (v : Option Violation) (l : List (Option Violation)) : firstOf (v :: l) = v.or (firstOf l) := by
  cases v <;> rfl

/-- Checks made one item after the other are the checks of all items in that order. -/
theorem firstOf_flatMap {α : Type} {f : α → Option Violation} {g : α → List (Prop × Violation)}
    (h : ∀ a, f a = firstOf ((g a).map violationIf)) (l : List α) :
    firstOf (l.map f) = firstOf ((l.flatMap g).map violationIf) := by
  induction l with
  | nil => rfl
  | cons a l ih =>
    rw [List.map_cons, firstOf_cons, List.flatMap_cons, List.map_append, firstOf_append, ih, h]

theorem firstOf_map {α : Type} {f : α → Option Violation} {g : α → Prop × Violation}
    (h : ∀ a, f a = violationIf (g a)) (l : List α) : firstOf (l.map f) = firstOf ((l.map g).map violationIf) := by
  rw [List.map_map]
  exact congrArg firstOf (List.map_congr_left (fun a _ => h a))

/-- The first check that fails gives the answer. -/
theorem firstOf_checks {before after : List (Prop × Violation)} {k : Prop × Violation} (passed : ∀ b ∈ before, ¬ b.1)
    (fails : k.1) : firstOf ((before ++ k :: after).map violationIf) = some k.2 := by
  have quiet : firstOf (before.map violationIf) = none := by
    simp only [firstOf, List.findSome?_eq_none_iff, List.mem_map]
    rintro _ ⟨b, hb, rfl⟩
    exact if_neg (passed b hb)
  rw [List.map_append, firstOf_append, quiet, List.map_cons, firstOf_cons, violationIf, if_pos fails]
  rfl

theorem firstOf_passed {checks : List (Prop × Violation)} (passed : ∀ k ∈ checks, ¬ k.1) :
    firstOf (checks.map violationIf) = none := by
  simp only [firstOf, List.findSome?_eq_none_iff, List.mem_map]
  rintro _ ⟨b, hb, rfl⟩
  exact if_neg (passed b hb)

theorem within_false {lo x hi : Nat} : within lo x hi = false ↔ x < lo ∨ hi < x := by
  simp [within]
  omega

theorem require_within {lo x hi : Nat} {v : Violation} : require (within lo x hi) v = violationIf (x < lo ∨ hi < x, v) :=
  require_eq within_false.symm

theorem require_upTo {x hi : Nat} {v : Violation} : require (within 0 x hi) v = violationIf (hi < x, v) :=
  require_eq (by rw [within_false]; simp)

/-- The next point of a chart that falls: farther out, and rated no higher. -/
def ChartPoint.Falls (a b : ChartPoint) : Prop := a.radius < b.radius ∧ b.load ≤ a.load

theorem ChartPoint.Falls.trans {a b c : ChartPoint} (h : ChartPoint.Falls a b) (k : ChartPoint.Falls b c) : ChartPoint.Falls a c :=
  ⟨Nat.lt_trans h.1 k.1, Nat.le_trans k.2 h.2⟩

theorem chartFalls_iff {l : List ChartPoint} : chartFalls l = true ↔
    l.Pairwise (fun a b => a.radius < b.radius) ∧ l.Pairwise (fun a b => b.load ≤ a.load) := by
  have falls : chartFalls l = true ↔ l.Pairwise ChartPoint.Falls := by
    induction l with
    | nil => exact iff_of_true rfl .nil
    | cons a l ih =>
      cases l with
      | nil => exact iff_of_true rfl (List.pairwise_singleton _ a)
      | cons b l =>
        have next : chartFalls (a :: b :: l) = true ↔ ChartPoint.Falls a b ∧ chartFalls (b :: l) = true := by
          simp [chartFalls, ChartPoint.Falls]
        rw [next, ih, List.pairwise_cons (a := a)]
        refine and_congr_left (fun rest => ⟨fun first => ?_, fun all => all b List.mem_cons_self⟩)
        exact List.forall_mem_cons.mpr ⟨first, fun c member => ChartPoint.Falls.trans first ((List.pairwise_cons.mp rest).1 c member)⟩
  rw [← List.pairwise_and_iff, falls]
  rfl

theorem chartOk_iff {reach : Nat} {chart : List ChartPoint} : chartOk reach chart = true ↔
    2 ≤ chart.length ∧ chart.length ≤ 8 ∧ (∀ k, chart.head? = some k → 1 ≤ k.radius) ∧
      chart.Pairwise (fun a b => a.radius < b.radius) ∧ (∀ k, chart.getLast? = some k → k.radius = reach) ∧
      (∀ k ∈ chart, 1 ≤ k.load ∧ k.load ≤ 65535) ∧ chart.Pairwise (fun a b => b.load ≤ a.load) := by
  simp only [chartOk, Bool.and_eq_true, decide_eq_true_iff, List.all_eq_true, chartFalls_iff]
  cases first : chart.head? with
  | none => simp [List.head?_eq_none_iff.mp first]
  | some a =>
    cases last : chart.getLast? with
    | none => simp [List.getLast?_eq_none_iff.mp last]
    | some b =>
      simp only [decide_eq_true_iff, Option.some.injEq, forall_eq']
      grind

/-! ### The checks, item by item -/

theorem checkEntry_eq (c : Crane) (e : CraneEntry) :
    checkEntry c e = firstOf
      ([(e.reach < 100 ∨ 900 < e.reach, (⟨2, some c.val, none⟩ : Violation)), (128 < e.margin, ⟨3, some c.val, none⟩),
        (e.lw < 100 ∨ 300 < e.lw, ⟨4, some c.val, none⟩), (e.sw < e.lw + 20 ∨ 450 < e.sw, ⟨4, some c.val, none⟩),
        (e.mw < 80 ∨ e.lw < e.mw, ⟨4, some c.val, none⟩),
        (e.hw < 5 ∨ 50 < e.hw, ⟨4, some c.val, none⟩)].map violationIf) := by
  unfold checkEntry
  simp only [require_upTo]
  simp only [require_within]
  rfl

theorem checkParams_eq (p : SiteParams) :
    checkParams p = firstOf
      ([(30 < p.dead, (⟨5, none, some 1⟩ : Violation)), (p.wait < 5 ∨ 120 < p.wait, ⟨5, none, some 2⟩),
        (25 < p.tolerance, ⟨5, none, some 3⟩), (15 < p.early, ⟨5, none, some 4⟩), (30 < p.grace, ⟨5, none, some 5⟩),
        (p.securing < 5 ∨ 30 < p.securing, ⟨5, none, some 6⟩)].map violationIf) := by
  unfold checkParams
  simp only [require_upTo]
  simp only [require_within]
  rfl

theorem checkSchedule_eq (k : Fin 8) (sch : Option Schedule) :
    checkSchedule k sch =
      violationIf (∃ d, sch = some d ∧ (d.days = [] ∨ 1439 < d.start ∨ 1439 < d.stop), ⟨6, none, some (k.val + 1)⟩) := by
  cases sch with
  | none => simp [checkSchedule, violationIf]
  | some d =>
    refine require_eq ?_
    simp
    grind

theorem checkPairPresent_eq (p : Plan) (r : Pair) :
    checkPairPresent p r = firstOf
      ([((p.entry r.lo.crane).present = false, (⟨8, some r.lo.crane.val, some r.lo.sector.val⟩ : Violation)),
        ((p.entry r.hi.crane).present = false, ⟨8, some r.hi.crane.val, some r.hi.sector.val⟩)].map violationIf) := by
  unfold checkPairPresent
  rw [require_eq Iff.rfl, require_eq Iff.rfl]
  rfl

theorem checkFreeVane_eq (p : Plan) (r : Pair) :
    checkFreeVane p r = violationIf
      (r.kind = .struct ∧ (p.entry r.lo.crane).vane = .free ∧ (p.entry r.hi.crane).vane = .free,
        ⟨9, some r.lo.crane.val, some r.lo.sector.val⟩) :=
  require_eq (by simp [and_assoc])

theorem checkPark_eq (p : Plan) (r : Pair) :
    checkPark p r = firstOf
      ([(r.kind = .struct ∧ (p.entry r.lo.crane).vane = .parked ∧ (p.entry r.lo.crane).park = r.lo.sector,
          (⟨10, some r.lo.crane.val, some r.lo.sector.val⟩ : Violation)),
        (r.kind = .struct ∧ (p.entry r.hi.crane).vane = .parked ∧ (p.entry r.hi.crane).park = r.hi.sector,
          ⟨10, some r.hi.crane.val, some r.hi.sector.val⟩)].map violationIf) := by
  unfold checkPark
  split
  · rename_i struct
    rw [require_eq (bad := r.kind = .struct ∧ (p.entry r.lo.crane).vane = .parked ∧ (p.entry r.lo.crane).park = r.lo.sector)
        (by simp [struct, Plan.isParkCell]),
      require_eq (bad := r.kind = .struct ∧ (p.entry r.hi.crane).vane = .parked ∧ (p.entry r.hi.crane).park = r.hi.sector)
        (by simp [struct, Plan.isParkCell])]
    rfl
  · rename_i hook
    simp [violationIf, hook, firstOf]

theorem checkParkBarred_eq (p : Plan) (c : Crane) :
    checkParkBarred p c = violationIf
      ((p.entry c).vane = .parked ∧ (tget (tget p.cells c) (p.entry c).park).cls = .barred ∧
          (tget (tget p.cells c) (p.entry c).park).schedule = none,
        ⟨11, some c.val, some (p.entry c).park.val⟩) :=
  require_eq (by simp [and_assoc])

theorem checkScheduleRefs_eq (p : Plan) (c : Crane) :
    checkScheduleRefs p c = firstOf
      ((allSectors.map (fun x =>
        (∃ k, (tget (tget p.cells c) x).schedule = some k ∧ tget p.schedules k = none,
          (⟨12, some c.val, some x.val⟩ : Violation)))).map violationIf) := by
  refine firstOf_map (fun x => ?_) allSectors
  cases ref : (tget (tget p.cells c) x).schedule with
  | none => simp [violationIf]
  | some k => exact require_eq (by simp)

/-! ### Refusals of a commit (R15) -/

theorem commitPlan_refused {high : Bool} {a : Answer}
    (refused : (s.withPins { s.pins with protect := high }).commitRefusal high = some a) :
    commitPlan high s = (s.withPins { s.pins with protect := high }, a) := by
  unfold commitPlan
  dsimp only
  rw [refused]

theorem commit_refused {high : Bool} {a : Answer} (on : s.running = true)
    (refused : (s.withPins { s.pins with protect := high }).commitRefusal high = some a) :
    exec (.planCommit high) s =
      .next (((s.asked (.planCommit high)).withPins { s.pins with protect := high }).replied (.planCommit high) a) := by
  have answered := commitPlan_refused (s := s.asked (.planCommit high)) (high := high) (a := a) refused
  rw [exec_planCommit, supervised_eq on, answered]
  rfl

end Sys2Proof.Machine

open Sys2Proof Sys2Proof.Machine

/-- Settles O10: the edits by their refusal, the commit by its first, validation as the first of its checks. -/
theorem planRefusals : Obligations.PlanRefusals := by
  unfold Obligations.PlanRefusals
  refine ⟨fun s i on => ⟨fun edits site => ?_, fun edits site writing => ?_, fun site idle bad => ?_⟩,
    fun s high on => ⟨fun site => ?_, fun site protect => ?_, fun site low writing => ?_, fun site low idle some => ?_,
      fun v site low idle none invalid => ?_⟩, fun p => ?_⟩
  · rcases isPlanEdit_cases edits with rfl | ⟨change, command⟩
    · exact discard_badState on site
    · exact edit_badState (command s) on site
  · rcases isPlanEdit_cases edits with rfl | ⟨change, command⟩
    · exact discard_busy on site writing
    · exact edit_busy (command s) on site writing
  · rcases bad with ⟨n, f, h, rfl⟩ | ⟨n, ps, h, rfl⟩ | ⟨n, ps, h, rfl⟩ | ⟨n, f, h, rfl⟩ | ⟨items, h, rfl | rfl⟩ |
      ⟨items, h, rfl⟩ | ⟨n, m, k, r, h, rfl⟩ | ⟨k, d, a, b, h, rfl⟩ | ⟨k, f, h, rfl⟩ | ⟨f, h, rfl⟩ | ⟨items, h, rfl⟩
    · exact edit_badValue (exec_planCrane ..) on site idle (putCrane_none _ (.inl h))
    · exact edit_badValue (exec_planChart ..) on site idle (putChart_none _ (.inl h))
    · exact edit_badValue (exec_planChart ..) on site idle (putChart_none _ (.inr h))
    · exact edit_badValue (exec_planCrane ..) on site idle (putCrane_none _ (.inr h))
    · refine edit_badValue (exec_planConflicts ..) on site idle ?_
      rw [Plan.addPairs, pairsOf_none (h.imp_right (Or.imp_right fun ⟨k, hk, bad⟩ => ⟨k, hk, pairOf_none bad⟩))]
    · refine edit_badValue (exec_planRemoveConflicts ..) on site idle ?_
      rw [Plan.removePairs, pairsOf_none (h.imp_right (Or.imp_right fun ⟨k, hk, bad⟩ => ⟨k, hk, pairOf_none bad⟩))]
    · obtain ⟨k, hk, bad⟩ := h
      refine edit_badValue (exec_planConflicts ..) on site idle ?_
      rw [Plan.addPairs, pairsOf_none (.inr (.inr ⟨k, hk, pairOf_none_of_kind bad⟩))]
    · exact edit_badValue (exec_planCells ..) on site idle (putCells_none _ h)
    · refine edit_badValue (exec_planScheduleDefine ..) on site idle ?_
      rw [Plan.defineSchedule, scheduleOf_none.mpr h]
    · refine edit_badValue (exec_planScheduleRemove ..) on site idle ?_
      unfold Plan.removeSchedule
      rcases h with h | h | h
      · rw [scheduleOf_none.mpr (.inl h)]
      · rw [scheduleOf_none.mpr (.inr h)]
      · split
        · exact if_neg h
        · rfl
    · refine edit_badValue (exec_planSite ..) on site idle ?_
      unfold Plan.putSite
      rcases h with h | h
      · rw [disciplineOf_none h]
      · rw [cadenceOf_none h]
        cases disciplineOf f.discipline <;> rfl
    · exact edit_badValue (exec_planAlertModes ..) on site idle (putModes_none _ h)
  · exact commit_refused on (if_pos site)
  · refine commit_refused on ((if_neg (Classical.not_not.mpr site)).trans (if_pos protect))
  · subst low
    exact commit_refused on ((if_neg (Classical.not_not.mpr site)).trans (if_pos (Option.isSome_iff_ne_none.mpr writing)))
  · subst low
    have quiet : ¬ s.plan.write.isSome = true := fun writing => Option.isSome_iff_ne_none.mp writing idle
    exact commit_refused on ((if_neg (Classical.not_not.mpr site)).trans ((if_neg quiet).trans
      (if_pos (List.isEmpty_eq_false_iff.mpr some))))
  · subst low
    have quiet : ¬ s.plan.write.isSome = true := fun writing => Option.isSome_iff_ne_none.mp writing idle
    refine commit_refused on ((if_neg (Classical.not_not.mpr site)).trans ((if_neg quiet).trans ((if_neg (by simp [none])).trans ?_)))
    show (validate s.plan.staging).map _ = _
    rw [invalid]
    rfl
  · intro cranes inCrane inCell inItem entryChecks paramChecks scheduleBad wellFormed absent free isPark parkCell rule noSchedule checks
    have first : validate p = firstOf (checks.map violationIf) := by
      have entries : firstOf (p.presentCranes.map (fun c => checkEntry c (p.entry c))) =
          firstOf ((cranes.flatMap entryChecks).map violationIf) :=
        firstOf_flatMap (fun c => checkEntry_eq c (p.entry c)) cranes
      have schedules : firstOf (allSchedules.map (fun k => checkSchedule k (tget p.schedules k))) =
          firstOf ((allSchedules.map (fun k => (scheduleBad k, inItem 6 (k.val + 1)))).map violationIf) :=
        firstOf_map (fun k => checkSchedule_eq k (tget p.schedules k)) allSchedules
      have charts : firstOf (p.presentCranes.map (fun c =>
            require (chartOk (p.entry c).reach (tget p.charts c)) ⟨7, some c.val, none⟩)) =
          firstOf ((cranes.map (fun c => (¬ wellFormed c, inCrane 7 c))).map violationIf) :=
        firstOf_map (fun c => require_eq (by rw [← Bool.not_eq_true, chartOk_iff])) cranes
      have present : firstOf (p.pairs.map (checkPairPresent p)) = firstOf
          ((p.pairs.flatMap (fun r => [(absent r.lo, inCell 8 r.lo), (absent r.hi, inCell 8 r.hi)])).map violationIf) :=
        firstOf_flatMap (checkPairPresent_eq p) p.pairs
      have vanes : firstOf (p.pairs.map (checkFreeVane p)) = firstOf
          ((p.pairs.map (fun r => (r.kind = .struct ∧ free r.lo ∧ free r.hi, inCell 9 r.lo))).map violationIf) :=
        firstOf_map (checkFreeVane_eq p) p.pairs
      have parks : firstOf (p.pairs.map (checkPark p)) = firstOf
          ((p.pairs.flatMap (fun r => [(r.kind = .struct ∧ isPark r.lo, inCell 10 r.lo),
            (r.kind = .struct ∧ isPark r.hi, inCell 10 r.hi)])).map violationIf) :=
        firstOf_flatMap (checkPark_eq p) p.pairs
      have barred : firstOf (p.presentCranes.map (checkParkBarred p)) = firstOf
          ((cranes.map (fun c => ((p.entry c).vane = .parked ∧ (rule (parkCell c)).cls = .barred ∧
            (rule (parkCell c)).schedule = none, inCell 11 (parkCell c)))).map violationIf) :=
        firstOf_map (checkParkBarred_eq p) cranes
      have refs : firstOf (p.presentCranes.map (checkScheduleRefs p)) = firstOf
          ((cranes.flatMap (fun c => allSectors.map (fun x => (noSchedule ⟨c, x⟩, inCell 12 ⟨c, x⟩)))).map violationIf) :=
        firstOf_flatMap (checkScheduleRefs_eq p) cranes
      have some : require (!p.presentCranes.isEmpty) ⟨1, none, none⟩ = violationIf (cranes = [], ⟨1, none, none⟩) :=
        require_eq (by simp [cranes, Plan.presentCranes])
      rw [validate, some, entries, schedules, charts, present, vanes, parks, barred, refs, checkParams_eq]
      have one (k : Prop × Violation) : firstOf ([k].map violationIf) = violationIf k := by
        rw [List.map_singleton, firstOf_cons]
        exact Option.or_none
      simp only [checks, List.map_append, firstOf_append, Option.or_assoc, one, firstOf_cons]
      simp only [firstOf, List.findSome?_nil, Option.or_none]
      rfl
    rw [first]
    refine ⟨fun before k after split passed fails => ?_, firstOf_passed⟩
    rw [split]
    exact firstOf_checks passed fails
end

section
/-!
PROOF. What a lookup answers, and PLAN_READ (R20).
-/
namespace Sys2Proof.Machine

variable {s : State}

/-- A lookup answers from the state it is asked in and changes the port alone. -/
theorem lookup_eq (on : s.running = true) {i : Instr} {look : State → Answer} (command : exec i s = s.supervised i (looking look)) :
    exec i s = .next ((s.asked i).replied i (look (s.asked i))) := by
  rw [command, supervised_eq on]
  rfl

theorem exec_planRead (sel sec item : Nat) :
    exec (.planRead sel sec item) s = s.supervised (.planRead sel sec item) (looking (planReading sel sec item)) := rfl

theorem planReading_section {sel sec item : Nat} {p : Plan} {fs : List Field} (idle : s.plan.write = none)
    (selected : s.plan.selected sel = some p) (read : readSection s.plan p sec item = some fs) :
    planReading sel sec item s = okWith fs := by
  rw [planReading, if_neg (by simp [idle]), selected, Option.bind_some, read]

theorem planReading_none {sel sec item : Nat} (idle : s.plan.write = none)
    (none : ∀ p, s.plan.selected sel = some p → readSection s.plan p sec item = Option.none) :
    planReading sel sec item s = answer .badValue := by
  have nothing : (s.plan.selected sel).bind (fun p => readSection s.plan p sec item) = Option.none := by
    simpa using none
  rw [planReading, if_neg (by simp [idle]), nothing]

theorem selected_none {st : PlanStore} {sel : Nat} (h : 2 ≤ sel) : st.selected sel = none := by
  match sel, h with
  | n + 2, _ => rfl

theorem readSection_none {st : PlanStore} {p : Plan} {sec item : Nat}
    (h : 8 ≤ sec ∨ ((sec = 1 ∨ sec = 2 ∨ sec = 4) ∧ 8 ≤ item) ∨ (sec = 3 ∧ 1024 ≤ item) ∨
      (sec = 5 ∧ (item = 0 ∨ 9 ≤ item))) : readSection st p sec item = none := by
  rcases h with big | ⟨rfl | rfl | rfl, far⟩ | ⟨rfl, far⟩ | ⟨rfl, far⟩
  · match sec, big with
    | n + 8, _ => rfl
  · simp [readSection, craneOf_none far]
  · simp [readSection, craneOf_none far]
  · simp [readSection, craneOf_none far]
  · exact if_neg (Nat.not_lt.mpr far)
  · simp [readSection, scheduleOf_none.mpr far]

theorem condition_code (k : StoreCondition) : k.code = if k = .good then 0 else 1 := by cases k <;> rfl

theorem ruleFields_eq (r : CellRule) :
    ruleFields r = [f1 r.cls.code, f1 ((r.schedule.map (fun k => k.val + 1)).getD 0)] := by
  unfold ruleFields
  cases r.schedule <;> rfl

theorem pairsFrom_eq (ps : List Pair) (n : Nat) :
    pairsFrom ps n = f1 ((ps.drop n).take 16).length ::
      ((ps.drop n).take 16).flatMap (fun r => [f1 r.lo.number, f1 r.hi.number, f1 r.kind.code]) ++
        [f2 (if n + 16 < ps.length then n + 16 else 65535)] := by
  unfold pairsFrom
  split <;> rfl

end Sys2Proof.Machine

open Sys2Proof Sys2Proof.Machine

/-- Settles O12: a discard, then PLAN_READ section by section. -/
theorem planDiscardAndRead : Obligations.PlanDiscardAndRead := by
  unfold Obligations.PlanDiscardAndRead
  refine fun s on => ⟨discard_done on, fun sel sec item => ?_⟩
  intro i reads
  have answered {a : Answer} (h : planReading sel sec item (s.asked i) = a) : reads a :=
    h ▸ lookup_eq on (exec_planRead sel sec item)
  refine ⟨fun writing => ?_, fun idle => ⟨fun p which => ?_, fun bad => ?_⟩⟩
  · exact answered (if_pos (Option.isSome_iff_ne_none.mpr writing))
  · have selected : s.plan.selected sel = some p := by
      rcases which with ⟨rfl, rfl⟩ | ⟨rfl, rfl⟩ <;> rfl
    have sectionRead {fs : List Field} (h : readSection s.plan p sec item = some fs) : reads (okWith fs) :=
      answered (planReading_section (s := s.asked i) idle selected h)
    refine ⟨?_, fun c place => ⟨?_, ?_, ?_⟩, ?_, fun k five place => ⟨fun none => ?_, fun d defined => ?_⟩, ?_, ?_⟩
    · rintro rfl
      rw [← condition_code]
      exact sectionRead rfl
    · rintro rfl
      exact sectionRead (by rw [place, readSection, craneOf_val]; rfl)
    · rintro rfl
      exact sectionRead (by rw [place, readSection, craneOf_val]; rfl)
    · rintro rfl
      refine sectionRead ?_
      rw [place, readSection, craneOf_val]
      simp only [Option.map_some, ruleFields_eq]
    · rintro rfl short
      refine sectionRead ?_
      rw [← pairsFrom_eq]
      exact if_pos short
    · subst five place
      exact sectionRead (by rw [readSection, scheduleOf_iff.mpr rfl, Option.map_some, none]; rfl)
    · subst five place
      exact sectionRead (by rw [readSection, scheduleOf_iff.mpr rfl, Option.map_some, defined]; rfl)
    · rintro rfl
      exact sectionRead rfl
    · rintro rfl
      exact sectionRead rfl
  · refine answered (planReading_none (s := s.asked i) idle (fun p selected => ?_))
    rcases bad with big | bad
    · exact nomatch (selected_none big).symm.trans selected
    · exact readSection_none bad
end

section
/-!
PROOF. PLAN_COMMIT (R15, R16): the cranes that leave, join and stay (R48), and the stop reasons the new modes hand (R88).
-/
namespace Sys2Proof.Machine

/-! ### What an operation leaves of a crane -/

/-- The records of a crane that a new plan may replace are the same. -/
structure SameCrane (c : Crane) (s t : State) : Prop where
  svc : t.svc c = s.svc c
  crane : t.craneRec c = s.craneRec c
  wind : t.windRec c = s.windRec c
  occupied : tget t.occupied c = tget s.occupied c
  stops : t.stopSet c = s.stopSet c

theorem framedCrane (c : Crane) : Framed (SameCrane c) [.service, .cranes, .wind, .occupied, .stops] where
  trans h k := ⟨k.svc.trans h.svc, k.crane.trans h.crane, k.wind.trans h.wind, k.occupied.trans h.occupied,
    k.stops.trans h.stops⟩
  same h := by
    have service := h .service (by decide)
    have cranes := h .cranes (by decide)
    have wind := h .wind (by decide)
    have occupied := h .occupied (by decide)
    have stops := h .stops (by decide)
    simp only [Same] at service cranes wind occupied stops
    constructor
    · rw [State.svc, service]; rfl
    · rw [State.craneRec, cranes]; rfl
    · rw [State.windRec, wind]; rfl
    · rw [occupied]
    · rw [State.stopSet, stops]; rfl

/-- No crane gains a condition. -/
def AlertsFall (s t : State) : Prop := ∀ k c, c ∈ (t.alert k).cranes → c ∈ (s.alert k).cranes

theorem framedFall : Framed AlertsFall [.alerts] where
  trans h g := fun k c member => h k c (g k c member)
  same h := fun k c member => by
    have alerts := h .alerts (by decide)
    simp only [Same] at alerts
    rwa [State.alert, alerts] at member

theorem fall_withdraw (s : State) (k : AlertKind) (c : Crane) : AlertsFall s (s.withdraw k c) := fun j d member => by
  rw [State.withdraw, alert_setAlert] at member
  split at member
  · rename_i same
    subst same
    exact (List.mem_filter.mp member).1
  · exact member

theorem withdraw_out (s : State) (k : AlertKind) (c : Crane) : c ∉ ((s.withdraw k c).alert k).cranes := by
  rw [State.withdraw_alert_same]
  simp

theorem fall_reviewOffPath (s : State) (c : Crane) : AlertsFall s (s.reviewOffPath c) := by
  unfold State.reviewOffPath
  split
  · exact fall_withdraw s _ c
  · exact framedFall.refl s

theorem fall_denyWaits (s : State) (p : Wait → Bool) (why : DenyReason) : AlertsFall s (s.denyWaits p why) := by
  unfold State.denyWaits
  exact framedFall.fold (framedFall.of (touches_withWaits s _) rfl) _ _ (fun u w =>
    framedFall.trans (framedFall.of (touches_notify u w.crane _) rfl) (fall_reviewOffPath _ _))

theorem fall_addStop (s : State) (c : Crane) (r : StopReason) : AlertsFall s (s.addStop c r) := by
  have stopped (rs : List StopReason) : AlertsFall s (s.setStops c rs) := framedFall.of (touches_setStops s c _) rfl
  unfold State.addStop
  dsimp only
  split
  · exact framedFall.frame (touches_addReasonTo _ _ _) rfl (framedFall.trans (stopped _) (fall_denyWaits _ _ _))
  · exact stopped _

/-! ### A crane that leaves, joins or stays (R48) -/

theorem windRec_setWind (s : State) (c d : Crane) (r : WindRec) :
    (s.setWind c r).windRec d = if c = d then r else s.windRec d := by
  rw [State.windRec, State.setWind, State.withWind_wind, tget_tput]
  rfl

theorem craneLeaves_other (s : State) {c d : Crane} (other : c ≠ d) : SameCrane c s (s.craneLeaves d) := by
  have away := other.symm
  constructor
  · exact (craneLeaves_records s c d).1.trans (if_neg away)
  · exact (craneLeaves_records s c d).2.trans (if_neg away)
  · exact (windRec_setWind _ d c _).trans (if_neg away)
  · exact tget_tput_ne s.occupied none away
  · exact tget_tput_ne s.stops [] away

theorem craneLeaves_own (s : State) (c : Crane) :
    (s.craneLeaves c).craneRec c = CraneRec.initial ∧ (s.craneLeaves c).windRec c = WindRec.initial ∧
      (s.craneLeaves c).svc c = ServiceRec.initial ∧ tget (s.craneLeaves c).occupied c = none ∧
      (s.craneLeaves c).stopSet c = [] :=
  ⟨(craneLeaves_records s c c).2.trans (if_pos rfl), (windRec_setWind _ c c _).trans (if_pos rfl),
    (craneLeaves_records s c c).1.trans (if_pos rfl), tget_tput_same s.occupied c none, tget_tput_same s.stops c []⟩

/-- The conditions of its link and of its wind, which a crane that leaves loses. -/
def leavingKinds : List AlertKind := [.craneLost, .reportEarly, .frameError, .windCaution, .windHold, .windUnknown]

theorem craneLeaves_alert (s : State) (c : Crane) (k : AlertKind) :
    (s.craneLeaves c).alert k =
      ((((((s.withdraw .craneLost c).withdraw .reportEarly c).withdraw .frameError c).withdraw .windCaution c).withdraw .windHold
        c).withdraw .windUnknown c).alert k := rfl

theorem fall_craneLeaves (s : State) (c : Crane) : AlertsFall s (s.craneLeaves c) := fun k d member => by
  rw [craneLeaves_alert] at member
  exact (framedFall.trans (framedFall.trans (framedFall.trans (framedFall.trans (framedFall.trans (fall_withdraw s .craneLost c)
    (fall_withdraw _ .reportEarly c)) (fall_withdraw _ .frameError c)) (fall_withdraw _ .windCaution c))
    (fall_withdraw _ .windHold c)) (fall_withdraw _ .windUnknown c)) k d member

theorem craneLeaves_withdrawn (s : State) (c : Crane) {k : AlertKind} (h : k ∈ leavingKinds) :
    c ∉ ((s.craneLeaves c).alert k).cranes := by
  rw [craneLeaves_alert]
  simp only [leavingKinds, List.mem_cons, List.not_mem_nil, or_false] at h
  rcases h with rfl | rfl | rfl | rfl | rfl | rfl <;> simp [State.withdraw, alert_setAlert, setDel]

theorem craneJoins_other (s : State) {c d : Crane} (other : c ≠ d) : SameCrane c s (s.craneJoins d) := by
  have away := other.symm
  have k := craneJoins_after s d
  constructor
  · exact (craneJoins_records s c d).1.trans (if_neg away)
  · exact (craneJoins_records s c d).2.trans (if_neg away)
  · rw [State.windRec, k .wind (by decide)]
    exact (windRec_setWind _ d c _).trans (if_neg away)
  · rw [k.occupied_eq (by decide)]
    rfl
  · unfold State.craneJoins
    dsimp only
    split
    · rw [stopSet_addStop, if_neg away]
      exact tget_tput_ne s.stops [] away
    · exact tget_tput_ne s.stops [] away

theorem craneJoins_own (s : State) (c : Crane) :
    (s.craneJoins c).craneRec c = CraneRec.initial ∧ (s.craneJoins c).windRec c = WindRec.initial ∧
      (s.craneJoins c).svc c = ServiceRec.initial ∧
      ∀ x, x ∈ (s.craneJoins c).stopSet c ↔ s.pins.siteStop = true ∧ x = .siteStop := by
  refine ⟨(craneJoins_records s c c).2.trans (if_pos rfl), ?_, (craneJoins_records s c c).1.trans (if_pos rfl), fun x => ?_⟩
  · rw [State.windRec, craneJoins_after s c .wind (by decide)]
    exact (windRec_setWind _ c c _).trans (if_pos rfl)
  · have empty : ((((s.setCrane c CraneRec.initial).setWind c WindRec.initial).setSvc c ServiceRec.initial).setStops c []).stopSet c
        = [] := tget_tput_same s.stops c []
    unfold State.craneJoins
    dsimp only
    split
    · rename_i asserted
      have on : s.pins.siteStop = true := asserted
      rw [mem_stopSet_addStop, empty]
      simp [on]
    · rename_i clear
      have off : s.pins.siteStop ≠ true := clear
      rw [empty]
      simp [off]

theorem fall_craneJoins (s : State) (c : Crane) : AlertsFall s (s.craneJoins c) := by
  have records : AlertsFall s ((((s.setCrane c CraneRec.initial).setWind c WindRec.initial).setSvc c ServiceRec.initial).setStops
      c []) := fun _ _ member => member
  unfold State.craneJoins
  dsimp only
  split
  · exact framedFall.trans records (fall_addStop _ c _)
  · exact records

theorem fall_followPresence (old : Plan) (s : State) (c : Crane) : AlertsFall s (s.followPresence old c) := by
  unfold State.followPresence
  split
  · exact fall_craneLeaves s c
  · exact fall_craneJoins s c
  · exact framedFall.refl s
  · exact framedFall.refl s

theorem followPresence_other (old : Plan) (s : State) {c d : Crane} (other : c ≠ d) :
    SameCrane c s (s.followPresence old d) := by
  unfold State.followPresence
  split
  · exact craneLeaves_other s other
  · exact craneJoins_other s other
  · exact (framedCrane c).refl s
  · exact (framedCrane c).refl s

/-- Of a fold over all cranes, what one crane's turn makes of a state that the others leave. -/
theorem foldl_at {g : State → Crane → State} {R : State → State → Prop} (c : Crane) (refl : ∀ s, R s s)
    (trans : ∀ {s t u}, R s t → R t u → R s u) (others : ∀ u d, c ≠ d → R u (g u d)) (s : State) :
    ∃ u, R s u ∧ R (g u c) (allCranes.foldl g s) := by
  obtain ⟨before, after, split⟩ := List.append_of_mem (mem_allCranes c)
  have once : (before ++ c :: after).Nodup := split ▸ (by decide : allCranes.Nodup)
  have along (l : List Crane) (out : c ∉ l) (u : State) : R u (l.foldl g u) :=
    List.foldlRecOn l g (refl u) (fun v h d hd => trans h (others v d (fun same => out (same ▸ hd))))
  rw [split, List.foldl_append, List.foldl_cons]
  refine ⟨before.foldl g s, along before ?_ s, along after ?_ _⟩
  · exact fun h => (List.nodup_append.mp once).2.2 c h c List.mem_cons_self rfl
  · exact (List.nodup_cons.mp (List.nodup_append.mp once).2.1).1

/-! ### The reasons the new modes hand (R88) -/

/-- From a state on: no crane gains a condition, the modes stay, and the stop sets gain only reasons of conditions in STOP mode. -/
structure HandsFrom (s t : State) : Prop where
  fall : AlertsFall s t
  modes : KeepsModes s t
  keeps : ∀ c x, x ∈ s.stopSet c → x ∈ t.stopSet c
  reasons : ∀ c x, x ∈ t.stopSet c →
    x ∈ s.stopSet c ∨ ∃ k, k.stopReason = some x ∧ (s.alert k).mode = .stop ∧ c ∈ (s.alert k).cranes

theorem HandsFrom.refl (s : State) : HandsFrom s s := ⟨framedFall.refl s, fun _ => rfl, fun _ _ h => h, fun _ _ h => .inl h⟩

theorem stopAction_some (s : State) (k : AlertKind) (c : Crane) :
    (∃ x, k.stopReason = some x ∧ (s.alert k).mode = .stop ∧ s.stopAction k (some c) = s.addStop c x) ∨
      (∀ x, k.stopReason = some x → (s.alert k).mode ≠ .stop) ∧ s.stopAction k (some c) = s := by
  unfold State.stopAction
  cases reason : k.stopReason with
  | none => exact .inr ⟨nofun, rfl⟩
  | some x =>
    dsimp only
    split
    · rename_i mode
      exact .inl ⟨x, rfl, mode, rfl⟩
    · rename_i mode
      exact .inr ⟨fun _ _ => mode, rfl⟩

theorem HandsFrom.stopAction {s t : State} (h : HandsFrom s t) {k : AlertKind} {c : Crane} (named : c ∈ (s.alert k).cranes) :
    HandsFrom s (t.stopAction k (some c)) := by
  rcases stopAction_some t k c with ⟨x, reason, mode, eq⟩ | ⟨_, eq⟩
  · rw [eq]
    refine ⟨framedFall.trans h.fall (fall_addStop t c x), framedModes.trans h.modes (modes_addStop t c x),
      fun d y hy => mem_stopSet_addStop.mpr (.inr (h.keeps d y hy)), fun d y hy => ?_⟩
    rcases mem_stopSet_addStop.mp hy with ⟨rfl, rfl⟩ | hy
    · exact .inr ⟨k, reason, (h.modes k).symm.trans mode, named⟩
    · exact h.reasons d y hy
  · rw [eq]
    exact h

theorem HandsFrom.foldl {s t : State} (h : HandsFrom s t) {k : AlertKind} (l : List Crane)
    (named : ∀ c ∈ l, c ∈ (s.alert k).cranes) : HandsFrom s (l.foldl (fun u c => u.stopAction k (some c)) t) :=
  List.foldlRecOn l _ h (fun _ g c hc => g.stopAction (named c hc))

theorem kept_stopActions {k : AlertKind} {c : Crane} {x : StopReason} (l : List Crane) {s : State} (h : x ∈ s.stopSet c) :
    x ∈ (l.foldl (fun u c => u.stopAction k (some c)) s).stopSet c := by
  induction l generalizing s with
  | nil => exact h
  | cons d l ih =>
    refine ih ?_
    dsimp only
    rcases stopAction_some s k d with ⟨y, _, _, eq⟩ | ⟨_, eq⟩
    · rw [eq]
      exact mem_stopSet_addStop.mpr (.inr h)
    · rwa [eq]

/-- The reasons of one kind are handed to every crane of a list. -/
theorem handed_foldl {s : State} {k : AlertKind} {x : StopReason} (reason : k.stopReason = some x) (mode : (s.alert k).mode = .stop)
    (l : List Crane) (named : ∀ c ∈ l, c ∈ (s.alert k).cranes) {t : State} (h : HandsFrom s t) {c : Crane} (hc : c ∈ l) :
    x ∈ (l.foldl (fun u c => u.stopAction k (some c)) t).stopSet c := by
  induction l generalizing t with
  | nil => exact absurd hc List.not_mem_nil
  | cons d l ih =>
    have member : ∀ c ∈ l, c ∈ (s.alert k).cranes := fun c hc => named c (List.mem_cons_of_mem d hc)
    have next := h.stopAction (named d List.mem_cons_self)
    rw [List.foldl_cons]
    rcases List.mem_cons.mp hc with rfl | hc
    · have given : x ∈ (t.stopAction k (some c)).stopSet c := by
        rcases stopAction_some t k c with ⟨y, reason', _, eq⟩ | ⟨silent, _⟩
        · cases reason.symm.trans reason'
          rw [eq]
          exact mem_stopSet_addStop.mpr (.inl ⟨rfl, rfl⟩)
        · exact absurd ((h.modes k).trans mode) (silent x reason)
      exact kept_stopActions l given
    · exact ih member next hc

/-- One kind after the other, each for the cranes it then has. -/
theorem handsFrom_kinds (l : List AlertKind) {s t : State} (h : HandsFrom s t) :
    HandsFrom s (l.foldl (fun t k => (t.alert k).cranes.foldl (fun u c => u.stopAction k (some c)) t) t) :=
  List.foldlRecOn l _ h (fun _ g k _ => g.foldl _ (fun c hc => g.fall k c hc))

theorem handed_kinds (l : List AlertKind) {s t : State} (h : HandsFrom s t) {k : AlertKind} (hk : k ∈ l) {x : StopReason}
    (reason : k.stopReason = some x) (mode : (s.alert k).mode = .stop) {c : Crane}
    (named : c ∈ ((l.foldl (fun t k => (t.alert k).cranes.foldl (fun u c => u.stopAction k (some c)) t) t).alert k).cranes) :
    x ∈ (l.foldl (fun t k => (t.alert k).cranes.foldl (fun u c => u.stopAction k (some c)) t) t).stopSet c := by
  induction l generalizing t with
  | nil => exact absurd hk List.not_mem_nil
  | cons j l ih =>
    rw [List.foldl_cons] at named ⊢
    have next : HandsFrom s ((t.alert j).cranes.foldl (fun u c => u.stopAction j (some c)) t) :=
      h.foldl _ (fun c hc => h.fall j c hc)
    by_cases here : k ∈ l
    · exact ih next here named
    · obtain rfl : k = j := (List.mem_cons.mp hk).resolve_right here
      have first : HandsFrom t ((t.alert k).cranes.foldl (fun u c => u.stopAction k (some c)) t) :=
        (HandsFrom.refl t).foldl _ (fun c hc => hc)
      have rest := handsFrom_kinds l (HandsFrom.refl ((t.alert k).cranes.foldl (fun u c => u.stopAction k (some c)) t))
      refine rest.keeps c x (handed_foldl reason ((h.modes k).trans mode) _ (fun c hc => hc) (HandsFrom.refl t) ?_)
      exact first.fall k c (rest.fall k c named)

theorem handModeStops_spec (s : State) : HandsFrom s s.handModeStops ∧
    ∀ k x, k.stopReason = some x → (s.handModeStops.alert k).mode = .stop → ∀ c ∈ (s.handModeStops.alert k).cranes,
      x ∈ s.handModeStops.stopSet c := by
  have hands := handsFrom_kinds AlertKind.all (HandsFrom.refl s)
  exact ⟨hands, fun k x reason mode c named =>
    handed_kinds AlertKind.all (HandsFrom.refl s) (AlertKind.mem_all k) reason ((hands.modes k).symm.trans mode) named⟩

/-! ### The commit -/

theorem moded_cranes (s : State) (k : AlertKind) (r : AlertRec) : (s.moded k r).cranes = r.cranes := by
  unfold State.moded
  split <;> rfl

/-- What the new modes leave: from a state on, under its committed modes. -/
structure ModesApplied (s t : State) : Prop where
  fall : ∀ k c, c ∈ (t.alert k).cranes → c ∈ (s.alert k).cranes
  modes : ∀ k j, AlertKind.slot k = some j → (t.alert k).mode = tget s.plan.committed.modes j
  keeps : ∀ c x, x ∈ s.stopSet c → x ∈ t.stopSet c
  reasons : ∀ c x, x ∈ t.stopSet c →
    x ∈ s.stopSet c ∨ ∃ k, k.stopReason = some x ∧ (t.alert k).mode = .stop ∧ c ∈ (s.alert k).cranes
  handed : ∀ k x, k.stopReason = some x → (t.alert k).mode = .stop → ∀ c ∈ (t.alert k).cranes, x ∈ t.stopSet c

theorem modesApplied_of_moded {s u : State} (record : ∀ k, u.alert k = s.moded k (s.alert k))
    (stops : ∀ c, u.stopSet c = s.stopSet c) : ModesApplied s u.handModeStops := by
  obtain ⟨hands, handed⟩ := handModeStops_spec u
  have cranes (k : AlertKind) : (u.alert k).cranes = (s.alert k).cranes := by rw [record, moded_cranes]
  refine ⟨fun k c named => cranes k ▸ hands.fall k c named, fun k j slot => ?_, fun c x given => ?_, fun c x given => ?_, handed⟩
  · rw [hands.modes k, record, State.moded, slot]
  · exact hands.keeps c x (stops c ▸ given)
  · rcases hands.reasons c x given with old | ⟨k, reason, mode, named⟩
    · exact .inl (stops c ▸ old)
    · exact .inr ⟨k, reason, (hands.modes k).trans mode, cranes k ▸ named⟩

theorem modesApplied (s : State) : ModesApplied s s.applyModes := by
  refine modesApplied_of_moded (u := s.writeModes.evaluateLines) (fun k => ?_) (fun c => ?_)
  · rw [State.alert, (touches_evaluateLines _).alerts_eq (by decide)]
    exact alert_writeModes s k
  rw [State.stopSet, (touches_evaluateLines _).stops_eq (by decide), (touches_writeModes _).stops_eq (by decide)]
  rfl

/-- What a new plan makes of a crane's records, from the state before its turn. -/
structure Followed (old : Plan) (c : Crane) (s t : State) : Prop where
  leaves : (old.entry c).present = true → s.present c = false →
    t.craneRec c = CraneRec.initial ∧ t.windRec c = WindRec.initial ∧ t.svc c = ServiceRec.initial ∧
      tget t.occupied c = none ∧ t.stopSet c = [] ∧ ∀ k ∈ leavingKinds, c ∉ (t.alert k).cranes
  joins : (old.entry c).present = false → s.present c = true →
    t.craneRec c = CraneRec.initial ∧ t.windRec c = WindRec.initial ∧ t.svc c = ServiceRec.initial ∧
      ∀ x, x ∈ t.stopSet c ↔ s.pins.siteStop = true ∧ x = .siteStop
  stays : (old.entry c).present = s.present c → t.craneRec c = s.craneRec c ∧ t.windRec c = s.windRec c ∧
    t.svc c = s.svc c ∧ t.stopSet c = s.stopSet c

theorem followed_followPresence (old : Plan) (s : State) (c : Crane) : Followed old c s (s.followPresence old c) := by
  have clash {b : Bool} {p : Prop} (h : b = false) (k : b = true) : p := nomatch h.symm.trans k
  unfold State.followPresence
  cases was : (old.entry c).present <;> cases is : s.present c
  · exact ⟨fun k => clash was k, fun _ => clash is, fun _ => ⟨rfl, rfl, rfl, rfl⟩⟩
  · exact ⟨fun k => clash was k, fun _ _ => craneJoins_own s c, fun same => clash (same.symm.trans was) is⟩
  · refine ⟨fun _ _ => ?_, fun k => clash k was, fun same => clash (same.trans is) was⟩
    obtain ⟨crane, wind, svc, occupied, stops⟩ := craneLeaves_own s c
    exact ⟨crane, wind, svc, occupied, stops, fun k hk => craneLeaves_withdrawn s c hk⟩
  · exact ⟨fun _ k => clash k is, fun k => clash k was, fun _ => ⟨rfl, rfl, rfl, rfl⟩⟩

/-- Of the walk over all cranes: each crane is followed once, and no crane gains a condition. -/
theorem followed_foldl (old : Plan) (s : State) (c : Crane) :
    Followed old c s (allCranes.foldl (State.followPresence old) s) ∧ AlertsFall s (allCranes.foldl (State.followPresence old) s) := by
  obtain ⟨u, before, after⟩ := foldl_at (g := State.followPresence old)
    (R := fun s t => SameCrane c s t ∧ AlertsFall s t ∧ Touches [.links, .cranes, .waits, .occupied, .stops, .wind, .service,
      .bookings, .alerts] s t) c
    (fun s => ⟨(framedCrane c).refl s, framedFall.refl s, .refl _ s⟩)
    (fun h k => ⟨(framedCrane c).trans h.1 k.1, framedFall.trans h.2.1 k.2.1, h.2.2.step k.2.2 (by decide)⟩)
    (fun u d other => ⟨followPresence_other old u other, fall_followPresence old u d, touches_followPresence old u d⟩) s
  obtain ⟨sameBefore, fallBefore, touchesBefore⟩ := before
  obtain ⟨sameAfter, fallAfter, _⟩ := after
  have own := followed_followPresence old u c
  have inPlan : u.present c = s.present c := 
    congrArg (fun p => (p.committed.entry c).present) (touchesBefore.plan_eq (by decide))
  have line : u.pins.siteStop = s.pins.siteStop := congrArg Pins.siteStop (touchesBefore.pins_eq (by decide))
  refine ⟨⟨fun was is => ?_, fun was is => ?_, fun same => ?_⟩,
    framedFall.trans fallBefore (framedFall.trans (fall_followPresence old u c) fallAfter)⟩
  · obtain ⟨crane, wind, svc, occupied, stops, kinds⟩ := own.leaves was (inPlan.trans is)
    exact ⟨sameAfter.crane.trans crane, sameAfter.wind.trans wind, sameAfter.svc.trans svc, sameAfter.occupied.trans occupied,
      sameAfter.stops.trans stops, fun k hk named => kinds k hk (fallAfter k c named)⟩
  · obtain ⟨crane, wind, svc, stops⟩ := own.joins was (inPlan.trans is)
    refine ⟨sameAfter.crane.trans crane, sameAfter.wind.trans wind, sameAfter.svc.trans svc, fun x => ?_⟩
    rw [sameAfter.stops, stops, line]
  · obtain ⟨crane, wind, svc, stops⟩ := own.stays (same.trans inPlan.symm)
    exact ⟨sameAfter.crane.trans (crane.trans sameBefore.crane), sameAfter.wind.trans (wind.trans sameBefore.wind),
      sameAfter.svc.trans (svc.trans sameBefore.svc), sameAfter.stops.trans (stops.trans sameBefore.stops)⟩

/-- A commit is the walk over all cranes under the new plan, the new modes, and the write begun. -/
theorem commit_walk (s : State) : ∃ w, s.commit = w.applyModes.beginWrite ∧
    (∀ c, Followed s.plan.committed c s.adoptPlan w) ∧ AlertsFall s.adoptPlan w ∧
    Touches [.links, .cranes, .waits, .occupied, .stops, .wind, .service, .bookings, .alerts] s.adoptPlan w :=
  ⟨allCranes.foldl (State.followPresence s.plan.committed) s.adoptPlan, rfl,
    fun c => (followed_foldl s.plan.committed s.adoptPlan c).1, (followed_foldl s.plan.committed s.adoptPlan 0).2,
    Touches.fold (.refl _ s.adoptPlan) _ _ (fun u c => touches_followPresence _ u c)⟩

theorem commitPlan_done {s : State} {high : Bool}
    (taken : (s.withPins { s.pins with protect := high }).commitRefusal high = none) :
    commitPlan high s = ((s.withPins { s.pins with protect := high }).commit,
      okWith [f2 (s.withPins { s.pins with protect := high }).commit.plan.edition,
        f4 (s.withPins { s.pins with protect := high }).commit.plan.stamp]) := by
  unfold commitPlan
  dsimp only
  rw [taken]

theorem commitRefusal_none {s : State} (site : s.site = .setup) (idle : s.plan.write = none) (none : s.bookings = [])
    (valid : validate s.plan.staging = Option.none) : s.commitRefusal false = Option.none := by
  have quiet : s.plan.write.isSome ≠ true := fun h => Option.isSome_iff_ne_none.mp h idle
  unfold State.commitRefusal
  rw [if_neg (Classical.not_not.mpr site), if_neg Bool.false_ne_true, if_neg quiet, if_neg (by simp [none]), valid]
  rfl

theorem beginWrite_plan (s : State) :
    s.beginWrite.plan = { s.plan with write := some (s.clock.mono + 400), image := none } := rfl

theorem commit_plan (s : State) :
    s.commit.plan = ⟨s.plan.staging, s.plan.staging, if s.plan.edition = 65535 then 1 else s.plan.edition + 1,
      if s.clock.isSet = true then s.clock.site else 0, s.plan.condition, some (s.clock.mono + 400), none⟩ := by
  obtain ⟨w, eq, _, _, touches⟩ := commit_walk s
  rw [eq, beginWrite_plan, (touches_applyModes w).plan_eq (by decide), (touches_applyModes w).clock_eq (by decide),
    touches.plan_eq (by decide), touches.clock_eq (by decide)]
  rfl

/-- What a commit makes of the cranes and their conditions; `t` holds its records, after the answer. -/
theorem commit_cranes (s t : State) (touches : Touches [.plan, .port] s.commit t) :
    (∀ k j, AlertKind.slot k = some j → (t.alert k).mode = tget s.plan.staging.modes j) ∧
    (∀ c, s.present c = true → (s.plan.staging.entry c).present = false →
      t.craneRec c = CraneRec.initial ∧ t.windRec c = WindRec.initial ∧ t.svc c = ServiceRec.initial ∧
        tget t.occupied c = none ∧ ∀ k ∈ leavingKinds, c ∉ (t.alert k).cranes) ∧
    (∀ c, s.present c = false → (s.plan.staging.entry c).present = true →
      t.craneRec c = CraneRec.initial ∧ t.windRec c = WindRec.initial ∧ t.svc c = ServiceRec.initial ∧
        (s.pins.siteStop = true → StopReason.siteStop ∈ t.stopSet c)) ∧
    (∀ c, s.present c = (s.plan.staging.entry c).present →
      t.craneRec c = s.craneRec c ∧ t.windRec c = s.windRec c ∧ t.svc c = s.svc c ∧ ∀ x ∈ s.stopSet c, x ∈ t.stopSet c) ∧
    (∀ k x, k.stopReason = some x → (t.alert k).mode = .stop → ∀ c ∈ (t.alert k).cranes, x ∈ t.stopSet c) ∧
    ∀ c, ∀ x ∈ t.stopSet c,
      s.present c = (s.plan.staging.entry c).present ∧ x ∈ s.stopSet c ∨
        s.pins.siteStop = true ∧ x = .siteStop ∧ s.present c = false ∧ (s.plan.staging.entry c).present = true ∨
        ∃ k, k.stopReason = some x ∧ (t.alert k).mode = .stop ∧ c ∈ (s.alert k).cranes := by
  obtain ⟨w, eq, followed, fall, walked⟩ := commit_walk s
  have applied := modesApplied w
  rw [eq] at touches
  have after : Touches [.plan, .port] w.applyModes t :=
    ((touches_beginWrite w.applyModes).mono (ps := [.plan, .port]) (by decide)).step touches (by decide)
  have records : Touches [.links, .waits, .stops, .bookings, .alerts, .lines, .plan, .port] w t :=
    ((touches_applyModes w).mono (by decide)).step after (by decide)
  have alert (k : AlertKind) : t.alert k = w.applyModes.alert k := by
    rw [State.alert, after.alerts_eq (by decide)]
    rfl
  have stops (c : Crane) : t.stopSet c = w.applyModes.stopSet c := by
    rw [State.stopSet, after.stops_eq (by decide)]
    rfl
  have crane (c : Crane) : t.craneRec c = w.craneRec c := craneRec_of_touches records (by decide) c
  have svc (c : Crane) : t.svc c = w.svc c := svc_of_touches records (by decide) c
  have wind (c : Crane) : t.windRec c = w.windRec c := by
    rw [State.windRec, records.wind_eq (by decide)]
    rfl
  have occupied (c : Crane) : tget t.occupied c = tget w.occupied c := by rw [records.occupied_eq (by decide)]
  refine ⟨fun k j slot => ?_, fun c was is => ?_, fun c was is => ?_, fun c same => ?_, fun k x reason mode c named => ?_,
    fun c x given => ?_⟩
  · rw [alert, applied.modes k j slot, walked.plan_eq (by decide)]
    rfl
  · obtain ⟨leftCrane, leftWind, leftSvc, leftOccupied, _, kinds⟩ := (followed c).leaves was is
    refine ⟨(crane c).trans leftCrane, (wind c).trans leftWind, (svc c).trans leftSvc, (occupied c).trans leftOccupied,
      fun k hk named => kinds k hk (applied.fall k c ?_)⟩
    rwa [← alert]
  · obtain ⟨newCrane, newWind, newSvc, newStops⟩ := (followed c).joins was is
    refine ⟨(crane c).trans newCrane, (wind c).trans newWind, (svc c).trans newSvc, fun line => ?_⟩
    rw [stops]
    exact applied.keeps c _ ((newStops _).mpr ⟨line, rfl⟩)
  · obtain ⟨oldCrane, oldWind, oldSvc, oldStops⟩ := (followed c).stays same
    refine ⟨(crane c).trans oldCrane, (wind c).trans oldWind, (svc c).trans oldSvc, fun x hx => ?_⟩
    rw [stops]
    exact applied.keeps c x (oldStops ▸ hx)
  · rw [stops]
    rw [alert] at mode named
    exact applied.handed k x reason mode c named
  · rw [stops] at given
    rcases applied.reasons c x given with before | ⟨k, reason, mode, named⟩
    · cases was : s.present c <;> cases is : (s.plan.staging.entry c).present
      · exact .inl ⟨rfl, ((followed c).stays (was.trans is.symm)).2.2.2 ▸ before⟩
      · obtain ⟨line, which⟩ := (((followed c).joins was is).2.2.2 x).mp before
        exact .inr (.inl ⟨line, which, rfl, rfl⟩)
      · have none := ((followed c).leaves was is).2.2.2.2.1
        rw [none] at before
        exact absurd before List.not_mem_nil
      · exact .inl ⟨rfl, ((followed c).stays (was.trans is.symm)).2.2.2 ▸ before⟩
    · exact .inr (.inr ⟨k, reason, (alert k).symm ▸ mode, fall k c named⟩)

/-! ### The end of a store write -/

theorem storeWriteEnd_idle {s : State} (on : s.running = true) (idle : s.plan.write = none) (good : Bool) :
    exec (.storeWriteEnd good) s = .next s := by
  rw [exec_storeWriteEnd, State.whileRunning, if_pos on, if_neg (by simp [idle])]

theorem storeWriteEnd_writing {s : State} (on : s.running = true) (writing : s.plan.write ≠ none) (good : Bool) :
    exec (.storeWriteEnd good) s = .next (s.endWrite good) := by
  rw [exec_storeWriteEnd, State.whileRunning, if_pos on, if_pos (Option.isSome_iff_ne_none.mpr writing)]

theorem raise_planFault_alert (s : State) :
    ((s.raise .planFault none).alert .planFault).flag = true ∧ ((s.raise .planFault none).alert .planFault).latch.isSome = true := by
  have record : (s.raise .planFault none).alert .planFault =
      { s.alert .planFault with flag := true, latch := some ((s.alert .planFault).latch.getD s.clock.site) } := by
    rw [State.raise_of_siteScoped rfl]
    exact State.setAlert_alert_same s _ _
  rw [record]
  exact ⟨rfl, rfl⟩

end Sys2Proof.Machine

open Sys2Proof Sys2Proof.Machine

/-- Settles O11: the plan a commit stores, each crane and its conditions, and the two ends of the write. -/
theorem commitTakesEffect : Obligations.CommitTakesEffect := by
  unfold Obligations.CommitTakesEffect
  refine ⟨fun s on site idle none valid => ?_, fun s good on idle => storeWriteEnd_idle on idle good,
    fun s on writing => ⟨storeWriteEnd_writing on writing true, s.endWrite false, storeWriteEnd_writing on writing false, ?_⟩⟩
  · intro edition stamp craneBlank windBlank serviceBlank
    let u := (s.asked (.planCommit false)).withPins { (s.asked (.planCommit false)).pins with protect := false }
    have taken : u.commitRefusal false = Option.none := commitRefusal_none site idle none valid
    have answered : okWith [f2 u.commit.plan.edition, f4 u.commit.plan.stamp] = okWith [f2 edition, f4 stamp] := by
      rw [commit_plan]
      rfl
    have run : exec (.planCommit false) s = .next (u.commit.replied (.planCommit false) (okWith [f2 edition, f4 stamp])) := by
      rw [exec_planCommit, supervised_eq on, commitPlan_done taken, ← answered]
    have plan := commit_plan u
    generalize eq : u.commit = v at run plan
    have touched : Touches [.plan, .port] u.commit (v.replied (.planCommit false) (okWith [f2 edition, f4 stamp])) :=
      eq ▸ (touches_respond _ _ _).within rfl
    have stored : (v.replied (.planCommit false) (okWith [f2 edition, f4 stamp])).plan = v.plan :=
      (touches_respond v _ _).plan_eq (by decide)
    have slot : (v.replied (.planCommit false) (okWith [f2 edition, f4 stamp])).port.slot =
        responseFrames 0x19 (okWith [f2 edition, f4 stamp]) := rfl
    have ready : (v.replied (.planCommit false) (okWith [f2 edition, f4 stamp])).port.rdy = true := rfl
    obtain ⟨modes, leaves, joins, stays, handed, gains⟩ := commit_cranes u _ touched
    generalize v.replied (.planCommit false) (okWith [f2 edition, f4 stamp]) = t at *
    exact ⟨t, run, stored.trans plan, slot, ready, modes, leaves, joins, stays, handed, gains⟩
  · have plan : (s.endWrite false).plan = { s.plan with condition := .fault, write := none, image := none } :=
      (touches_raise _ _ _).plan_eq (by decide)
    exact ⟨plan, raise_planFault_alert _⟩
end

section
/-!
PROOF. The crane links: bytes into frames (R31, R32), a good frame and its dispatch (R33..R35), the transmit queue (R34, R46).
-/
namespace Sys2Proof.Machine

variable {s : State} {c : Crane}

/-! ### Receiving a byte -/

theorem exec_byte (on : s.running = true) (b : Byte) (good : Bool) :
    exec (.linkByteReceived c b good) s = .next (s.receiveByte c b good) := by
  rw [exec_linkByteReceived, State.whileRunning, if_pos on]

theorem exec_bad (on : s.running = true) : exec (.linkBadFrame c) s = .next (s.badFrame c) := by
  rw [exec_linkBadFrame, State.whileRunning, if_pos on]

theorem receive_hunting {b : Byte} {good : Bool} (rx : (s.link c).rx = .hunting) :
    s.receiveByte c b good =
      if good && decide (b = 0xB4#8) then s.setLink c { s.link c with rx := .assembling [] s.now } else s := by
  unfold State.receiveByte
  dsimp only
  rw [rx]

theorem receive_badStop {b : Byte} {bytes : List Byte} {last : Nat} (rx : (s.link c).rx = .assembling bytes last) :
    s.receiveByte c b false = s.badFrame c := by
  unfold State.receiveByte
  dsimp only
  rw [rx]
  rfl

theorem receive_header {b : Byte} {bytes : List Byte} {last : Nat} (rx : (s.link c).rx = .assembling bytes last)
    (short : bytes = []) : s.receiveByte c b true = s.setLink c { s.link c with rx := .assembling (bytes ++ [b]) s.now } := by
  unfold State.receiveByte
  dsimp only
  rw [rx]
  subst short
  rfl

/-- From the length byte on: too long, complete, or one byte more. -/
theorem receive_body {b : Byte} {bytes : List Byte} {last : Nat} (rx : (s.link c).rx = .assembling bytes last) {kind len : Byte}
    {rest : List Byte} (all : bytes ++ [b] = kind :: len :: rest) :
    s.receiveByte c b true =
      if 48 < len.toNat then s.badFrame c
      else if rest.length = len.toNat + 1 then
        match checkLink (kind :: len :: rest) with
        | some f => (s.setLink c { s.link c with rx := .hunting }).arrive c f
        | none => s.badFrame c
      else s.setLink c { s.link c with rx := .assembling (kind :: len :: rest) s.now } := by
  unfold State.receiveByte
  dsimp only
  rw [rx]
  dsimp only
  rw [all]
  rfl

theorem checkLink_concat (kind len b : Byte) (payload : List Byte) :
    checkLink (kind :: len :: (payload ++ [b])) =
      if b = crc8 (kind :: len :: payload) then readLink kind.toNat payload else none := by
  have whole : kind :: len :: (payload ++ [b]) = (kind :: len :: payload) ++ [b] := rfl
  unfold checkLink
  dsimp only
  rw [whole, List.getLast?_concat, List.dropLast_concat]
  simp only [Option.some.injEq]
  rfl

/-! ### A bad frame and a quiet assembly -/

theorem badFrame_eq (s : State) (c : Crane) :
    s.badFrame c =
      if s.present c then (s.setLink c { s.link c with rx := .hunting }).raiseFor .frameError c
      else s.setLink c { s.link c with rx := .hunting } := rfl

theorem exec_timeout (on : s.running = true) :
    exec (.assemblyTimeout c) s = .next (if s.assemblyOverdue c then s.badFrame c else s) := by
  rw [exec_assemblyTimeout, State.whileRunning, if_pos on]

/-! ### A good frame (R33..R35) -/

theorem arrive_full (f : LinkFrame) (full : (s.link c).buffer ≠ none) : s.arrive c f = s.badFrame c := by
  obtain ⟨g, held⟩ := Option.ne_none_iff_exists'.mp full
  unfold State.arrive
  rw [held]

theorem exec_frame (on : s.running = true) (f : LinkFrame) : exec (f.command c) s = .next (s.arrive c f) := by
  rw [exec_command, State.fromCrane, State.whileRunning, if_pos on]

theorem mayTake_iff {s : State} : s.mayTake c = true ↔ answersIn (s.link c).queue < 6 := decide_eq_true_iff

theorem frame_taken (on : s.running = true) (f : LinkFrame) (empty : (s.link c).buffer = none)
    (room : answersIn (s.link c).queue < 6) : exec (f.command c) s = .next ((s.withdraw .frameError c).takeFrame c f) := by
  rw [exec_frame on, arrive_eq s c f empty]
  exact congrArg _ (if_pos room)

theorem takeFrame_absent (f : LinkFrame) (out : s.present c = false) :
    s.takeFrame c f = s.queueAnswer c (.answer f.kind (answer .notPermitted)) := by
  unfold State.takeFrame
  rw [if_pos out]
  rfl

theorem takeFrame_away (inPlan : s.present c = true) (away : (s.craneRec c).presence ≠ .present) (f : LinkFrame) :
    s.takeFrame c f =
      match f with
      | .status _ => s.acknowledge c .rejoinRequired
      | .rejoin r => s.acceptRejoin c r
      | _ => s.answerLink c f (answer .rejoinRequired) := by
  unfold State.takeFrame
  rw [if_neg (by simp [inPlan])]
  cases presence : (s.craneRec c).presence with
  | present => exact absurd presence away
  | offline => cases f <;> rfl
  | lost => cases f <;> rfl

theorem takeFrame_here (inPlan : s.present c = true) (here : (s.craneRec c).presence = .present) (f : LinkFrame) :
    s.takeFrame c f =
      match f with
      | .status r => s.acceptStatus c r
      | _ => (runLinkRequest c f s).1.answerLink c f (runLinkRequest c f s).2 := by
  unfold State.takeFrame
  rw [if_neg (by simp [inPlan]), here] <;> cases f <;> rfl

/-! ### The transmit queue (R34, R46) -/

theorem exec_sent (on : s.running = true) : exec (.frameTransmitted c) s = .next (s.frameSent c) := by
  rw [exec_frameTransmitted, State.whileRunning, if_pos on]

theorem frameSent_idle (idle : (s.link c).sending = none) : s.frameSent c = s := by
  unfold State.frameSent
  dsimp only
  rw [idle]

theorem frameSent_busy (busy : (s.link c).sending ≠ none) :
    s.frameSent c =
      let t := s.setLink c { s.link c with sending := none }.pump
      match (s.link c).buffer with
      | some f => if t.mayTake c then (t.setLink c { t.link c with buffer := none }).takeFrame c f else t
      | none => t := by
  obtain ⟨g, sending⟩ := Option.ne_none_iff_exists'.mp busy
  unfold State.frameSent
  dsimp only
  rw [sending] <;> rfl

theorem pump_empty {ch : Channel} (empty : ch.queue = []) : ({ ch with sending := none } : Channel).pump = { ch with sending := none } := by
  unfold Channel.pump
  dsimp only
  rw [empty]

theorem pump_next {ch : Channel} {g : TxFrame} {rest : List TxFrame} (next : ch.queue = g :: rest) :
    ({ ch with sending := none } : Channel).pump = { ch with sending := some g, queue := rest } := by
  unfold Channel.pump
  dsimp only
  rw [next]

theorem pump_busy {ch : Channel} (busy : ch.sending ≠ none) : ch.pump = ch := by
  obtain ⟨g, sending⟩ := Option.ne_none_iff_exists'.mp busy
  unfold Channel.pump
  rw [sending]

theorem queue_busy {ch : Channel} (busy : ch.sending ≠ none) (q : List TxFrame) :
    ({ ch with queue := q } : Channel).pump = { ch with queue := q } :=
  pump_busy (ch := { ch with queue := q }) busy

theorem queue_idle {ch : Channel} (idle : ch.sending = none) {q : List TxFrame} {g : TxFrame} {rest : List TxFrame}
    (next : q = g :: rest) : ({ ch with queue := q } : Channel).pump = { ch with sending := some g, queue := rest } := by
  unfold Channel.pump
  dsimp only
  rw [idle, next]

theorem notify_present {f : TxFrame} (inPlan : s.present c = true) :
    s.notify c f = s.setLink c { s.link c with queue := pushNotice (s.link c).queue f }.pump := if_pos inPlan

theorem notify_absent {f : TxFrame} (out : s.present c = false) : s.notify c f = s := if_neg (by simp [out])

theorem answersIn_eq (q : List TxFrame) : answersIn q = (q.filter (fun f => decide (f.isNotice = false))).length := by
  have same : (fun f : TxFrame => decide (f.isNotice = false)) = fun f => !f.isNotice := by
    funext f
    cases f.isNotice <;> rfl
  rw [answersIn, same]

theorem answersIn_lt {q : List TxFrame} {n : TxFrame} (member : n ∈ q) (notice : n.isNotice = true) :
    answersIn q < q.length := by
  refine Nat.lt_of_le_of_ne (List.length_filter_le _ _) (fun all => ?_)
  have kept := List.length_filter_eq_length_iff.mp all n member
  simp [notice] at kept

theorem dropOldestNotice_split {before after : List TxFrame} {n : TxFrame} (notice : n.isNotice = true)
    (answers : ∀ g ∈ before, g.isNotice = false) : dropOldestNotice (before ++ n :: after) = before ++ after := by
  induction before with
  | nil => exact if_pos notice
  | cons g before ih =>
    rw [List.cons_append, dropOldestNotice, if_neg (by simp [answers g List.mem_cons_self]),
      ih (fun h hh => answers h (List.mem_cons_of_mem g hh))]
    rfl

theorem pushNotice_room {q : List TxFrame} (f : TxFrame) (room : q.length < 6) : pushNotice q f = q ++ [f] := if_pos room

theorem pushAnswer_room {q : List TxFrame} (f : TxFrame) (room : q.length < 6) : pushAnswer q f = q ++ [f] := if_pos room

theorem pushNotice_allAnswers {q : List TxFrame} (f : TxFrame) (full : q.length = 6) (answers : answersIn q = 6) :
    pushNotice q f = q :=
  (if_neg (Nat.not_lt.mpr (Nat.le_of_eq full.symm))).trans (if_pos (Nat.le_of_eq (full.trans answers.symm)))

theorem pushAnswer_full {q : List TxFrame} (f : TxFrame) (full : q.length = 6) : pushAnswer q f = dropOldestNotice q ++ [f] :=
  if_neg (Nat.not_lt.mpr (Nat.le_of_eq full.symm))

theorem pushNotice_full {q : List TxFrame} (f : TxFrame) (full : q.length = 6) {n : TxFrame} (member : n ∈ q)
    (notice : n.isNotice = true) : pushNotice q f = dropOldestNotice q ++ [f] :=
  (if_neg (Nat.not_lt.mpr (Nat.le_of_eq full.symm))).trans (if_neg (Nat.not_le.mpr (answersIn_lt member notice)))

theorem pushAnswer_ne_nil (q : List TxFrame) (f : TxFrame) : pushAnswer q f ≠ [] := by
  unfold pushAnswer
  split <;> simp

theorem pushNotice_ne_nil (q : List TxFrame) (f : TxFrame) : pushNotice q f ≠ [] := by
  unfold pushNotice
  split
  · simp
  · split
    · rename_i full _
      rintro rfl
      exact full (by decide)
    · simp

end Sys2Proof.Machine

open Sys2Proof Sys2Proof.Machine

/-- Settles O13: a byte by the state of its channel and the bytes before it, a bad frame, and the quiet of an assembly. -/
theorem linkBytesAssemble : Obligations.LinkBytesAssemble := by
  unfold Obligations.LinkBytesAssemble
  refine ⟨fun s c b good on => ?_, fun s c on => ?_⟩
  · intro rx leaves isBad
    have leave {t : State} (h : s.receiveByte c b good = t) : leaves t := h ▸ exec_byte on b good
    have bad (h : s.receiveByte c b good = s.badFrame c) : isBad :=
      (exec_byte on b good).trans ((congrArg _ h).trans (exec_bad on).symm)
    refine ⟨fun hunting => ⟨fun stop start => ?_, fun other => ?_⟩, fun bytes last assembling =>
      ⟨fun broken => ?_, fun stop none => ?_, fun kind stop one => ⟨fun short => ?_, fun long => ?_⟩,
        fun kind len payload stop body short => ⟨fun more => ?_, fun complete => ⟨fun wrong => ?_, fun f crc read => ?_⟩⟩⟩⟩
    · refine leave ((receive_hunting hunting).trans (if_pos ?_))
      rw [stop, start]
      rfl
    · refine leave ((receive_hunting hunting).trans (if_neg ?_))
      simpa using fun stop => other.resolve_left (by simp [stop])
    · subst broken
      exact bad (receive_badStop assembling)
    · subst stop none
      exact leave (receive_header assembling rfl)
    · subst stop one
      refine leave ((receive_body assembling rfl).trans ((if_neg (by omega)).trans (if_neg ?_)))
      simp
    · subst stop one
      exact bad ((receive_body assembling rfl).trans (if_pos long))
    · subst stop body
      refine leave ((receive_body assembling (rest := payload ++ [b]) rfl).trans ((if_neg (by omega)).trans (if_neg ?_)))
      simp
      omega
    · subst stop body
      refine bad ((receive_body assembling (rest := payload ++ [b]) rfl).trans ((if_neg (by omega)).trans ((if_pos ?_).trans ?_)))
      · simp [complete]
      · rw [checkLink_concat]
        rcases wrong with crc | unread
        · rw [if_neg crc]
        · split <;> simp_all
    · subst stop body
      have taken := (receive_body assembling (rest := payload ++ [b]) rfl).trans ((if_neg (Nat.not_lt.mpr short)).trans
        (if_pos (by simp [complete])))
      rw [checkLink_concat, if_pos crc, read] at taken
      rw [exec_byte on, taken, exec_frame (s := rx .hunting) on]
  · intro hunting
    refine ⟨fun inPlan => ?_, fun out => ?_, fun quiet => ?_, fun bytes last assembling => ⟨fun late => ?_, fun early => ?_⟩⟩
    · rw [exec_bad on, badFrame_eq, if_pos inPlan]
    · rw [exec_bad on, badFrame_eq, out]
      rfl
    · rw [exec_timeout on, State.assemblyOverdue, quiet]
      rfl
    · rw [exec_timeout on, State.assemblyOverdue, assembling, exec_bad on]
      exact congrArg _ (if_pos (decide_eq_true late))
    · rw [exec_timeout on, State.assemblyOverdue, assembling]
      exact congrArg _ (if_neg (fun late => Nat.not_lt.mpr (of_decide_eq_true late) early))

/-- Settles O14: a frame by the buffer and the room in the queue, then what the dispatch does not pass on. -/
theorem goodFrameTaken : Obligations.GoodFrameTaken := by
  unfold Obligations.GoodFrameTaken
  refine ⟨fun s c f on => ⟨fun empty room => frame_taken on f empty room, fun empty full => ?_, fun held => ?_⟩,
    fun s c f on empty room => ⟨fun out => ?_, fun inPlan away => ⟨?_, fun notStatus notRejoin => ?_⟩, fun inPlan here => ?_⟩⟩
  · rw [exec_frame on, arrive_eq s c f empty]
    exact congrArg _ (if_neg (Nat.not_lt.mpr full))
  · rw [exec_frame on, arrive_full f held, exec_bad on]
  · exact (frame_taken on f empty room).trans (congrArg _ (takeFrame_absent (s := s.withdraw .frameError c) f out))
  · rintro ⟨r, rfl⟩
    exact (frame_taken on _ empty room).trans (congrArg _ (takeFrame_away (s := s.withdraw .frameError c) inPlan away _))
  · refine (frame_taken on f empty room).trans
      (congrArg _ ((takeFrame_away (s := s.withdraw .frameError c) inPlan away f).trans ?_))
    cases f with
    | status r => exact absurd rfl (notStatus r)
    | rejoin r => exact absurd rfl (notRejoin r)
    | _ => rfl
  · rintro ⟨r, rfl⟩
    exact (frame_taken on _ empty room).trans (congrArg _ (takeFrame_here (s := s.withdraw .frameError c) inPlan here _))

/-- Settles O15: the frame sent, the two ways into a queue, and the channel they leave. -/
theorem transmitQueueServed : Obligations.TransmitQueueServed := by
  unfold Obligations.TransmitQueueServed
  refine ⟨fun s c on => ⟨fun idle => ?_, fun busy => ⟨fun empty none => ?_, fun g rest next => ⟨fun none => ?_, fun f held room => ?_,
      fun held full => ?_⟩⟩⟩, fun q f => ⟨fun room => ⟨pushNotice_room f room, pushAnswer_room f room⟩, pushNotice_allAnswers f, ?_⟩,
    fun s c f => ⟨⟨pushAnswer_ne_nil _ f, ?_, ?_⟩, fun inPlan => ⟨pushNotice_ne_nil _ f, ?_, ?_⟩, fun out => ?_⟩,
    fun f => ?_, answersIn_eq⟩
  · rw [exec_sent on, frameSent_idle idle]
  · rw [exec_sent on, frameSent_busy busy, pump_empty empty]
    simp only [none]
  · rw [exec_sent on, frameSent_busy busy, pump_next next]
    simp only [none]
  · rw [exec_sent on, frameSent_busy busy, held, pump_next next]
    dsimp only
    rw [if_pos (mayTake_iff.mpr (by rw [link_setLink]; exact room)), link_setLink, setLink_setLink]
  · obtain ⟨f, held⟩ := Option.ne_none_iff_exists'.mp held
    rw [exec_sent on, frameSent_busy busy, held, pump_next next]
    dsimp only
    rw [if_neg ((not_congr mayTake_iff).mpr (by rw [link_setLink]; exact Nat.not_lt.mpr full)), held]
  · rintro before n after rfl full notice answers
    rw [pushNotice_full f full (by simp) notice, pushAnswer_full f full, dropOldestNotice_split notice answers]
    simp
  · exact fun busy => congrArg (s.setLink c) (queue_busy busy _)
  · exact fun g rest idle next => congrArg (s.setLink c) (queue_idle idle next)
  · exact fun busy => (notify_present inPlan).trans (congrArg (s.setLink c) (queue_busy busy _))
  · exact fun g rest idle next => (notify_present inPlan).trans (congrArg (s.setLink c) (queue_idle idle next))
  · exact notify_absent out
  · cases f <;> simp [TxFrame.isNotice]
end

section
/-!
PROOF. What the cell tests read (R53..R56): schedules, partners, blocking, reservation and the grant test.
-/
namespace Sys2Proof.Machine

variable {s : State} {q : CellId}

/-! ### Restrictions (R8..R10, R66) -/

theorem restrictionAt_plain {p : Plan} {t : Nat} (none : (tget (tget p.cells q.crane) q.sector).schedule = Option.none) :
    p.restrictionAt q t = (tget (tget p.cells q.crane) q.sector).cls := by
  unfold Plan.restrictionAt
  dsimp only
  rw [none]

theorem restrictionAt_scheduled {p : Plan} {t : Nat} {x : Fin 8}
    (ref : (tget (tget p.cells q.crane) q.sector).schedule = some x) :
    p.restrictionAt q t =
      if scheduleMatches (tget p.schedules x) t then (tget (tget p.cells q.crane) q.sector).cls else .unrestricted := by
  unfold Plan.restrictionAt
  dsimp only
  rw [ref]

theorem timeMatches_iff {a b d : Nat} : timeMatches a b d = true ↔
    a < b ∧ a ≤ d ∧ d < b ∨ b < a ∧ (a ≤ d ∨ d < b) ∨ a = b := by
  unfold timeMatches
  split <;> simp <;> omega

theorem scheduleMatches_iff {k : Schedule} {t : Nat} : scheduleMatches (some k) t = true ↔
    (∃ w ∈ k.days, w.val = t / 1440 % 7) ∧
      (k.start < k.stop ∧ k.start ≤ t % 1440 ∧ t % 1440 < k.stop ∨
        k.stop < k.start ∧ (k.start ≤ t % 1440 ∨ t % 1440 < k.stop) ∨ k.start = k.stop) := by
  simp only [scheduleMatches, Bool.and_eq_true, decide_eq_true_iff, List.mem_map, timeMatches_iff]
  rfl

theorem loadIsZero_iff {c : Crane} : s.loadIsZero c = true ↔ ∃ k, (s.craneRec c).contents = some k ∧ k.load = some 0 := by
  unfold State.loadIsZero
  split <;> simp [*]

theorem unrestricted_iff : s.unrestricted q = true ↔
    s.restriction q = .unrestricted ∨ s.restriction q = .noLoad ∧ s.loadIsZero q.crane = true := by
  unfold State.unrestricted State.bears
  cases s.restriction q <;> simp

/-! ### Partners (R1) -/

theorem other_iff {r : Pair} {o : CellId} (apart : o.crane ≠ q.crane) :
    r.other q = some o ↔ r.lo = q ∧ r.hi = o ∨ r.hi = q ∧ r.lo = o := by
  unfold Pair.other
  split
  · rename_i lo
    simp only [Option.some.injEq]
    grind
  · split <;> grind

theorem mem_partnersOf {p : Plan} {k : PairKind} {o : CellId} : (k, o) ∈ p.partners q ↔
    ∃ r ∈ p.pairs, r.kind = k ∧ (r.lo = q ∧ r.hi = o ∨ r.hi = q ∧ r.lo = o) ∧ o.crane ≠ q.crane := by
  refine (mem_partners p q k o).trans (exists_congr (fun r => and_congr_right (fun _ => ?_)))
  rw [← and_assoc, and_comm]

theorem partners_append {p : Plan} {a b : List Pair} (split : p.pairs = a ++ b) :
    p.partners q = ({ p with pairs := a } : Plan).partners q ++ ({ p with pairs := b } : Plan).partners q := by
  unfold Plan.partners
  rw [split, List.filterMap_append]

/-! ### Blocking and reservation (R54, R55) -/

theorem blocks_struct : s.blocks (.struct, q) = true ↔ (s.cell q).state ≠ .free := by
  unfold State.blocks blocksUnder
  cases (s.cell q).state <;> simp

theorem blocks_hook : s.blocks (.hook, q) = true ↔
    (s.cell q).state = .held ∨ (s.cell q).state = .clearing ∨ (s.cell q).state = .seized := by
  unfold State.blocks blocksUnder
  cases (s.cell q).state <;> simp

theorem running_iff {b : Booking} : b.running = true ↔ b.state = .active ∨ ∃ rs, b.state = .suspended rs := by
  unfold Booking.running
  split <;> simp [*]

theorem onRunningPath_iff : s.onRunningPath q = true ↔
    ∃ b ∈ s.bookings, b.crane = q.crane ∧ (b.state = .active ∨ ∃ rs, b.state = .suspended rs) ∧ q.sector ∈ b.data.path := by
  simp only [State.onRunningPath, List.any_eq_true, Bool.and_eq_true, running_iff, decide_eq_true_iff]
  exact exists_congr (fun b => by grind)

theorem blocked_iff : s.blocked q = true ↔
    ∃ p ∈ s.plan.committed.pairs, ∃ o : CellId,
      (p.lo = q ∧ p.hi = o ∨ p.hi = q ∧ p.lo = o) ∧ o.crane ≠ q.crane ∧ s.blocks (p.kind, o) = true := by
  simp only [State.blocked, List.any_eq_true, Prod.exists, State.partners, mem_partnersOf]
  grind

theorem reserved_iff : s.reserved q = true ↔
    ∃ p ∈ s.plan.committed.pairs, ∃ o : CellId,
      (p.lo = q ∧ p.hi = o ∨ p.hi = q ∧ p.lo = o) ∧ o.crane ≠ q.crane ∧ s.onRunningPath o = true := by
  simp only [State.reserved, List.any_eq_true, Prod.exists, State.partners, mem_partnersOf]
  grind

theorem underLimit_iff {c : Crane} : s.underLimit c = true ↔ s.heldCount c < 4 := decide_eq_true_iff

theorem grantTest_iff : s.grantTest q = true ↔
    (s.cell q).state ≠ .held ∧ s.blocked q = false ∧ s.reserved q = false ∧ s.underLimit q.crane = true ∧
      s.unrestricted q = true := by
  simp [State.grantTest, and_assoc]

end Sys2Proof.Machine

open Sys2Proof Sys2Proof.Machine

/-- Settles O20: the grant test condition by condition, and what each condition reads. -/
theorem grantTestConditions : Obligations.GrantTestConditions := by
  unfold Obligations.GrantTestConditions
  refine ⟨fun s q => ?_, fun s q => ?_, fun s q => ?_, fun p q t => ?_,
    ⟨fun p q => ⟨fun k o => mem_partnersOf, fun a b => partners_append⟩, fun s q => ⟨rfl, rfl, blocks_struct, blocks_hook,
      onRunningPath_iff, fun x st => mem_sectorsIn, rfl, underLimit_iff, unrestricted_iff, loadIsZero_iff⟩⟩⟩
  · rw [grantTest_iff, underLimit_iff, unrestricted_iff, loadIsZero_iff]
    cases s.restriction q <;> simp [State.heldCount, State.sectorsIn]
  · rw [blocked_iff]
    refine exists_congr (fun p => and_congr_right (fun _ => exists_congr (fun o => and_congr_right (fun _ =>
      and_congr_right (fun _ => ?_)))))
    cases kind : p.kind with
    | struct => simp [blocks_struct]
    | hook => simp [blocks_hook]
  · rw [reserved_iff]
    refine exists_congr (fun p => ?_)
    simp only [onRunningPath_iff]
    grind
  · intro r d within
    refine ⟨restrictionAt_plain, fun x ref => ?_⟩
    rw [restrictionAt_scheduled ref]
    refine ⟨fun undefined => ?_, fun k defined => ⟨fun inside => ?_, fun outside => ?_⟩⟩
    · rw [undefined]
      rfl
    · rw [defined, if_pos (scheduleMatches_iff.mpr inside)]
    · rw [defined, if_neg ((not_congr scheduleMatches_iff).mpr outside)]
end

section
/-!
PROOF. The change of cells (R52), how a cell begins clearing (R62), and the follow-ups (R53).
-/
namespace Sys2Proof.Machine

variable {s : State} {q : CellId}

/-! ### One change (R52) -/

theorem mem_changesOf {rs : List CellReq} {d : Change} : d ∈ s.changesOf rs ↔
    d.old = (s.cell d.cell).state ∧ d.old ≠ d.new ∧ ∃ r ∈ rs, r.cell = d.cell ∧ r.goal = d.new := by
  obtain ⟨cell, old, new⟩ := d
  simp only [State.changesOf, List.mem_filterMap]
  constructor
  · rintro ⟨r, hr, made⟩
    split at made
    · exact nomatch made
    · rename_i other
      cases made
      exact ⟨rfl, other, r, hr, rfl, rfl⟩
  · rintro ⟨rfl, other, r, hr, rfl, rfl⟩
    exact ⟨r, hr, if_neg other⟩

theorem changeCell_same {r : CellReq} (same : (s.cell r.cell).state = r.goal) : s.changeCell r = s := if_pos same

theorem changeCell_other {r : CellReq} (other : (s.cell r.cell).state ≠ r.goal) :
    s.changeCell r = s.setCell r.cell (s.changedCell r) := if_neg other

theorem changesOf_one {r : CellReq} (other : (s.cell r.cell).state ≠ r.goal) :
    s.changesOf [r] = [⟨r.cell, (s.cell r.cell).state, r.goal⟩] := by
  simp [State.changesOf, other]

theorem convert_one {r : CellReq} (other : (s.cell r.cell).state ≠ r.goal) :
    s.convert [r] = (s.changeCell r).follow [⟨r.cell, (s.cell r.cell).state, r.goal⟩] := by
  rw [State.convert, changesOf_one other]
  rfl

/-! ### The clearing test (R62) -/

/-- The partner stands against clearing. -/
def State.stands (s : State) (p : PairKind × CellId) : Prop :=
  match p.1, (s.cell p.2).state with
  | .struct, st => st = .held ∨ st = .clearing ∨ st = .vane ∨ st = .parked
  | .hook, st => st = .held ∨ st = .clearing

theorem clearingTest_iff : s.clearingTest q = true ↔ (∀ p ∈ s.partners q, ¬ s.stands p) ∧ s.reserved q = false := by
  simp only [State.clearingTest, Bool.and_eq_true, Bool.not_eq_true', List.any_eq_false, Bool.not_eq_true]
  refine and_congr_left fun _ => forall_congr' fun p => imp_congr_right fun _ => ?_
  unfold State.stands
  cases p.1 <;> cases (s.cell p.2).state <;> simp

theorem beginClearing_passes (test : s.clearingTest q = true) (time : 0 < s.plan.committed.site.dead) :
    s.beginClearing q = ⟨q, .clearing, .keep⟩ := by
  have time' : decide (0 < s.params.dead) = true := decide_eq_true time
  rw [State.beginClearing, test, time']
  rfl

theorem beginClearing_fails (h : s.clearingTest q ≠ true ∨ s.plan.committed.site.dead = 0) :
    s.beginClearing q = ⟨q, .free, .keep⟩ := by
  rw [State.beginClearing, if_neg]
  rw [Bool.and_eq_true, decide_eq_true_iff, State.params]
  rintro ⟨test, time⟩
  exact h.elim (fun no => no test) (fun zero => by omega)

/-! ### The follow-ups (R53) -/

theorem ownAndSeized_eq (s : State) (chg : List Change) :
    s.ownAndSeized chg =
      (chg.filter (fun d => decide (d.old = .seized))).foldl (fun u d => u.seizureEnded d.cell)
        (chg.foldl (fun u d => u.reviewOffPath d.cell.crane)
          ((chg.filter (fun d => decide (d.old = .held))).foldl (fun u d => u.dropRestricted d.cell) s)) := by
  simp only [List.foldl_filter, decide_eq_true_iff]
  rfl

theorem wakesVane_iff {d : Change} : d.wakesVane = true ↔
    (d.old = .held ∨ d.old = .clearing ∨ d.old = .seized ∨ d.old = .parked) ∧ (d.new = .free ∨ d.new = .vane) := by
  unfold Change.wakesVane
  cases d.old <;> cases d.new <;> simp

theorem wakesWalk_iff {d : Change} : d.wakesWalk = true ↔ d.new = .free ∨ d.old = .seized := by
  simp [Change.wakesWalk]

theorem dropRestricted_eq (s : State) (q : CellId) :
    s.dropRestricted q =
      if !(tget s.restricted q.crane).isEmpty && (setDel q.sector (tget s.restricted q.crane)).isEmpty then
        (s.setRestricted q.crane (setDel q.sector (tget s.restricted q.crane))).withdraw .restricted q.crane
      else s.setRestricted q.crane (setDel q.sector (tget s.restricted q.crane)) := rfl

theorem recheckN_succ (n : Nat) (s : State) :
    recheckN (n + 1) s = allCranes.foldl (fun u c =>
      if u.inState c .vaneWait = true ∧ u.vanePermitted c = true then releaseVaneWith (recheckN n) u c else u) s := by
  rw [recheckN]
  congr 1
  funext u c
  simp only [recheckOne, Bool.and_eq_true]

end Sys2Proof.Machine

open Sys2Proof Sys2Proof.Machine

/-- Settles O21: one change of a cell, the clearing test, then the follow-ups in their order. -/
theorem cellChangeWritten : Obligations.CellChangeWritten := by
  unfold Obligations.CellChangeWritten
  refine ⟨⟨fun s rs => ⟨rfl, fun d => mem_changesOf⟩, fun s r => ⟨changeCell_same, fun other => ?_⟩⟩, fun s q => ?_,
    fun s chg => ?_, fun _ _ => rfl, fun s q => ⟨setDel q.sector (tget s.restricted q.crane), List.filter_sublist, fun x => ?_, ?_⟩,
    fun s => ⟨rfl, rfl, fun n => recheckN_succ n s⟩⟩
  · rw [changeCell_other other]
    refine ⟨(cell_setCell s r.cell r.cell _).trans (if_pos rfl), fun q away => (cell_setCell s r.cell q _).trans (if_neg away.symm),
      touches_setCell s r.cell _⟩
  · intro stands passes
    have test : s.clearingTest q = true ↔ passes := clearingTest_iff
    refine ⟨fun pass time => beginClearing_passes (test.mpr pass) time, fun fails => beginClearing_fails (fails.imp_left (not_congr test).mpr)⟩
  · intro a b e wakes walks
    have wakesVane : chg.any Change.wakesVane = true ↔ wakes := by
      simp only [List.any_eq_true, wakesVane_iff]
      rfl
    have wakesWalk : chg.any Change.wakesWalk = true ↔ walks := by
      simp only [List.any_eq_true, wakesWalk_iff]
      rfl
    have own : s.ownAndSeized chg = e := ownAndSeized_eq s chg
    refine ⟨own, fun recheck => ⟨fun h => ?_, fun h => ?_, fun h => if_pos (wakesWalk.mpr h), fun h => if_neg ((not_congr wakesWalk).mpr h)⟩⟩
    · rw [← own]
      exact if_pos (wakesVane.mpr h)
    · rw [← own]
      exact if_neg ((not_congr wakesVane).mpr h)
  · simp [setDel]
  · refine ⟨fun none some => ?_, fun keeps => ?_⟩
    · rw [dropRestricted_eq, if_pos (by simp [none, some])]
    · rw [dropRestricted_eq, if_neg (by
        simp only [Bool.and_eq_true, Bool.not_eq_true', List.isEmpty_iff, List.isEmpty_eq_false_iff]
        grind)]
end

section
/-!
PROOF. The machine right after reset: every record at its power-on value, from which all the laws follow.
-/
namespace Sys2Proof.Machine

section
variable (c : Crane) (q : CellId)

@[simp] theorem reset_link : State.reset.link c = Channel.initial := tget_tconst _ c
@[simp] theorem reset_craneRec : State.reset.craneRec c = CraneRec.initial := tget_tconst _ c
@[simp] theorem reset_windRec : State.reset.windRec c = WindRec.initial := tget_tconst _ c
@[simp] theorem reset_svc : State.reset.svc c = ServiceRec.initial := tget_tconst _ c
@[simp] theorem reset_stopSet : State.reset.stopSet c = [] := tget_tconst _ c
@[simp] theorem reset_restricted : tget State.reset.restricted c = [] := tget_tconst _ c
@[simp] theorem reset_occupied : tget State.reset.occupied c = none := tget_tconst _ c
@[simp] theorem reset_lastConf : tget State.reset.lastConf c = none := tget_tconst _ c

@[simp] theorem reset_cell : State.reset.cell q = Cell.initial := by
  simp [State.cell, State.reset]

@[simp] theorem empty_entry : Plan.empty.entry c = CraneEntry.empty := tget_tconst _ c

theorem empty_rule (x : Sector) : tget (tget Plan.empty.cells c) x = ⟨.unrestricted, none⟩ := by
  simp [Plan.empty]

theorem reset_absent : State.reset.present c = false := congrArg CraneEntry.present (empty_entry c)

theorem reset_sectorsIn (k : CellState) (other : k ≠ .free) : State.reset.sectorsIn c k = [] := by
  refine List.filter_eq_nil_iff.mpr (fun x _ => ?_)
  simpa [Cell.initial] using other.symm

end

theorem empty_safe : Plan.empty.vaneSafe := fun _ none => nomatch none

/-! ### The alert records -/

/-- PLAN_FAULT alone is latched. -/
theorem reset_latch (k : AlertKind) : (State.reset.alert k).latch = if k = .planFault then some 0 else none := by
  cases k <;> rfl

theorem reset_alertCranes (k : AlertKind) : (State.reset.alert k).cranes = [] := by cases k <;> rfl

theorem reset_mode (k : AlertKind) :
    (State.reset.alert k).mode = match AlertKind.slot k with | some j => tget Plan.defaultModes j | none => .stop := by
  cases k <;> rfl

theorem reset_sirenDue : State.reset.sirenDue = false := rfl

/-! ### The laws -/

theorem serviceLaw_reset : ServiceLaw State.reset where
  working := nofun
  withheld c h := nomatch (congrArg ServiceRec.withheld (reset_svc c)).symm.trans h
  setup _ c := .inl (congrArg ServiceRec.state (reset_svc c))
  standby _ _ := rfl
  absent c _ := by simp [ServiceRec.initial, CraneRec.initial]
  vane c h := by simp [ServiceRec.initial] at h

theorem vaneLaw_reset : VaneLaw State.reset where
  cells q h := by simp [Cell.initial] at h
  released c h := by simp [ServiceRec.initial] at h
  committed := empty_safe
  stored := nofun

theorem grantLaw_reset : GrantLaw State.reset where
  struct_ q _ member := nomatch member
  hook q _ member := nomatch member
  limit c := by simp [State.heldCount, reset_sectorsIn]
  paths _ _ := rfl

theorem registerLaw_reset : RegisterLaw State.reset where
  seized := nofun
  partners := nofun
  once := List.nodup_nil
  conflict c := iff_of_false ((reset_alertCranes _).symm ▸ List.not_mem_nil) Bool.false_ne_true
  intrusion c := by simp [reset_alertCranes, Cell.initial]

theorem reset_bookings (P : Booking → Prop) : ∀ b ∈ State.reset.bookings, P b := List.forall_mem_nil P

theorem runningLaw_reset : RunningLaw State.reset where
  one := reset_bookings _
  apart := reset_bookings _
  service := reset_bookings _
  storm := reset_bookings _
  lost := reset_bookings _
  stopped := reset_bookings _
  wind := reset_bookings _

theorem waitLaw_reset : WaitLaw State.reset :=
  ⟨Nat.zero_le _, fun _ => Nat.zero_le _, List.nodup_nil, nofun⟩

theorem tableLaw_reset : TableLaw State.reset :=
  ⟨Nat.zero_le _, .nil, reset_bookings _, by decide, fun _ => Nat.zero_le _, reset_bookings _⟩

theorem lineLaw_reset : LineLaw State.reset where
  alert _ := rfl
  quiet _ _ := ⟨rfl, rfl⟩
  steady _ due := nomatch due
  pulsed _ due := nomatch due

theorem timeLaw_reset : TimeLaw State.reset := ⟨Nat.zero_le _, nofun⟩

theorem presenceLaw_reset : PresenceLaw State.reset := fun c => by
  simp [CraneRec.initial, ServiceRec.initial]

end Sys2Proof.Machine

open Sys2Proof Sys2Proof.Machine

/-- Settles O60: the values after reset, record by record, and the laws they keep. -/
theorem resetKeepsTheLaws : Obligations.ResetKeepsTheLaws := by
  unfold Obligations.ResetKeepsTheLaws
  refine ⟨⟨fun c => (reset_windRec c).symm ▸ windInitial_lawful, fun c => ?queue, waitLaw_reset, tableLaw_reset, presenceLaw_reset,
      lineLaw_reset, fun q => ?cell, ⟨fun _ => rfl, rfl⟩, timeLaw_reset, reset_mode, serviceLaw_reset,
      ⟨fun _ q => congrArg Cell.state (reset_cell q), fun _ => rfl, fun _ => reset_bookings _⟩, vaneLaw_reset, grantLaw_reset, registerLaw_reset,
      runningLaw_reset⟩,
    ⟨?plans, rfl, rfl, rfl, rfl, rfl⟩, ⟨rfl, rfl, rfl, rfl, rfl, rfl⟩, fun c => ?crane, reset_cell, ⟨rfl, ?stop, ?warn, ?quiet⟩,
    rfl, rfl, rfl, rfl⟩
  case queue => simp [Channel.initial]
  case cell => simp [Cell.initial]
  case plans =>
    rintro p either
    obtain rfl : p = Plan.empty := by rcases either with rfl | rfl <;> rfl
    exact ⟨fun c => ⟨empty_entry c, tget_tconst _ c, empty_rule c⟩, rfl, fun k => tget_tconst _ k, rfl, rfl⟩
  case crane =>
    exact ⟨reset_absent c, reset_link c, reset_craneRec c, reset_restricted c, reset_occupied c, reset_stopSet c, reset_lastConf c,
      reset_windRec c, congrArg WindRec.gust (reset_windRec c), congrArg WindRec.mean (reset_windRec c), reset_svc c⟩
  case stop | warn | quiet =>
    intro k member
    revert k
    decide
end

section
/-!
PROOF. The lookups of the supervisor (R49, R71, R81, R94, R111, R130, R168), the identity and the clock, and the fields on the wire.
-/
namespace Sys2Proof.Machine

variable {s : State} {c : Crane}

/-! ### A lookup reads no part of the port -/

section
variable (s) (p : Port)

theorem siteReading_withPort : siteReading (s.withPort p) = siteReading s := rfl
theorem craneReading_withPort : craneReading c (s.withPort p) = craneReading c s := rfl
theorem cellsReading_withPort : cellsReading c (s.withPort p) = cellsReading c s := rfl
theorem waitsReading_withPort : waitsReading (s.withPort p) = waitsReading s := rfl
theorem conformanceReading_withPort : conformanceReading c (s.withPort p) = conformanceReading c s := rfl
theorem windReading_withPort : windReading c (s.withPort p) = windReading c s := rfl
theorem alertsReading_withPort : alertsReading (s.withPort p) = alertsReading s := rfl

end

/-- A lookup that reads no port answers from the state as it stands. -/
theorem lookup_answers (on : s.running = true) {i : Instr} {look : State → Answer} {a : Answer}
    (command : exec i s = s.supervised i (looking look)) (plain : ∀ p, look (s.withPort p) = look s) (read : look s = a) :
    exec i s = .next ((s.asked i).replied i a) := by
  rw [lookup_eq on command, ← read]
  exact congrArg _ (congrArg _ (plain _))

theorem ofCrane_some {n : Nat} (look : Crane → State → Answer) (place : craneOf n = some c) : ofCrane n look s = look c s := by
  rw [ofCrane, place]

theorem ofCrane_none {n : Nat} (look : Crane → State → Answer) (far : 8 ≤ n) : ofCrane n look s = answer .badValue := by
  rw [ofCrane, craneOf_none far]

/-- The lookups of one crane. -/
theorem craneLookup_answers (on : s.running = true) {i : Instr} {n : Nat} {look : Crane → State → Answer} {a : Answer}
    (command : exec i s = s.supervised i (looking (ofCrane n look))) (plain : ∀ c p, look c (s.withPort p) = look c s)
    (read : (craneOf n).map (fun c => look c s) = some a) : exec i s = .next ((s.asked i).replied i a) := by
  obtain ⟨c, place, rfl⟩ := Option.map_eq_some_iff.mp read
  exact lookup_answers on command (fun p => by rw [ofCrane_some look place, ofCrane_some look place, plain])
    (ofCrane_some look place)

theorem craneLookup_far (on : s.running = true) {i : Instr} {n : Nat} {look : Crane → State → Answer}
    (command : exec i s = s.supervised i (looking (ofCrane n look))) (far : 8 ≤ n) :
    exec i s = .next ((s.asked i).replied i (answer .badValue)) :=
  lookup_answers on command (fun p => by rw [ofCrane_none look far, ofCrane_none look far]) (ofCrane_none look far)

theorem lookupAnswer_answers (on : s.running = true) {i : Instr} {a : Answer} (h : lookupAnswer s i = some a) :
    exec i s = .next ((s.asked i).replied i a) := by
  have plain {look : State → Answer} (command : exec i s = s.supervised i (looking look))
      (keeps : ∀ p, look (s.withPort p) = look s) (read : some (look s) = some a) := lookup_answers on command keeps (Option.some.inj read)
  cases i
  case identify => exact plain rfl (fun _ => rfl) h
  case readClock => exact plain rfl (fun _ => rfl) h
  case planRead => exact plain rfl (fun _ => rfl) h
  case querySite => exact plain rfl (siteReading_withPort s) h
  case queryCrane => exact craneLookup_answers on rfl (fun _ => craneReading_withPort s) h
  case queryCells => exact craneLookup_answers on rfl (fun _ => cellsReading_withPort s) h
  case queryWaits => exact plain rfl (waitsReading_withPort s) h
  case queryConformance => exact craneLookup_answers on rfl (fun _ => conformanceReading_withPort s) h
  case queryWind => exact craneLookup_answers on rfl (fun _ => windReading_withPort s) h
  case queryAlerts => exact plain rfl (alertsReading_withPort s) h
  all_goals exact nomatch h

/-! ### QUERY_SITE (R130) -/

/-- The STRUCT pair joins a cell of the crane to another crane's cell that is HELD, CLEARING, SEIZED or PARKED. -/
def State.holdsBack (s : State) (c : Crane) (p : Pair) : Prop :=
  p.kind = .struct ∧ ∃ o : CellId, (p.lo.crane = c ∧ p.hi = o ∨ p.hi.crane = c ∧ p.lo = o) ∧ o.crane ≠ c ∧
    ((s.cell o).state = .held ∨ (s.cell o).state = .clearing ∨ (s.cell o).state = .seized ∨ (s.cell o).state = .parked)

theorem holdsVane_iff {k : PairKind} {o : CellId} : s.holdsVane (k, o) = true ↔
    k = .struct ∧ ((s.cell o).state = .held ∨ (s.cell o).state = .clearing ∨ (s.cell o).state = .seized ∨
      (s.cell o).state = .parked) := by
  unfold State.holdsVane
  cases (s.cell o).state <;> simp

theorem withholds_iff {p : Pair} : s.withholds c p = true ↔ s.holdsBack c p := by
  have one (x : Sector) : (match p.other ⟨c, x⟩ with
      | some o => decide (o.crane ≠ c) && s.holdsVane (p.kind, o)
      | none => false) = true ↔
        ∃ o : CellId, (p.lo = ⟨c, x⟩ ∧ p.hi = o ∨ p.hi = ⟨c, x⟩ ∧ p.lo = o) ∧ o.crane ≠ c ∧ s.holdsVane (p.kind, o) = true := by
    constructor
    · intro h
      split at h
      case h_1 o eq =>
        obtain ⟨apart, holds⟩ := (Bool.and_eq_true ..).mp h
        have apart : o.crane ≠ c := of_decide_eq_true apart
        exact ⟨o, (other_iff apart).mp eq, apart, holds⟩
      case h_2 => exact nomatch h
    · rintro ⟨o, ends, apart, holds⟩
      rw [(other_iff (q := ⟨c, x⟩) apart).mpr ends]
      simp [apart, holds]
  simp only [State.withholds, List.any_eq_true, mem_allSectors, true_and]
  refine (exists_congr one).trans ?_
  simp only [holdsVane_iff, State.holdsBack]
  constructor
  · rintro ⟨x, o, ends, apart, kind, held⟩
    exact ⟨kind, o, ends.imp (fun e => ⟨congrArg CellId.crane e.1, e.2⟩) (fun e => ⟨congrArg CellId.crane e.1, e.2⟩), apart, held⟩
  · rintro ⟨kind, o, ⟨rfl, rfl⟩ | ⟨rfl, rfl⟩, apart, held⟩
    · exact ⟨p.lo.sector, _, .inl ⟨rfl, rfl⟩, apart, kind, held⟩
    · exact ⟨p.hi.sector, _, .inr ⟨rfl, rfl⟩, apart, kind, held⟩

/-- A release is permitted when no pair holds it back. -/
theorem vanePermitted_iff_holdsBack : s.vanePermitted c = true ↔ ∀ p ∈ s.plan.committed.pairs, ¬ s.holdsBack c p := by
  simp only [State.vanePermitted, List.all_eq_true, mem_allSectors, true_imp_iff, Bool.not_eq_true', List.any_eq_false, Prod.forall,
    State.partners, mem_partnersOf, holdsVane_iff, State.holdsBack]
  constructor
  · rintro none p member ⟨kind, o, ends, apart, held⟩
    rcases ends with ⟨rfl, rfl⟩ | ⟨rfl, rfl⟩
    · exact none p.lo.sector .struct p.hi ⟨p, member, kind, .inl ⟨rfl, rfl⟩, apart⟩ ⟨rfl, held⟩
    · exact none p.hi.sector .struct p.lo ⟨p, member, kind, .inr ⟨rfl, rfl⟩, apart⟩ ⟨rfl, held⟩
  · rintro none x k o ⟨p, member, rfl, ends, apart⟩ ⟨kind, held⟩
    exact none p member ⟨kind, o, ends.imp (fun e => ⟨congrArg CellId.crane e.1, e.2⟩) (fun e => ⟨congrArg CellId.crane e.1, e.2⟩),
      apart, held⟩

theorem withholdingPair_first {before after : List Pair} {p : Pair} (pairs : s.plan.committed.pairs = before ++ p :: after)
    (holds : s.holdsBack c p) (first : ∀ q ∈ before, ¬ s.holdsBack c q) : s.withholdingPair c = some p := by
  have none : before.find? (s.withholds c) = none :=
    List.find?_eq_none.mpr (fun q member held => first q member (withholds_iff.mp held))
  rw [State.withholdingPair, pairs, List.find?_append, none, Option.none_or, List.find?_cons_of_pos (withholds_iff.mpr holds)]

section
variable (c)

theorem vaneFields_away (away : (s.svc c).lost = true ∨ (s.svc c).state ≠ .vaneWait) :
    s.vaneFields c = [f1 255, f1 255, f1 255] := by
  rw [State.vaneFields, if_neg]
  · rfl
  · simp only [inState_iff]
    rcases away with lost | other <;> simp [*]

theorem vaneFields_permitted (here : s.inState c .vaneWait = true) (permitted : s.vanePermitted c = true) :
    s.vaneFields c = [f1 1, f1 255, f1 255] := by
  rw [State.vaneFields, if_pos here, permitted]
  rfl

theorem vaneFields_withheld {p : Pair} (here : s.inState c .vaneWait = true) (withheld : s.vanePermitted c = false)
    (pair : s.withholdingPair c = some p) : s.vaneFields c = [f1 0, f1 p.lo.number, f1 p.hi.number] := by
  rw [State.vaneFields, if_pos here, withheld, pair]
  rfl

theorem readinessFields_of {r : Readiness} (here : s.inState c .securing = true) (read : (s.svc c).readiness = some r) :
    s.readinessFields c = [fFlag r.loadLanded, fFlag r.securedAtRest, fFlag r.noLift, fFlag r.inPark] := by
  rw [State.readinessFields, if_pos here, read]
  rfl

theorem readinessFields_none (h : (s.svc c).lost = true ∨ (s.svc c).state ≠ .securing ∨ (s.svc c).readiness = none) :
    s.readinessFields c = [f1 255, f1 255, f1 255, f1 255] := by
  have none : (if s.inState c .securing then (s.svc c).readiness else none) = none := by
    split
    case isTrue here =>
      obtain ⟨present, securing⟩ := inState_iff.mp here
      rcases h with lost | other | none
      · exact nomatch present.symm.trans lost
      · exact absurd securing other
      · exact none
    case isFalse => rfl
  rw [State.readinessFields, none]
  rfl

/-- A LOST crane's state byte is 6, and the state it remembers comes after. -/
theorem siteCraneFields_eq : s.siteCraneFields c =
    [fFlag (s.present c), f1 (s.entry c).vane.code, f1 (if (s.svc c).lost = true then 6 else (s.svc c).state.code),
      f1 (if (s.svc c).lost = true then (s.svc c).state.code else 255), f1 (s.svc c).order.code, f1 (s.standingOrder c).code,
      fFlag (s.svc c).withheld, s.fRemaining (s.svc c).timer] ++ s.readinessFields c ++ s.vaneFields c := by
  unfold State.siteCraneFields ServiceRec.code
  dsimp only
  cases (s.svc c).lost <;> rfl

end

theorem siteReading_eq : siteReading s = okWith ([f1 s.site.code, fFlag (s.alert .storm).flag] ++ allCranes.flatMap (fun c =>
    [fFlag (s.present c), f1 (s.entry c).vane.code, f1 (if (s.svc c).lost = true then 6 else (s.svc c).state.code),
      f1 (if (s.svc c).lost = true then (s.svc c).state.code else 255), f1 (s.svc c).order.code, f1 (s.standingOrder c).code,
      fFlag (s.svc c).withheld, s.fRemaining (s.svc c).timer] ++ s.readinessFields c ++ s.vaneFields c)) := by
  rw [siteReading, funext siteCraneFields_eq]

/-! ### QUERY_WAITS (R81), QUERY_CONFORMANCE (R94), QUERY_WIND (R111) -/

theorem unrestricted_eq (q : CellId) :
    s.unrestricted q = decide (s.restriction q ≠ .barred ∧ (s.restriction q = .noLoad → s.loadIsZero q.crane = true)) := by
  refine Bool.eq_iff_iff.mpr (unrestricted_iff.trans ?_)
  cases s.restriction q <;> simp

theorem waitFields_eq (w : Wait) : s.waitFields w =
    [f1 w.crane.val, f1 w.sector.val, f6 w.arrival, f4 (w.deadline - s.clock.mono), fFlag (!s.blocked ⟨w.crane, w.sector⟩),
      fFlag (!s.reserved ⟨w.crane, w.sector⟩), fFlag (decide (s.heldCount w.crane < 4)),
      fFlag (decide (s.restriction ⟨w.crane, w.sector⟩ ≠ .barred ∧
        (s.restriction ⟨w.crane, w.sector⟩ = .noLoad → s.loadIsZero w.crane = true)))] := by
  unfold State.waitFields
  dsimp only
  rw [unrestricted_eq]
  rfl

theorem partnersOf_eq (q : CellId) :
    s.partnersOf q = ((s.register.find? (fun e => decide (e.cell = q))).map RegEntry.partners).getD [] := by
  unfold State.partnersOf
  cases s.register.find? (fun e => decide (e.cell = q)) <;> rfl

theorem windReading_eq (c : Crane) : windReading c s =
    let r := s.windRec c
    let e := s.entry c
    let lift := match s.runningLift c with
      | some b => [f2 b.id, f1 b.data.cls.code, f1 (r.verdict e b.data.cls).code]
      | none => [f2 0, f1 255, f1 255]
    okWith
      ([fFlag r.heard, fFlag r.unknown, f1 r.state.code, f1 r.window.length] ++ r.window.map f2 ++
        [f2 r.gust, f4 r.acc, f2 r.mean, f1 (s.craneRec c).noReading, fOpt 1 (r.dwell.map (fun d => d.step.code)),
          s.fRemaining (r.dwell.map Dwell.ends), f2 e.lw, f2 e.sw, f2 e.mw, f2 e.hw, f2 e.cw, f2 (figure e.sw e.hw),
          f2 (figure e.lw e.hw), f2 (figure e.cw e.hw)] ++
        limitFields e .a0 ++ limitFields e .a1 ++ limitFields e .a2 ++ limitFields e .a3 ++ lift) := by
  unfold windReading State.liftVerdict
  cases s.runningLift c <;> rfl

/-! ### Fields on the wire (Table 12-1) -/

theorem fieldBytes_append (fs gs : List Field) : fieldBytes (fs ++ gs) = fieldBytes fs ++ fieldBytes gs :=
  List.flatMap_append

theorem fieldBytes_one (f : Field) : fieldBytes [f] = leBytes f.width f.value := List.append_nil _

theorem fieldBytes_cons (f : Field) (fs : List Field) : fieldBytes (f :: fs) = leBytes f.width f.value ++ fieldBytes fs := rfl

theorem flag_bytes (b : Bool) : leBytes 1 (flag b) = [if b then 1#8 else 0#8] := by cases b <;> rfl

theorem identity_bytes : fieldBytes (identity s).fields =
    [0x61#8, 0x2B#8, 0xE8#8, 0x08#8, 1#8, 8#8, 16#8, 0x00#8, 0x04#8, 8#8, 8#8, 4#8, 16#8, 2#8, 64#8, 16#8, 8#8, 240#8,
      0x60#8, 0x27#8, 60#8, 250#8, 0#8, 0xD0#8, 0x07#8, 0x10#8, 0x27#8, 3#8, 6#8, 0x90#8, 0x01#8, 60#8] ++
      leBytes 2 s.plan.edition ++ leBytes 4 s.plan.stamp ++ [if s.clock.isSet then 1#8 else 0#8] := by
  rw [← flag_bytes]
  rfl

theorem clockReading_bytes : fieldBytes (clockReading s).fields =
    leBytes 4 s.clock.site ++ (leBytes 4 s.minute ++ (leBytes 2 (minuteOfDay s.minute) ++ (leBytes 1 (weekday s.minute) ++
      ([if s.clock.isSet then 1#8 else 0#8] ++ (fieldBytes (recordFields s.clock.record) ++ leBytes 6 s.clock.mono))))) := by
  have last : leBytes 6 s.clock.mono = fieldBytes [f6 s.clock.mono] := (fieldBytes_one (f6 s.clock.mono)).symm
  rw [← flag_bytes, last, ← fieldBytes_append]
  rfl

theorem maskOf_testBit (bits : List Nat) (n : Nat) : (maskOf bits).testBit n = true ↔ n ∈ bits := by
  have folded (acc : Nat) : (bits.foldl (fun m b => m ||| 2 ^ b) acc).testBit n = true ↔ acc.testBit n = true ∨ n ∈ bits := by
    induction bits generalizing acc with
    | nil => simp
    | cons b bits ih => 
      rw [List.foldl_cons, ih, Nat.testBit_or, Nat.testBit_two_pow, List.mem_cons, ← or_assoc, Bool.or_eq_true, decide_eq_true_iff,
        eq_comm (a := b)]
  refine (folded 0).trans ?_
  simp

end Sys2Proof.Machine

open Sys2Proof Sys2Proof.Machine

/-- Settles O50: lookups answer from the records and change the port alone; each reading field by field. -/
theorem lookupsChangeNothing : Obligations.LookupsChangeNothing := by
  unfold Obligations.LookupsChangeNothing
  refine ⟨fun s i on => ⟨fun a => lookupAnswer_answers on, fun n far which => ?far⟩, fun s => ?readings, fun s => ?identity, ?fields,
    ?numbers⟩
  case far =>
    rcases which with rfl | rfl | rfl | rfl
    · exact craneLookup_far on rfl far
    · exact craneLookup_far on rfl far
    · exact craneLookup_far on rfl far
    · exact craneLookup_far on rfl far
  case readings =>
    refine ⟨siteReading_eq, fun c => ⟨fun k present securing read => readinessFields_of c (inState_iff.mpr ⟨present, securing⟩) read,
        readinessFields_none c, vaneFields_away c, fun present waiting => ⟨vaneFields_permitted c (inState_iff.mpr ⟨present, waiting⟩),
          fun before p after pairs holds first => ?_⟩⟩,
      fun c => rfl, fun c => rfl, ?_, fun c => ?_, fun c => ?_, rfl⟩
    · refine vaneFields_withheld c (inState_iff.mpr ⟨present, waiting⟩) (Bool.eq_false_iff.mpr (fun permitted => ?_))
        (withholdingPair_first pairs holds first)
      exact vanePermitted_iff_holdsBack.mp permitted p (by simp [pairs]) holds
    · rw [waitsReading, funext waitFields_eq]
    · unfold conformanceReading
      simp only [partnersOf_eq]
      rfl
    · exact windReading_eq c
  case identity =>
    refine ⟨?_, rfl, rfl, rfl, ?_⟩
    · rw [identity_bytes]
    · rw [clockReading_bytes]
      simp only [List.append_assoc]
      rfl
  case fields =>
    refine ⟨fun _ => rfl, fun _ _ => rfl, fieldBytes_one, fieldBytes_append, fun _ => ⟨rfl, rfl, rfl, rfl⟩,
      fun _ => ⟨fun _ => rfl, rfl⟩, ⟨rfl, rfl, rfl, rfl⟩, fun _ _ => ⟨rfl, rfl, rfl, rfl⟩, fun _ _ _ _ => ⟨rfl, rfl, rfl, rfl⟩,
      maskOf_testBit, fun _ => rfl, fun _ => rfl, fun _ => rfl, fun _ => rfl, fun _ => rfl, fun _ => rfl⟩
  case numbers => refine ⟨rfl, rfl, rfl, rfl, rfl, rfl, rfl, fun _ _ => rfl, rfl, rfl, rfl, rfl, rfl, rfl, rfl, rfl, rfl, rfl, rfl, rfl, rfl, rfl, rfl, rfl, rfl, rfl, rfl, rfl, rfl, rfl, rfl⟩
end

section
/-!
PROOF. The bytes of fields, the CRC and the frames read back: what is written is read as itself, and only that (R32, R169, R172).
-/
namespace Sys2Proof.Machine

/-! ### Bytes of fields -/

section
variable {v : Nat} (a b c d : Byte)

theorem fits_iff {w : Nat} : fits w v = true ↔ v < 256 ^ w := decide_eq_true_iff

theorem toNat_byte (h : fits 1 v = true) : (BitVec.ofNat 8 v).toNat = v := by
  have := fits_iff.mp h
  simp only [BitVec.toNat_ofNat]
  omega

theorem u16_bytes (h : fits 2 v = true) : u16 (BitVec.ofNat 8 v) (BitVec.ofNat 8 (v / 256)) = v := by
  have := fits_iff.mp h
  simp only [u16, BitVec.toNat_ofNat]
  omega

theorem u32_bytes (h : fits 4 v = true) :
    u32 (BitVec.ofNat 8 v) (BitVec.ofNat 8 (v / 256)) (BitVec.ofNat 8 (v / 256 / 256)) (BitVec.ofNat 8 (v / 256 / 256 / 256)) = v := by
  have := fits_iff.mp h
  simp only [u32, u16, BitVec.toNat_ofNat]
  omega

@[simp] theorem byte_toNat : BitVec.ofNat 8 a.toNat = a := by simp

@[simp] theorem leBytes_toNat : leBytes 1 a.toNat = [a] := congrArg (· :: []) (byte_toNat a)

theorem byte_eq_of_mod {n : Nat} (h : n % 256 = a.toNat) : BitVec.ofNat 8 n = a :=
  BitVec.eq_of_toNat_eq ((BitVec.toNat_ofNat n 8).trans h)

@[simp] theorem leBytes_u16 : leBytes 2 (u16 a b) = [a, b] := by
  have := a.isLt
  have := b.isLt
  simp only [leBytes, u16]
  rw [byte_eq_of_mod a (by omega), byte_eq_of_mod b (by omega)]

@[simp] theorem leBytes_u32 : leBytes 4 (u32 a b c d) = [a, b, c, d] := by
  have := a.isLt
  have := b.isLt
  have := c.isLt
  have := d.isLt
  simp only [leBytes, u32, u16]
  rw [byte_eq_of_mod a (by omega), byte_eq_of_mod b (by omega), byte_eq_of_mod c (by omega), byte_eq_of_mod d (by omega)]

@[simp] theorem fits_toNat : fits 1 a.toNat = true := fits_iff.mpr a.isLt

@[simp] theorem fits_u16 : fits 2 (u16 a b) = true := by
  have := a.isLt
  have := b.isLt
  refine fits_iff.mpr ?_
  unfold u16
  omega

@[simp] theorem fits_u32 : fits 4 (u32 a b c d) = true := by
  have := a.isLt
  have := b.isLt
  have := c.isLt
  have := d.isLt
  refine fits_iff.mpr ?_
  unfold u32 u16
  omega

end

theorem leBytes_length (w v : Nat) : (leBytes w v).length = w := by
  induction w generalizing v with
  | zero => rfl
  | succ w ih => exact congrArg (· + 1) (ih _)

theorem leBytes_four (v : Nat) : leBytes 4 v =
    [BitVec.ofNat 8 v, BitVec.ofNat 8 (v / 256), BitVec.ofNat 8 (v / 65536), BitVec.ofNat 8 (v / 16777216)] := by
  simp only [leBytes, Nat.div_div_eq_div_mul]

/-! ### The CRC (R169) -/

theorem crcByte_self (r : Byte) : crcByte r r = 0#8 := by
  rw [crcByte, BitVec.xor_self]
  decide

theorem crc8_append (bytes : List Byte) : crc8 (bytes ++ [crc8 bytes]) = 0#8 := by
  rw [crc8, List.foldl_append]
  exact crcByte_self (crc8 bytes)

/-! ### Frames -/

section
variable {kind : Nat} {payload : List Byte}

theorem frameBytes_length : (frameBytes kind payload).length = payload.length + 3 := by
  simp [frameBytes]

theorem frameBytes_body : (frameBytes kind payload).dropLast.drop 2 = payload := by
  simp only [frameBytes, List.dropLast_concat, List.drop_succ_cons, List.drop_zero]

theorem frameBytes_last : (frameBytes kind payload).getLast? = some (crc8 (frameBytes kind payload).dropLast) := by
  simp only [frameBytes, List.dropLast_concat, List.getLast?_concat]

theorem checkLink_frameBytes (small : kind < 256) : checkLink (frameBytes kind payload) = readLink kind payload := by
  have read : checkLink (frameBytes kind payload) =
      if (frameBytes kind payload).getLast? = some (crc8 (frameBytes kind payload).dropLast) then
        readLink (BitVec.ofNat 8 kind).toNat ((frameBytes kind payload).dropLast.drop 2) else none := rfl
  rw [read, if_pos frameBytes_last, frameBytes_body, toNat_byte (fits_iff.mpr small)]

theorem checkRequest_frameBytes (small : kind < 256) (short : payload.length ≤ 61) :
    checkRequest (frameBytes kind payload) = readRequest kind payload := by
  have len : (BitVec.ofNat 8 payload.length).toNat = payload.length := toNat_byte (fits_iff.mpr (by omega))
  have read : checkRequest (frameBytes kind payload) =
      if (frameBytes kind payload).length ≤ 64 ∧
          (frameBytes kind payload).length = (BitVec.ofNat 8 payload.length).toNat + 3 ∧
          (BitVec.ofNat 8 payload.length).toNat ≤ 61 ∧
          (frameBytes kind payload).getLast? = some (crc8 (frameBytes kind payload).dropLast) then
        readRequest (BitVec.ofNat 8 kind).toNat ((frameBytes kind payload).dropLast.drop 2) else none := rfl
  rw [read, len, if_pos ⟨by rw [frameBytes_length]; omega, frameBytes_length, short, frameBytes_last⟩, frameBytes_body,
    toNat_byte (fits_iff.mpr small)]

/-- The bytes of a good frame are its kind, its length, its payload and its CRC. -/
theorem frameBytes_of_checked {bytes : List Byte} {k len : Byte} {rest : List Byte} (start : bytes = k :: len :: rest)
    (length : bytes.length = len.toNat + 3) (last : bytes.getLast? = some (crc8 bytes.dropLast)) :
    bytes = frameBytes k.toNat (bytes.dropLast.drop 2) := by
  subst start
  have some_left : rest ≠ [] := by
    rintro rfl
    simp at length
  have body : (k :: len :: rest).dropLast = k :: len :: rest.dropLast := by
    rw [List.dropLast_cons_of_ne_nil (List.cons_ne_nil _ _), List.dropLast_cons_of_ne_nil some_left]
  have count : BitVec.ofNat 8 rest.dropLast.length = len := by
    refine byte_eq_of_mod len ?_
    have := len.isLt
    simp only [List.length_cons] at length
    rw [List.length_dropLast]
    omega
  obtain ⟨front, whole⟩ := List.getLast?_eq_some_iff.mp last
  obtain rfl : front = (k :: len :: rest).dropLast := ((congrArg List.dropLast whole).trans List.dropLast_concat).symm
  rw [body] at whole ⊢
  rw [whole, frameBytes, List.drop_succ_cons, List.drop_succ_cons, List.drop_zero, byte_toNat, count]

end

/-! ### Fields of crane frames (Tables 12-4, 12-5) -/

theorem readReport_reportBytes {r : Report} (h : r.wellFormed = true) : readReport (reportBytes r) = some r := by
  simp only [Report.wellFormed, Bool.and_eq_true] at h
  obtain ⟨⟨⟨⟨angle, radius⟩, load⟩, wind⟩, flags⟩ := h
  have read : readReport (reportBytes r) = some
      ⟨u16 (BitVec.ofNat 8 r.angle) (BitVec.ofNat 8 (r.angle / 256)), u16 (BitVec.ofNat 8 r.radius) (BitVec.ofNat 8 (r.radius / 256)),
        u16 (BitVec.ofNat 8 r.load) (BitVec.ofNat 8 (r.load / 256)), u16 (BitVec.ofNat 8 r.wind) (BitVec.ofNat 8 (r.wind / 256)),
        (BitVec.ofNat 8 r.flags).toNat⟩ := rfl
  rw [read, u16_bytes angle, u16_bytes radius, u16_bytes load, u16_bytes wind, toNat_byte flags]

theorem readReport_some {p : List Byte} {r : Report} (h : readReport p = some r) : reportBytes r = p ∧ r.wellFormed = true := by
  unfold readReport at h
  split at h
  · obtain rfl := Option.some.inj h
    simp [reportBytes, Report.wellFormed]
  · exact nomatch h

theorem toNat_bytes {path : List Nat} (h : path.all (fits 1) = true) : path.map (fun x => (BitVec.ofNat 8 x).toNat) = path :=
  (List.map_congr_left (fun _ member => toNat_byte (List.all_eq_true.mp h _ member))).trans (List.map_id' path)

theorem readLift_liftBytes {f : LiftFields} (h : f.wellFormed = true) : readLift (liftBytes f) = some f := by
  simp only [LiftFields.wellFormed, Bool.and_eq_true, decide_eq_true_iff] at h
  obtain ⟨⟨⟨⟨⟨⟨⟨⟨⟨start, length⟩, mass⟩, cls⟩, reach⟩, count⟩, eight⟩, path⟩, present⟩, tag⟩ := h
  obtain ⟨st, le, ma, ac, re, pc, pa, tp, tg⟩ := f
  obtain ⟨p0, p1, p2, p3, p4, p5, p6, p7, rfl⟩ : ∃ p0 p1 p2 p3 p4 p5 p6 p7, pa = [p0, p1, p2, p3, p4, p5, p6, p7] := by
    match pa, eight with
    | [p0, p1, p2, p3, p4, p5, p6, p7], _ => exact ⟨p0, p1, p2, p3, p4, p5, p6, p7, rfl⟩
  have read : readLift (liftBytes ⟨st, le, ma, ac, re, pc, [p0, p1, p2, p3, p4, p5, p6, p7], tp, tg⟩) = some
      ⟨u32 (BitVec.ofNat 8 st) (BitVec.ofNat 8 (st / 256)) (BitVec.ofNat 8 (st / 256 / 256)) (BitVec.ofNat 8 (st / 256 / 256 / 256)),
        (BitVec.ofNat 8 le).toNat, u16 (BitVec.ofNat 8 ma) (BitVec.ofNat 8 (ma / 256)), (BitVec.ofNat 8 ac).toNat,
        u16 (BitVec.ofNat 8 re) (BitVec.ofNat 8 (re / 256)), (BitVec.ofNat 8 pc).toNat,
        [p0, p1, p2, p3, p4, p5, p6, p7].map (fun x => (BitVec.ofNat 8 x).toNat), (BitVec.ofNat 8 tp).toNat,
        u32 (BitVec.ofNat 8 tg) (BitVec.ofNat 8 (tg / 256)) (BitVec.ofNat 8 (tg / 256 / 256))
          (BitVec.ofNat 8 (tg / 256 / 256 / 256))⟩ := rfl
  rw [read, u32_bytes start, toNat_byte length, u16_bytes mass, toNat_byte cls, u16_bytes reach, toNat_byte count, toNat_bytes path,
    toNat_byte present, u32_bytes tag]

theorem readLift_some {p : List Byte} {f : LiftFields} (h : readLift p = some f) : liftBytes f = p ∧ f.wellFormed = true := by
  unfold readLift at h
  split at h
  · obtain rfl := Option.some.inj h
    simp [liftBytes, LiftFields.wellFormed]
  · exact nomatch h

theorem liftBytes_length {f : LiftFields} (h : f.wellFormed = true) : (liftBytes f).length = 24 := by
  simp only [LiftFields.wellFormed, Bool.and_eq_true, decide_eq_true_iff] at h
  obtain ⟨⟨⟨⟨-, eight⟩, -⟩, -⟩, -⟩ := h
  have path : (f.path.flatMap (leBytes 1)).length = 8 := by
    rw [List.length_flatMap, List.map_congr_left (g := fun _ => 1) (fun _ _ => leBytes_length 1 _),
      List.map_const', List.sum_replicate_nat, eight]
  simp only [liftBytes, List.length_append, leBytes_length, path]

theorem reportBytes_length (r : Report) : (reportBytes r).length = 9 := by
  simp only [reportBytes, List.length_append, leBytes_length]

theorem readId_leBytes (mk : Nat → LinkFrame) {id : Nat} (h : fits 2 id = true) : readId mk (leBytes 2 id) = some (mk id) := by
  have read : readId mk (leBytes 2 id) = some (mk (u16 (BitVec.ofNat 8 id) (BitVec.ofNat 8 (id / 256)))) := rfl
  rw [read, u16_bytes h]

theorem readId_some {mk : Nat → LinkFrame} {p : List Byte} {f : LinkFrame} (h : readId mk p = some f) :
    ∃ id, f = mk id ∧ leBytes 2 id = p ∧ fits 2 id = true := by
  unfold readId at h
  split at h
  case h_1 a b => exact ⟨u16 a b, (Option.some.inj h).symm, leBytes_u16 a b, fits_u16 a b⟩
  case h_2 => exact nomatch h

/-! ### Crane frames (Table 12-3) -/

theorem kind_small (f : LinkFrame) : f.kind < 256 := by cases f <;> simp [LinkFrame.kind]

theorem readLink_payload {c : Crane} {f : LinkFrame} (h : (f.command c).wellFormed = true) :
    readLink f.kind f.payload = some f ∧ f.payload.length ≤ 48 := by
  cases f
  case status r | rejoin r =>
    exact ⟨congrArg (Option.map _) (readReport_reportBytes h), Nat.le_trans (Nat.le_of_eq (reportBytes_length r)) (by decide)⟩
  case enter x => exact ⟨congrArg (some <| LinkFrame.enter ·) (toNat_byte h), by simp [LinkFrame.payload, leBytes_length]⟩
  case release x => exact ⟨congrArg (some <| LinkFrame.release ·) (toNat_byte h), by simp [LinkFrame.payload, leBytes_length]⟩
  case proposeLift f =>
    have fields : f.wellFormed = true := ((Bool.and_eq_true ..).mp h).2
    exact ⟨congrArg (Option.map _) (readLift_liftBytes fields), Nat.le_trans (Nat.le_of_eq (liftBytes_length fields)) (by decide)⟩
  case amendLift id f =>
    obtain ⟨small, fields⟩ := (Bool.and_eq_true ..).mp h
    have read : readLink (LinkFrame.amendLift id f).kind (LinkFrame.amendLift id f).payload =
        (readLift (liftBytes f)).map (.amendLift (u16 (BitVec.ofNat 8 id) (BitVec.ofNat 8 (id / 256)))) := rfl
    refine ⟨by rw [read, u16_bytes small, readLift_liftBytes fields]; rfl, ?_⟩
    simp [LinkFrame.payload, leBytes_length, liftBytes_length fields]
  case listLifts sel flt n =>
    have fields : (fits 1 sel && fits 1 flt && fits 2 n) = true := h
    simp only [Bool.and_eq_true] at fields
    obtain ⟨⟨selFits, fltFits⟩, small⟩ := fields
    have read : readLink (LinkFrame.listLifts sel flt n).kind (LinkFrame.listLifts sel flt n).payload =
        some (.listLifts (BitVec.ofNat 8 sel).toNat (BitVec.ofNat 8 flt).toNat
          (u16 (BitVec.ofNat 8 n) (BitVec.ofNat 8 (n / 256)))) := rfl
    refine ⟨by rw [read, toNat_byte selFits, toNat_byte fltFits, u16_bytes small], ?_⟩
    simp [LinkFrame.payload, leBytes_length]
  all_goals exact ⟨readId_leBytes _ h, by simp [LinkFrame.payload, leBytes_length]⟩

theorem readLink_some {c : Crane} {kind : Nat} {p : List Byte} {f : LinkFrame} (h : readLink kind p = some f) :
    f.kind = kind ∧ f.payload = p ∧ (f.command c).wellFormed = true := by
  have ofId {mk : Nat → LinkFrame} (h : readId mk p = some f) (kinds : ∀ id, (mk id).kind = kind)
      (payloads : ∀ id, (mk id).payload = leBytes 2 id) (forms : ∀ id, ((mk id).command c).wellFormed = fits 2 id) :
      f.kind = kind ∧ f.payload = p ∧ (f.command c).wellFormed = true := by
    obtain ⟨id, rfl, bytes, small⟩ := readId_some h
    exact ⟨kinds id, (payloads id).trans bytes, (forms id).trans small⟩
  unfold readLink at h
  split at h
  case h_1 | h_2 =>
    obtain ⟨r, read, rfl⟩ := Option.map_eq_some_iff.mp h
    obtain ⟨rfl, form⟩ := readReport_some read
    exact ⟨rfl, rfl, form⟩
  case h_3 | h_4 =>
    split at h
    · obtain rfl := Option.some.inj h
      exact ⟨rfl, leBytes_toNat _, fits_toNat _⟩
    · exact nomatch h
  case h_5 =>
    obtain ⟨f, read, rfl⟩ := Option.map_eq_some_iff.mp h
    obtain ⟨rfl, form⟩ := readLift_some read
    exact ⟨rfl, rfl, (Bool.and_eq_true ..).mpr ⟨decide_eq_true rfl, form⟩⟩
  case h_7 =>
    split at h
    · obtain ⟨f, read, rfl⟩ := Option.map_eq_some_iff.mp h
      obtain ⟨rfl, form⟩ := readLift_some read
      exact ⟨rfl, congrArg (· ++ liftBytes f) (leBytes_u16 _ _), (Bool.and_eq_true ..).mpr ⟨fits_u16 _ _, form⟩⟩
    · exact nomatch h
  case h_14 =>
    split at h
    · obtain rfl := Option.some.inj h
      simp [LinkFrame.kind, LinkFrame.payload, LinkFrame.command, Instr.wellFormed]
    · exact nomatch h
  case h_18 => exact nomatch h
  all_goals exact ofId h (fun _ => rfl) (fun _ => rfl) (fun _ => rfl)

end Sys2Proof.Machine
end

section
/-!
PROOF. Every supervisor request is read back from its payload as itself, and a payload is read only as the request it spells (R172,
Table 12-12).
-/
namespace Sys2Proof.Machine

/-! ### Lists of items -/

theorem flatMap_length_of {α : Type} {write : α → List Byte} {w : Nat} (width : ∀ x, (write x).length = w) (xs : List α) :
    (xs.flatMap write).length = w * xs.length := by
  induction xs with
  | nil => rfl
  | cons x xs ih =>
    rw [List.flatMap_cons, List.length_append, width, ih, List.length_cons, Nat.mul_succ, Nat.add_comm]

def pointBytes (p : ChartPoint) : List Byte := leBytes 2 p.radius ++ leBytes 2 p.load
def itemBytes (i : PairItem) : List Byte := leBytes 1 i.first ++ leBytes 1 i.second ++ leBytes 1 i.kind
def modeBytes (i : Nat × Nat) : List Byte := leBytes 1 i.1 ++ leBytes 1 i.2
def modeFits (i : Nat × Nat) : Bool := fits 1 i.1 && fits 1 i.2

theorem readPoints_bytes {ps : List ChartPoint} (h : ps.all ChartPoint.wellFormed = true) :
    readPoints (ps.flatMap pointBytes) = some ps := by
  induction ps with
  | nil => rfl
  | cons p ps ih =>
    obtain ⟨form, forms⟩ := (Bool.and_eq_true ..).mp h
    obtain ⟨radius, load⟩ := (Bool.and_eq_true ..).mp form
    have read : readPoints ((p :: ps).flatMap pointBytes) = (readPoints (ps.flatMap pointBytes)).map
        (⟨u16 (BitVec.ofNat 8 p.radius) (BitVec.ofNat 8 (p.radius / 256)),
          u16 (BitVec.ofNat 8 p.load) (BitVec.ofNat 8 (p.load / 256))⟩ :: ·) := rfl
    rw [read, ih forms, u16_bytes radius, u16_bytes load, Option.map_some]

theorem readPairs_bytes {is : List PairItem} (h : is.all PairItem.wellFormed = true) :
    readPairs (is.flatMap itemBytes) = some is := by
  induction is with
  | nil => rfl
  | cons i is ih =>
    obtain ⟨form, forms⟩ := (Bool.and_eq_true ..).mp h
    simp only [PairItem.wellFormed, Bool.and_eq_true] at form
    obtain ⟨⟨first, second⟩, kind⟩ := form
    have read : readPairs ((i :: is).flatMap itemBytes) = (readPairs (is.flatMap itemBytes)).map
        (⟨(BitVec.ofNat 8 i.first).toNat, (BitVec.ofNat 8 i.second).toNat, (BitVec.ofNat 8 i.kind).toNat⟩ :: ·) := rfl
    rw [read, ih forms, toNat_byte first, toNat_byte second, toNat_byte kind, Option.map_some]

theorem readModes_bytes {is : List (Nat × Nat)} (h : is.all modeFits = true) : readModes (is.flatMap modeBytes) = some is := by
  induction is with
  | nil => rfl
  | cons i is ih =>
    obtain ⟨form, forms⟩ := (Bool.and_eq_true ..).mp h
    obtain ⟨kind, mode⟩ := (Bool.and_eq_true ..).mp form
    have read : readModes ((i :: is).flatMap modeBytes) = (readModes (is.flatMap modeBytes)).map
        (((BitVec.ofNat 8 i.1).toNat, (BitVec.ofNat 8 i.2).toNat) :: ·) := rfl
    rw [read, ih forms, toNat_byte kind, toNat_byte mode, Option.map_some]

theorem readPoints_some (p : List Byte) {ps : List ChartPoint} (h : readPoints p = some ps) :
    ps.flatMap pointBytes = p ∧ ps.all ChartPoint.wellFormed = true := by
  induction p using readPoints.induct generalizing ps with
  | case1 =>
    obtain rfl := Option.some.inj h
    exact ⟨rfl, rfl⟩
  | case2 r0 r1 l0 l1 rest ih =>
    obtain ⟨ps, read, rfl⟩ := Option.map_eq_some_iff.mp h
    obtain ⟨rfl, forms⟩ := ih read
    simp [pointBytes, ChartPoint.wellFormed, forms]
  | case3 p far empty =>
    exact nomatch (readPoints.eq_3 p far empty).symm.trans h

theorem readPairs_some (p : List Byte) {is : List PairItem} (h : readPairs p = some is) :
    is.flatMap itemBytes = p ∧ is.all PairItem.wellFormed = true := by
  induction p using readPairs.induct generalizing is with
  | case1 =>
    obtain rfl := Option.some.inj h
    exact ⟨rfl, rfl⟩
  | case2 a b k rest ih =>
    obtain ⟨is, read, rfl⟩ := Option.map_eq_some_iff.mp h
    obtain ⟨rfl, forms⟩ := ih read
    simp [itemBytes, PairItem.wellFormed, forms]
  | case3 p far empty =>
    exact nomatch (readPairs.eq_3 p far empty).symm.trans h

theorem readModes_some (p : List Byte) {is : List (Nat × Nat)} (h : readModes p = some is) :
    is.flatMap modeBytes = p ∧ is.all modeFits = true := by
  induction p using readModes.induct generalizing is with
  | case1 =>
    obtain rfl := Option.some.inj h
    exact ⟨rfl, rfl⟩
  | case2 k m rest ih =>
    obtain ⟨is, read, rfl⟩ := Option.map_eq_some_iff.mp h
    obtain ⟨rfl, forms⟩ := ih read
    simp [modeBytes, modeFits, forms]
  | case3 p far empty =>
    exact nomatch (readModes.eq_3 p far empty).symm.trans h

theorem counted_some {α β : Type} {n : Byte} {mk : List α → β} {items : Option (List α)} {r : β} (h : counted n mk items = some r) :
    ∃ l, items = some l ∧ leBytes 1 l.length = [n] ∧ r = mk l := by
  unfold counted at h
  split at h
  case h_1 l =>
    split at h
    case isTrue count => exact ⟨l, rfl, by rw [count, leBytes_toNat], (Option.some.inj h).symm⟩
    case isFalse => exact nomatch h
  case h_2 => exact nomatch h

theorem counted_of {α β : Type} (mk : List α → β) {l : List α} (short : l.length < 256) :
    counted (BitVec.ofNat 8 l.length) mk (some l) = some (mk l) := by
  unfold counted
  exact if_pos (toNat_byte (fits_iff.mpr short)).symm

/-! ### Short payloads -/

section
variable {p : List Byte} {i : Instr}

theorem readSupId_leBytes (mk : Nat → Instr) {id : Nat} (h : fits 2 id = true) : readSupId mk (leBytes 2 id) = some (mk id) := by
  have read : readSupId mk (leBytes 2 id) = some (mk (u16 (BitVec.ofNat 8 id) (BitVec.ofNat 8 (id / 256)))) := rfl
  rw [read, u16_bytes h]

theorem readOne_leBytes (mk : Nat → Instr) {v : Nat} (h : fits 1 v = true) : readOne mk (leBytes 1 v) = some (mk v) :=
  congrArg (fun v => some (mk v)) (toNat_byte h)

theorem readSupId_some {mk : Nat → Instr} (h : readSupId mk p = some i) : ∃ id, i = mk id ∧ leBytes 2 id = p ∧ fits 2 id = true := by
  unfold readSupId at h
  split at h
  case h_1 a b => exact ⟨u16 a b, (Option.some.inj h).symm, leBytes_u16 a b, fits_u16 a b⟩
  case h_2 => exact nomatch h

theorem readOne_some {mk : Nat → Instr} (h : readOne mk p = some i) : ∃ v, i = mk v ∧ leBytes 1 v = p ∧ fits 1 v = true := by
  unfold readOne at h
  split at h
  case h_1 a => exact ⟨a.toNat, (Option.some.inj h).symm, leBytes_toNat a, fits_toNat a⟩
  case h_2 => exact nomatch h

theorem readNone_some {j : Instr} (h : readNone j p = some i) : i = j ∧ p = [] := by
  unfold readNone at h
  split at h
  case h_1 => exact ⟨(Option.some.inj h).symm, rfl⟩
  case h_2 => exact nomatch h

end

/-! ### Requests -/

/-- A request as its frame spells it: PLAN_COMMIT with PROTECT low (entry 5). -/
def onWire (i : Instr) : Instr :=
  match i with
  | .planCommit _ => .planCommit false
  | _ => i

/-- A payload of a kind is a request's, and is read as that request. -/
def Carried (i : Instr) (kind : Nat) (p : List Byte) : Prop :=
  readRequest kind p = some (onWire i) ∧ p.length ≤ 61 ∧ kind ≠ 0 ∧ kind < 256

theorem carried_planCrane {c : Nat} {f : CraneFields} (small : fits 1 c = true) (form : f.wellFormed = true) :
    Carried (.planCrane c f) 0x10 (leBytes 1 c ++ leBytes 1 f.present ++ leBytes 2 f.reach ++ leBytes 2 f.margin ++ leBytes 1 f.vane ++
      leBytes 1 f.park ++ leBytes 2 f.lw ++ leBytes 2 f.sw ++ leBytes 2 f.mw ++ leBytes 2 f.hw) := by
  simp only [CraneFields.wellFormed, Bool.and_eq_true] at form
  obtain ⟨⟨⟨⟨⟨⟨⟨⟨present, reach⟩, margin⟩, vane⟩, park⟩, lw⟩, sw⟩, mw⟩, hw⟩ := form
  have read := congr (congrArg (fun c f => some (Instr.planCrane c f)) (toNat_byte small))
    (show (⟨(BitVec.ofNat 8 f.present).toNat, u16 (BitVec.ofNat 8 f.reach) (BitVec.ofNat 8 (f.reach / 256)),
        u16 (BitVec.ofNat 8 f.margin) (BitVec.ofNat 8 (f.margin / 256)), (BitVec.ofNat 8 f.vane).toNat,
        (BitVec.ofNat 8 f.park).toNat, u16 (BitVec.ofNat 8 f.lw) (BitVec.ofNat 8 (f.lw / 256)),
        u16 (BitVec.ofNat 8 f.sw) (BitVec.ofNat 8 (f.sw / 256)), u16 (BitVec.ofNat 8 f.mw) (BitVec.ofNat 8 (f.mw / 256)),
        u16 (BitVec.ofNat 8 f.hw) (BitVec.ofNat 8 (f.hw / 256))⟩ : CraneFields) = f by
      rw [toNat_byte present, u16_bytes reach, u16_bytes margin, toNat_byte vane, toNat_byte park, u16_bytes lw, u16_bytes sw,
        u16_bytes mw, u16_bytes hw])
  exact ⟨read, by simp [leBytes_length], by decide, by decide⟩

theorem carried_planSite {f : SiteFields} (form : f.wellFormed = true) :
    Carried (.planSite f) 0x17 (leBytes 1 f.dead ++ leBytes 1 f.wait ++ leBytes 1 f.tolerance ++ leBytes 1 f.early ++
      leBytes 1 f.grace ++ leBytes 1 f.securing ++ leBytes 1 f.discipline ++ leBytes 1 f.cadence) := by
  simp only [SiteFields.wellFormed, Bool.and_eq_true] at form
  obtain ⟨⟨⟨⟨⟨⟨⟨dead, wait⟩, tolerance⟩, early⟩, grace⟩, securing⟩, discipline⟩, cadence⟩ := form
  have read : (⟨(BitVec.ofNat 8 f.dead).toNat, (BitVec.ofNat 8 f.wait).toNat, (BitVec.ofNat 8 f.tolerance).toNat,
      (BitVec.ofNat 8 f.early).toNat, (BitVec.ofNat 8 f.grace).toNat, (BitVec.ofNat 8 f.securing).toNat,
      (BitVec.ofNat 8 f.discipline).toNat, (BitVec.ofNat 8 f.cadence).toNat⟩ : SiteFields) = f := by
    rw [toNat_byte dead, toNat_byte wait, toNat_byte tolerance, toNat_byte early, toNat_byte grace, toNat_byte securing,
      toNat_byte discipline, toNat_byte cadence]
  exact ⟨congrArg (fun f => some (Instr.planSite f)) read, by simp [leBytes_length], by decide, by decide⟩

/-- A PLAN_SCHEDULE frame, by its action byte. -/
def scheduleRequest (k a d s e : Nat) : Instr := if a = 0 then .planScheduleDefine k d s e else .planScheduleRemove k ⟨a, d, s, e⟩

theorem readRequest_schedule {k a d s e : Nat} (small : fits 1 k = true) (action : fits 1 a = true) (days : fits 1 d = true)
    (start : fits 2 s = true) (stop : fits 2 e = true) :
    readRequest 0x16 (leBytes 1 k ++ leBytes 1 a ++ leBytes 1 d ++ leBytes 2 s ++ leBytes 2 e) = some (scheduleRequest k a d s e) := by
  have read : readRequest 0x16 (leBytes 1 k ++ leBytes 1 a ++ leBytes 1 d ++ leBytes 2 s ++ leBytes 2 e) =
      some (scheduleRequest (BitVec.ofNat 8 k).toNat (BitVec.ofNat 8 a).toNat (BitVec.ofNat 8 d).toNat
        (u16 (BitVec.ofNat 8 s) (BitVec.ofNat 8 (s / 256))) (u16 (BitVec.ofNat 8 e) (BitVec.ofNat 8 (e / 256)))) := rfl
  rw [read, toNat_byte small, toNat_byte action, toNat_byte days, u16_bytes start, u16_bytes stop]

theorem readRequest_lift {c : Nat} {f : LiftFields} (small : fits 1 c = true) (form : f.wellFormed = true) :
    readRequest 0x30 (leBytes 1 c ++ liftBytes f) = some (.proposeLift .supervisor c f) := by
  have read : readRequest 0x30 (leBytes 1 c ++ liftBytes f) =
      (readLift (liftBytes f)).map (.proposeLift .supervisor (BitVec.ofNat 8 c).toNat) := rfl
  rw [read, toNat_byte small, readLift_liftBytes form, Option.map_some]

theorem readRequest_amend {id : Nat} {f : LiftFields} (small : fits 2 id = true) (form : f.wellFormed = true) :
    readRequest 0x32 (leBytes 2 id ++ liftBytes f) = some (.amendLift .supervisor id f) := by
  have read : readRequest 0x32 (leBytes 2 id ++ liftBytes f) =
      (readLift (liftBytes f)).map (.amendLift .supervisor (u16 (BitVec.ofNat 8 id) (BitVec.ofNat 8 (id / 256)))) := rfl
  rw [read, u16_bytes small, readLift_liftBytes form, Option.map_some]

/-- The lists: their count byte agrees with the items that follow. -/
theorem carried_planChart {c : Nat} {ps : List ChartPoint} (small : fits 1 c = true) (short : carries 2 4 ps.length = true)
    (forms : ps.all ChartPoint.wellFormed = true) :
    Carried (.planChart c ps) 0x11 (leBytes 1 c ++ leBytes 1 ps.length ++ ps.flatMap pointBytes) := by
  have short : 2 + 4 * ps.length ≤ 61 := of_decide_eq_true short
  have length : (ps.flatMap pointBytes).length = 4 * ps.length := flatMap_length_of (write := pointBytes) (fun _ => rfl) ps
  have read : readRequest 0x11 (leBytes 1 c ++ leBytes 1 ps.length ++ ps.flatMap pointBytes) =
      counted (BitVec.ofNat 8 ps.length) (.planChart (BitVec.ofNat 8 c).toNat) (readPoints (ps.flatMap pointBytes)) := rfl
  refine ⟨?_, ?_, by decide, by decide⟩
  · rw [read, toNat_byte small, readPoints_bytes forms, counted_of _ (by omega)]
    rfl
  · simp only [List.length_append, leBytes_length, length]
    omega

theorem carried_pairs {is : List PairItem} {mk : List PairItem → Instr} {kind : Nat}
    (read : readRequest kind (leBytes 1 is.length ++ is.flatMap itemBytes) =
      counted (BitVec.ofNat 8 is.length) mk (readPairs (is.flatMap itemBytes)))
    (plain : onWire (mk is) = mk is) (kinds : kind ≠ 0 ∧ kind < 256)
    (form : (carries 1 3 is.length && is.all PairItem.wellFormed) = true) :
    Carried (mk is) kind (leBytes 1 is.length ++ is.flatMap itemBytes) := by
  obtain ⟨short, forms⟩ := (Bool.and_eq_true ..).mp form
  have short : 1 + 3 * is.length ≤ 61 := of_decide_eq_true short
  have length : (is.flatMap itemBytes).length = 3 * is.length := flatMap_length_of (write := itemBytes) (fun _ => rfl) is
  refine ⟨?_, ?_, kinds⟩
  · rw [read, readPairs_bytes forms, counted_of _ (by omega), plain]
  · simp only [List.length_append, leBytes_length, length]
    omega

theorem carried_planAlertModes {is : List (Nat × Nat)} (form : (carries 1 2 is.length && is.all modeFits) = true) :
    Carried (.planAlertModes is) 0x18 (leBytes 1 is.length ++ is.flatMap modeBytes) := by
  obtain ⟨short, forms⟩ := (Bool.and_eq_true ..).mp form
  have short : 1 + 2 * is.length ≤ 61 := of_decide_eq_true short
  have length : (is.flatMap modeBytes).length = 2 * is.length := flatMap_length_of (write := modeBytes) (fun _ => rfl) is
  have read : readRequest 0x18 (leBytes 1 is.length ++ is.flatMap modeBytes) =
      counted (BitVec.ofNat 8 is.length) .planAlertModes (readModes (is.flatMap modeBytes)) := rfl
  refine ⟨?_, ?_, by decide, by decide⟩
  · rw [read, readModes_bytes forms, counted_of _ (by omega)]
    rfl
  · simp only [List.length_append, leBytes_length, length]
    omega

theorem byteList_toNat {ks : List Nat} (h : ks.all (fits 1) = true) : (ks.flatMap (leBytes 1)).map BitVec.toNat = ks := by
  induction ks with
  | nil => rfl
  | cons k ks ih =>
    obtain ⟨small, smalls⟩ := (Bool.and_eq_true ..).mp h
    have read : ((k :: ks).flatMap (leBytes 1)).map BitVec.toNat = (BitVec.ofNat 8 k).toNat :: (ks.flatMap (leBytes 1)).map BitVec.toNat :=
      rfl
    rw [read, ih smalls, toNat_byte small]

theorem carried_clearAlerts {ks : List Nat} (form : (carries 1 1 ks.length && ks.all (fits 1)) = true) :
    Carried (.clearAlerts ks) 0x40 (leBytes 1 ks.length ++ ks.flatMap (leBytes 1)) := by
  obtain ⟨short, forms⟩ := (Bool.and_eq_true ..).mp form
  have short : 1 + 1 * ks.length ≤ 61 := of_decide_eq_true short
  have length : (ks.flatMap (leBytes 1)).length = 1 * ks.length := flatMap_length_of (leBytes_length 1) ks
  have read : readRequest 0x40 (leBytes 1 ks.length ++ ks.flatMap (leBytes 1)) =
      counted (BitVec.ofNat 8 ks.length) .clearAlerts (some ((ks.flatMap (leBytes 1)).map BitVec.toNat)) := rfl
  refine ⟨?_, ?_, by decide, by decide⟩
  · rw [read, byteList_toNat forms, counted_of _ (by omega)]
    rfl
  · simp only [List.length_append, leBytes_length, length]
    omega

/-- A request that fits is read back from its payload. -/
theorem requestParts_carried {i : Instr} {kind : Nat} {p : List Byte} (form : i.wellFormed = true)
    (parts : requestParts i = some (kind, p)) : Carried i kind p := by
  have ofNone {j : Instr} {k : Nat} (read : readRequest k [] = some (onWire j)) (small : k ≠ 0 ∧ k < 256) : Carried j k [] :=
    ⟨read, by decide, small⟩
  have ofOne {mk : Nat → Instr} {k c : Nat} (read : readRequest k (leBytes 1 c) = readOne mk (leBytes 1 c))
      (plain : onWire (mk c) = mk c) (small : fits 1 c = true) (kinds : k ≠ 0 ∧ k < 256) : Carried (mk c) k (leBytes 1 c) :=
    ⟨(read.trans (readOne_leBytes mk small)).trans (congrArg some plain.symm), Nat.le_trans (Nat.le_of_eq (leBytes_length 1 c)) (by decide), kinds⟩
  have ofId {mk : Nat → Instr} {k id : Nat} (read : readRequest k (leBytes 2 id) = readSupId mk (leBytes 2 id))
      (plain : onWire (mk id) = mk id) (small : fits 2 id = true) (kinds : k ≠ 0 ∧ k < 256) : Carried (mk id) k (leBytes 2 id) :=
    ⟨(read.trans (readSupId_leBytes mk small)).trans (congrArg some plain.symm), Nat.le_trans (Nat.le_of_eq (leBytes_length 2 id)) (by decide), kinds⟩
  cases i
  case identify | readClock | planClearConflicts | planCommit | planDiscard | openSite | closeSite | resumeSite | returnToSetup
      | querySite | queryWaits | queryAlerts =>
    cases parts
    exact ofNone rfl (by decide)
  case queryCrane c | queryCells c | queryConformance c | queryWind c | stopCrane c =>
    cases parts
    exact ofOne rfl rfl form (by decide)
  case confirmLift q id | cancelLift q id | lockLift q id | unlockLift q id | suspendLift q id | resumeLift q id | landLift q id
      | queryLift q id | startLift q id | finishLift q id =>
    cases q
    case crane => exact nomatch parts
    case supervisor =>
      cases parts
      exact ofId rfl rfl form (by decide)
  case proposeLift q c f =>
    cases q
    case crane => exact nomatch parts
    case supervisor =>
      cases parts
      obtain ⟨small, fields⟩ := (Bool.and_eq_true ..).mp form
      exact ⟨readRequest_lift small fields, by simp [leBytes_length, liftBytes_length fields], by decide, by decide⟩
  case amendLift q id f =>
    cases q
    case crane => exact nomatch parts
    case supervisor =>
      cases parts
      obtain ⟨small, fields⟩ := (Bool.and_eq_true ..).mp form
      exact ⟨readRequest_amend small fields, by simp [leBytes_length, liftBytes_length fields], by decide, by decide⟩
  case listLifts q sel flt n =>
    cases q
    case crane => exact nomatch parts
    case supervisor =>
      cases parts
      simp only [Instr.wellFormed, Bool.and_eq_true] at form
      obtain ⟨⟨selFits, fltFits⟩, small⟩ := form
      have read : some (Instr.listLifts .supervisor (BitVec.ofNat 8 sel).toNat (BitVec.ofNat 8 flt).toNat
          (u16 (BitVec.ofNat 8 n) (BitVec.ofNat 8 (n / 256)))) = some (.listLifts .supervisor sel flt n) := by
        rw [toNat_byte selFits, toNat_byte fltFits, u16_bytes small]
      exact ⟨read, by simp [leBytes_length], by decide, by decide⟩
  case setTime t =>
    cases parts
    exact ⟨congrArg (fun t => some (Instr.setTime t)) (u32_bytes form), by simp [leBytes_length], by decide, by decide⟩
  case planCrane c f =>
    cases parts
    obtain ⟨small, fields⟩ := (Bool.and_eq_true ..).mp form
    exact carried_planCrane small fields
  case planChart c ps =>
    cases parts
    simp only [Instr.wellFormed, Bool.and_eq_true] at form
    obtain ⟨⟨small, short⟩, forms⟩ := form
    exact carried_planChart small short forms
  case planConflicts is =>
    cases parts
    exact carried_pairs (mk := .planConflicts) rfl rfl (by decide) form
  case planRemoveConflicts is =>
    cases parts
    exact carried_pairs (mk := .planRemoveConflicts) rfl rfl (by decide) form
  case planCells c m k r =>
    cases parts
    simp only [Instr.wellFormed, Bool.and_eq_true] at form
    obtain ⟨⟨⟨crane, mask⟩, cls⟩, ref⟩ := form
    have read : some (Instr.planCells (BitVec.ofNat 8 c).toNat (u16 (BitVec.ofNat 8 m) (BitVec.ofNat 8 (m / 256)))
        (BitVec.ofNat 8 k).toNat (BitVec.ofNat 8 r).toNat) = some (.planCells c m k r) := by
      rw [toNat_byte crane, u16_bytes mask, toNat_byte cls, toNat_byte ref]
    exact ⟨read, by simp [leBytes_length], by decide, by decide⟩
  case planScheduleDefine k d s e =>
    cases parts
    simp only [Instr.wellFormed, Bool.and_eq_true] at form
    obtain ⟨⟨⟨small, days⟩, start⟩, stop⟩ := form
    exact ⟨readRequest_schedule small (a := 0) rfl days start stop, by simp [leBytes_length], by decide, by decide⟩
  case planScheduleRemove k f =>
    cases parts
    simp only [Instr.wellFormed, RemovalFields.wellFormed, Bool.and_eq_true, decide_eq_true_iff] at form
    obtain ⟨small, ⟨⟨⟨action, other⟩, days⟩, start⟩, stop⟩ := form
    exact ⟨(readRequest_schedule small action days start stop).trans (congrArg some (if_neg other)), by simp [leBytes_length],
      by decide, by decide⟩
  case planSite f =>
    cases parts
    exact carried_planSite form
  case planAlertModes is =>
    cases parts
    exact carried_planAlertModes form
  case planRead s k n =>
    cases parts
    simp only [Instr.wellFormed, Bool.and_eq_true] at form
    obtain ⟨⟨plan, section_⟩, item⟩ := form
    have read : some (Instr.planRead (BitVec.ofNat 8 s).toNat (BitVec.ofNat 8 k).toNat
        (u16 (BitVec.ofNat 8 n) (BitVec.ofNat 8 (n / 256)))) = some (.planRead s k n) := by
      rw [toNat_byte plan, toNat_byte section_, u16_bytes item]
    exact ⟨read, by simp [leBytes_length], by decide, by decide⟩
  case forceRelease c m =>
    cases parts
    obtain ⟨crane, mask⟩ := (Bool.and_eq_true ..).mp form
    have read : some (Instr.forceRelease (BitVec.ofNat 8 c).toNat (u16 (BitVec.ofNat 8 m) (BitVec.ofNat 8 (m / 256)))) =
        some (.forceRelease c m) := by
      rw [toNat_byte crane, u16_bytes mask]
    exact ⟨read, by simp [leBytes_length], by decide, by decide⟩
  case clearStop c m =>
    cases parts
    obtain ⟨crane, mask⟩ := (Bool.and_eq_true ..).mp form
    have read : some (Instr.clearStop (BitVec.ofNat 8 c).toNat (u16 (BitVec.ofNat 8 m) (BitVec.ofNat 8 (m / 256)))) =
        some (.clearStop c m) := by
      rw [toNat_byte crane, u16_bytes mask]
    exact ⟨read, by simp [leBytes_length], by decide, by decide⟩
  case clearAlerts ks =>
    cases parts
    exact carried_clearAlerts form
  all_goals exact nomatch parts

/-! ### Only its own payload -/

/-- What a request read from a payload is: one that fits, with that kind and payload. -/
def Spelled (i : Instr) (kind : Nat) (p : List Byte) : Prop := i.wellFormed = true ∧ requestParts i = some (kind, p)

theorem readRequest_spelled {i : Instr} {kind : Nat} {p : List Byte} (short : p.length ≤ 61) (h : readRequest kind p = some i) :
    Spelled i kind p := by
  have ofNone {j : Instr} (h : readNone j p = some i) (form : j.wellFormed = true) (parts : requestParts j = some (kind, [])) :
      Spelled i kind p := by
    obtain ⟨rfl, rfl⟩ := readNone_some h
    exact ⟨form, parts⟩
  have ofOne {mk : Nat → Instr} (h : readOne mk p = some i) (forms : ∀ v, (mk v).wellFormed = fits 1 v)
      (parts : ∀ v, requestParts (mk v) = some (kind, leBytes 1 v)) : Spelled i kind p := by
    obtain ⟨v, rfl, rfl, small⟩ := readOne_some h
    exact ⟨(forms v).trans small, parts v⟩
  have ofId {mk : Nat → Instr} (h : readSupId mk p = some i) (forms : ∀ v, (mk v).wellFormed = fits 2 v)
      (parts : ∀ v, requestParts (mk v) = some (kind, leBytes 2 v)) : Spelled i kind p := by
    obtain ⟨v, rfl, rfl, small⟩ := readSupId_some h
    exact ⟨(forms v).trans small, parts v⟩
  unfold readRequest at h
  have ofPairs {n : Byte} {rest : List Byte} {mk : List PairItem → Instr} (start : p = n :: rest)
      (h : counted n mk (readPairs rest) = some i)
      (forms : ∀ is, (mk is).wellFormed = (carries 1 3 is.length && is.all PairItem.wellFormed))
      (parts : ∀ is, requestParts (mk is) = some (kind, leBytes 1 is.length ++ is.flatMap itemBytes)) : Spelled i kind p := by
    obtain ⟨is, read, count, rfl⟩ := counted_some h
    obtain ⟨rfl, fields⟩ := readPairs_some _ read
    have length : (is.flatMap itemBytes).length = 3 * is.length := flatMap_length_of (write := itemBytes) (fun _ => rfl) is
    have carried : 1 + 3 * is.length ≤ 61 := by
      rw [start, List.length_cons, length] at short
      omega
    refine ⟨(forms is).trans ((Bool.and_eq_true ..).mpr ⟨decide_eq_true carried, fields⟩), ?_⟩
    rw [parts is, start, count, List.singleton_append]
  split at h
  case h_3 =>
    split at h
    · obtain rfl := Option.some.inj h
      exact ⟨fits_u32 .., congrArg (fun p => some (0x03, p)) (leBytes_u32 ..)⟩
    · exact nomatch h
  case h_4 | h_9 | h_11 | h_15 | h_26 | h_28 | h_39 =>
    split at h
    · obtain rfl := Option.some.inj h
      simp [Spelled, Instr.wellFormed, requestParts, CraneFields.wellFormed, SiteFields.wellFormed]
    · exact nomatch h
  case h_5 =>
    split at h
    case h_1 c n rest =>
      obtain ⟨ps, read, count, rfl⟩ := counted_some h
      obtain ⟨rfl, fields⟩ := readPoints_some _ read
      have length : (ps.flatMap pointBytes).length = 4 * ps.length := flatMap_length_of (write := pointBytes) (fun _ => rfl) ps
      have carried : carries 2 4 ps.length = true := by
        rw [List.length_cons, List.length_cons, length] at short
        exact decide_eq_true (by omega)
      refine ⟨by simp [Instr.wellFormed, carried, fields], ?_⟩
      have parts : requestParts (.planChart c.toNat ps) = some (0x11, leBytes 1 c.toNat ++ leBytes 1 ps.length ++ ps.flatMap pointBytes) :=
        rfl
      rw [parts, leBytes_toNat, count]
      rfl
    case h_2 => exact nomatch h
  case h_6 =>
    split at h
    · exact ofPairs rfl h (fun _ => rfl) (fun _ => rfl)
    · exact nomatch h
  case h_7 =>
    split at h
    · exact ofPairs rfl h (fun _ => rfl) (fun _ => rfl)
    · exact nomatch h
  case h_10 =>
    split at h
    · obtain rfl := Option.some.inj h
      split
      case isTrue zero => simp [Spelled, Instr.wellFormed, requestParts, ← zero]
      case isFalse other => simp [Spelled, Instr.wellFormed, requestParts, RemovalFields.wellFormed, other]
    · exact nomatch h
  case h_12 =>
    split at h
    case h_1 n rest =>
      obtain ⟨is, read, count, rfl⟩ := counted_some h
      obtain ⟨rfl, fields⟩ := readModes_some _ read
      have length : (is.flatMap modeBytes).length = 2 * is.length := flatMap_length_of (write := modeBytes) (fun _ => rfl) is
      have carried : 1 + 2 * is.length ≤ 61 := by
        rw [List.length_cons, length] at short
        omega
      exact ⟨(Bool.and_eq_true ..).mpr ⟨decide_eq_true carried, fields⟩,
        congrArg (fun b => some (0x18, b ++ is.flatMap modeBytes)) count⟩
    case h_2 => exact nomatch h
  case h_29 =>
    split at h
    case h_1 c rest =>
      obtain ⟨f, read, rfl⟩ := Option.map_eq_some_iff.mp h
      obtain ⟨rfl, form⟩ := readLift_some read
      exact ⟨(Bool.and_eq_true ..).mpr ⟨fits_toNat c, form⟩, congrArg (fun b => some (0x30, b ++ liftBytes f)) (leBytes_toNat c)⟩
    case h_2 => exact nomatch h
  case h_31 =>
    split at h
    case h_1 a b rest =>
      obtain ⟨f, read, rfl⟩ := Option.map_eq_some_iff.mp h
      obtain ⟨rfl, form⟩ := readLift_some read
      exact ⟨(Bool.and_eq_true ..).mpr ⟨fits_u16 a b, form⟩, congrArg (fun p => some (0x32, p ++ liftBytes f)) (leBytes_u16 a b)⟩
    case h_2 => exact nomatch h
  case h_42 =>
    split at h
    case h_1 n rest =>
      obtain ⟨ks, read, count, rfl⟩ := counted_some h
      obtain rfl := Option.some.inj read
      have bytes : (rest.map BitVec.toNat).flatMap (leBytes 1) = rest := by
        simp [List.flatMap_map]
      have carried : 1 + 1 * (rest.map BitVec.toNat).length ≤ 61 := by
        rw [List.length_cons] at short
        rw [List.length_map]
        omega
      refine ⟨(Bool.and_eq_true ..).mpr ⟨decide_eq_true carried, by simp⟩, ?_⟩
      exact congr (congrArg (fun b p => some (0x40, b ++ p)) count) bytes
    case h_2 => exact nomatch h
  case h_21 | h_22 | h_24 | h_25 | h_27 => exact ofOne h (fun _ => rfl) (fun _ => rfl)
  case h_30 | h_32 | h_33 | h_34 | h_35 | h_36 | h_37 | h_38 | h_40 | h_41 => exact ofId h (fun _ => rfl) (fun _ => rfl)
  case h_44 => exact nomatch h
  all_goals exact ofNone h rfl rfl

end Sys2Proof.Machine
end

section
/-!
PROOF. The frames on the wire and back (R32, R169 to R172).
-/
namespace Sys2Proof.Machine

/-! ### Requests -/

section
variable {i : Instr} {kind : Nat} {p : List Byte}

theorem requestBytes_of (parts : requestParts i = some (kind, p)) : requestBytes i = frameBytes kind p := by
  rw [requestBytes, parts]

theorem requestKind_of (parts : requestParts i = some (kind, p)) : requestKind i = kind := by rw [requestKind, parts]

theorem transaction_of_request {bytes : List Byte} {k : Byte} {rest : List Byte} (start : bytes = k :: rest) (kind : k ≠ 0#8)
    (read : checkRequest bytes = some i) : transaction bytes = some i := by
  subst start
  rw [transaction, if_neg kind, read]

theorem request_read (form : i.wellFormed = true) (parts : requestParts i = some (kind, p)) :
    checkRequest (requestBytes i) = some (onWire i) ∧ transaction (requestBytes i) = some (onWire i) ∧
      (requestBytes i).length ≤ 64 := by
  obtain ⟨read, short, other, small⟩ := requestParts_carried form parts
  have nonzero : BitVec.ofNat 8 kind ≠ 0#8 := fun zero => by
    have := (toNat_byte (fits_iff.mpr small)).symm.trans (congrArg BitVec.toNat zero)
    exact other this
  have checked : checkRequest (frameBytes kind p) = some (onWire i) := (checkRequest_frameBytes small short).trans read
  rw [requestBytes_of parts]
  refine ⟨checked, transaction_of_request rfl nonzero checked, ?_⟩
  rw [frameBytes_length]
  omega

theorem checkRequest_some {bytes : List Byte} (h : checkRequest bytes = some i) :
    i.wellFormed = true ∧ (requestParts i).isSome = true ∧ bytes = requestBytes i := by
  unfold checkRequest at h
  split at h
  case h_1 k len rest =>
    split at h
    case isTrue good =>
      obtain ⟨-, length, short, last⟩ := good
      have count : ((k :: len :: rest).dropLast.drop 2).length ≤ 61 := by
        rw [List.length_drop, List.length_dropLast]
        omega
      obtain ⟨form, parts⟩ := readRequest_spelled count h
      exact ⟨form, Option.isSome_of_eq_some parts,
        (frameBytes_of_checked rfl length last).trans (requestBytes_of parts).symm⟩
    case isFalse => exact nomatch h
  case h_2 => exact nomatch h

/-- An action byte that is not DEFINE is a removal (entry 20). -/
theorem removal_read {k a : Nat} {rest : List Byte} (index : k < 256) (other : 0 < a) (action : a < 256) (five : rest.length = 5) :
    ∃ d s e, checkRequest (frameBytes 0x16 (BitVec.ofNat 8 k :: BitVec.ofNat 8 a :: rest)) =
      some (.planScheduleRemove k ⟨a, d, s, e⟩) := by
  match rest, five with
  | [d, s0, s1, e0, e1], _ =>
    refine ⟨d.toNat, u16 s0 s1, u16 e0 e1, ?_⟩
    rw [checkRequest_frameBytes (by decide) (by simp)]
    have read : readRequest 0x16 [BitVec.ofNat 8 k, BitVec.ofNat 8 a, d, s0, s1, e0, e1] = some (scheduleRequest
      (BitVec.ofNat 8 k).toNat (BitVec.ofNat 8 a).toNat d.toNat (u16 s0 s1) (u16 e0 e1)) := rfl
    rw [read, toNat_byte (fits_iff.mpr index), toNat_byte (fits_iff.mpr action)]
    exact congrArg some (if_neg (by omega))

end

/-! ### The frames the part sends -/

theorem waitingFields_bytes (xs : List Sector) :
    fieldBytes (waitingFields xs) = (xs.map (fun x => BitVec.ofNat 8 x.val) ++ [0xFF#8, 0xFF#8]).take 2 := by
  match xs with
  | [] => rfl
  | [_] => rfl
  | _ :: _ :: _ => rfl

theorem statusAck_flags (a : StatusAck) : flag (!a.stops.isEmpty) + 2 * flag a.unknown =
    (if a.stops = [] then 0 else 1) + if a.unknown = true then 2 else 0 := by
  cases a.stops <;> cases a.unknown <;> rfl

theorem statusAck_payload (a : StatusAck) : (TxFrame.statusAck a).payload =
    fieldBytes [f1 a.code.number, f1 a.site.code, f1 a.service, f1 a.order.code,
      f1 (flag (!a.stops.isEmpty) + 2 * flag a.unknown), fStops a.stops, fSectors a.held, fSectors a.clearing, fSectors a.seized] ++
      fieldBytes (waitingFields a.waiting) ++ fieldBytes [f2 a.lift, f1 a.wind.code, f2 a.gust] := by
  rw [TxFrame.payload, StatusAck.fields, fieldBytes_append, fieldBytes_append]

end Sys2Proof.Machine

open Sys2Proof Sys2Proof.Machine

/-- Settles O51: crane frames and requests read back from their bytes, and the bytes of every frame. -/
theorem framesDecode : Obligations.FramesDecode := by
  unfold Obligations.FramesDecode
  refine ⟨fun c f form => ⟨?_, (readLink_payload form).2, rfl⟩, ⟨by decide +kernel, rfl, crc8_append⟩, fun i form request => ?_,
    ⟨fun c kind payload f h => readLink_some h, fun bytes i h => ?_, fun k a rest => removal_read⟩, ?_, ?_⟩
  · rw [checkLink_frameBytes (kind_small f)]
    exact (readLink_payload form).1
  · obtain ⟨⟨kind, p⟩, parts⟩ := Option.ne_none_iff_exists'.mp request
    exact request_read form parts
  · obtain ⟨form, -, bytes⟩ := checkRequest_some h
    exact ⟨form, bytes⟩
  · intro b1 b2 b4 report lift frame request items
    have four (v : Nat) : leBytes 4 v = b4 v := leBytes_four v
    have fields (f : LiftFields) : liftBytes f = lift f := by
      simp only [liftBytes, four]
      rfl
    have one {i : Instr} {kind : Nat} {payload : List Byte} (h : requestParts i = some (kind, payload)) : request i kind payload :=
      ⟨requestKind_of h, requestBytes_of h⟩
    refine ⟨fun r => ⟨⟨rfl, rfl⟩, rfl, rfl⟩, fun x => ⟨⟨rfl, rfl⟩, rfl, rfl⟩,
      fun f => ⟨⟨rfl, fields f⟩, fun id => ⟨rfl, congrArg (b2 id ++ ·) (fields f)⟩⟩,
      fun id => ⟨⟨rfl, rfl⟩, ⟨rfl, rfl⟩, ⟨rfl, rfl⟩, ⟨rfl, rfl⟩, ⟨rfl, rfl⟩, ⟨rfl, rfl⟩, ⟨rfl, rfl⟩, ⟨rfl, rfl⟩, ⟨rfl, rfl⟩, rfl, rfl⟩,
      fun sel flt n => ⟨rfl, rfl⟩, ⟨one rfl, one rfl, fun t => one (congrArg (fun p => some (0x03, p)) (four t))⟩,
      fun c f => one rfl, fun c ps => one rfl, fun is => ⟨one rfl, one rfl⟩, one rfl, fun c m k r => one rfl, fun k d a b => one rfl,
      fun k f => one rfl, fun f => one rfl, fun is => one rfl, fun high => one rfl, one rfl, fun p k n => one rfl,
      ⟨one rfl, one rfl, one rfl, one rfl, one rfl⟩,
      fun c => ⟨one rfl, one rfl, one rfl, one rfl, one rfl, fun m => ⟨one rfl, one rfl⟩⟩, one rfl,
      fun f => ⟨fun c => one (congrArg (fun p => some (0x30, b1 c ++ p)) (fields f)),
        fun id => one (congrArg (fun p => some (0x32, b2 id ++ p)) (fields f))⟩,
      fun id => ⟨one rfl, one rfl, one rfl, one rfl, one rfl, one rfl, one rfl, one rfl, one rfl, one rfl⟩,
      fun sel flt n => one rfl, fun ks => one rfl, one rfl⟩
  · intro b1 b2 framed
    refine ⟨fun a => ?_, fun kind a => rfl, fun x => rfl, fun x why => rfl, fun id e rs => rfl, fun ch => ⟨fun idle => ?_, fun f busy => ?_⟩,
      fun kind payload => rfl⟩
    · intro waiting payload
      have bytes : (TxFrame.statusAck a).payload = payload := by
        rw [statusAck_payload, waitingFields_bytes, statusAck_flags]
        simp only [payload, List.append_assoc]
        rfl
      refine ⟨?_, by rw [← bytes]; rfl⟩
      simp [payload, waiting, b1, b2]
    · rw [Channel.lineBytes, idle]
    · rw [Channel.lineBytes, busy]
end

section
/-!
PROOF. The supervisor port (R171..R173): the response frames, FETCH, bad frames, and how a request is taken and answered.
-/
namespace Sys2Proof.Machine

variable {s : State}

/-! ### The response frames (R173) -/

theorem chunks_flatten (n : Nat) (bs : List Byte) (room : bs.length ≤ 59 * n) : (chunks n bs).flatten = bs := by
  induction n generalizing bs with
  | zero => exact (List.length_eq_zero_iff.mp (Nat.le_zero.mp room)).symm ▸ rfl
  | succ n ih =>
    rw [chunks]
    split
    case isTrue => simp
    case isFalse =>
      rw [List.flatten_cons, ih _ (by rw [List.length_drop]; show _ - 59 ≤ _; omega), List.take_append_drop]

theorem chunks_length (n : Nat) (bs : List Byte) : (chunks n bs).length ≤ n := by
  induction n generalizing bs with
  | zero => exact Nat.le_refl _
  | succ n ih =>
    rw [chunks]
    split
    case isTrue => simp
    case isFalse => simpa using ih _

theorem chunks_some (n : Nat) (bs : List Byte) : 1 ≤ (chunks (n + 1) bs).length := by
  rw [chunks]
  split <;> simp

theorem chunks_short (n : Nat) (bs : List Byte) : ∀ p ∈ chunks n bs, p.length ≤ 59 := by
  induction n generalizing bs with
  | zero => exact List.forall_mem_nil _
  | succ n ih =>
    rw [chunks]
    split
    case isTrue short => exact List.forall_mem_singleton.mpr short
    case isFalse => exact List.forall_mem_cons.mpr ⟨List.length_take_le _ _, ih _⟩

/-- The response frames of a run of parts: code, index with bit 7 on the last, part. -/
theorem responseFrames_get (kind : Nat) (a : Answer) {parts : List (List Byte)} (h : chunks 8 (fieldBytes a.fields) = parts) :
    (responseFrames kind a).length = parts.length ∧
      ∀ k p, parts[k]? = some p → (responseFrames kind a)[k]? = some (frameBytes kind
        (BitVec.ofNat 8 a.code.number :: BitVec.ofNat 8 (if k + 1 = parts.length then 128 + k else k) :: p)) := by
  have frames : responseFrames kind a = parts.zipIdx.map (fun p => frameBytes kind
      (BitVec.ofNat 8 a.code.number :: BitVec.ofNat 8 (p.2 + (if p.2 + 1 = parts.length then 128 else 0)) :: p.1)) := by
    rw [← h]
    rfl
  have index (k : Nat) : k + (if k + 1 = parts.length then 128 else 0) = if k + 1 = parts.length then 128 + k else k := by
    split <;> omega
  rw [frames]
  refine ⟨by simp, fun k p part => ?_⟩
  simp [part, index]

/-! ### FETCH (R173) -/

theorem exec_fetch_running (on : s.running = true) (n : Nat) : exec (.fetch n) s = .next (if n = 0 then s else s.fetchBytes n) := by
  rw [exec_fetch, State.whileRunning, if_pos on]

theorem fetchBytes_eq {n : Nat} {slot : List (List Byte)} {rdy : Bool} {out : List Byte} (left : s.port.unread n = slot)
    (ready : rdy = !slot.isEmpty) (clocked : s.port.clocked n = out) :
    s.fetchBytes n = s.withPort ⟨s.port.request, slot, rdy, .highImpedance, out⟩ := by
  subst left ready clocked
  rfl

theorem zeros_take (n k : Nat) : (0#8 :: 0#8 :: List.replicate (n + k) 0#8).take n = List.replicate n (0#8 : Byte) := by
  rw [← List.replicate_succ, ← List.replicate_succ, List.take_replicate]
  congr 1
  omega

theorem fetched_nothing {n : Nat} (empty : s.port.slot = []) :
    s.fetchBytes n = s.withPort ⟨s.port.request, [], false, .highImpedance, List.replicate n 0#8⟩ := by
  refine fetchBytes_eq ?_ rfl ?_
  · rw [Port.unread, empty]
    split <;> rfl
  · rw [Port.clocked, Port.oldest, empty]
    exact zeros_take n 0

section
variable {n : Nat} {frame : List Byte} {rest : List (List Byte)} (slot : s.port.slot = frame :: rest)
include slot

theorem fetched_part (short : n < frame.length + 2) : s.fetchBytes n =
    s.withPort ⟨s.port.request, s.port.slot, true, .highImpedance, (0#8 :: 0#8 :: frame).take n⟩ := by
  have oldest : s.port.oldest = frame := by rw [Port.oldest, slot]; rfl
  refine fetchBytes_eq ?_ (by rw [slot]; rfl) ?_
  · rw [Port.unread, oldest, if_neg (by omega)]
  · rw [Port.clocked, oldest]
    exact List.take_append_of_le_length (by simpa using Nat.le_of_lt short)

theorem fetched_whole (long : frame.length + 2 ≤ n) : s.fetchBytes n =
    s.withPort ⟨s.port.request, rest, decide (rest ≠ []), .highImpedance,
      0#8 :: 0#8 :: frame ++ List.replicate (n - (frame.length + 2)) 0#8⟩ := by
  have oldest : s.port.oldest = frame := by rw [Port.oldest, slot]; rfl
  refine fetchBytes_eq ?_ (by cases rest <;> rfl) ?_
  · rw [Port.unread, oldest, if_pos long, slot, List.drop_succ_cons, List.drop_zero]
  · rw [Port.clocked, oldest]
    refine (List.take_append ..).trans ?_
    rw [List.take_of_length_le (l := [0#8, 0#8] ++ frame) (by simp; omega), List.take_replicate]
    congr 2
    simp

end

/-! ### Bad frames (R172) -/

/-- MISO carries 0x00 while a request is taken. -/
theorem gather_eq (s : State) (bytes : List Byte) : s.gather bytes =
    s.withPort ⟨bytes.take 64, s.port.slot, s.port.rdy, .highImpedance, List.replicate bytes.length 0#8⟩ := by
  have zeros : bytes.map (fun _ => (0#8 : Byte)) = List.replicate bytes.length 0#8 := List.map_const' ..
  rw [← zeros]
  rfl

theorem exec_badFrame_running (on : s.running = true) (bytes : List Byte) :
    exec (.supervisorBadFrame bytes) s = .next (if isBadFrame bytes then s.answerBadFrame bytes else s) := by
  rw [exec_supervisorBadFrame, State.whileRunning, if_pos on]

theorem isBadFrame_cons {k : Byte} {rest : List Byte} (other : k ≠ 0#8) (none : checkRequest (k :: rest) = Option.none) :
    isBadFrame (k :: rest) = true := by
  refine decide_eq_true ?_
  rw [transaction, if_neg other, none]

theorem isBadFrame_fetch {rest : List Byte} : isBadFrame (0#8 :: rest) = false :=
  decide_eq_false (fun h => nomatch h)

theorem isBadFrame_request {bytes : List Byte} {i : Instr} (h : checkRequest bytes = some i) : isBadFrame bytes = false := by
  obtain ⟨form, request, rfl⟩ := checkRequest_some h
  obtain ⟨⟨kind, p⟩, parts⟩ := Option.isSome_iff_exists.mp request
  refine decide_eq_false (fun bad => ?_)
  have read := (request_read form parts).2.1
  have same : i = onWire i := Option.some.inj (h.symm.trans (request_read form parts).1)
  have other : i = .supervisorBadFrame (requestBytes i) := same.trans (Option.some.inj (read.symm.trans bad))
  rw [other] at parts
  exact nomatch parts

end Sys2Proof.Machine

open Sys2Proof Sys2Proof.Machine

/-- Settles O49: answers framed for the response slot, FETCH, bad frames, and how requests are taken. -/
theorem supervisorPort : Obligations.SupervisorPort := by
  unfold Obligations.SupervisorPort
  refine ⟨fun s i a => ?answer, fun s n on => ?fetch, fun s k rest on => ?bad, fun s i a => ?request⟩
  case answer =>
    refine ⟨touches_withPort _ _, rfl, rfl, fun room => ⟨chunks 8 (fieldBytes a.fields), chunks_flatten 8 _ room, chunks_some 7 _,
      chunks_length 8 _, chunks_short 8 _, responseFrames_get _ a rfl⟩⟩
  case fetch =>
    have some_ (h : 1 ≤ n) : exec (.fetch n) s = .next (s.fetchBytes n) := by
      rw [exec_fetch_running on, if_neg (by omega)]
    refine ⟨fun none => by rw [exec_fetch_running on, if_pos none], fun h => ⟨fun empty => ?_, fun frame rest slot =>
      ⟨fun short => ?_, fun long => ?_⟩⟩⟩
    · exact (some_ h).trans (congrArg _ (fetched_nothing empty))
    · exact (some_ h).trans (congrArg _ (fetched_part slot short))
    · exact (some_ h).trans (congrArg _ (fetched_whole slot long))
  case bad =>
    have nothing {bytes : List Byte} (h : isBadFrame bytes = false) : exec (.supervisorBadFrame bytes) s = .next s := by
      rw [exec_badFrame_running on, h]
      rfl
    refine ⟨fun other none => ?_, fun zero => nothing (zero ▸ isBadFrame_fetch), fun i read => nothing (isBadFrame_request read),
      nothing rfl⟩
    rw [exec_badFrame_running on, if_pos (isBadFrame_cons other none), State.answerBadFrame, gather_eq]
    rfl
  case request =>
    refine ⟨gather_eq .., rfl, ⟨rfl, rfl⟩, fun c => ⟨rfl, rfl, fun f => ?_⟩⟩
    cases f <;> rfl
end

section
/-!
PROOF. What the stages of a report leave of an alert record: each operation raises and withdraws kinds of its own, and leaves the
record of every other kind as it was.
-/
namespace Sys2Proof.Machine

/-- The kinds that cell changes, denials, seizures and service changes raise or withdraw. -/
def ownKinds : List AlertKind := [.offPath, .restricted, .conflict, .intrusion, .secureOverdue]

/-- The kinds that a wind sample raises or withdraws besides. -/
def windKinds : List AlertKind := [.windCaution, .windHold, .windUnknown, .storm]

variable {k : AlertKind}

theorem SameAlert.refl (s : State) : SameAlert k s s := rfl

theorem SameAlert.trans {s t u : State} (h : SameAlert k s t) (g : SameAlert k t u) : SameAlert k s u := (framedAlert k).trans h g

/-! ### Raising -/

theorem alert_latchAlert (s : State) {j : AlertKind} (other : k ≠ j) (c : Option Crane) : SameAlert k s (s.latchAlert j c) :=
  State.setAlert_alert_ne s _ other

theorem alert_raiseFor (s : State) {j : AlertKind} (other : k ≠ j) (path : k ≠ .offPath) (c : Crane) :
    SameAlert k s (s.raiseFor j c) := by
  have stopped : SameAlert k (s.latchAlert j (some c)) ((s.latchAlert j (some c)).stopAction j (some c)) := by
    rcases stopAction_some (s.latchAlert j (some c)) j c with ⟨x, _, _, eq⟩ | ⟨_, eq⟩
    · rw [eq]
      exact alert_addStop _ path c x
    · rw [eq]
      exact .refl _
  exact (framedAlert k).frame (touches_evaluateLines _) rfl ((alert_latchAlert s other _).trans stopped)

section
variable (own : k ∉ ownKinds)
include own

theorem ne_offPath : k ≠ .offPath := fun h => own (h ▸ by decide)
theorem ne_restricted : k ≠ .restricted := fun h => own (h ▸ by decide)
theorem ne_conflict : k ≠ .conflict := fun h => own (h ▸ by decide)
theorem ne_intrusion : k ≠ .intrusion := fun h => own (h ▸ by decide)
theorem ne_secureOverdue : k ≠ .secureOverdue := fun h => own (h ▸ by decide)

/-! ### Cell changes and their follow-ups -/

theorem alert_dropRestricted (s : State) (q : CellId) : SameAlert k s (s.dropRestricted q) := by
  rw [dropRestricted_eq]
  split
  · exact alert_withdraw _ (ne_restricted own) _
  · exact .refl _

theorem alert_ownConditions (s : State) (chg : List Change) : SameAlert k s (s.ownConditions chg) := by
  refine (framedAlert k).fold ((framedAlert k).fold (.refl s) _ _ (fun u d => ?_)) _ _ (fun u d =>
    alert_reviewOffPath u (ne_offPath own) _)
  split
  · exact alert_dropRestricted own u d.cell
  · exact .refl u

theorem alert_seizureEnded (s : State) (q : CellId) : SameAlert k s (s.seizureEnded q) := by
  have conflicts (u : State) (l : List Crane) :
      SameAlert k u (l.foldl (fun s x => if s.inConflict x then s else s.withdraw .conflict x) u) :=
    (framedAlert k).fold (.refl u) _ _ (fun v x => by
      split
      · exact .refl v
      · exact alert_withdraw v (ne_conflict own) x)
  have register (es : List RegEntry) : SameAlert k s (s.withRegister es) := .refl s
  unfold State.seizureEnded
  dsimp only
  split
  · exact ((register _).trans (conflicts _ _)).trans (alert_withdraw _ (ne_intrusion own) _)
  · exact (register _).trans (conflicts _ _)

theorem alert_ownAndSeized (s : State) (chg : List Change) : SameAlert k s (s.ownAndSeized chg) := by
  refine (framedAlert k).fold (alert_ownConditions own s chg) _ _ (fun u d => ?_)
  split
  · exact alert_seizureEnded own u d.cell
  · exact .refl u

theorem alert_tryGrant (s : State) (w : Wait) : SameAlert k s (s.tryGrant w) := by
  unfold State.tryGrant
  dsimp only
  split
  · exact ((framedAlert k).frame (touches_notify _ _ _) rfl ((framedAlert k).frame (touches_dropWait _ _ _) rfl
      ((framedAlert k).of (touches_changeCells s _) rfl))).trans (alert_ownAndSeized own _ _)
  · exact .refl s

theorem alert_walk (s : State) : SameAlert k s s.walk := (framedAlert k).fold (.refl s) _ _ (alert_tryGrant own)

theorem alert_denyCrane (s : State) (c : Crane) (why : DenyReason) : SameAlert k s (s.denyCrane c why) :=
  alert_denyWaits s (ne_offPath own) _ _

theorem alert_outOfService (s : State) (c : Crane) (o : Order) (withheld : Bool) : SameAlert k s (s.outOfService c o withheld) :=
  (((framedAlert k).of (touches_setSvc s c _) rfl).trans (alert_denyCrane own _ _ _)).trans
    (alert_withdraw _ (ne_secureOverdue own) _)

theorem alert_toService (s : State) (c : Crane) : SameAlert k s (s.toService c) :=
  ((framedAlert k).of (touches_setSvc s c _) rfl).trans (alert_withdraw _ (ne_secureOverdue own) _)

theorem alert_resumeChange (s : State) (c : Crane) : SameAlert k s (s.resumeChange c) := by
  have cells (rs : List CellReq) : SameAlert k s (s.changeCells rs) := (framedAlert k).of (touches_changeCells s rs) rfl
  unfold State.resumeChange
  dsimp only
  split
  · exact (cells _).trans (alert_toService own _ c)
  · exact (cells _).trans (alert_outOfService own _ c _ _)

theorem alert_release (s : State) (c : Crane) :
    SameAlert k s (((s.changeCells (vaneReqs c)).outOfService c .vaneRelease false).ownAndSeized (s.changesOf (vaneReqs c))) :=
  (((framedAlert k).of (touches_changeCells s _) rfl).trans (alert_outOfService own _ c _ _)).trans (alert_ownAndSeized own _ _)

theorem alert_followUps : FollowUps (SameAlert k) where
  refl := .refl
  trans := .trans
  walk := alert_walk own
  resume s c _ := (alert_resumeChange own s c).trans (alert_ownAndSeized own _ _)
  release s c _ _ := alert_release own s c

theorem alert_convert (s : State) (rs : List CellReq) : SameAlert k s (s.convert rs) :=
  (alert_followUps own).follow (((framedAlert k).of (touches_changeCells s rs) rfl).trans (alert_ownAndSeized own _ _))

theorem alert_holdCell (s : State) (q : CellId) (o : OriginRule) : SameAlert k s (s.holdCell q o) := by
  have cells (rs : List CellReq) : SameAlert k s (s.changeCells rs) := (framedAlert k).of (touches_changeCells s rs) rfl
  refine (alert_followUps own).follow (SameAlert.trans ?_ (alert_ownAndSeized own _ _))
  split
  · exact (framedAlert k).frame (touches_notify _ _ _) rfl ((framedAlert k).frame (touches_dropWait _ _ _) rfl (cells _))
  · exact cells _

/-! ### The position check (R83, R84) -/

theorem alert_intrude (s : State) (q : CellId) : SameAlert k s (s.intrude q) := by
  have raised := alert_raiseFor s (ne_intrusion own) (ne_offPath own) q.crane
  unfold State.intrude
  dsimp only
  split
  · exact raised
  · exact (framedAlert k).fold ((framedAlert k).frame (touches_register_ _ _ _) rfl raised) _ _ (fun u d =>
      alert_raiseFor u (ne_conflict own) (ne_offPath own) d)

theorem alert_seize (s : State) (q : CellId) : SameAlert k s (s.seize q) := (alert_convert own s _).trans (alert_intrude own _ q)

theorem alert_checkOccupied (s : State) (q : CellId) : SameAlert k s (s.checkOccupied q) := by
  unfold State.checkOccupied
  split
  · exact .refl s
  · exact .refl s
  · exact .refl s
  · split
    · exact alert_holdCell own s q _
    · exact .refl s
  · split
    · exact alert_holdCell own s q _
    · exact alert_seize own s q
  · exact alert_seize own s q

theorem alert_checkLeft (s : State) (q : CellId) : SameAlert k s (s.checkLeft q) := by
  unfold State.checkLeft
  split
  · exact alert_convert own s _
  · exact .refl s

theorem alert_checkPosition (s : State) (c : Crane) : SameAlert k s (s.checkPosition c) :=
  (framedAlert k).fold ((framedAlert k).fold (.refl s) _ _ (fun u _ => alert_checkOccupied own u _)) _ _
    (fun u _ => alert_checkLeft own u _)

theorem alert_positionStage (s : State) (c : Crane) (angle : Nat) : SameAlert k s (s.positionStage c angle) := by
  have set_ (o : Option Occupied) : SameAlert k s (s.setOccupied c o) := (framedAlert k).of (touches_setOccupied s c o) rfl
  unfold State.positionStage
  dsimp only
  split
  · exact set_ _
  · exact (set_ _).trans (alert_checkPosition own _ c)
  · exact (set_ _).trans (alert_checkPosition own _ c)
  · exact (set_ _).trans (alert_checkPosition own _ c)

theorem alert_loadDrop (s : State) (c : Crane) : SameAlert k s (s.loadDrop c) := by
  have set_ (xs : List Sector) : SameAlert k s (s.setRestricted c xs) := (framedAlert k).of (touches_setRestricted s c xs) rfl
  unfold State.loadDrop
  dsimp only
  split
  · exact ((set_ _).trans (alert_withdraw _ (ne_restricted own) c)).trans ((alert_followUps own).arbitrate _)
  · exact (set_ _).trans ((alert_followUps own).arbitrate _)

/-! ### Service (R114, R118, R119, R121..R123) -/

theorem alert_testVane (s : State) (c : Crane) : SameAlert k s (s.testVane c) := by
  unfold State.testVane
  split
  · exact (alert_followUps own).followWith (alert_followUps own).recheckVane (alert_release own s c)
  · exact .refl s

theorem alert_securingStage (s : State) (c : Crane) : SameAlert k s (s.securingStage c) := by
  have svc (u : State) (r : ServiceRec) : SameAlert k u (u.setSvc c r) := (framedAlert k).of (touches_setSvc u c r) rfl
  unfold State.securingStage
  split
  case isFalse => exact .refl s
  case isTrue =>
    dsimp only
    split
    case isFalse => exact svc s _
    case isTrue =>
      refine SameAlert.trans (svc s { s.svc c with readiness := some (s.readinessOf c) }) ?_
      split
      · exact (((svc _ _).trans (alert_denyCrane own _ c _)).trans (alert_convert own _ _)).trans
          (alert_withdraw _ (ne_secureOverdue own) c)
      · exact ((svc _ _).trans (alert_denyCrane own _ c _)).trans (alert_testVane own _ c)

theorem alert_enterSecuring (s : State) (c : Crane) : SameAlert k s (s.enterSecuring c) := by
  have svc (u : State) (r : ServiceRec) : SameAlert k u (u.setSvc c r) := (framedAlert k).of (touches_setSvc u c r) rfl
  have withheld : SameAlert k s (s.withheldToVaneWait c) := (svc s _).trans (alert_denyCrane own _ c _)
  unfold State.enterSecuring
  dsimp only
  split
  case h_1 => exact svc s _
  case h_2 =>
    split
    case isFalse => exact .refl s
    case isTrue =>
      split
      · split
        · exact withheld
        · exact withheld.trans (alert_testVane own _ c)
      · exact svc s _
  all_goals exact .refl s

theorem alert_enterSecuringAll (s : State) : SameAlert k s s.enterSecuringAll :=
  (framedAlert k).fold (.refl s) _ _ (alert_enterSecuring own)

theorem alert_rejoinService (s : State) (c : Crane) : SameAlert k s (s.rejoinService c) := by
  have svc (r : ServiceRec) : SameAlert k s (s.setSvc c r) := (framedAlert k).of (touches_setSvc s c r) rfl
  unfold State.rejoinService
  dsimp only
  split
  · split
    · exact (svc _).trans (alert_testVane own _ c)
    · exact svc _
  · split
    · split <;> exact svc _
    · exact .refl s

/-! ### Lift and wind (R86, R96, R117) -/

theorem alert_liftStage (s : State) (nonconform : k ≠ .nonconform) (c : Crane) (load : Option Nat) (radius : Nat) :
    SameAlert k s (s.liftStage c load radius) := by
  have last (o : Option Conformance) : SameAlert k s (s.setLastConf c o) := (framedAlert k).of (touches_setLastConf s c o) rfl
  unfold State.liftStage
  split
  · exact .refl s
  · split
    · exact (last _).trans (alert_withdraw _ nonconform c)
    · exact (framedAlert k).frame (touches_addReasonTo _ _ _) rfl ((last _).trans (alert_raiseFor _ nonconform (ne_offPath own) c))

theorem alert_keepInStep (s : State) {j : AlertKind} (other : k ≠ j) (c : Crane) (holds : Bool) :
    SameAlert k s (s.keepInStep j c holds) := by
  unfold State.keepInStep
  split
  · split
    · exact .refl s
    · exact alert_raiseFor s other (ne_offPath own) c
  · split
    · exact alert_withdraw s other c
    · exact .refl s

section
variable (wind : k ∉ windKinds)
include wind

theorem alert_windConditions (s : State) (c : Crane) : SameAlert k s (s.windConditions c) := by
  have away {j : AlertKind} (h : j ∈ windKinds) : k ≠ j := fun same => wind (same ▸ h)
  unfold State.windConditions
  dsimp only
  split
  · exact ((alert_keepInStep own s (away (by decide)) c _).trans (alert_keepInStep own _ (away (by decide)) c _)).trans
      (alert_keepInStep own _ (away (by decide)) c _)
  · exact .refl s

theorem alert_reportStorm (s : State) (c : Crane) : SameAlert k s (s.reportStorm c) := by
  have storm : k ≠ .storm := fun same => wind (same ▸ by decide)
  have raised (u : State) : SameAlert k u (u.raiseFor .storm c) := alert_raiseFor u storm (ne_offPath own) c
  unfold State.reportStorm
  split
  · exact ((framedAlert k).frame (touches_addReasonAll _ _) rfl
      (((framedAlert k).of (touches_withSite s _) rfl).trans (raised _))).trans (alert_enterSecuringAll own _)
  all_goals exact raised s

theorem alert_windStage (s : State) (c : Crane) (w : Option Nat) : SameAlert k s (s.windStage c w) := by
  have set_ (r : WindRec) : SameAlert k s (s.setWind c r) := (framedAlert k).of (touches_setWind s c r) rfl
  unfold State.windStage
  dsimp only
  refine (framedAlert k).frame (touches_handVerdict _ _) rfl ?_
  split
  · exact ((set_ _).trans (alert_windConditions own wind _ c)).trans (alert_reportStorm own wind _ c)
  · exact (set_ _).trans (alert_windConditions own wind _ c)

theorem alert_windLost (s : State) (c : Crane) : SameAlert k s (s.windLost c) :=
  SameAlert.trans ((framedAlert k).of (touches_setWind s c _) rfl) (alert_windConditions own wind _ c)

end
end

end Sys2Proof.Machine
end

section
/-!
PROOF. The crane records (R36..R45): STATUS, REJOIN and the report bound.
-/
namespace Sys2Proof.Machine

variable {s : State} {c : Crane}

/-! ### What a report writes (R37..R39) -/

theorem reportWindow_eq (s : State) : s.reportWindow = if s.site = .closed then 10000 else 2000 := by
  unfold State.reportWindow
  cases s.site <;> rfl

theorem countNoReading_eq (n : Nat) (wind : Option Nat) : countNoReading n wind = if wind = none then min (n + 1) 255 else 0 := by
  cases wind <;> rfl

/-- The record a report leaves; `n` is the no-reading count before it. -/
def reported (s : State) (c : Crane) (r : Report) (n : Nat) : CraneRec :=
  let wind := if r.wind = 65535 then none else some r.wind
  ⟨.present, some s.clock.mono, some (s.clock.mono + if s.site = .closed then 10000 else 2000),
    some ⟨r.angle % 4096, min r.radius (s.entry c).reach, if r.load = 65535 then none else some r.load, wind, r.flags.testBit 0,
      r.flags.testBit 1, r.flags.testBit 2⟩,
    if wind = none then min (n + 1) 255 else 0⟩

theorem recordReport_eq (s : State) (c : Crane) (r : Report) (n : Nat) :
    s.recordReport c r n = s.setCrane c (reported s c r n) := by
  unfold State.recordReport
  dsimp only
  rw [reportWindow_eq, countNoReading_eq]
  rfl

theorem early_iff : s.early c = true ↔ ∃ t, (s.craneRec c).lastReport = some t ∧ s.clock.mono < t + 250 := by
  unfold State.early
  split
  case h_1 t found =>
    rw [decide_eq_true_iff]
    refine ⟨fun early => ⟨t, found, early⟩, ?_⟩
    rintro ⟨u, same, early⟩
    cases found.symm.trans same
    exact early
  case h_2 none =>
    refine ⟨nofun, ?_⟩
    rintro ⟨u, same, -⟩
    exact nomatch none.symm.trans same

theorem loadDropped_iff {k : Option Contents} {load : Option Nat} :
    (!loadWasZero k && decide (load = some 0)) = true ↔ load = some 0 ∧ k.bind Contents.load ≠ some 0 := by
  unfold loadWasZero
  cases k <;> simp [and_comm]

/-! ### The delivery (R42) -/

/-- The stages up to the load drop. -/
def positioned (t : State) (c : Crane) (angle : Nat) (dropped : Bool) : State :=
  if dropped then (t.positionStage c angle).loadDrop c else t.positionStage c angle

/-- The stages from the wind on. -/
def delivered (u : State) (c : Crane) (rejoining : Bool) (wind load : Option Nat) (radius : Nat) : State :=
  ((if rejoining then (u.windStage c wind).removeReasonFrom c .lost else u.windStage c wind).liftStage c load radius).securingStage c

theorem deliver_eq (t : State) (c : Crane) (r : Report) (rejoining wasZero : Bool) :
    t.deliver c r rejoining wasZero =
      delivered (positioned t c (r.angle % 4096) (!wasZero && decide (readingOf r.load = some 0))) c rejoining (readingOf r.wind)
        (readingOf r.load) (min r.radius (t.entry c).reach) := rfl

theorem touches_positioned (t : State) (c : Crane) (angle : Nat) (dropped : Bool) :
    Touches [.links, .cells, .waits, .restricted, .occupied, .stops, .register, .service, .bookings, .alerts, .lines] t
      (positioned t c angle dropped) := by
  unfold positioned
  split
  · exact (touches_positionStage t c angle).step (touches_loadDrop _ c) (by decide)
  · exact touches_positionStage t c angle

theorem touches_delivered (u : State) (c : Crane) (rejoining : Bool) (wind load : Option Nat) (radius : Nat) :
    Touches [.links, .cells, .waits, .restricted, .stops, .lastConf, .register, .wind, .site, .service, .bookings, .alerts, .lines] u
      (delivered u c rejoining wind load radius) := by
  have winded : Touches [.links, .cells, .waits, .restricted, .stops, .register, .wind, .site, .service, .bookings, .alerts, .lines] u
      (if rejoining then (u.windStage c wind).removeReasonFrom c .lost else u.windStage c wind) := by
    split
    · exact (touches_windStage u c wind).step (touches_removeReasonFrom _ c _) (by decide)
    · exact touches_windStage u c wind
  exact ((winded.mono (by decide)).step (touches_liftStage _ c load radius) (by decide)).step (touches_securingStage _ c) (by decide)

theorem positionStage_occupied (t : State) (c : Crane) (angle : Nat) :
    (t.positionStage c angle).occupied = tput t.occupied c (some (occupiedAt angle (t.entry c).margin)) := by
  unfold State.positionStage
  dsimp only
  split
  · rfl
  all_goals exact (touches_checkPosition _ c).occupied_eq (by decide)

theorem positioned_occupied (t : State) (c : Crane) (angle : Nat) (dropped : Bool) :
    (positioned t c angle dropped).occupied = tput t.occupied c (some (occupiedAt angle (t.entry c).margin)) := by
  unfold positioned
  split
  · rw [(touches_loadDrop _ c).occupied_eq (by decide), positionStage_occupied]
  · exact positionStage_occupied t c angle

theorem windStage_wind (u : State) (c : Crane) (wind : Option Nat) : (u.windStage c wind).wind =
    tput u.wind c ((u.windRec c).sample (u.entry c) u.now wind (u.craneRec c).noReading) := by
  unfold State.windStage
  dsimp only
  rw [(touches_handVerdict _ c).wind_eq (by decide)]
  split
  · rw [(touches_reportStorm _ c).wind_eq (by decide), (touches_windConditions _ c).wind_eq (by decide)]
    rfl
  · rw [(touches_windConditions _ c).wind_eq (by decide)]
    rfl

theorem delivered_windRec {u : State} {c d : Crane} (other : d ≠ c) (rejoining : Bool) (wind load : Option Nat) (radius : Nat) :
    (delivered u c rejoining wind load radius).windRec d = u.windRec d := by
  have winded : (if rejoining then (u.windStage c wind).removeReasonFrom c .lost else u.windStage c wind).wind =
      (u.windStage c wind).wind := by
    split
    · exact (touches_removeReasonFrom _ c _).wind_eq (by decide)
    · rfl
  rw [State.windRec, delivered, (touches_securingStage _ c).wind_eq (by decide), (touches_liftStage _ c _ _).wind_eq (by decide),
    winded, windStage_wind, tget_tput_ne _ _ other.symm]
  rfl

section
variable {k : AlertKind} (own : k ∉ ownKinds)
include own

theorem alert_positioned (t : State) (c : Crane) (angle : Nat) (dropped : Bool) : SameAlert k t (positioned t c angle dropped) := by
  unfold positioned
  split
  · exact (alert_positionStage own t c angle).trans (alert_loadDrop own _ c)
  · exact alert_positionStage own t c angle

theorem alert_delivered (wind : k ∉ windKinds) (nonconform : k ≠ .nonconform) (u : State) (c : Crane) (rejoining : Bool)
    (sample load : Option Nat) (radius : Nat) : SameAlert k u (delivered u c rejoining sample load radius) := by
  have winded : SameAlert k u (if rejoining then (u.windStage c sample).removeReasonFrom c .lost else u.windStage c sample) := by
    split
    · exact (framedAlert k).frame (touches_removeReasonFrom _ c _) rfl (alert_windStage own wind u c sample)
    · exact alert_windStage own wind u c sample
  exact (winded.trans (alert_liftStage own _ nonconform c load radius)).trans (alert_securingStage own _ c)

end

/-- A raised condition of a crane is there. -/
theorem raiseFor_in {k : AlertKind} (path : k ≠ .offPath) (crane : k.siteScoped = false) (s : State) (c : Crane) :
    c ∈ ((s.raiseFor k c).alert k).cranes := by
  have stopped : SameAlert k (s.latchAlert k (some c)) (s.raiseFor k c) := by
    refine (framedAlert k).frame (touches_evaluateLines _) rfl ?_
    rcases stopAction_some (s.latchAlert k (some c)) k c with ⟨x, _, _, eq⟩ | ⟨_, eq⟩
    · rw [eq]
      exact alert_addStop _ path c x
    · rw [eq]
      exact .refl _
  rw [show (s.raiseFor k c).alert k = (s.latchAlert k (some c)).alert k from stopped, State.latchAlert, State.setAlert_alert_same]
  simp only [crane, Bool.false_eq_true, if_false]
  exact (mem_setAdd mem_allCranes).mpr (.inl rfl)

theorem lost_delivered (t : State) (c : Crane) (angle : Nat) (dropped rejoining : Bool) (wind load : Option Nat) (radius : Nat) :
    KeepsLost t (delivered (positioned t c angle dropped) c rejoining wind load radius) := by
  have here : KeepsLost t (positioned t c angle dropped) := by
    unfold positioned
    split
    · exact framedLost.trans (lost_positionStage t c angle) (lost_loadDrop _ c)
    · exact lost_positionStage t c angle
  refine framedLost.trans (framedLost.frame (touches_liftStage _ c _ _) rfl ?_) (lost_securingStage _ c)
  split
  · exact framedLost.frame (touches_removeReasonFrom _ c _) rfl (framedLost.trans here (lost_windStage _ c wind))
  · exact framedLost.trans here (lost_windStage _ c wind)

/-! ### STATUS and REJOIN (R42, R45) -/

/-- The delivery writes the occupied set and the wind record of its crane alone, and no crane record. -/
theorem delivered_records (t : State) (c : Crane) (angle : Nat) (dropped rejoining : Bool) (wind load : Option Nat) (radius : Nat)
    {w : State} (eq : delivered (positioned t c angle dropped) c rejoining wind load radius = w) :
    (∀ d, w.craneRec d = t.craneRec d) ∧ tget w.occupied c = some (occupiedAt angle (t.entry c).margin) ∧
      ∀ d, d ≠ c → tget w.occupied d = tget t.occupied d ∧ w.windRec d = t.windRec d := by
  have occupied : w.occupied = tput t.occupied c (some (occupiedAt angle (t.entry c).margin)) := by
    rw [← eq, (touches_delivered _ c _ _ _ _).occupied_eq (by decide), positioned_occupied]
  refine ⟨fun d => ?_, ?_, fun d other => ⟨?_, ?_⟩⟩
  · rw [← eq, craneRec_of_touches (touches_delivered _ c _ _ _ _) (by decide),
      craneRec_of_touches (touches_positioned t c _ _) (by decide)]
  · rw [occupied, tget_tput_same]
  · rw [occupied, tget_tput_ne _ _ other.symm]
  · rw [← eq, delivered_windRec other, State.windRec, (touches_positioned t c _ _).wind_eq (by decide)]
    rfl

/-- The state in which an accepted STATUS is delivered: the record written, REPORT_EARLY raised or withdrawn (R38). -/
def accepted (s : State) (c : Crane) (r : Report) : State :=
  let v := s.setCrane c (reported s c r (s.craneRec c).noReading)
  if s.early c then v.raiseFor .reportEarly c else v.withdraw .reportEarly c

theorem touches_accepted (s : State) (c : Crane) (r : Report) :
    Touches [.links, .cranes, .waits, .stops, .bookings, .alerts, .lines] s (accepted s c r) := by
  unfold accepted
  dsimp only
  split
  · exact ((touches_setCrane s c _).mono (by decide)).step (touches_raiseFor _ _ c) (by decide)
  · exact ((touches_setCrane s c _).mono (by decide)).step (touches_withdraw _ _ c) (by decide)

theorem craneRec_accepted (s : State) (c : Crane) (r : Report) (d : Crane) :
    (accepted s c r).craneRec d = if c = d then reported s c r (s.craneRec c).noReading else s.craneRec d := by
  have kept : (accepted s c r).craneRec d = (s.setCrane c (reported s c r (s.craneRec c).noReading)).craneRec d := by
    unfold accepted
    dsimp only
    split
    · exact craneRec_of_touches (touches_raiseFor _ _ c) (by decide) d
    · exact craneRec_of_touches (touches_withdraw _ _ c) (by decide) d
  rw [kept, craneRec_setCrane]

theorem early_accepted (s : State) (c : Crane) (r : Report) :
    c ∈ ((accepted s c r).alert .reportEarly).cranes ↔ s.early c = true := by
  unfold accepted
  dsimp only
  split
  case isTrue early => exact iff_of_true (raiseFor_in (by decide) rfl _ c) early
  case isFalse notEarly => exact iff_of_false (withdraw_out _ _ c) notEarly

theorem acceptStatus_eq (s : State) (c : Crane) (r : Report) :
    s.acceptStatus c r =
      (delivered (positioned (accepted s c r) c (r.angle % 4096)
        (!loadWasZero (s.craneRec c).contents && decide (readingOf r.load = some 0))) c false (readingOf r.wind) (readingOf r.load)
        (min r.radius (s.entry c).reach)).acknowledge c .ok := by
  have entry : (accepted s c r).entry c = s.entry c := by
    rw [State.entry, (touches_accepted s c r).plan_eq (by decide)]
    rfl
  rw [← entry, ← deliver_eq]
  unfold State.acceptStatus accepted
  dsimp only
  rw [recordReport_eq]

theorem acceptRejoin_eq (s : State) (c : Crane) (r : Report) :
    s.acceptRejoin c r =
      ((delivered (positioned (((s.setCrane c (reported s c r 0)).withdraw .reportEarly c).rejoinService c) c (r.angle % 4096)
        (!loadWasZero (s.craneRec c).contents && decide (readingOf r.load = some 0))) c true (readingOf r.wind) (readingOf r.load)
        (min r.radius (s.entry c).reach)).withdraw .craneLost c).acknowledge c .ok := by
  have entry : (((s.setCrane c (reported s c r 0)).withdraw .reportEarly c).rejoinService c).entry c = s.entry c := by
    rw [State.entry, (touches_rejoinService _ c).plan_eq (by decide)]
    rfl
  rw [← entry, ← deliver_eq]
  unfold State.acceptRejoin
  dsimp only
  rw [recordReport_eq]

theorem positioned_cases (t : State) (c : Crane) (angle : Nat) {dropped : Bool} {P : Prop} (iff : dropped = true ↔ P) :
    (P → positioned t c angle dropped = (t.positionStage c angle).loadDrop c) ∧
      (¬ P → positioned t c angle dropped = t.positionStage c angle) :=
  ⟨fun h => if_pos (iff.mpr h), fun h => if_neg (mt iff.mp h)⟩

theorem rejoin_taken (on : s.running = true) (empty : (s.link c).buffer = none) (room : answersIn (s.link c).queue < 6)
    (inPlan : s.present c = true) (away : (s.craneRec c).presence ≠ .present) (r : Report) :
    exec (.rejoin c r) s = .next ((s.withdraw .frameError c).acceptRejoin c r) := by
  have there : ((s.withdraw .frameError c).craneRec c).presence ≠ .present := away
  have frame : exec (.rejoin c r) s = .next ((s.withdraw .frameError c).takeFrame c (.rejoin r)) :=
    frame_taken on (.rejoin r) empty room
  rw [frame, takeFrame_away (s := s.withdraw .frameError c) inPlan there]

/-- What a REJOIN leaves of the crane records, the occupied set, the LOST mark and the two conditions of the link (R45). -/
theorem rejoined_records (s : State) (c : Crane) (r : Report) (dropped : Bool) {w : State}
    (eq : (delivered (positioned (((s.setCrane c (reported s c r 0)).withdraw .reportEarly c).rejoinService c) c (r.angle % 4096)
        dropped) c true (readingOf r.wind) (readingOf r.load) (min r.radius (s.entry c).reach)).withdraw .craneLost c = w) :
    w.craneRec c = reported s c r 0 ∧ (∀ d, d ≠ c → w.craneRec d = s.craneRec d) ∧
      tget w.occupied c = some (occupiedAt (r.angle % 4096) (s.entry c).margin) ∧ (w.svc c).lost = false ∧
      c ∉ (w.alert .craneLost).cranes ∧ c ∉ (w.alert .reportEarly).cranes := by
  have served := touches_rejoinService ((s.setCrane c (reported s c r 0)).withdraw .reportEarly c) c
  have early : c ∉ ((((s.setCrane c (reported s c r 0)).withdraw .reportEarly c).rejoinService c).alert .reportEarly).cranes := by
    rw [show State.alert _ _ = _ from alert_rejoinService (k := .reportEarly) (by decide) _ c]
    exact withdraw_out _ _ c
  have back := lost_rejoinService ((s.setCrane c (reported s c r 0)).withdraw .reportEarly c) c
  have written (d : Crane) : (((s.setCrane c (reported s c r 0)).withdraw .reportEarly c).rejoinService c).craneRec d =
      if c = d then reported s c r 0 else s.craneRec d :=
    (craneRec_of_touches served (by decide) d).trans (craneRec_setCrane _ c d _)
  have entry : (((s.setCrane c (reported s c r 0)).withdraw .reportEarly c).rejoinService c).entry c = s.entry c := by
    rw [State.entry, served.plan_eq (by decide)]
    rfl
  generalize ((s.setCrane c (reported s c r 0)).withdraw .reportEarly c).rejoinService c = t at *
  obtain ⟨cranes, here, -⟩ := delivered_records t c (r.angle % 4096) dropped true (readingOf r.wind) (readingOf r.load)
    (min r.radius (s.entry c).reach) rfl
  have still : SameAlert .reportEarly t (delivered (positioned t c (r.angle % 4096) dropped) c true (readingOf r.wind)
      (readingOf r.load) (min r.radius (s.entry c).reach)) :=
    (alert_positioned (by decide) _ c _ _).trans (alert_delivered (by decide) (by decide) (by decide) _ c true _ _ _)
  have lost := lost_delivered t c (r.angle % 4096) dropped true (readingOf r.wind) (readingOf r.load)
    (min r.radius (s.entry c).reach) c
  generalize delivered (positioned t c (r.angle % 4096) dropped) c true (readingOf r.wind) (readingOf r.load)
    (min r.radius (s.entry c).reach) = u at *
  subst eq
  refine ⟨(cranes c).trans ((written c).trans (if_pos rfl)), fun d other => (cranes d).trans ((written d).trans (if_neg other.symm)),
    here.trans (by rw [entry]), lost.trans back, withdraw_out u _ c, ?_⟩
  rw [show State.alert _ _ = _ from alert_withdraw (k := .reportEarly) u (by decide) c, show u.alert _ = _ from still]
  exact early

/-! ### The service stage of a REJOIN (R114) -/

theorem rejoinService_lost (s : State) (c : Crane) (lost : (s.svc c).lost = true) (other : (s.svc c).state ≠ .vaneWait) :
    s.rejoinService c = s.setSvc c { s.svc c with lost := false } := by
  unfold State.rejoinService
  dsimp only
  rw [if_pos lost, if_neg other]

theorem rejoinService_waiting (lost : (s.svc c).lost = true) (waiting : (s.svc c).state = .vaneWait) :
    s.rejoinService c = (s.setSvc c { s.svc c with lost := false }).testVane c := by
  unfold State.rejoinService
  dsimp only
  rw [if_pos lost, if_pos waiting]

theorem rejoinService_offline (here : (s.svc c).lost = false) (offline : (s.svc c).state = .offline) :
    s.rejoinService c =
      if s.site = .setup then s.setSvc c { s.svc c with state := .standby, order := .remainSecured }
      else s.setSvc c { s.svc c with state := .inService, order := .work } := by
  unfold State.rejoinService
  dsimp only
  rw [if_neg (Bool.eq_false_iff.mp here), if_pos offline]
  cases s.site <;> rfl

/-! ### The load drop (R67) and the STATUS_ACK (R43) -/

theorem loadDrop_eq (s : State) (c : Crane) :
    s.loadDrop c =
      if tget s.restricted c ≠ [] ∧ (tget s.restricted c).filter (fun x => !decide (s.restriction ⟨c, x⟩ = .noLoad)) = [] then
        ((s.setRestricted c []).withdraw .restricted c).arbitrate
      else (s.setRestricted c ((tget s.restricted c).filter (fun x => !decide (s.restriction ⟨c, x⟩ = .noLoad)))).arbitrate := by
  unfold State.loadDrop
  dsimp only
  by_cases h : tget s.restricted c ≠ [] ∧ (tget s.restricted c).filter (fun x => !decide (s.restriction ⟨c, x⟩ = .noLoad)) = []
  · rw [if_pos h, if_pos (by simp only [Bool.and_eq_true, Bool.not_eq_true', List.isEmpty_eq_false_iff, List.isEmpty_iff]; exact h),
      h.2]
  · rw [if_neg h, if_neg (by simp only [Bool.and_eq_true, Bool.not_eq_true', List.isEmpty_eq_false_iff, List.isEmpty_iff]; exact h)]

theorem statusAck_lift (s : State) (c : Crane) (k : Code) {o : Option Booking} (running : s.runningLift c = o) :
    (s.statusAck c k).lift = (o.map Booking.id).getD 0 := by
  subst running
  unfold State.statusAck
  dsimp only
  cases s.runningLift c <;> rfl

/-! ### A lift given a reason (R155, R156) -/

theorem find_map_replaced {p : Booking → Bool} {b b' : Booking} (kept : p b' = true) (l : List Booking) (found : l.find? p = some b) :
    (l.map (fun r => if r.id = b.id then b' else r)).find? p = some b' := by
  induction l with
  | nil => exact nomatch found
  | cons a l ih =>
    rw [List.map_cons, List.find?_cons]
    rw [List.find?_cons] at found
    by_cases same : a.id = b.id
    · rw [if_pos same, kept]
    · rw [if_neg same]
      split at found
      · obtain rfl := Option.some.inj found
        exact absurd rfl same
      · exact ih found

/-- The running lift of a crane is replaced by one with its id. -/
theorem runningLift_putLift {b b' : Booking} (found : s.runningLift c = some b) (id : b'.id = b.id) (running : b'.running = true)
    (crane : b'.crane = c) : (s.putLift b').runningLift c = some b' := by
  have kept : (b'.running && decide (b'.crane = c)) = true := by rw [running, decide_eq_true crane]; rfl
  have replaced := find_map_replaced kept s.bookings found
  rw [← id] at replaced
  exact replaced

theorem runningLift_eq_of_bookings {t : State} (h : t.bookings = s.bookings) (c : Crane) : t.runningLift c = s.runningLift c := by
  rw [State.runningLift, h]
  rfl

/-- A crane's running lift has the reason it is given. -/
theorem runningLift_addReasonTo (s : State) (c : Crane) (x : SuspReason) {b : Booking}
    (found : (s.addReasonTo c x).runningLift c = some b) : ∃ rs, b.state = .suspended rs ∧ x ∈ rs := by
  unfold State.addReasonTo at found
  split at found
  case h_2 none => exact nomatch none.symm.trans found
  case h_1 a running =>
    obtain ⟨-, isRunning, crane⟩ := runningLift_mem running
    unfold State.addReason at found
    split at found
    · have put := runningLift_putLift (b' := { a with state := .suspended [x] }) running rfl rfl crane
      rw [runningLift_eq_of_bookings ((touches_notifyLift _ _ _ _).bookings_eq (by decide)), put] at found
      obtain rfl := Option.some.inj found
      exact ⟨[x], rfl, List.mem_singleton_self x⟩
    · rename_i rs _
      rw [runningLift_putLift (b' := { a with state := .suspended (setAdd SuspReason.all x rs) }) running rfl rfl crane] at found
      obtain rfl := Option.some.inj found
      exact ⟨_, rfl, (mem_setAdd SuspReason.mem_all).mpr (.inl rfl)⟩
    all_goals
      rename_i idle
      rw [Booking.running, idle] at isRunning
      exact nomatch isRunning

/-! ### LOST (R40) -/

theorem waits_of_denyWaits (s : State) (p : Wait → Bool) (why : DenyReason) :
    (s.denyWaits p why).waits = s.waits.filter (fun w => !p w) := by
  have told : Touches [.links, .alerts] (s.withWaits (s.waits.filter (fun w => !p w))) (s.denyWaits p why) :=
    Touches.fold (.refl _ _) _ _ (fun u (w : Wait) =>
      ((touches_notify u w.crane _).mono (by decide)).step (touches_reviewOffPath _ _) (by decide))
  exact told.waits_eq (by decide)

theorem waits_of_denyCrane (s : State) (c : Crane) (why : DenyReason) :
    (s.denyCrane c why).waits = s.waits.filter (fun w => decide (w.crane ≠ c)) := by
  rw [State.denyCrane, waits_of_denyWaits]
  exact List.filter_congr (fun w _ => (decide_not ..).symm)

/-- What an expired report bound makes of the records. -/
theorem becomeLost_records (s : State) (c : Crane) :
    (∀ d, (s.becomeLost c).craneRec d =
      (s.setCrane c { s.craneRec c with presence := .lost, lastReport := none, bound := none }).craneRec d) ∧
    (∀ d, (s.becomeLost c).svc d = if c = d then { s.svc c with lost := true } else s.svc d) ∧
    (s.becomeLost c).waits = s.waits.filter (fun w => decide (w.crane ≠ c)) ∧
    (∀ d, (s.becomeLost c).windRec d = if c = d then (s.windRec c).setUnknown else s.windRec d) ∧
    (s.becomeLost c).cells = s.cells ∧
    ∀ b, (s.becomeLost c).runningLift c = some b → ∃ rs, b.state = .suspended rs ∧ SuspReason.lost ∈ rs := by
  have before : Touches [.links, .cranes, .waits, .service, .bookings, .alerts] s (s.lostRecords c) := by
    unfold State.lostRecords
    exact ((((touches_setCrane s c _).mono (by decide)).step (touches_setSvc _ c _) (by decide)).step (touches_denyCrane _ c _)
      (by decide)).step (touches_addReasonTo _ c _) (by decide)
  have quiet (u : State) : Touches [.wind, .alerts, .lines] u ((u.windLost c).raiseFor .craneLost c) :=
    ((touches_setWind u c _).mono (by decide)).step
      ((touches_windConditions_quiet _ c).step (touches_raise_quiet _ .craneLost (some c) rfl) (by decide)) (by decide)
  have whole : s.becomeLost c = ((s.lostRecords c).windLost c).raiseFor .craneLost c := rfl
  have after := quiet (s.lostRecords c)
  refine ⟨fun d => ?_, fun d => ?_, ?_, fun d => ?_, ?_, fun b found => ?_⟩
  · rw [whole, craneRec_of_touches after (by decide), State.lostRecords, craneRec_of_touches (touches_addReasonTo _ c _) (by decide),
      craneRec_of_touches (touches_denyCrane _ c _) (by decide)]
    rfl
  · rw [whole, svc_of_touches after (by decide), State.lostRecords, svc_of_touches (touches_addReasonTo _ c _) (by decide),
      svc_of_touches (touches_denyCrane _ c _) (by decide), svc_setSvc]
    rfl
  · rw [whole, after.waits_eq (by decide), State.lostRecords, (touches_addReasonTo _ c _).waits_eq (by decide),
      waits_of_denyCrane]
    rfl
  · rw [whole, State.raiseFor, State.windRec, (touches_raise_quiet _ .craneLost (some c) rfl).wind_eq (by decide), State.windLost,
      (touches_windConditions_quiet _ c).wind_eq (by decide)]
    refine (windRec_setWind _ c d _).trans ?_
    rw [State.windRec, State.windRec, before.wind_eq (by decide)]
    rfl
  · rw [whole, after.cells_eq (by decide), before.cells_eq (by decide)]
  · rw [whole, runningLift_eq_of_bookings (after.bookings_eq (by decide))] at found
    exact runningLift_addReasonTo _ c _ found

end Sys2Proof.Machine

open Sys2Proof Sys2Proof.Machine

/-- Settles O17: a STATUS stage by stage, the load drop, and what a STATUS_ACK reads. -/
theorem statusWritesTheRecord : Obligations.StatusWritesTheRecord := by
  unfold Obligations.StatusWritesTheRecord
  refine ⟨⟨fun s c r ready => ?_, fun s c => ?_⟩, fun s c k => ?_⟩
  · intro load wind radius record isEarly dropped v
    obtain ⟨yes, no⟩ := positioned_cases (accepted (s.withdraw .frameError c) c r) c (r.angle % 4096)
      (loadDropped_iff (k := (s.craneRec c).contents) (load := load))
    refine ⟨accepted (s.withdraw .frameError c) c r, _, fun early => if_pos (early_iff.mpr early),
      fun notEarly => if_neg (mt early_iff.mp notEarly), yes, no, ?_⟩
    intro w
    have status : exec (.status c r) s = .next ((s.withdraw .frameError c).acceptStatus c r) := ready_status ready r
    have touched := touches_accepted (s.withdraw .frameError c) c r
    obtain ⟨cranes, here, others⟩ := delivered_records (accepted (s.withdraw .frameError c) c r) c (r.angle % 4096) _ false wind load
      radius (w := w) rfl
    refine ⟨status.trans (congrArg _ (acceptStatus_eq _ c r)), ?_, fun d other => ?_, ?_, fun d other => ⟨?_, ?_⟩, ?_⟩
    · rw [cranes, craneRec_accepted, if_pos rfl]
      rfl
    · rw [cranes, craneRec_accepted, if_neg other.symm]
      rfl
    · rw [here, State.entry, touched.plan_eq (by decide)]
      rfl
    · rw [(others d other).1, touched.occupied_eq (by decide)]
      rfl
    · rw [(others d other).2, State.windRec, touched.wind_eq (by decide)]
      rfl
    · have same : SameAlert .reportEarly (accepted (s.withdraw .frameError c) c r) w :=
        (alert_positioned (by decide) _ c _ _).trans (alert_delivered (by decide) (by decide) (by decide) _ c false _ _ _)
      rw [show w.alert .reportEarly = _ from same, early_accepted, early_iff]
      rfl
  · refine ⟨(tget s.restricted c).filter (fun x => !decide (s.restriction ⟨c, x⟩ = .noLoad)), List.filter_sublist, fun x => by simp,
      fun empty some => ?_, fun kept => ?_⟩
    · rw [loadDrop_eq, if_pos ⟨some, empty⟩, empty]
    · rw [loadDrop_eq, if_neg (fun h => kept.elim (fun left => left h.2) h.1)]
  · intro a r
    refine ⟨rfl, rfl, rfl, rfl, rfl, fun x => ⟨mem_sectorsIn, mem_sectorsIn, mem_sectorsIn⟩, rfl, fun none => ?_, fun b running => ?_,
      rfl, rfl, rfl⟩
    · exact statusAck_lift s c k none
    · exact statusAck_lift s c k running

/-- Settles O18: a REJOIN stage by stage, and the service stage by the state a crane remembers. -/
theorem rejoinWritesTheRecord : Obligations.RejoinWritesTheRecord := by
  unfold Obligations.RejoinWritesTheRecord
  refine ⟨fun s c r on empty room inPlan away => ?_, fun s c => ?_⟩
  · intro load wind radius record dropped v t
    obtain ⟨yes, no⟩ := positioned_cases (v.rejoinService c) c (r.angle % 4096)
      (loadDropped_iff (k := (s.craneRec c).contents) (load := load))
    exact ⟨_, yes, no, (rejoin_taken on empty room inPlan away r).trans (congrArg _ (acceptRejoin_eq _ c r)),
      rejoined_records (s.withdraw .frameError c) c r _ rfl⟩
  · intro r back
    refine ⟨rejoinService_lost s c, fun lost waiting => ⟨fun permitted => ?_, fun withheld => ?_⟩, fun here offline =>
      ⟨fun setup => ?_, fun working => ?_⟩, fun here online => ?_⟩
    · rw [rejoinService_waiting lost waiting]
      exact if_pos permitted
    · rw [rejoinService_waiting lost waiting]
      exact if_neg (Bool.eq_false_iff.mp withheld)
    · rw [rejoinService_offline here offline, if_pos setup]
    · rw [rejoinService_offline here offline, if_neg working]
    · rw [State.rejoinService]
      dsimp only
      rw [if_neg (Bool.eq_false_iff.mp here), if_neg online]


/-- Settles O19: what the report bound of a PRESENT crane makes of it. -/
theorem reportBoundMakesLost : Obligations.ReportBoundMakesLost := by
  unfold Obligations.ReportBoundMakesLost
  refine fun s c on => ⟨fun here due => ?_, fun notDue => ?_⟩
  · have expired : exec (.reportBoundExpiry c) s = .next (s.becomeLost c) := by
      rw [exec_reportBoundExpiry, State.whileRunning, if_pos on, if_pos (boundDue_iff.mpr ⟨here, due⟩)]
    obtain ⟨cranes, svcs, waits, winds, cells, bookings⟩ := becomeLost_records s c
    refine ⟨_, expired, ?_, ?_, waits, fun d other => ⟨?_, ?_, ?_⟩, ?_, cells, raiseFor_in (by decide) rfl _ c, fun b running => ?_⟩
    · rw [cranes, craneRec_setCrane, if_pos rfl]
    · rw [svcs, if_pos rfl]
    · rw [cranes, craneRec_setCrane, if_neg other.symm]
    · rw [svcs, if_neg other.symm]
    · rw [winds, if_neg other.symm]
    · rw [winds, if_pos rfl]
    · exact bookings b running
  · rw [exec_reportBoundExpiry, State.whileRunning, if_pos on, if_neg]
    rw [boundDue_iff]
    rintro ⟨here, t, bound, past⟩
    exact notDue.elim (fun away => away here) (fun later => absurd past (Nat.not_le.mpr (later t bound)))
end

section
/-!
PROOF. ENTER and RELEASE (R57..R61), case by case.
-/
namespace Sys2Proof.Machine

variable {s : State} {c : Crane} {x : Sector} {q : CellId}

/-! ### One cell changed, with its follow-ups -/

theorem changeCell_goal {g : CellState} (other : (s.cell q).state ≠ g) {o : OriginRule} :
    s.changeCell ⟨q, g, o⟩ = s.setCell q (s.changedCell ⟨q, g, o⟩) := changeCell_other other

/-- A cell that becomes HELD from a state that was no grant or seizure: OFF_PATH is re-evaluated, and no more. -/
theorem follow_held (s : State) (q : CellId) {st : CellState} (from_ : st = .free ∨ st = .clearing) :
    s.follow [⟨q, st, .held⟩] = s.reviewOffPath q.crane := by
  rcases from_ with rfl | rfl <;> rfl

/-- A cell becomes HELD. -/
theorem convert_held (other : (s.cell q).state ≠ .held) (o : OriginRule) :
    s.convert [⟨q, .held, o⟩] = (s.setCell q (s.changedCell ⟨q, .held, o⟩)).follow [⟨q, (s.cell q).state, .held⟩] := by
  rw [convert_one (r := ⟨q, .held, o⟩) other, changeCell_goal other]

/-- A FREE or CLEARING cell becomes HELD. -/
theorem convert_granted {st : CellState} (state : (s.cell q).state = st) (from_ : st = .free ∨ st = .clearing) (o : Origin) :
    s.convert [⟨q, .held, .set o⟩] = (s.setCell q ⟨.held, s.clock.site, some o, none⟩).reviewOffPath q.crane := by
  have other : (s.cell q).state ≠ .held := by
    rw [state]
    rcases from_ with rfl | rfl <;> nofun
  rw [convert_held other, state, follow_held _ q from_]
  rfl

/-! ### ENTER (R57..R60) -/

theorem enter_taken (ready : LinkReady s c) (n : Nat) :
    exec (.enter c n) s = .next ((Requester.crane c).replied (.enter c n) (enterZone c n ((Requester.crane c).asked (.enter c n) s)).2
      (enterZone c n ((Requester.crane c).asked (.enter c n) s)).1) :=
  ready_request ready (.enter n) nofun

/-- An ENTER answered by its block. -/
theorem enter_answered (ready : LinkReady s c) {n : Nat} {t : State} {a : Answer}
    (h : enterZone c n ((Requester.crane c).asked (.enter c n) s) = (t, a)) :
    exec (.enter c n) s = .next ((Requester.crane c).replied (.enter c n) a t) := by
  rw [enter_taken ready, h]

theorem enterZone_far {n : Nat} (far : 16 ≤ n) : enterZone c n s = (s, ⟨.badValue, [f1 n]⟩) := by
  unfold enterZone
  rw [sectorOf_none far]

theorem enterZone_refused {k : Code} (refused : s.enterCheck c = some k) : enterZone c x.val s = (s, ⟨k, [f1 x.val]⟩) := by
  unfold enterZone
  rw [sectorOf_val]
  dsimp only
  rw [refused]

theorem enterZone_passed (passed : s.enterCheck c = none) :
    enterZone c x.val s = ((s.enterPassed ⟨c, x⟩).1, ⟨(s.enterPassed ⟨c, x⟩).2, [f1 x.val]⟩) := by
  unfold enterZone
  rw [sectorOf_val]
  dsimp only
  rw [passed]

theorem enterCheck_eq (s : State) (c : Crane) :
    s.enterCheck c =
      if s.site = .opened ∨ s.site = .storm ∨ s.inState c .securing = true then
        if s.stopSet c ≠ [] then some .stopped
        else if s.inState c .outOfService = true ∨ s.inState c .vaneWait = true then some .badState else none
      else some .siteClosed := by
  unfold State.enterCheck
  simp only [List.isEmpty_eq_false_iff, Bool.or_eq_true]

theorem enterPassed_listed (fresh : (s.cell q).state ≠ .held) (listed : s.waitFor q.crane q.sector ≠ none) :
    s.enterPassed q = (s, .queued) := by
  unfold State.enterPassed
  rw [if_neg fresh, if_pos (Option.isSome_iff_ne_none.mpr listed)]

theorem enterCell_restricted (room : s.underLimit q.crane = true) (barred : s.unrestricted q = false) :
    s.enterCell q = (s, .restricted) := by
  unfold State.enterCell
  rw [if_neg (by simp [room]), if_pos barred]

section
variable (fresh : (s.cell q).state ≠ .held) (unlisted : s.waitFor q.crane q.sector = none)
include fresh unlisted

theorem enterPassed_strict (off : s.offActivePath q.crane q.sector = true) (strict : s.plan.committed.site.discipline = .strict) :
    s.enterPassed q = (s, .offPath) := by
  have discipline : s.params.discipline = .strict := strict
  unfold State.enterPassed
  rw [if_neg fresh, unlisted, if_neg (by simp), if_pos off, discipline]

theorem enterPassed_cell (may : s.offActivePath q.crane q.sector = true → s.plan.committed.site.discipline = .loose) :
    s.enterPassed q =
      if s.offActivePath q.crane q.sector = true ∧ ((s.enterCell q).2 = .ok ∨ (s.enterCell q).2 = .queued) then
        ((s.enterCell q).1.raiseFor .offPath q.crane, (s.enterCell q).2)
      else s.enterCell q := by
  unfold State.enterPassed
  rw [if_neg fresh, unlisted, if_neg (by simp)]
  by_cases off : s.offActivePath q.crane q.sector = true
  · have discipline : s.params.discipline = .loose := may off
    rw [if_pos off, discipline]
    simp only [off, true_and]
  · rw [if_neg off, if_neg (fun h => off h.1)]

/-- An ENTER that is answered OK or QUEUED raises OFF_PATH off the path (R59). -/
theorem enterPassed_marked (may : s.offActivePath q.crane q.sector = true → s.plan.committed.site.discipline = .loose) {t : State}
    {k : Code} (taken : k = .ok ∨ k = .queued) (cell : s.enterCell q = (t, k)) :
    s.enterPassed q = (if s.offActivePath q.crane q.sector = true then t.raiseFor .offPath q.crane else t, k) := by
  rw [enterPassed_cell fresh unlisted may, cell]
  simp only [taken, and_true]
  split <;> rfl

theorem enterPassed_refused (may : s.offActivePath q.crane q.sector = true → s.plan.committed.site.discipline = .loose) {k : Code}
    (other : k ≠ .ok ∧ k ≠ .queued) (cell : s.enterCell q = (s, k)) : s.enterPassed q = (s, k) := by
  rw [enterPassed_cell fresh unlisted may, cell, if_neg (fun h => h.2.elim other.1 other.2)]

end

section
variable (room : s.underLimit q.crane = true) (allowed : s.unrestricted q = true)
include room allowed

theorem enterCell_clearing (clearing : (s.cell q).state = .clearing) : s.enterCell q = (s.convert [⟨q, .held, .set .enter⟩], .ok) := by
  unfold State.enterCell
  rw [if_neg (by simp [room]), if_neg (by simp [allowed]), clearing]

theorem enterCell_other (taken : (s.cell q).state = .free ∨ (s.cell q).state = .seized) :
    s.enterCell q =
      if s.blocked q = false ∧ s.reserved q = false then
        (s.convert [⟨q, .held, if (s.cell q).state = .seized then .keep else .set .enter⟩], .ok)
      else if s.waitsFull q.crane then (s, .full) else (s.appendWait q.crane q.sector, .queued) := by
  have open_ : (!s.blocked q && !s.reserved q) = true ↔ s.blocked q = false ∧ s.reserved q = false := by simp
  unfold State.enterCell
  rw [if_neg (by simp [room]), if_neg (by simp [allowed])]
  rcases taken with state | state <;> simp only [state, open_]

end

theorem waitsFull_iff : s.waitsFull c = true ↔ 16 ≤ s.waits.length ∨ 2 ≤ (s.waitingSectors c).length := by
  rw [State.waitsFull, Bool.or_eq_true, decide_eq_true_iff, decide_eq_true_iff]
  rfl

/-- The answers that an ENTER gets past its checks, with the state each leaves. -/
theorem enterZone_answers (passed : s.enterCheck c = none) (fresh : (s.cell ⟨c, x⟩).state ≠ .held) (unlisted : s.waitFor c x = none)
    (may : s.offActivePath c x = true → s.plan.committed.site.discipline = .loose) {t : State} {k : Code}
    (cell : s.enterCell ⟨c, x⟩ = (t, k)) :
    (k = .ok ∨ k = .queued →
      enterZone c x.val s = (if s.offActivePath c x = true then t.raiseFor .offPath c else t, ⟨k, [f1 x.val]⟩)) ∧
    (k ≠ .ok ∧ k ≠ .queued → t = s → enterZone c x.val s = (s, ⟨k, [f1 x.val]⟩)) := by
  constructor
  · intro taken
    rw [enterZone_passed passed, enterPassed_marked (q := ⟨c, x⟩) fresh unlisted may taken cell]
  · rintro other rfl
    rw [enterZone_passed passed, enterPassed_refused (q := ⟨c, x⟩) fresh unlisted may other cell]

/-! ### What ENTER reads -/

theorem offActivePath_iff : s.offActivePath c x = true ↔ ∃ b, s.runningLift c = some b ∧ b.state = .active ∧ x ∉ b.data.path := by
  unfold State.offActivePath
  split <;> simp [*]

theorem waitFor_none_iff : s.waitFor c x = none ↔ ∀ w ∈ s.waits, ¬ (w.crane = c ∧ w.sector = x) := by
  simp [State.waitFor]

theorem waitFor_first {before after : List Wait} {w : Wait} (waits : s.waits = before ++ w :: after)
    (here : w.crane = c ∧ w.sector = x) (first : ∀ u ∈ before, ¬ (u.crane = c ∧ u.sector = x)) : s.waitFor c x = some w := by
  have none : before.find? (fun w => decide (w.crane = c) && decide (w.sector = x)) = none := by
    simpa using first
  rw [State.waitFor, waits, List.find?_append, none, Option.none_or, List.find?_cons_of_pos (by simpa using here)]

/-! ### RELEASE (R61) -/

theorem release_taken (ready : LinkReady s c) (n : Nat) :
    exec (.release c n) s = .next ((Requester.crane c).replied (.release c n)
      (releaseZone c n ((Requester.crane c).asked (.release c n) s)).2
      (releaseZone c n ((Requester.crane c).asked (.release c n) s)).1) :=
  ready_request ready (.release n) nofun

theorem release_answered (ready : LinkReady s c) {n : Nat} {t : State} {a : Answer}
    (h : releaseZone c n ((Requester.crane c).asked (.release c n) s) = (t, a)) :
    exec (.release c n) s = .next ((Requester.crane c).replied (.release c n) a t) := by
  rw [release_taken ready, h]

theorem releaseZone_far {n : Nat} (far : 16 ≤ n) : releaseZone c n s = (s, ⟨.badValue, [f1 n]⟩) := by
  unfold releaseZone
  rw [sectorOf_none far]

theorem releaseZone_listed (listed : s.waitFor c x ≠ none) :
    releaseZone c x.val s = ((s.dropWait c x).reviewOffPath c, ⟨.ok, [f1 x.val]⟩) := by
  unfold releaseZone
  rw [sectorOf_val]
  exact if_pos (Option.isSome_iff_ne_none.mpr listed)

theorem releaseZone_unlisted (unlisted : s.waitFor c x = none) :
    releaseZone c x.val s =
      match (s.cell ⟨c, x⟩).state with
      | .held =>
        if s.occupies c x then (s, ⟨.inUse, [f1 x.val]⟩)
        else (s.convert [s.beginClearing ⟨c, x⟩], ⟨.ok, [f1 x.val]⟩)
      | .seized => (s, ⟨.inUse, [f1 x.val]⟩)
      | .free | .clearing | .vane | .parked => (s, ⟨.badState, [f1 x.val]⟩) := by
  unfold releaseZone
  rw [sectorOf_val]
  dsimp only
  rw [unlisted] <;> rfl

theorem beginClearing_cell (s : State) (q : CellId) : (s.beginClearing q).cell = q := rfl

theorem beginClearing_clears (s : State) (q : CellId) :
    (s.beginClearing q).goal = .clearing ∨ (s.beginClearing q).goal = .free := by
  unfold State.beginClearing
  dsimp only
  split
  · exact .inl rfl
  · exact .inr rfl

/-- A cell begins clearing, with its follow-ups. -/
theorem convert_beginClearing (taken : (s.cell q).state = .held ∨ (s.cell q).state = .seized) :
    s.convert [s.beginClearing q] = (s.changeCell (s.beginClearing q)).follow [⟨q, (s.cell q).state, (s.beginClearing q).goal⟩] :=
  convert_one (r := s.beginClearing q) (by
    rw [beginClearing_cell]
    rcases taken with state | state <;> rcases beginClearing_clears s q with goal | goal <;> rw [state, goal] <;> nofun)

end Sys2Proof.Machine

open Sys2Proof Sys2Proof.Machine

/-- Settles O22: an ENTER that passes its checks, by the state of its cell. -/
theorem enterGrantsOrWaits : Obligations.EnterGrantsOrWaits := by
  unfold Obligations.EnterGrantsOrWaits
  intro s c x ready q i v mark answered held passed fresh unlisted may room allowed
  have passedV : v.enterCheck c = none := passed
  have mayV : v.offActivePath c x = true → v.plan.committed.site.discipline = .loose := may
  have off : v.offActivePath c x = s.offActivePath c x := rfl
  have marked {t : State} {k : Code} (taken : k = .ok ∨ k = .queued) (cell : v.enterCell q = (t, k)) : answered (mark t) k := by
    have zone := (enterZone_answers (s := v) passedV fresh unlisted mayV cell).1 taken
    rw [off] at zone
    exact enter_answered ready zone
  have cell : v.cell q = s.cell q := rfl
  have unfree (kept : s.blocked q = true ∨ s.reserved q = true) : ¬ (v.blocked q = false ∧ v.reserved q = false) := by
    rintro ⟨unblocked, unreserved⟩
    exact kept.elim (fun h => Bool.false_ne_true (unblocked.symm.trans h)) (fun h => Bool.false_ne_true (unreserved.symm.trans h))
  refine ⟨fun clearing => ?_, fun unblocked unreserved => ⟨fun free => ?_, fun seized => ?_⟩, fun states kept =>
    ⟨fun total each => ?_, fun full => ?_⟩⟩
  · refine marked (.inl rfl) ?_
    rw [enterCell_clearing (s := v) (q := q) room allowed clearing, convert_granted (s := v) (q := q) clearing (.inr rfl)]
    rfl
  · refine marked (.inl rfl) ?_
    rw [enterCell_other (s := v) (q := q) room allowed (.inl free), if_pos ⟨unblocked, unreserved⟩, if_neg (by rw [cell, free]; nofun),
      convert_granted (s := v) (q := q) free (.inl rfl)]
    rfl
  · have seizedV : (v.cell q).state = .seized := seized
    refine marked (.inl rfl) ?_
    rw [enterCell_other (s := v) (q := q) room allowed (.inr seized), if_pos ⟨unblocked, unreserved⟩, if_pos seizedV,
      convert_held (s := v) (q := q) (by rw [seizedV]; nofun), seizedV]
    rfl
  · refine marked (.inr rfl) ?_
    have some_left : ¬ v.waitsFull c = true := fun full => (waitsFull_iff.mp full).elim (Nat.not_le.mpr total) (Nat.not_le.mpr each)
    rw [enterCell_other (s := v) (q := q) room allowed states, if_neg (unfree kept), if_neg some_left]
    rfl
  · refine enter_answered ready ((enterZone_answers (s := v) passedV fresh unlisted mayV (k := .full) ?_).2 ⟨nofun, nofun⟩ rfl)
    rw [enterCell_other (s := v) (q := q) room allowed states, if_neg (unfree kept), if_pos (waitsFull_iff (s := v) (c := c).mpr full)]

/-- Settles O23: ENTER's refusals in their order, and what the path check and the wait list are read for. -/
theorem enterRefusals : Obligations.EnterRefusals := by
  unfold Obligations.EnterRefusals
  refine ⟨fun s c ready => ?_, fun s c x => ⟨offActivePath_iff, waitFor_none_iff,
    fun before w after waits crane sector first => waitFor_first waits ⟨crane, sector⟩ first, rfl⟩⟩
  intro only
  let v (x : Sector) : State := (Requester.crane c).asked (.enter c x.val) s
  refine ⟨fun n far => enter_answered ready (enterZone_far far), fun x => ?_⟩
  intro open_ passed off fresh
  have refused {k : Code} (h : ((Requester.crane c).asked (.enter c x.val) s).enterCheck c = some k) : only x.val k :=
    enter_answered ready (enterZone_refused h)
  have answered {k : Code} (pass : passed)
      (h : ((Requester.crane c).asked (.enter c x.val) s).enterPassed ⟨c, x⟩ = ((Requester.crane c).asked (.enter c x.val) s, k)) :
      only x.val k :=
    enter_answered ready ((enterZone_passed (s := (Requester.crane c).asked (.enter c x.val) s) pass).trans (by rw [h]))
  have check : ((Requester.crane c).asked (.enter c x.val) s).enterCheck c = s.enterCheck c := rfl
  refine ⟨fun shut => refused ?_, fun opened stopped => refused ?_, fun opened going out => refused ?_,
    fun opened going here waitless => ?_, fun pass here => answered pass ?_, fun pass here listed => answered pass ?_,
    fun new away strict => answered new.1 ?_, fun new may => ⟨fun full => answered new.1 ?_, fun room barred => answered new.1 ?_⟩⟩
  · rw [check, enterCheck_eq, if_neg shut]
  · rw [check, enterCheck_eq, if_pos opened, if_pos stopped]
  · rw [check, enterCheck_eq, if_pos opened, if_neg (Classical.not_not.mpr going), if_pos out]
  · show s.enterCheck c = none
    rw [enterCheck_eq, if_pos opened, if_neg (Classical.not_not.mpr going), if_neg (by simp [here, waitless])]
  · exact if_pos here
  · exact enterPassed_listed (s := v x) (q := ⟨c, x⟩) here listed
  · exact enterPassed_strict (s := v x) (q := ⟨c, x⟩) new.2.1 new.2.2 away strict
  · exact enterPassed_refused (s := v x) (q := ⟨c, x⟩) new.2.1 new.2.2 may ⟨nofun, nofun⟩ (if_pos full)
  · exact enterPassed_refused (s := v x) (q := ⟨c, x⟩) new.2.1 new.2.2 may ⟨nofun, nofun⟩ (enterCell_restricted room barred)

/-- Settles O24: RELEASE of an entry, of a HELD cell, and its refusals. -/
theorem releaseCells : Obligations.ReleaseCells := by
  unfold Obligations.ReleaseCells
  intro s c ready v answered
  refine ⟨fun n far => release_answered ready (releaseZone_far far), fun x => ?_⟩
  intro n st
  refine ⟨fun listed => release_answered ready (releaseZone_listed listed), fun unlisted => ?_⟩
  have zone := releaseZone_unlisted (s := v n) (c := c) (x := x) unlisted
  refine ⟨fun held occupied => release_answered ready (zone.trans ?_), fun held left => release_answered ready (zone.trans ?_),
    fun seized => release_answered ready (zone.trans ?_), fun other => release_answered ready (zone.trans ?_)⟩
  · have state : ((v n).cell ⟨c, x⟩).state = .held := held
    rw [state]
    exact if_pos occupied
  · have state : ((v n).cell ⟨c, x⟩).state = .held := held
    have away : (v n).occupies c x = false := left
    have converted := convert_beginClearing (s := v n) (q := ⟨c, x⟩) (.inl state)
    rw [state] at converted ⊢
    dsimp only
    rw [away, converted]
    rfl
  · have state : ((v n).cell ⟨c, x⟩).state = .seized := seized
    rw [state]
  · rcases other with state | state | state | state
    all_goals
      have read : ((v n).cell ⟨c, x⟩).state = _ := state
      rw [read]
end

section
/-!
PROOF. Deadlines of cells and entries, arbitration (R63, R75, R77, R80), FORCE_RELEASE (R65) and the position check (R82..R85).
-/
namespace Sys2Proof.Machine

variable {s : State} {c : Crane} {x : Sector} {q : CellId}

/-! ### Deadlines (R63, R77) -/

theorem expireClearing_eq (clearing : (s.cell q).state = .clearing) :
    s.expireClearing q = (s.setCell q ⟨.free, s.clock.site, none, none⟩).follow [⟨q, .clearing, .free⟩] := by
  have other : (s.cell q).state ≠ .free := by rw [clearing]; nofun
  rw [State.expireClearing, convert_one (r := ⟨q, .free, .keep⟩) other, changeCell_goal other, clearing]
  rfl

theorem exec_clearing (on : s.running = true) : exec (.clearingExpiry c x) s =
    .next (if s.clearingDue ⟨c, x⟩ = true then s.expireClearing ⟨c, x⟩ else s) := by
  rw [exec_clearingExpiry, State.whileRunning, if_pos on]

theorem exec_deadline (on : s.running = true) : exec (.waitDeadline c x) s =
    .next (if s.waitDue c x = true then s.expireWait c x else s) := by
  rw [exec_waitDeadline, State.whileRunning, if_pos on]

theorem waitDue_iff : s.waitDue c x = true ↔ ∃ w, s.waitFor c x = some w ∧ w.deadline ≤ s.clock.mono := by
  rw [State.waitDue, reached_iff]
  cases s.waitFor c x <;> simp

/-! ### Arbitration (R75, R80) -/

theorem isWithheld_iff : s.isWithheld c = true ↔
    (s.svc c).lost = false ∧ (s.svc c).state = .outOfService ∧ (s.svc c).withheld = true := by
  rw [State.isWithheld, Bool.and_eq_true, inState_iff, and_assoc]

theorem retryOne_withheld {recheck : State → State} {freed : Bool} (withheld : s.isWithheld c = true) :
    retryOne recheck (s, freed) c =
      (followThree recheck (s.changesOf (s.resumeReqs c)) (s.resumeChange c),
        freed || (s.changesOf (s.resumeReqs c)).any (fun d => decide (d.new = .free))) := if_pos withheld

theorem retryOne_other {recheck : State → State} {freed : Bool} (other : s.isWithheld c ≠ true) :
    retryOne recheck (s, freed) c = (s, freed) := if_neg other

theorem retryPass_none {recheck : State → State} (none : ∀ c, s.isWithheld c = false) : retryPass recheck s = (s, false) := by
  have pass (l : List Crane) : l.foldl (retryOne recheck) (s, false) = (s, false) := by
    induction l with
    | nil => rfl
    | cons d l ih => rw [List.foldl_cons, retryOne_other (Bool.eq_false_iff.mp (none d)), ih]
  exact pass allCranes

theorem arbitrate_walk (none : ∀ c, s.isWithheld c = false) : s.arbitrate = s.waits.foldl State.tryGrant s := by
  have still (d : Crane) : s.walk.isWithheld d = false := by
    rw [← none d, State.isWithheld, State.isWithheld, State.inState, State.inState, svc_of_touches (touches_walk s) (by decide)]
  rw [State.arbitrate, arbitrateWith, arbitrateLoop, retryPass_none still]
  rfl

theorem tryGrant_fails {w : Wait} (fails : s.grantTest ⟨w.crane, w.sector⟩ = false) : s.tryGrant w = s :=
  if_neg (Bool.eq_false_iff.mp fails)

theorem tryGrant_passes {w : Wait} (passes : s.grantTest ⟨w.crane, w.sector⟩ = true) :
    s.tryGrant w =
      ((((s.setCell ⟨w.crane, w.sector⟩ ⟨.held, s.clock.site,
          if (s.cell ⟨w.crane, w.sector⟩).state = .seized then (s.cell ⟨w.crane, w.sector⟩).origin else some .wait, none⟩).withWaits
        (s.waits.filter (fun u => !(decide (u.crane = w.crane) && decide (u.sector = w.sector))))).notify w.crane
          (.grant w.sector)).ownAndSeized [⟨⟨w.crane, w.sector⟩, (s.cell ⟨w.crane, w.sector⟩).state, .held⟩]) := by
  obtain ⟨other, -⟩ := grantTest_iff.mp passes
  have changed (o : OriginRule) : s.changeCells [⟨⟨w.crane, w.sector⟩, .held, o⟩] =
      s.setCell ⟨w.crane, w.sector⟩ (s.changedCell ⟨⟨w.crane, w.sector⟩, .held, o⟩) := changeCell_goal other
  have changes (o : OriginRule) : s.changesOf [⟨⟨w.crane, w.sector⟩, .held, o⟩] = [⟨⟨w.crane, w.sector⟩, _, .held⟩] :=
    changesOf_one (r := ⟨⟨w.crane, w.sector⟩, .held, o⟩) other
  unfold State.tryGrant
  dsimp only
  rw [if_pos passes, changes, changed]
  by_cases seized : (s.cell ⟨w.crane, w.sector⟩).state = .seized
  · rw [if_pos seized, if_pos seized]
    rfl
  · rw [if_neg seized, if_neg seized]
    rfl

/-! ### FORCE_RELEASE (R65) -/

theorem sectorsOf_empty {m : Nat} : sectorsOf m = [] ↔ m % 65536 = 0 := by
  have below : sectorsOf m = [] ↔ ∀ i, i < 16 → m.testBit i = false := by
    rw [List.eq_nil_iff_forall_not_mem]
    simp only [mem_sectorsOf, Bool.not_eq_true]
    exact ⟨fun h i small => h ⟨i, small⟩, fun h x => h x.val x.isLt⟩
  rw [below]
  constructor
  · intro h
    refine Nat.eq_of_testBit_eq (fun i => ?_)
    rw [show 65536 = 2 ^ 16 from rfl, Nat.testBit_mod_two_pow, Nat.zero_testBit]
    by_cases small : i < 16
    · rw [h i small, Bool.and_false]
    · simp [small]
  · intro zero i small
    have bit := Nat.testBit_mod_two_pow m 16 i
    rw [show 2 ^ 16 = 65536 from rfl, zero, Nat.zero_testBit] at bit
    simpa [small] using bit.symm

theorem namesVane_iff {named : List Sector} : s.namesVane c named = true ↔ ∃ x ∈ named, (s.cell ⟨c, x⟩).state = .vane := by
  simp [State.namesVane]

theorem mem_forcedCells {named : List Sector} : x ∈ s.forcedCells c named ↔
    x ∈ named ∧ ((s.cell ⟨c, x⟩).state = .held ∨ (s.cell ⟨c, x⟩).state = .seized ∨ (s.cell ⟨c, x⟩).state = .parked) ∨
      (s.cell ⟨c, x⟩).state = .vane ∧ s.namesVane c named = true := by
  simp only [State.forcedCells, List.mem_filter, mem_allSectors, true_and]
  cases (s.cell ⟨c, x⟩).state <;> simp

theorem forceService_eq (s : State) (c : Crane) (named : List Sector) :
    s.forceService c named =
      if s.namesVane c named = true ∧ (s.svc c).lost = true ∧ (s.svc c).state = .outOfService ∧ (s.svc c).order = .vaneRelease then
        s.setSvc c { s.svc c with state := .vaneWait, order := .secure, timer := some s.securingEnd }
      else s := by
  unfold State.forceService
  simp only [Bool.and_eq_true, decide_eq_true_iff, and_assoc]

theorem forceCells_far {n m : Nat} (far : 8 ≤ n) : forceCells n m s = (s, answer .badValue) := by
  unfold forceCells
  rw [craneOf_none far]

theorem forceCells_near {n m : Nat} (place : c.val = n) : forceCells n m s =
    if sectorsOf m = [] then (s, answer .badValue)
    else if (s.craneRec c).presence = .present then (s, answer .notPermitted)
    else ((s.forceClear c (sectorsOf m)), okWith (f1 (s.forcedCells c (sectorsOf m)).length ::
      allSectors.map (fun x => f1 ((s.forceClear c (sectorsOf m)).cell ⟨c, x⟩).state.code))) := by
  unfold forceCells
  rw [← place, craneOf_val]
  simp only [List.isEmpty_iff, State.isPresent, decide_eq_true_iff]

/-! ### The occupied set (R82) -/

theorem occupiedAt_low {a m : Nat} (small : m ≤ 128) : (occupiedAt (a % 4096) m).low.val = (a % 4096 + 4096 - m) % 4096 / 256 := by
  show (a % 4096 + 4096 - m % 4096) % 4096 / 256 = _
  omega

theorem occupiedAt_high (a m : Nat) : (occupiedAt (a % 4096) m).high.val = (a % 4096 + m) % 4096 / 256 := rfl

theorem occupiedAt_next {a m : Nat} (small : m ≤ 128) : (occupiedAt (a % 4096) m).high = (occupiedAt (a % 4096) m).low ∨
    (occupiedAt (a % 4096) m).high.val = ((occupiedAt (a % 4096) m).low.val + 1) % 16 := by
  rw [Fin.ext_iff, occupiedAt_low small, occupiedAt_high]
  have angle : a % 4096 < 4096 := Nat.mod_lt _ (by decide)
  generalize a % 4096 = b at angle
  obtain below | above : b < m ∨ m ≤ b := Nat.lt_or_ge b m
  · rw [Nat.mod_eq_of_lt (by omega : b + 4096 - m < 4096), Nat.mod_eq_of_lt (by omega : b + m < 4096)]
    omega
  · rw [show b + 4096 - m = b - m + 4096 by omega, Nat.add_mod_right, Nat.mod_eq_of_lt (by omega : b - m < 4096)]
    obtain inside | beyond : b + m < 4096 ∨ 4096 ≤ b + m := Nat.lt_or_ge _ _
    · rw [Nat.mod_eq_of_lt inside]
      omega
    · rw [Nat.mod_eq_sub_mod beyond, Nat.mod_eq_of_lt (by omega : b + m - 4096 < 4096)]
      omega

theorem occupies_iff {o : Occupied} {x : Sector} : occupies (some o) x = true ↔ x = o.low ∨ x = o.high := by
  simp [occupies]

theorem occupiedSectors_some (o : Occupied) :
    occupiedSectors (some o) = allSectors.filter (fun x => decide (x = o.low ∨ x = o.high)) :=
  List.filter_congr (fun _ _ => (Bool.decide_or ..).symm)

theorem positionStage_setup (setup : s.site = .setup) (angle : Nat) :
    s.positionStage c angle = s.setOccupied c (some (occupiedAt angle (s.entry c).margin)) := by
  unfold State.positionStage
  rw [setup]

theorem positionStage_away (away : s.site ≠ .setup) (angle : Nat) :
    s.positionStage c angle = (s.setOccupied c (some (occupiedAt angle (s.entry c).margin))).checkPosition c := by
  unfold State.positionStage
  cases site : s.site with
  | setup => exact absurd site away
  | opened | storm | closed => rfl

theorem checkPosition_eq (s : State) (c : Crane) (o : Occupied) :
    (s.setOccupied c (some o)).checkPosition c = allSectors.foldl (fun u x => u.checkLeft ⟨c, x⟩)
      ((allSectors.filter (fun x => decide (x = o.low ∨ x = o.high))).foldl (fun u x => u.checkOccupied ⟨c, x⟩)
        (s.setOccupied c (some o))) := by
  have set_ : tget (s.setOccupied c (some o)).occupied c = some o := tget_tput_same s.occupied c _
  rw [State.checkPosition, set_, occupiedSectors_some]

/-! ### The position check (R83) -/

theorem checkLeft_left (seized : (s.cell q).state = .seized) (away : s.occupies q.crane q.sector = false) :
    s.checkLeft q = (s.changeCell (s.beginClearing q)).follow [⟨q, .seized, (s.beginClearing q).goal⟩] := by
  have converted := convert_beginClearing (s := s) (q := q) (.inr seized)
  rw [seized] at converted
  rw [State.checkLeft, if_pos ⟨seized, away⟩, converted]

theorem checkLeft_other (other : (s.cell q).state ≠ .seized ∨ s.occupies q.crane q.sector = true) : s.checkLeft q = s :=
  if_neg (fun h => other.elim (fun o => o h.1) (fun o => Bool.false_ne_true (h.2.symm.trans o)))

theorem changeCells_one (s : State) (r : CellReq) : s.changeCells [r] = s.changeCell r := rfl

theorem holdCell_unlisted (other : (s.cell q).state ≠ .held) (o : OriginRule) (unlisted : s.waitFor q.crane q.sector = none) :
    s.holdCell q o = (s.changeCell ⟨q, .held, o⟩).follow [⟨q, (s.cell q).state, .held⟩] := by
  unfold State.holdCell
  dsimp only
  rw [unlisted, changesOf_one (r := ⟨q, .held, o⟩) other, changeCells_one]

theorem holdCell_listed (other : (s.cell q).state ≠ .held) (o : OriginRule) (listed : s.waitFor q.crane q.sector ≠ none) :
    s.holdCell q o = (((s.changeCell ⟨q, .held, o⟩).withWaits (s.waits.filter (fun w =>
      !(decide (w.crane = q.crane) && decide (w.sector = q.sector))))).notify q.crane (.grant q.sector)).follow
        [⟨q, (s.cell q).state, .held⟩] := by
  obtain ⟨w, found⟩ := Option.ne_none_iff_exists'.mp listed
  have waits : (s.changeCell ⟨q, .held, o⟩).waits = s.waits := (touches_changeCell s _).waits_eq (by decide)
  unfold State.holdCell
  dsimp only
  rw [found, changesOf_one (r := ⟨q, .held, o⟩) other, changeCells_one, ← waits]
  rfl

theorem seize_eq (other : (s.cell q).state ≠ .seized) :
    s.seize q = ((s.changeCell ⟨q, .seized, .set .seize⟩).follow [⟨q, (s.cell q).state, .seized⟩]).intrude q := by
  rw [State.seize, convert_one (r := ⟨q, .seized, .set .seize⟩) other]

theorem checkOccupied_of {st : CellState} (state : (s.cell q).state = st) :
    s.checkOccupied q =
      if st = .held ∨ st = .vane ∨ st = .parked then s
      else if st = .seized then (if s.grantTest q = true then s.holdCell q .keep else s)
      else if st = .clearing ∧ s.underLimit q.crane = true then s.holdCell q .keep else s.seize q := by
  unfold State.checkOccupied
  rw [state]
  cases st <;> simp

/-! ### Seizures (R84, R85) -/

theorem mem_conflictPartners {d : Crane} : d ∈ s.conflictPartners q ↔
    ∃ p ∈ s.partners q, p.2.crane = d ∧ (s.blocks p = true ∨ s.onRunningPath p.2 = true) := by
  simp [State.conflictPartners, mem_allCranes]

theorem conflictPartners_ascending (s : State) (q : CellId) : (s.conflictPartners q).Pairwise (· < ·) :=
  (by decide : allCranes.Pairwise (· < ·)).filter _

theorem intrude_alone (alone : (s.raiseFor .intrusion q.crane).conflictPartners q = []) :
    s.intrude q = s.raiseFor .intrusion q.crane := by
  unfold State.intrude
  dsimp only
  rw [alone]
  rfl

theorem intrude_conflict (some_ : (s.raiseFor .intrusion q.crane).conflictPartners q ≠ []) :
    s.intrude q = (q.crane :: (s.raiseFor .intrusion q.crane).conflictPartners q).foldl (fun t d => t.raiseFor .conflict d)
      ((s.raiseFor .intrusion q.crane).withRegister (⟨q, (s.raiseFor .intrusion q.crane).conflictPartners q⟩ ::
        (s.raiseFor .intrusion q.crane).register.filter (fun e => decide (e.cell ≠ q)))) := by
  have others : (fun e : RegEntry => decide (e.cell ≠ q)) = fun e => !decide (e.cell = q) := funext (fun e => decide_not ..)
  unfold State.intrude
  dsimp only
  rw [if_neg (by simpa using some_), others]
  rfl

/-- Withdrawals that leave what is tested are made of the cranes that pass the test before them. -/
theorem foldl_unless {test : State → Crane → Bool} {op : State → Crane → State} (still : ∀ u x y, test (op u x) y = test u y)
    (l : List Crane) (s : State) :
    l.foldl (fun u x => if test u x then u else op u x) s = (l.filter (fun x => !test s x)).foldl op s := by
  induction l generalizing s with
  | nil => rfl
  | cons x l ih =>
    rw [List.foldl_cons]
    by_cases passes : test s x = true
    · rw [if_pos passes, ih, List.filter_cons_of_neg (by simp [passes])]
    · rw [if_neg passes, ih, List.filter_cons_of_pos (by simp [passes]), List.foldl_cons]
      simp only [still]

theorem seizureEnded_withdrawn (s : State) (q : CellId) :
    s.seizureEnded q =
      let v := s.withRegister (s.register.filter (fun e => decide (e.cell ≠ q)))
      let named := (s.register.filter (fun e => decide (e.cell = q))).flatMap (fun e => e.cell.crane :: e.partners)
      let u := (named.filter (fun x => !v.inConflict x)).foldl (fun t x => t.withdraw .conflict x) v
      if ∀ x, (s.cell ⟨q.crane, x⟩).state ≠ .seized then u.withdraw .intrusion q.crane else u := by
  have others : (fun e : RegEntry => decide (e.cell ≠ q)) = fun e => !decide (e.cell = q) := funext (fun e => decide_not ..)
  have folded := foldl_unless (test := State.inConflict) (op := fun u x => u.withdraw .conflict x) (fun _ _ _ => rfl)
    ((s.register.filter (fun e => decide (e.cell = q))).flatMap (fun e => e.cell.crane :: e.partners))
    (s.withRegister (s.register.filter (fun e => !decide (e.cell = q))))
  have gone : ∀ u : State, u.cells = s.cells → ((u.sectorsIn q.crane .seized).isEmpty = true ↔
      ∀ x, (s.cell ⟨q.crane, x⟩).state ≠ .seized) := fun u cells => by
    rw [List.isEmpty_iff, List.eq_nil_iff_forall_not_mem]
    refine forall_congr' (fun x => not_congr ?_)
    rw [mem_sectorsIn, State.cell, cells]
    rfl
  unfold State.seizureEnded
  rw [others]
  dsimp only
  rw [folded]
  refine ite_congr (propext (gone _ ?_)) (fun _ => rfl) (fun _ => rfl)
  exact (Touches.fold (.refl [.alerts] _) _ _ (fun u x => touches_withdraw u .conflict x)).cells_eq (by decide)

end Sys2Proof.Machine

open Sys2Proof Sys2Proof.Machine

/-- Settles O25: clearing ends and wait deadlines, then arbitration walk by walk and retry by retry. -/
theorem cellAndWaitDeadlines : Obligations.CellAndWaitDeadlines := by
  unfold Obligations.CellAndWaitDeadlines
  refine ⟨fun s c x on => ?_, fun s recheck => ?_, fun s => ⟨rfl, fun c => isWithheld_iff, arbitrate_walk, fun w => ?_⟩⟩
  · intro q
    refine ⟨fun clearing e ends => ⟨fun past => ?_, fun early => ?_⟩, fun other => ?_, fun w listed => ⟨fun past => ?_, fun early => ?_⟩,
      fun unlisted => ?_⟩
    · rw [exec_clearing on, if_pos (clearingDue_iff.mpr ⟨clearing, e, ends, past⟩), expireClearing_eq clearing]
    · rw [exec_clearing on, if_neg]
      rintro due
      obtain ⟨-, t, same, past⟩ := clearingDue_iff.mp due
      cases ends.symm.trans same
      omega
    · rw [exec_clearing on, if_neg (fun due => other (clearingDue_iff.mp due).1)]
    · rw [exec_deadline on, if_pos (waitDue_iff.mpr ⟨w, listed, past⟩)]
      rfl
    · rw [exec_deadline on, if_neg]
      rintro due
      obtain ⟨u, same, past⟩ := waitDue_iff.mp due
      cases listed.symm.trans same
      omega
    · rw [exec_deadline on, if_neg]
      rintro due
      obtain ⟨u, same, -⟩ := waitDue_iff.mp due
      exact nomatch unlisted.symm.trans same
  · intro pass
    refine ⟨rfl, rfl, fun n => rfl, rfl, fun freed c => ⟨fun other => retryOne_other (mt isWithheld_iff.mp other),
      fun here out withheld => retryOne_withheld (isWithheld_iff.mpr ⟨here, out, withheld⟩)⟩⟩
  · exact ⟨tryGrant_fails, tryGrant_passes⟩

/-- Settles O26: FORCE_RELEASE by the presence of its crane and the cells it names. -/
theorem forceReleaseClearsCells : Obligations.ForceReleaseClearsCells := by
  unfold Obligations.ForceReleaseClearsCells
  intro s n m on i v
  have done {t : State} {a : Answer} (h : forceCells n m v = (t, a)) : exec i s = .next (t.replied i a) := by
    have taken : exec i s = .next ((forceCells n m v).1.replied i (forceCells n m v).2) := supervised_eq on i (forceCells n m)
    rw [taken, h]
  refine ⟨fun bad => done ?_, fun c place some_ => ⟨fun here => done ?_, fun away => ?_⟩⟩
  · by_cases far : 8 ≤ n
    · exact forceCells_far far
    · rw [forceCells_near (c := ⟨n, by omega⟩) rfl, if_pos (sectorsOf_empty.mpr (bad.resolve_left far))]
  · have hereV : (v.craneRec c).presence = .present := here
    rw [forceCells_near place, if_neg (mt sectorsOf_empty.mp some_), if_pos hereV]
  · intro vane r
    have awayV : (v.craneRec c).presence ≠ .present := away
    have named : s.namesVane c (sectorsOf m) = true ↔ vane := by
      simp only [namesVane_iff, mem_sectorsOf]
      rfl
    have service := forceService_eq v c (sectorsOf m)
    refine ⟨s.forcedCells c (sectorsOf m), v.forceService c (sectorsOf m), ?_, fun x => ?_, fun back => ?_, fun stays => ?_, done ?_⟩
    · exact (by decide : allSectors.Nodup).filter _
    · rw [mem_forcedCells, named, mem_sectorsOf]
    · rw [service, if_pos ⟨named.mpr back.1, back.2⟩]
      rfl
    · rw [service, if_neg (fun back => stays ⟨named.mp back.1, back.2⟩)]
    · rw [forceCells_near place, if_neg (mt sectorsOf_empty.mp some_), if_neg awayV]
      rfl

/-- Settles O27: the occupied set, the position stage sector by sector, and what a seizure raises and its end withdraws. -/
theorem positionChecked : Obligations.PositionChecked := by
  unfold Obligations.PositionChecked
  refine ⟨fun a m small => ⟨occupiedAt_low small, occupiedAt_high a m, occupiedAt_next small, fun x => occupies_iff, fun x => rfl,
      fun k => rfl⟩,
    ⟨fun s c angle => ⟨fun setup => positionStage_setup setup angle,
        fun away => (positionStage_away away angle).trans (checkPosition_eq s c _)⟩,
      fun s q => ⟨checkLeft_left, checkLeft_other, fun o other => ⟨holdCell_unlisted other o, holdCell_listed other o⟩⟩⟩,
    fun s q => ?_, fun s q => ?_, fun s q => ?_⟩
  · intro st seized
    have check := checkOccupied_of (s := s) (q := q) rfl
    have seizing (other : st ≠ .seized) : s.seize q = seized.intrude q := seize_eq other
    refine ⟨fun granted => ?_, fun state fails => ?_, fun state passes => ?_, fun state room => ?_, fun state full => ?_, fun state => ?_⟩
    · exact check.trans (if_pos granted)
    · rw [checkOccupied_of state, if_neg (by simp), if_pos rfl, if_neg (Bool.eq_false_iff.mp fails)]
    · rw [checkOccupied_of state, if_neg (by simp), if_pos rfl, if_pos passes]
    · rw [checkOccupied_of state, if_neg (by simp), if_neg (by simp), if_pos ⟨rfl, room⟩]
    · rw [checkOccupied_of state, if_neg (by simp), if_neg (by simp), if_neg (by simp [full]), seizing (by rw [state]; nofun)]
    · rw [checkOccupied_of state, if_neg (by simp), if_neg (by simp), if_neg (by simp), seizing (by rw [state]; nofun)]
  · intro v isPartner
    have partner (d : Crane) : d ∈ v.conflictPartners q ↔ isPartner d := mem_conflictPartners
    refine ⟨fun none => intrude_alone (List.eq_nil_iff_forall_not_mem.mpr (fun d member => none d ((partner d).mp member))),
      fun some_ => ⟨v.conflictPartners q, partner, conflictPartners_ascending v q, intrude_conflict ?_⟩⟩
    obtain ⟨d, is⟩ := some_
    exact List.ne_nil_of_mem ((partner d).mpr is)
  · intro v named
    refine ⟨((s.register.filter (fun e => decide (e.cell = q))).flatMap (fun e => e.cell.crane :: e.partners)).filter
      (fun x => !v.inConflict x), fun x => ?_, ?_⟩
    · have still : v.inConflict x = true ↔ named x := by
        simp [State.inConflict, v, named]
      simp only [List.mem_filter, List.mem_flatMap, List.mem_cons, decide_eq_true_iff, Bool.not_eq_true', Bool.eq_false_iff, ne_eq,
        still, and_assoc, eq_comm (a := x)]
    · intro u
      rw [seizureEnded_withdrawn]
      refine ⟨fun none => if_pos none, fun some_ => if_neg ?_⟩
      rintro none
      obtain ⟨x, seized⟩ := some_
      exact none x seized
end

section
/-!
PROOF. The wind unit (R95..R111): samples, classification, dwells, verdicts and the wind conditions; the lift stage and the
suspension reasons it adds and removes (R86, R155, R156).
-/
namespace Sys2Proof.Machine

variable {s : State} {c : Crane}

/-! ### Gust and mean (R99, R100) -/

theorem gustOf_two (x y : Nat) : gustOf [x, y] = (x + y + 1) / 2 := by
  simp [gustOf]

theorem gustOf_three (x y z : Nat) : gustOf [x, y, z] = (x + y + z + 1) / 3 := by
  simp [gustOf, Nat.add_assoc]

theorem gustOf_one (x : Nat) : gustOf [x] = x := by simp [gustOf]

theorem meanOf_mul (v : Nat) : meanOf (512 * v) = v := by
  unfold meanOf
  omega

theorem pushSample_append {l : List Nat} {w : Nat} (short : l.length < 3) : pushSample l w = l ++ [w] := by
  unfold pushSample
  dsimp only
  rw [if_neg (by simp; omega)]

theorem pushSample_full (x y z w : Nat) : pushSample [x, y, z] w = [y, z, w] := rfl

theorem accumulate_bound {a w : Nat} (sample : w ≤ 600) (bound : a ≤ 307200) : accumulate a w ≤ 307200 := by
  unfold accumulate meanOf
  omega

/-! ### Classification (R101, R103) -/

section
variable (e : CraneEntry) (g m : Nat)

theorem classify_storm : classify e g m = .storm ↔ e.sw ≤ g ∨ e.mw ≤ m := by
  unfold classify
  split
  · simp [*]
  · split
    · simp [*]
    · split <;> simp [*]

theorem classify_hold : classify e g m = .hold ↔ ¬ (e.sw ≤ g ∨ e.mw ≤ m) ∧ e.lw ≤ g := by
  unfold classify
  split
  · simp [*]
  · split
    · simp [*]
    · split <;> simp [*]

theorem classify_caution : classify e g m = .caution ↔ ¬ (e.sw ≤ g ∨ e.mw ≤ m) ∧ g < e.lw ∧ e.cw ≤ g := by
  unfold classify
  split
  · simp [*]
  · split
    · rename_i high
      simp [*, Nat.not_lt.mpr high]
    · split <;> simp_all

theorem classify_calm : classify e g m = .calm ↔ ¬ (e.sw ≤ g ∨ e.mw ≤ m) ∧ g < e.lw ∧ g < e.cw := by
  unfold classify
  split
  · simp [*]
  · split
    · rename_i high
      simp [*, Nat.not_lt.mpr high]
    · split <;> simp_all

end

/-! ### One sample (R96..R105) -/

section
variable (r : WindRec)

theorem setUnknown_known (known : r.unknown = false) :
    r.setUnknown = ⟨r.heard, true, if r.state = .storm then .storm else .hold, r.window, r.acc, none⟩ := by
  unfold WindRec.setUnknown
  rw [if_neg (by simp [known])]
  cases r.state <;> rfl

theorem sample_unknown (unknown : r.unknown = true) (e : CraneEntry) (now n w : Nat) :
    r.sample e now (some w) n = ⟨true, false, classify e (min w 600) (min w 600), [min w 600], 512 * min w 600, none⟩ ∧
      r.sample e now none n = { r with heard := true } := by
  have here : ({ r with heard := true } : WindRec).unknown = true := unknown
  constructor
  · unfold WindRec.sample
    dsimp only
    rw [if_pos here, WindRec.freshStart, meanOf_mul]
  · unfold WindRec.sample
    dsimp only
    rw [if_neg (by simp [unknown])]

theorem sample_known (known : r.unknown = false) (e : CraneEntry) (now n w : Nat) :
    r.sample e now (some w) n = ({ r with heard := true } : WindRec).takeReading e now (min w 600) := by
  have here : ({ r with heard := true } : WindRec).unknown ≠ true := by simp [known]
  unfold WindRec.sample
  dsimp only
  rw [if_neg here]

theorem sample_noReading (known : r.unknown = false) (e : CraneEntry) (now n : Nat) :
    r.sample e now none n = if 3 ≤ n then ({ r with heard := true } : WindRec).setUnknown else { r with heard := true } := by
  have test : (!({ r with heard := true } : WindRec).unknown && decide (Config.noReadingsBeforeUnknown ≤ n)) = decide (3 ≤ n) := by
    rw [known]
    rfl
  unfold WindRec.sample
  dsimp only
  rw [known]
  exact ite_congr (propext (by rw [Bool.not_false, Bool.true_and]; exact decide_eq_true_iff)) (fun _ => rfl) (fun _ => rfl)

/-- The record with a reading taken, before its state and dwell are. -/
def taken (w : Nat) : WindRec := { r with window := pushSample r.window w, acc := accumulate r.acc w }

theorem takeReading_eq (e : CraneEntry) (now w : Nat) :
    r.takeReading e now w =
      if r.state.code < (classify e (taken r w).gust (taken r w).mean).code then
        { taken r w with state := classify e (taken r w).gust (taken r w).mean, dwell := none }
      else if stepDown e r.state (taken r w).gust (taken r w).mean then
        { taken r w with dwell := match r.dwell with
          | some d => some d
          | none => startDwell r.state now }
      else { taken r w with dwell := none } := rfl

theorem takeReading_fields (e : CraneEntry) (now w : Nat) :
    (r.takeReading e now w).window = pushSample r.window w ∧ (r.takeReading e now w).acc = accumulate r.acc w ∧
      (r.takeReading e now w).heard = r.heard ∧ (r.takeReading e now w).unknown = r.unknown := by
  rw [takeReading_eq]
  split
  · exact ⟨rfl, rfl, rfl, rfl⟩
  · split <;> exact ⟨rfl, rfl, rfl, rfl⟩

theorem takeReading_gust (e : CraneEntry) (now w : Nat) :
    (r.takeReading e now w).gust = (taken r w).gust ∧ (r.takeReading e now w).mean = (taken r w).mean := by
  obtain ⟨window, acc, -, -⟩ := takeReading_fields r e now w
  exact ⟨congrArg gustOf window, congrArg meanOf acc⟩

/-- What a reading does to the state and the dwell: a step up, a step down that starts or runs on, or neither (R102, R103). -/
theorem takeReading_up {e : CraneEntry} {now w : Nat} (up : r.state.code < (classify e (taken r w).gust (taken r w).mean).code) :
    (r.takeReading e now w).state = classify e (taken r w).gust (taken r w).mean ∧ (r.takeReading e now w).dwell = none := by
  rw [takeReading_eq, if_pos up]
  exact ⟨rfl, rfl⟩

theorem takeReading_stays {e : CraneEntry} {now w : Nat}
    (stays : (classify e (taken r w).gust (taken r w).mean).code ≤ r.state.code) :
    (r.takeReading e now w).state = r.state ∧
      (stepDown e r.state (taken r w).gust (taken r w).mean = false → (r.takeReading e now w).dwell = none) ∧
      (stepDown e r.state (taken r w).gust (taken r w).mean = true →
        (r.takeReading e now w).dwell = match r.dwell with
          | some d => some d
          | none => startDwell r.state now) := by
  rw [takeReading_eq, if_neg (by omega)]
  refine ⟨?_, fun stay => ?_, fun down => ?_⟩
  · split <;> rfl
  · rw [if_neg (by simp [stay])]
  · exact congrArg WindRec.dwell (if_pos down)

theorem dwell_started {st : WindState} {k : DwellStep} (step : stepOf st = some k) (now : Nat) :
    (match r.dwell with
      | some d => some d
      | none => startDwell st now) = if r.dwell = none then some ⟨k, now⟩ else r.dwell := by
  unfold startDwell
  rw [step]
  cases r.dwell <;> rfl

end

/-! ### Stepping down (R103) -/

theorem stepDown_storm (e : CraneEntry) (g m : Nat) : stepDown e .storm g m = true ↔ g + e.hw < e.sw ∧ m + e.hw < e.mw := by
  simp [stepDown]

theorem stepDown_hold (e : CraneEntry) (g m : Nat) : stepDown e .hold g m = true ↔ g + e.hw < e.lw := by simp [stepDown]

theorem stepDown_caution (e : CraneEntry) (g m : Nat) : stepDown e .caution g m = true ↔ g + e.hw < e.lw * 80 / 100 := decide_eq_true_iff

/-! ### The wind stage (R96) -/

/-- The wind stage up to the verdict. -/
def classified (s : State) (c : Crane) (wind : Option Nat) : State :=
  let old := s.windRec c
  let new := old.sample (s.entry c) s.now wind (s.craneRec c).noReading
  let v := (s.setWind c new).windConditions c
  if new.state = .storm ∧ old.state ≠ .storm then v.reportStorm c else v

theorem windStage_eq (s : State) (c : Crane) (wind : Option Nat) : s.windStage c wind = (classified s c wind).handVerdict c := rfl

theorem classified_windRec (s : State) (c : Crane) (wind : Option Nat) :
    (classified s c wind).windRec c = (s.windRec c).sample (s.entry c) s.clock.mono wind (s.craneRec c).noReading := by
  have wind_ : (classified s c wind).wind = (s.windStage c wind).wind := by
    rw [windStage_eq]
    exact ((touches_handVerdict _ c).wind_eq (by decide)).symm
  rw [State.windRec, wind_, windStage_wind, tget_tput_same]
  rfl

theorem classified_entry (s : State) (c : Crane) (wind : Option Nat) : (classified s c wind).entry c = s.entry c := by
  have plan : (classified s c wind).plan = s.plan := by
    unfold classified
    dsimp only
    split
    · rw [(touches_reportStorm _ c).plan_eq (by decide), (touches_windConditions _ c).plan_eq (by decide)]
      rfl
    · rw [(touches_windConditions _ c).plan_eq (by decide)]
      rfl
  rw [State.entry, plan]
  rfl

/-! ### Verdicts and reasons (R107, R155, R156) -/

theorem classLimit_eq (e : CraneEntry) (a : AreaClass) :
    e.classLimit a = e.lw * (match a with | .a0 => 100 | .a1 => 85 | .a2 => 70 | .a3 => 55) / 100 := by
  cases a <;> rfl

theorem overLimit_iff (r : WindRec) (e : CraneEntry) (a : AreaClass) :
    (r.unknown || decide (2 ≤ r.state.code) || decide (e.classLimit a ≤ r.gust)) = true ↔
      r.unknown = true ∨ r.state = .hold ∨ r.state = .storm ∨ e.classLimit a ≤ r.gust := by
  cases r.state <;> simp [WindState.code]

theorem addReason_idle {b : Booking} (idle : b.running = false) (r : SuspReason) : s.addReason b r = s := by
  unfold State.addReason
  unfold Booking.running at idle
  cases state : b.state with
  | active | suspended rs =>
    rw [state] at idle
    exact nomatch idle
  | pending t | booked => rfl

theorem addReason_active {b : Booking} (active : b.state = .active) (r : SuspReason) :
    s.addReason b r = (s.putLift { b with state := .suspended [r] }).notifyLift b .suspended [r] := by
  unfold State.addReason
  rw [active]

theorem addReason_suspended {b : Booking} {rs : List SuspReason} (suspended : b.state = .suspended rs) (r : SuspReason) :
    s.addReason b r = s.putLift { b with state := .suspended (setAdd SuspReason.all r rs) } := by
  unfold State.addReason
  rw [suspended]

theorem removeReason_other {b : Booking} (other : ∀ rs, b.state ≠ .suspended rs) (r : SuspReason) : s.removeReason b r = s := by
  unfold State.removeReason
  cases state : b.state with
  | suspended rs => exact absurd state (other rs)
  | active | pending t | booked => rfl

theorem removeReason_suspended {b : Booking} {rs : List SuspReason} (suspended : b.state = .suspended rs) (r : SuspReason) :
    (r ∉ rs → s.removeReason b r = s) ∧
      (r ∈ rs → rs.filter (fun x => decide (x ≠ r)) ≠ [] →
        s.removeReason b r = s.putLift { b with state := .suspended (rs.filter (fun x => decide (x ≠ r))) }) ∧
      (r ∈ rs → rs.filter (fun x => decide (x ≠ r)) = [] →
        s.removeReason b r = (s.putLift { b with state := .suspended (rs.filter (fun x => decide (x ≠ r))) }).notifyLift b .resumable
          []) := by
  unfold State.removeReason
  rw [suspended, ← setDel_eq_filter]
  dsimp only
  refine ⟨fun out => if_neg out, fun member some_ => ?_, fun member none => ?_⟩
  · rw [if_pos member, if_neg (by simpa using some_)]
  · rw [if_pos member, if_pos (by simpa using none)]

theorem addReasonTo_none (none : s.runningLift c = none) (r : SuspReason) : s.addReasonTo c r = s := by
  rw [State.addReasonTo, none]

theorem addReasonTo_some {b : Booking} (running : s.runningLift c = some b) (r : SuspReason) : s.addReasonTo c r = s.addReason b r := by
  rw [State.addReasonTo, running]

theorem removeReasonFrom_none (none : s.runningLift c = none) (r : SuspReason) : s.removeReasonFrom c r = s := by
  rw [State.removeReasonFrom, none]

theorem removeReasonFrom_some {b : Booking} (running : s.runningLift c = some b) (r : SuspReason) :
    s.removeReasonFrom c r = s.removeReason b r := by
  rw [State.removeReasonFrom, running]

/-! ### The lift stage (R86, R87) -/

theorem conforms_iff {load : Option Nat} {radius tolerance : Nat} {d : LiftData} : conforms load radius d tolerance = true ↔
    ∃ l, load = some l ∧ l * 100 ≤ d.mass * (100 + tolerance) ∧ radius ≤ d.reach := by
  unfold conforms
  split <;> simp

theorem liftStage_some {b : Booking} (running : s.runningLift c = some b) (load : Option Nat) (radius : Nat) :
    s.liftStage c load radius =
      if conforms load radius b.data s.params.tolerance = true then (s.setLastConf c (some .conforms)).withdraw .nonconform c
      else ((s.setLastConf c (some .nonconforms)).raiseFor .nonconform c).addReasonTo c .nonconform := by
  unfold State.liftStage
  rw [running]

end Sys2Proof.Machine

open Sys2Proof Sys2Proof.Machine

/-- Settles O32: a sample on a record, the wind stage, and the arithmetic of gust, mean, class and dwell. -/
theorem windSampleTaken : Obligations.WindSampleTaken := by
  unfold Obligations.WindSampleTaken
  refine ⟨fun r e now n w => ?_, fun s c wind => ?_, fun r e now w => ?_, fun e g m => ?_, fun r w small short => ?_,
    fun r => rfl, rfl, fun r => ⟨fun unknown => if_pos unknown, setUnknown_known r⟩, fun now => ⟨rfl, rfl, rfl, rfl, rfl, rfl, rfl⟩⟩
  · intro v heard
    refine ⟨fun unknown => sample_unknown r unknown e now n w, fun known => ⟨sample_known r known e now n w, fun few => ?_, fun many => ?_⟩⟩
    · rw [sample_noReading r known, if_neg (by omega)]
    · rw [sample_noReading r known, if_pos many]
      exact setUnknown_known heard known
  · intro new v stormy
    refine ⟨classified s c wind, fun yes => if_pos yes, fun no => if_neg no, fun none => ?_, fun b running => ?_⟩
    · rw [windStage_eq, State.handVerdict, none]
    · rw [windStage_eq, State.handVerdict, running]
      dsimp only
      rw [classified_windRec, classified_entry]
  · intro t cls step
    obtain ⟨gust, mean⟩ := takeReading_gust r e now w
    obtain ⟨window, acc, heard, unknown⟩ := takeReading_fields r e now w
    refine ⟨window, acc, heard, unknown, ?_⟩
    have cls_eq : cls = classify e (taken r w).gust (taken r w).mean := congr (congrArg (classify e) gust) mean
    rw [cls_eq, show t.gust = _ from gust, show t.mean = _ from mean]
    refine ⟨fun up => takeReading_up r up, fun stays => ?_⟩
    obtain ⟨state, stay, down⟩ := takeReading_stays r (now := now) stays
    refine ⟨state, stay, fun steps => ?_⟩
    have dwell {k : DwellStep} (from_ : stepOf r.state = some k) : t.dwell = step k :=
      (down steps).trans (dwell_started r from_ now)
    exact ⟨fun storm => dwell (congrArg stepOf storm), fun hold => dwell (congrArg stepOf hold),
      fun caution => dwell (congrArg stepOf caution)⟩
  · exact ⟨classify_storm e g m, classify_hold e g m, classify_caution e g m, classify_calm e g m, stepDown_storm e g m,
      stepDown_hold e g m, stepDown_caution e g m, rfl⟩
  · refine ⟨fun room => pushSample_append room, fun x y z full => ?_, gustOf_one, gustOf_two, gustOf_three, rfl, rfl,
      accumulate_bound small⟩
    show pushSample r.window w = [y, z, w]
    rw [full, pushSample_full]

/-- Settles O33: verdicts by the limits, what they do to a running booking, the lift stage, and reasons added and removed. -/
theorem liftVerdict : Obligations.LiftVerdict := by
  unfold Obligations.LiftVerdict
  refine ⟨fun r e a => ?_, fun s b => ?_, fun s c load radius => ⟨fun none => ?_, fun b running => ?_⟩, fun s r => ⟨fun b => ?_, fun c => ?_⟩⟩
  · intro limit atLimit
    have same : e.classLimit a = limit := classLimit_eq e a
    have test : _ ↔ atLimit := same ▸ overLimit_iff r e a
    clear_value limit
    subst same
    exact ⟨rfl, fun reached => if_pos (test.mpr reached),
      fun below clear => (if_neg (fun reached => below (test.mp reached))).trans (if_pos clear),
      fun below near => (if_neg (fun reached => below (test.mp reached))).trans (if_neg (Nat.not_lt.mpr near))⟩
  · refine ⟨rfl, fun active => ⟨addReason_active active .wind, removeReason_other (by simp [active]) .wind⟩, fun rs suspended => ?_⟩
    obtain ⟨out, more, last⟩ := removeReason_suspended (s := s) suspended .wind
    exact ⟨addReason_suspended suspended .wind, out, fun member => ⟨more member, last member⟩⟩
  · rw [State.liftStage, none]
  · have test := conforms_iff (load := load) (radius := radius) (tolerance := s.params.tolerance) (d := b.data)
    rw [liftStage_some running]
    exact ⟨fun passes => if_pos (test.mpr passes), fun fails => if_neg (fun passes => fails (test.mp passes))⟩
  · refine ⟨fun idle => addReason_idle idle r, fun active => addReason_active active r, fun rs suspended => ?_,
      fun other => removeReason_other other r, fun rs suspended => removeReason_suspended suspended r⟩
    exact ⟨_, addReason_suspended suspended r, fun x => mem_setAdd SuspReason.mem_all, setAdd_of_mem⟩
  · exact ⟨fun none => ⟨addReasonTo_none none r, removeReasonFrom_none none r⟩,
      fun b running => ⟨addReasonTo_some running r, removeReasonFrom_some running r⟩⟩
end

section
/-!
PROOF. The completion of a dwell, the wind conditions kept in step with a wind record (R104, R108), and the entry to securing
(R117 to R119).
-/
namespace Sys2Proof.Machine

variable {s : State} {c : Crane}

/-! ### A command of a running unit -/

theorem whileRunning_on (running : s.running = true) (f : State → State) : s.whileRunning f = .next (f s) :=
  congrArg Host.Outcome.next (if_pos running)

/-! ### Alerts raised and withdrawn, by crane -/

/-- What the crane's alert is after a raising: the latch; the stop action and the lines do not touch it. -/
theorem alert_raiseFor_own {k : AlertKind} (path : k ≠ .offPath) (s : State) (c : Crane) :
    (s.raiseFor k c).alert k = (s.latchAlert k (some c)).alert k := by
  refine (framedAlert k).frame (touches_evaluateLines _) rfl ?_
  rcases stopAction_some (s.latchAlert k (some c)) k c with ⟨x, _, _, eq⟩ | ⟨_, eq⟩
  · rw [eq]
    exact alert_addStop _ path c x
  · rw [eq]
    exact .refl _

theorem raiseFor_others {k : AlertKind} (path : k ≠ .offPath) {d : Crane} (other : d ≠ c) (s : State) :
    d ∈ ((s.raiseFor k c).alert k).cranes ↔ d ∈ (s.alert k).cranes := by
  rw [alert_raiseFor_own path, State.latchAlert, State.setAlert_alert_same]
  dsimp only
  split
  · exact Iff.rfl
  · exact (mem_setAdd mem_allCranes).trans (or_iff_right other)

theorem withdraw_others (k : AlertKind) {d : Crane} (other : d ≠ c) (s : State) :
    d ∈ ((s.withdraw k c).alert k).cranes ↔ d ∈ (s.alert k).cranes :=
  mem_withdraw_same.trans (and_iff_left_of_imp (fun _ => other))

/-! ### A condition kept in step (R108) -/

theorem keepInStep_eq (s : State) (k : AlertKind) (c : Crane) (holds : Bool) :
    s.keepInStep k c holds =
      if holds = decide (c ∈ (s.alert k).cranes) then s else if holds = true then s.raiseFor k c else s.withdraw k c := by
  unfold State.keepInStep State.hasAlert
  by_cases here : c ∈ (s.alert k).cranes <;> cases holds <;> simp [here]

theorem keepInStep_own {k : AlertKind} (path : k ≠ .offPath) (crane : k.siteScoped = false) (s : State) (c : Crane) (holds : Bool) :
    c ∈ ((s.keepInStep k c holds).alert k).cranes ↔ holds = true := by
  rw [keepInStep_eq]
  split
  next same => rw [same, decide_eq_true_iff]
  next =>
    split
    next on => exact iff_of_true (raiseFor_in path crane s c) on
    next off => exact iff_of_false (withdraw_out s k c) off

theorem keepInStep_others {k : AlertKind} (path : k ≠ .offPath) {d : Crane} (other : d ≠ c) (s : State) (holds : Bool) :
    d ∈ ((s.keepInStep k c holds).alert k).cranes ↔ d ∈ (s.alert k).cranes := by
  rw [keepInStep_eq]
  split
  · exact Iff.rfl
  · split
    · exact raiseFor_others path other s
    · exact withdraw_others k other s

/-! ### The three wind conditions -/

theorem windConditions_unheard (unheard : (s.windRec c).heard = false) : s.windConditions c = s := by
  unfold State.windConditions
  dsimp only
  rw [if_neg (by simp [unheard])]

theorem windConditions_heard (heard : (s.windRec c).heard = true) :
    s.windConditions c =
      ((s.keepInStep .windCaution c (decide (1 ≤ (s.windRec c).state.code))).keepInStep .windHold c
        (decide (2 ≤ (s.windRec c).state.code))).keepInStep .windUnknown c (s.windRec c).unknown := by
  unfold State.windConditions
  dsimp only
  rw [if_pos heard]

theorem caution_code (w : WindState) : decide (1 ≤ w.code) = decide (w ≠ .calm) := by
  cases w <;> rfl

theorem hold_code (w : WindState) : decide (2 ≤ w.code) = decide (w = .hold ∨ w = .storm) := by
  cases w <;> rfl

/-- Each of three conditions brought into step one after the other has the crane as it holds. -/
theorem threeConditions_cranes (s : State) (c : Crane) (caution hold unknown : Bool) :
    let t := ((s.keepInStep .windCaution c caution).keepInStep .windHold c hold).keepInStep .windUnknown c unknown
    (c ∈ (t.alert .windCaution).cranes ↔ caution = true) ∧ (c ∈ (t.alert .windHold).cranes ↔ hold = true) ∧
      (c ∈ (t.alert .windUnknown).cranes ↔ unknown = true) ∧
      ∀ d, d ≠ c → (d ∈ (t.alert .windHold).cranes ↔ d ∈ (s.alert .windHold).cranes) := by
  intro t
  have cautionKept : SameAlert .windCaution (s.keepInStep .windCaution c caution) t :=
    (alert_keepInStep (by decide) _ (by decide) c hold).trans (alert_keepInStep (by decide) _ (by decide) c unknown)
  have holdKept : SameAlert .windHold ((s.keepInStep .windCaution c caution).keepInStep .windHold c hold) t :=
    alert_keepInStep (by decide) _ (by decide) c unknown
  have holdBefore : SameAlert .windHold s (s.keepInStep .windCaution c caution) := alert_keepInStep (by decide) _ (by decide) c caution
  refine ⟨?_, ?_, keepInStep_own (by decide) rfl _ c unknown, fun d other => ?_⟩
  · rw [show t.alert .windCaution = _ from cautionKept]
    exact keepInStep_own (by decide) rfl s c caution
  · rw [show t.alert .windHold = _ from holdKept]
    exact keepInStep_own (by decide) rfl _ c hold
  · rw [show t.alert .windHold = _ from holdKept, keepInStep_others (by decide) other, show _ = s.alert .windHold from holdBefore]

/-- The cranes of the conditions after they are brought into step with a heard record. -/
theorem windConditions_cranes (heard : (s.windRec c).heard = true) :
    (c ∈ ((s.windConditions c).alert .windCaution).cranes ↔ (s.windRec c).state ≠ .calm) ∧
      (c ∈ ((s.windConditions c).alert .windHold).cranes ↔ (s.windRec c).state = .hold ∨ (s.windRec c).state = .storm) ∧
      (c ∈ ((s.windConditions c).alert .windUnknown).cranes ↔ (s.windRec c).unknown = true) ∧
      ∀ d, d ≠ c → (d ∈ ((s.windConditions c).alert .windHold).cranes ↔ d ∈ (s.alert .windHold).cranes) := by
  rw [windConditions_heard heard, caution_code, hold_code]
  obtain ⟨caution, hold, unknown, others⟩ := threeConditions_cranes s c (decide ((s.windRec c).state ≠ .calm))
    (decide ((s.windRec c).state = .hold ∨ (s.windRec c).state = .storm)) (s.windRec c).unknown
  exact ⟨caution.trans decide_eq_true_iff, hold.trans decide_eq_true_iff, unknown, others⟩

/-! ### A dwell completes (R104) -/

theorem complete_eq (r : WindRec) (e : CraneEntry) (now : Nat) (d : Dwell) :
    r.complete e now d =
      { r with
        state := d.step.target
        dwell := if stepDown e d.step.target r.gust r.mean = true then startDwell d.step.target now else none } := rfl

theorem completeDwell_some {d : Dwell} (dwell : (s.windRec c).dwell = some d) :
    s.completeDwell c = (s.setWind c ((s.windRec c).complete (s.entry c) s.clock.mono d)).windConditions c := by
  unfold State.completeDwell
  rw [dwell]
  rfl

theorem dwellDue_some {d : Dwell} (dwell : (s.windRec c).dwell = some d) :
    s.dwellDue c = true ↔ d.start + d.step.time ≤ s.clock.mono := by
  rw [dwellDue_iff, dwell]
  simp

/-! ### The entry to securing (R119) -/

theorem enterSecuring_working (working : (s.svc c).state = .inService) : s.enterSecuring c = s.toSecuring c := by
  unfold State.enterSecuring
  dsimp only
  rw [working]

theorem enterSecuring_withheld (out : (s.svc c).state = .outOfService) (withheld : (s.svc c).withheld = true) :
    s.enterSecuring c =
      match (s.entry c).vane with
      | .free => if (s.svc c).lost then s.withheldToVaneWait c else (s.withheldToVaneWait c).testVane c
      | .parked => s.setSvc c { s.svc c with withheld := false, order := .park } := by
  unfold State.enterSecuring
  dsimp only
  rw [out]
  exact if_pos withheld

theorem enterSecuring_idle (idle : (s.svc c).state = .outOfService ∧ (s.svc c).withheld = false ∨ (s.svc c).state = .securing ∨
    (s.svc c).state = .vaneWait ∨ (s.svc c).state = .offline ∨ (s.svc c).state = .standby) : s.enterSecuring c = s := by
  unfold State.enterSecuring
  dsimp only
  rcases idle with ⟨out, passed⟩ | state | state | state | state
  · rw [out]
    exact if_neg (by simp [passed])
  · rw [state]
  · rw [state]
  · rw [state]
  · rw [state]

theorem securingOrder_eq (s : State) (c : Crane) : s.securingOrder c = if (s.entry c).vane = .free then .secure else .park := by
  unfold State.securingOrder
  cases (s.entry c).vane <;> rfl

/-! ### The storm (R117, R118) -/

theorem reportStorm_open (open_ : s.site = .opened) (c : Crane) : s.reportStorm c = s.enterStorm c := by
  unfold State.reportStorm
  rw [open_]

theorem reportStorm_other (other : s.site ≠ .opened) (c : Crane) : s.reportStorm c = s.raiseFor .storm c := by
  unfold State.reportStorm
  cases site : s.site with
  | opened => exact absurd site other
  | storm | closed | setup => rfl

theorem alert_storm_raised (s : State) (c : Crane) :
    ((s.raiseFor .storm c).alert .storm).flag = true ∧ ((s.raiseFor .storm c).alert .storm).latch ≠ none ∧
      ((s.raiseFor .storm c).alert .storm).mode = (s.alert .storm).mode := by
  rw [alert_raiseFor_own (by decide), State.latchAlert, State.setAlert_alert_same]
  refine ⟨by simp [AlertKind.siteScoped], ?_, rfl⟩
  dsimp only
  cases (s.alert .storm).latch <;> simp

theorem sirenDue_storm (s : State) (c : Crane) :
    (s.raiseFor .storm c).sirenDue = true ↔ (s.alert .storm).mode = .stop ∨ s.sirenDue = true := by
  obtain ⟨-, latched, mode⟩ := alert_storm_raised s c
  have others {k : AlertKind} (other : k ≠ .storm) : (s.raiseFor .storm c).alert k = s.alert k := by
    rw [State.raiseFor, State.raise_of_siteScoped rfl]
    exact ((framedAlert k).frame (touches_evaluateLines _) rfl (State.setAlert_alert_ne _ _ other))
  rw [State.sirenDue_iff, State.sirenDue_iff]
  constructor
  · rintro ⟨k, on, stop⟩
    by_cases storm : k = .storm
    · rw [storm, mode] at stop
      exact .inl stop
    · rw [others storm] at on stop
      exact .inr ⟨k, on, stop⟩
  · rintro (stop | ⟨k, on, stop⟩)
    · exact ⟨.storm, latched, mode.trans stop⟩
    · by_cases storm : k = .storm
      · exact ⟨.storm, latched, mode.trans (storm ▸ stop)⟩
      · exact ⟨k, by rwa [others storm], by rwa [others storm]⟩

end Sys2Proof.Machine

open Sys2Proof Sys2Proof.Machine

/-- Settles O34: a dwell's completion, and the wind conditions in step with the record. -/
theorem dwellCompletes : Obligations.DwellCompletes := by
  unfold Obligations.DwellCompletes
  refine ⟨fun s c running => ?_, fun s c => ?_⟩
  · intro r e
    refine ⟨fun d dwell => ?_, fun none => ?_⟩
    · intro time st next
      have time_eq : time = d.step.time := rfl
      have target_eq : st = d.step.target := rfl
      have due := dwellDue_some dwell
      rw [exec_dwellCompletion, whileRunning_on running]
      refine ⟨fun reached => ?_, fun early => ?_⟩
      · rw [if_pos (due.mpr (time_eq ▸ reached)), completeDwell_some dwell, complete_eq, ← target_eq]
      · rw [if_neg (fun reached => by have := due.mp reached; omega)]
    · rw [exec_dwellCompletion, whileRunning_on running, if_neg]
      intro due
      obtain ⟨d, some_, _⟩ := dwellDue_iff.mp due
      exact nomatch some_.symm.trans none
  · intro r t keep
    refine ⟨windConditions_unheard, fun heard => ?_⟩
    obtain ⟨caution, hold, unknown, others⟩ := windConditions_cranes heard
    refine ⟨?_, caution, hold, unknown, others, touches_windConditions_quiet s c⟩
    show s.windConditions c = _
    rw [windConditions_heard heard, caution_code, hold_code, keepInStep_eq, keepInStep_eq, keepInStep_eq]

/-- Settles O35: the entry to securing of one crane, and what a crane's wind becoming STORM does. -/
theorem securingEntered : Obligations.SecuringEntered := by
  unfold Obligations.SecuringEntered
  refine ⟨fun s c => ?_, fun s c => ⟨fun open_ => reportStorm_open open_ c, fun other => reportStorm_other other c, ?_, ?_, sirenDue_storm s c⟩⟩
  · intro r ends free waiting
    refine ⟨fun working => ?_, fun out withheld => ⟨fun vane lost => ?_, fun vane present => ?_, fun parked => ?_⟩, enterSecuring_idle⟩
    · rw [enterSecuring_working working, State.toSecuring, securingOrder_eq]
      rfl
    · rw [enterSecuring_withheld out withheld, show (s.entry c).vane = _ from vane]
      exact if_pos lost
    · rw [enterSecuring_withheld out withheld, show (s.entry c).vane = _ from vane]
      exact if_neg (Bool.eq_false_iff.mp present)
    · have mode : (s.entry c).vane = .parked := by
        cases vane : (s.entry c).vane with
        | free => exact absurd vane parked
        | parked => rfl
      rw [enterSecuring_withheld out withheld, mode]
  · exact (touches_raiseFor s .storm c).site_eq (by decide)
  · exact (alert_storm_raised s c).1
end

section
/-!
PROOF. The progress of securing (R121 to R124): the four conditions, the park conversion, vane release, and the securing timer.
-/
namespace Sys2Proof.Machine

variable {s : State} {c : Crane}

/-! ### The cells after a group of changes (R52) -/

/-- The record of a request's cell after the change it asks for. -/
def State.cellAfter (s : State) (r : CellReq) : Cell :=
  if (s.cell r.cell).state = r.goal then s.cell r.cell else s.changedCell r

theorem cell_changeCell_record (s : State) (r : CellReq) (q : CellId) :
    (s.changeCell r).cell q = if r.cell = q then s.cellAfter r else s.cell q := by
  unfold State.cellAfter
  by_cases same : (s.cell r.cell).state = r.goal
  · rw [changeCell_same same, if_pos same]
    split
    next here => rw [here]
    next => rfl
  · rw [changeCell_other same, if_neg same, cell_setCell]

theorem cellAfter_changeCell {r o : CellReq} (other : o.cell ≠ r.cell) (s : State) : (s.changeCell o).cellAfter r = s.cellAfter r := by
  have here : (s.changeCell o).cell r.cell = s.cell r.cell := (cell_changeCell_record s o r.cell).trans (if_neg other)
  have touched : Touches [.cells] s (s.changeCell o) := touches_changeCell s o
  have end_ : (s.changeCell o).clearingEnd = s.clearingEnd := by
    rw [State.clearingEnd, State.now, State.params, touched.clock_eq (by decide), touched.plan_eq (by decide)]
    rfl
  rw [State.cellAfter, State.cellAfter, State.changedCell, State.changedCell, here, end_, touched.clock_eq (by decide)]

/-- Changes of different cells: each cell has the record its request asks for, every other cell is left. -/
theorem cell_changeCells_record {rs : List CellReq} (apart : (rs.map CellReq.cell).Nodup) (s : State) (q : CellId) :
    (∀ r ∈ rs, r.cell = q → (s.changeCells rs).cell q = s.cellAfter r) ∧
      ((∀ r ∈ rs, r.cell ≠ q) → (s.changeCells rs).cell q = s.cell q) := by
  unfold State.changeCells
  induction rs generalizing s with
  | nil => exact ⟨fun _ h => (List.not_mem_nil h).elim, fun _ => rfl⟩
  | cons o rs ih =>
    obtain ⟨out, apart⟩ := List.nodup_cons.mp apart
    obtain ⟨asked, left⟩ := ih apart (s.changeCell o)
    rw [List.foldl_cons]
    refine ⟨fun r member here => ?_, fun none => ?_⟩
    · rcases List.mem_cons.mp member with rfl | member
      · rw [left (fun r' h same => out (List.mem_map.mpr ⟨r', h, same.trans here.symm⟩)), cell_changeCell_record, if_pos here]
      · rw [asked r member here]
        exact cellAfter_changeCell (fun same => out (List.mem_map.mpr ⟨r, member, same.symm⟩)) s
    · rw [left (fun r h => none r (List.mem_cons_of_mem _ h)), cell_changeCell_record, if_neg (none o List.mem_cons_self)]

theorem nodup_map_of_inj {α β : Type} {f : α → β} (inj : ∀ x y, f x = f y → x = y) {l : List α} (once : l.Nodup) :
    (l.map f).Nodup :=
  List.pairwise_map.mpr (once.imp (fun apart same => apart (inj _ _ same)))

/-- Requests formed sector by sector name different cells. -/
theorem sectorReqs_nodup {f : Sector → Option CellReq} (c : Crane) (names : ∀ x r, f x = some r → r.cell = ⟨c, x⟩) :
    ((allSectors.filterMap f).map CellReq.cell).Nodup := by
  have sub (l : List Sector) : ((l.filterMap f).map CellReq.cell).Sublist (l.map (CellId.mk c)) := by
    induction l with
    | nil => exact .slnil
    | cons x l ih =>
      cases value : f x with
      | none =>
        rw [List.filterMap_cons_none value]
        exact ih.cons _
      | some r =>
        rw [List.filterMap_cons_some value, List.map_cons, List.map_cons, names x r value]
        exact ih.cons_cons _
  exact (sub allSectors).nodup (nodup_map_of_inj (fun _ _ same => congrArg CellId.sector same) (by decide))

theorem beginClearing_congr {t : State} (plan : t.plan = s.plan) (cells : t.cells = s.cells) (bookings : t.bookings = s.bookings)
    (q : CellId) : t.beginClearing q = s.beginClearing q := by
  simp only [State.beginClearing, State.clearingTest, State.partners, State.cell, State.reserved, State.onRunningPath, State.params,
    plan, cells, bookings]
  rfl

/-! ### The four conditions (R121) -/

section
variable (s : State) (c : Crane)

theorem securedAtRest_iff : (s.readinessOf c).securedAtRest = true ↔
    ∃ k, (s.craneRec c).contents = some k ∧ k.secured = true ∧ k.atRest = true := by
  unfold State.readinessOf
  dsimp only
  split <;> simp [*]

theorem noLift_iff : (s.readinessOf c).noLift = true ↔ s.runningLift c = none := by
  unfold State.readinessOf
  simp

theorem inPark_iff : (s.readinessOf c).inPark = true ↔ (s.entry c).vane = .free ∨
    tget s.occupied c = some ⟨(s.entry c).park, (s.entry c).park⟩ ∧ (s.cell ⟨c, (s.entry c).park⟩).state = .held := by
  unfold State.readinessOf
  dsimp only
  split <;> simp [*]

end

theorem readiness_all_iff (r : Readiness) : r.all = true ↔
    r.loadLanded = true ∧ r.securedAtRest = true ∧ r.noLift = true ∧ r.inPark = true := by
  simp [Readiness.all, and_assoc]

/-! ### The park conversion (R122) -/

/-- The request the park conversion makes for one sector. -/
def State.parkReq (s : State) (c : Crane) (x : Sector) : Option CellReq :=
  match (s.cell ⟨c, x⟩).state with
  | .held => if x = (s.entry c).park then some ⟨⟨c, x⟩, .parked, .keep⟩ else some (s.beginClearing ⟨c, x⟩)
  | .seized => if x = (s.entry c).park then none else some (s.beginClearing ⟨c, x⟩)
  | .free | .clearing | .vane | .parked => none

theorem parkReqs_eq (s : State) (c : Crane) : s.parkReqs c = allSectors.filterMap (s.parkReq c) := rfl

theorem parkReq_iff {x : Sector} {r : CellReq} : s.parkReq c x = some r ↔
    x = (s.entry c).park ∧ (s.cell ⟨c, x⟩).state = .held ∧ r = ⟨⟨c, x⟩, .parked, .keep⟩ ∨
      x ≠ (s.entry c).park ∧ ((s.cell ⟨c, x⟩).state = .held ∨ (s.cell ⟨c, x⟩).state = .seized) ∧ r = s.beginClearing ⟨c, x⟩ := by
  unfold State.parkReq
  by_cases park : x = (s.entry c).park <;> cases (s.cell ⟨c, x⟩).state <;> simp [park, eq_comm]

theorem parkReqs_nodup (s : State) (c : Crane) : ((s.parkReqs c).map CellReq.cell).Nodup := by
  refine sectorReqs_nodup c (fun x r asked => ?_)
  rcases parkReq_iff.mp asked with ⟨-, -, rfl⟩ | ⟨-, -, rfl⟩
  · rfl
  · rfl

theorem mem_parkReqs {r : CellReq} : r ∈ s.parkReqs c ↔
    (s.cell ⟨c, (s.entry c).park⟩).state = .held ∧ r = ⟨⟨c, (s.entry c).park⟩, .parked, .keep⟩ ∨
      ∃ x, x ≠ (s.entry c).park ∧ ((s.cell ⟨c, x⟩).state = .held ∨ (s.cell ⟨c, x⟩).state = .seized) ∧
        r = s.beginClearing ⟨c, x⟩ := by
  rw [parkReqs_eq, List.mem_filterMap]
  simp only [mem_allSectors, true_and, parkReq_iff]
  constructor
  · rintro ⟨x, ⟨rfl, held, rfl⟩ | other⟩
    · exact .inl ⟨held, rfl⟩
    · exact .inr ⟨x, other⟩
  · rintro (held | ⟨x, other⟩)
    · exact ⟨_, .inl ⟨rfl, held⟩⟩
    · exact ⟨x, .inr other⟩

/-! ### Vane release (R123) -/

theorem vanePermitted_iff : s.vanePermitted c = true ↔
    ∀ x, ∀ p ∈ s.partners ⟨c, x⟩, p.1 = .struct → (s.cell p.2).state = .free ∨ (s.cell p.2).state = .vane := by
  simp only [State.vanePermitted, List.all_eq_true, mem_allSectors, true_imp_iff, Bool.not_eq_true', List.any_eq_false, Prod.forall,
    holdsVane_iff, not_and]
  refine forall_congr' fun x => forall_congr' fun k => forall_congr' fun o => forall_congr' fun _ => forall_congr' fun _ => ?_
  cases (s.cell o).state <;> simp

theorem vaneReqs_nodup (c : Crane) : ((vaneReqs c).map CellReq.cell).Nodup := by
  rw [vaneReqs, List.map_map]
  exact nodup_map_of_inj (fun _ _ same => congrArg CellId.sector same) (by decide)

/-- The state a vane release makes before its follow-ups. -/
def State.vaneReleased (s : State) (c : Crane) : State := (s.changeCells (vaneReqs c)).outOfService c .vaneRelease false

theorem vaneReleased_cell (s : State) (c : Crane) (q : CellId) : (s.vaneReleased c).cell q = (s.changeCells (vaneReqs c)).cell q := by
  rw [State.vaneReleased, State.cell, (touches_outOfService _ c _ _).cells_eq (by decide)]
  rfl

theorem vaneReleased_own (s : State) (c : Crane) (x : Sector) :
    (s.vaneReleased c).cell ⟨c, x⟩ = s.cellAfter ⟨⟨c, x⟩, .vane, .keep⟩ := by
  rw [vaneReleased_cell]
  exact (cell_changeCells_record (vaneReqs_nodup c) s ⟨c, x⟩).1 _ (List.mem_map_of_mem (mem_allSectors x)) rfl

theorem vaneReleased_others {q : CellId} (other : q.crane ≠ c) : (s.vaneReleased c).cell q = s.cell q := by
  rw [vaneReleased_cell]
  refine (cell_changeCells_record (vaneReqs_nodup c) s q).2 (fun r member here => ?_)
  obtain ⟨x, -, rfl⟩ := List.mem_map.mp member
  exact other (here ▸ rfl)

theorem outOfService_svc (s : State) (c : Crane) (o : Order) (withheld : Bool) (d : Crane) :
    (s.outOfService c o withheld).svc d =
      if c = d then { s.svc c with state := .outOfService, order := o, timer := none, withheld := withheld } else s.svc d := by
  have denied (u : State) : ((u.denyCrane c .service).withdraw .secureOverdue c).svc d = u.svc d :=
    (svc_of_touches (touches_withdraw _ .secureOverdue c) (by decide) d).trans
      (svc_of_touches (touches_denyCrane u c .service) (by decide) d)
  rw [State.outOfService, denied, svc_setSvc]

/-! ### The securing timer (R124) -/

theorem timerDue_some {e : Nat} (timer : (s.svc c).timer = some e) : s.timerDue c = true ↔ e ≤ s.clock.mono := by
  rw [State.timerDue, reached_iff, timer]
  simp

theorem expireTimer_securing (securing : (s.svc c).state = .securing ∨ (s.svc c).state = .vaneWait) :
    s.expireTimer c = (s.raiseFor .secureOverdue c).setSvc c { s.svc c with timer := none } := by
  have kept : (s.raiseFor .secureOverdue c).svc c = s.svc c := svc_of_touches (touches_raiseFor s .secureOverdue c) (by decide) c
  have raised : s.expireTimer c =
      (s.raiseFor .secureOverdue c).setSvc c { (s.raiseFor .secureOverdue c).svc c with timer := none } := by
    unfold State.expireTimer
    dsimp only
    rcases securing with state | state <;> rw [state]
  rw [raised, kept]

theorem expireTimer_other (securing : (s.svc c).state ≠ .securing) (waiting : (s.svc c).state ≠ .vaneWait) :
    s.expireTimer c = s.setSvc c { s.svc c with timer := none } := by
  unfold State.expireTimer
  dsimp only
  split
  next state => exact absurd state securing
  next state => exact absurd state waiting
  all_goals rfl

end Sys2Proof.Machine

open Sys2Proof Sys2Proof.Machine

/-- Settles O36: the securing stage, the park conversion, vane release, and the expiry of the securing timer. -/
theorem securingTested : Obligations.SecuringTested := by
  unfold Obligations.SecuringTested
  refine ⟨fun s c => ?_, fun s c => ?_, fun s c => ?_, fun s c running => ?_⟩
  · intro e one two three four r kept
    refine ⟨Iff.rfl, securedAtRest_iff s c, noLift_iff s c, inPark_iff s c, ?_, fun no => ?_, fun yes => ⟨fun no => ?_, fun all vane => ?_, fun all vane => ?_⟩⟩
    · exact (readiness_all_iff r).trans
        (and_congr Iff.rfl (and_congr (securedAtRest_iff s c) (and_congr (noLift_iff s c) (inPark_iff s c))))
    · exact if_neg (by simp [no])
    · exact (if_pos yes).trans (if_neg (Bool.eq_false_iff.mp no))
    · refine (if_pos yes).trans ((if_pos all).trans ?_)
      rw [show (s.entry c).vane = _ from vane]
    · refine (if_pos yes).trans ((if_pos all).trans ?_)
      rw [show (s.entry c).vane = _ from vane]
      rfl
  · intro park st v
    have set : Touches [.service, .links, .waits, .alerts] s
        (s.setSvc c { s.svc c with state := .outOfService, order := .park, timer := none }) :=
      (touches_setSvc s c _).mono (by decide)
    have touched : Touches [.service, .links, .waits, .alerts] s v := set.step (touches_denyCrane _ c .service) (by decide)
    have cell (q : CellId) : v.cell q = s.cell q := by
      rw [State.cell, touched.cells_eq (by decide)]
      rfl
    have entry : v.entry c = s.entry c := by
      rw [State.entry, touched.plan_eq (by decide)]
      rfl
    have begin_ (q : CellId) : v.beginClearing q = s.beginClearing q :=
      beginClearing_congr (touched.plan_eq (by decide)) (touched.cells_eq (by decide)) (touched.bookings_eq (by decide)) q
    refine ⟨v.parkReqs c, parkReqs_nodup v c, fun r => ?_, rfl⟩
    rw [mem_parkReqs, entry, cell]
    exact or_congr Iff.rfl (exists_congr fun x => by rw [cell, begin_])
  · refine ⟨vanePermitted_iff, fun no => if_neg (Bool.eq_false_iff.mp no), fun yes => if_pos yes, rfl, fun recheck => ?_⟩
    have svc (d : Crane) := outOfService_svc (s.changeCells (vaneReqs c)) c .vaneRelease false d
    simp only [svc_changeCells] at svc
    refine ⟨s.vaneReleased c, rfl, fun x => ?_, fun q other => vaneReleased_others other, (svc c).trans (if_pos rfl),
      fun d other => (svc d).trans (if_neg (Ne.symm other)), withdraw_out _ _ c⟩
    rw [vaneReleased_own]
    unfold State.cellAfter
    by_cases same : (s.cell ⟨c, x⟩).state = .vane
    · rw [if_pos same]
      exact ⟨same, fun other => absurd same other⟩
    · rw [if_neg same]
      exact ⟨rfl, fun _ => rfl⟩
  · intro r
    rw [exec_securingTimerExpiry, whileRunning_on running]
    refine ⟨fun e timer => ?_, fun none => ?_⟩
    · have due := timerDue_some timer
      refine ⟨fun reached => ⟨fun securing => ?_, fun securing waiting => ?_⟩, fun early => ?_⟩
      · rw [if_pos (due.mpr reached), expireTimer_securing securing]
      · rw [if_pos (due.mpr reached), expireTimer_other securing waiting]
      · rw [if_neg (fun reached => by have := due.mp reached; omega)]
    · rw [if_neg]
      intro due
      obtain ⟨e, some_, _⟩ := reached_iff.mp due
      exact nomatch some_.symm.trans none
end

section
/-!
PROOF. The checks of the site commands and their refusals (R110, R115, R120, R126, R129).
-/
namespace Sys2Proof.Machine

variable {s : State}

/-! ### The first present crane that fails a check -/

/-- In an ascending list the first element of a kind is the one that no smaller element of the kind precedes. -/
theorem find?_ascending {p : Crane → Bool} {c : Crane} {l : List Crane} (ascending : l.Pairwise (· < ·)) (member : c ∈ l)
    (holds : p c = true) (before : ∀ d ∈ l, d < c → p d = false) : l.find? p = some c := by
  induction l with
  | nil => exact nomatch member
  | cons d l ih =>
    obtain ⟨least, ascending⟩ := List.pairwise_cons.mp ascending
    rcases List.mem_cons.mp member with rfl | member
    · exact List.find?_cons_of_pos holds
    · rw [List.find?_cons_of_neg (by rw [before d List.mem_cons_self (least c member)]; decide)]
      exact ih ascending member (fun e he => before e (List.mem_cons_of_mem _ he))

theorem presentCranes_ascending (s : State) : s.presentCranes.Pairwise (· < ·) :=
  List.Pairwise.filter _ (by decide : allCranes.Pairwise (· < ·))

theorem requireAll_first {ok : Crane → Bool} {c : Crane} (present : s.present c = true) (fails : ok c = false)
    (before : ∀ d, d < c → s.present d = true → ok d = true) (k : Code) : s.requireAll ok k = some ⟨k, [fCrane c]⟩ := by
  have found : s.firstFailing ok = some c :=
    find?_ascending (presentCranes_ascending s) (mem_presentCranes.mpr present) (by simp [fails])
      (fun d hd less => by simp [before d less (mem_presentCranes.mp hd)])
  rw [State.requireAll, found]
  rfl

theorem requireAll_passes {ok : Crane → Bool} (all : ∀ c, s.present c = true → ok c = true) (k : Code) : s.requireAll ok k = none :=
  requireAll_eq_none.mpr (fun c hc => all c (mem_presentCranes.mp hc))

theorem requireAll_passes_iff {ok : Crane → Bool} {k : Code} :
    s.requireAll ok k = none ↔ ∀ c, s.present c = true → ok c = true := by
  simp only [requireAll_eq_none, mem_presentCranes]

theorem occupiedConflict_first {before after : List Pair} {p : Pair} (pairs : s.plan.committed.pairs = before ++ p :: after)
    (occupied : s.occupiedPair p = true) (first : ∀ r ∈ before, s.occupiedPair r = false) :
    s.occupiedConflict = some ⟨.conflict, [fCrane p.lo.crane, fCrane p.hi.crane, fCell p.lo, fCell p.hi]⟩ := by
  have found : s.plan.committed.pairs.find? s.occupiedPair = some p :=
    List.find?_eq_some_iff_append.mpr ⟨occupied, before, after, pairs, fun r hr => by rw [first r hr]; decide⟩
  rw [State.occupiedConflict, found]
  rfl

/-! ### What the checks ask -/

theorem windReady_iff {c : Crane} : s.windReady c = true ↔
    (s.windRec c).unknown = false ∧ ((s.windRec c).state = .calm ∨ (s.windRec c).state = .caution) := by
  unfold State.windReady
  cases (s.windRec c).state <;> simp [WindState.code]

theorem occupiedPair_iff {p : Pair} : s.occupiedPair p = true ↔
    p.lo.crane ≠ p.hi.crane ∧ s.present p.lo.crane = true ∧ s.present p.hi.crane = true ∧
      s.occupies p.lo.crane p.lo.sector = true ∧ s.occupies p.hi.crane p.hi.sector = true := by
  simp [State.occupiedPair, and_assoc]

theorem maySetUp_iff {c : Crane} : s.maySetUp c = true ↔
    (s.svc c).lost = false ∧ ((s.svc c).state = .outOfService ∨ (s.svc c).state = .offline) := by
  rw [State.maySetUp, Bool.or_eq_true, inState_iff, inState_iff, and_or_left]

theorem firstRefusal_nil : firstRefusal [] = none := rfl

theorem firstRefusal_cons_eq_none {check : Option Answer} {rest : List (Option Answer)} :
    firstRefusal (check :: rest) = none ↔ check = none ∧ firstRefusal rest = none := by
  simp [firstRefusal]

theorem orElseRefuse_eq_none {ok : Bool} {a : Answer} : orElseRefuse ok a = none ↔ ok = true := by
  cases ok <;> simp [orElseRefuse]

theorem occupiedConflict_eq_none : s.occupiedConflict = none ↔ ∀ p ∈ s.plan.committed.pairs, s.occupiedPair p = false := by
  simp [State.occupiedConflict]

theorem noneLost_eq_none : s.noneLost = none ↔ ∀ c, s.present c = true → (s.svc c).lost = false := by
  rw [State.noneLost, requireAll_passes_iff]
  simp

theorem windsReady_eq_none : s.windsReady = none ↔ ∀ c, s.present c = true → s.windReady c = true := requireAll_passes_iff

theorem openCheck_eq_none : s.openCheck = none ↔
    s.plan.write = none ∧ s.plan.edition ≠ 0 ∧ s.clock.isSet = true ∧
      (∀ c, s.present c = true → s.inState c .standby = true) ∧ (∀ c, s.present c = true → s.windReady c = true) ∧
      ∀ p ∈ s.plan.committed.pairs, s.occupiedPair p = false := by
  unfold State.openCheck
  simp only [firstRefusal_cons_eq_none, firstRefusal_nil, and_true, orElseRefuse_eq_none, requireAll_passes_iff,
    windsReady_eq_none, occupiedConflict_eq_none, Option.isNone_iff_eq_none, decide_eq_true_iff]

theorem reopenCheck_eq_none : s.reopenCheck = none ↔ s.clock.isSet = true ∧
    (∀ c, s.present c = true → (s.svc c).lost = false) ∧ ∀ c, s.present c = true → s.windReady c = true := by
  unfold State.reopenCheck
  simp only [firstRefusal_cons_eq_none, firstRefusal_nil, and_true, orElseRefuse_eq_none, noneLost_eq_none,
    windsReady_eq_none]

theorem resumeCheck_eq_none : s.resumeCheck = none ↔
    (∀ c, s.present c = true → (s.svc c).lost = false) ∧ ∀ c, s.present c = true → s.windReady c = true := by
  unfold State.resumeCheck
  simp only [firstRefusal_cons_eq_none, firstRefusal_nil, and_true, noneLost_eq_none, windsReady_eq_none]

/-! ### The first refusal among the checks -/

theorem firstRefusal_some (a : Answer) (rest : List (Option Answer)) : firstRefusal (some a :: rest) = some a := rfl

theorem firstRefusal_none (rest : List (Option Answer)) : firstRefusal (none :: rest) = firstRefusal rest := rfl

theorem orElseRefuse_false (a : Answer) : orElseRefuse false a = some a := rfl

theorem orElseRefuse_true (a : Answer) : orElseRefuse true a = none := rfl

/-! ### The requests -/

theorem openTheSite_working (working : s.site = .opened ∨ s.site = .storm) : openTheSite s = (s, answer .badState) := by
  unfold openTheSite
  rcases working with site | site <;> rw [site]

theorem openTheSite_setup_refused {a : Answer} (setup : s.site = .setup) (check : s.openCheck = some a) : openTheSite s = (s, a) := by
  unfold openTheSite
  rw [setup, check]

theorem openTheSite_closed_refused {a : Answer} (closed : s.site = .closed) (check : s.reopenCheck = some a) :
    openTheSite s = (s, a) := by
  unfold openTheSite
  rw [closed, check]

theorem resumeTheSite_refused {a : Answer} (storm : s.site = .storm) (check : s.resumeCheck = some a) : resumeTheSite s = (s, a) := by
  unfold resumeTheSite
  rw [storm, check]

theorem resumeTheSite_other (other : s.site ≠ .storm) : resumeTheSite s = (s, answer .badState) := by
  unfold resumeTheSite
  split
  next storm => exact absurd storm other
  all_goals rfl

theorem closeTheSite_idle (idle : s.site = .setup ∨ s.site = .closed) : closeTheSite s = (s, answer .badState) := by
  unfold closeTheSite
  rcases idle with site | site <;> rw [site]

theorem closeTheSite_lifts (working : s.site = .opened ∨ s.site = .storm) (lift : ∃ b ∈ s.bookings, b.running = true) :
    closeTheSite s = (s, answer .liftsOpen) := by
  have open_ : s.bookings.any Booking.running = true := List.any_eq_true.mpr lift
  unfold closeTheSite
  rcases working with site | site <;> rw [site] <;> exact if_pos open_

theorem returnSiteToSetup_other (other : s.site ≠ .closed) : returnSiteToSetup s = (s, answer .badState) := by
  unfold returnSiteToSetup
  split
  next closed => exact absurd closed other
  all_goals rfl

theorem returnSiteToSetup_refused {a : Answer} (closed : s.site = .closed) (check : s.requireAll s.maySetUp .badState = some a) :
    returnSiteToSetup s = (s, a) := by
  unfold returnSiteToSetup
  rw [closed, check]

/-- A request that answers without a change. -/
theorem supervised_refused (running : s.running = true) {i : Instr} {run : State → State × Answer} {a : Answer}
    (refused : run (s.asked i) = (s.asked i, a)) : s.supervised i run = .next ((s.asked i).replied i a) := by
  rw [supervised_eq running, refused]

end Sys2Proof.Machine

open Sys2Proof Sys2Proof.Machine

/-- Settles O38: the site commands refused, and what their checks ask. -/
theorem siteRefusals : Obligations.SiteRefusals := by
  unfold Obligations.SiteRefusals
  refine ⟨fun s running => ?_, fun s => ?_⟩
  · intro refuse first all standby heard
    have opens {a : Answer} (h : openTheSite (s.asked .openSite) = (s.asked .openSite, a)) : refuse .openSite a :=
      supervised_refused running h
    have resumes {a : Answer} (h : resumeTheSite (s.asked .resumeSite) = (s.asked .resumeSite, a)) : refuse .resumeSite a :=
      supervised_refused running h
    have closes {a : Answer} (h : closeTheSite (s.asked .closeSite) = (s.asked .closeSite, a)) : refuse .closeSite a :=
      supervised_refused running h
    have returns {a : Answer} (h : returnSiteToSetup (s.asked .returnToSetup) = (s.asked .returnToSetup, a)) :
        refuse .returnToSetup a := supervised_refused running h
    have first_ {c : Crane} {ok : Crane → Bool} (h : first c ok) (k : Code) : s.requireAll ok k = some ⟨k, [fCrane c]⟩ :=
      requireAll_first h.1 h.2.1 h.2.2 k
    have lost {c : Crane} (h : first c heard) : s.noneLost = some ⟨.badState, [fCrane c]⟩ := first_ h .badState
    have windy {c : Crane} (h : first c s.windReady) : s.windsReady = some ⟨.wind, [fCrane c]⟩ := first_ h .wind
    have noneLost (h : all heard) : s.noneLost = none := requireAll_passes h .badState
    have ready (h : all s.windReady) : s.windsReady = none := requireAll_passes h .wind
    refine ⟨fun working => opens (openTheSite_working working), fun setup => ?_, fun closed => ?_,
      fun other => resumes (resumeTheSite_other other), fun storm => ?_, fun idle => closes (closeTheSite_idle idle),
      fun working lift => closes (closeTheSite_lifts working lift), fun other => returns (returnSiteToSetup_other other),
      fun closed c failing => returns (returnSiteToSetup_refused closed (first_ failing .badState))⟩
    · have refused {a : Answer} (check : s.openCheck = some a) : refuse .openSite a := opens (openTheSite_setup_refused setup check)
      refine ⟨fun writing => refused ?_, fun idle none => refused ?_, fun idle committed => ⟨fun unset => refused ?_, fun set =>
        ⟨fun c failing => refused ?_, fun standing c failing => refused ?_, fun standing calm before p after pairs occupied none =>
          refused ?_⟩⟩⟩
      all_goals unfold State.openCheck
      · rw [Option.isNone_eq_false_iff.mpr (Option.isSome_iff_ne_none.mpr writing), orElseRefuse_false, firstRefusal_some]
      · rw [idle, none]
        rfl
      · rw [idle, decide_eq_true committed, unset]
        rfl
      · rw [idle, decide_eq_true committed, set, first_ failing]
        rfl
      · rw [idle, decide_eq_true committed, set, requireAll_passes standing, windy failing]
        rfl
      · rw [idle, decide_eq_true committed, set, requireAll_passes standing, ready calm, occupiedConflict_first pairs occupied none]
        rfl
    · have refused {a : Answer} (check : s.reopenCheck = some a) : refuse .openSite a := opens (openTheSite_closed_refused closed check)
      refine ⟨fun unset => refused ?_, fun set => ⟨fun c failing => refused ?_, fun present c failing => refused ?_⟩⟩
      all_goals unfold State.reopenCheck
      · rw [unset]
        rfl
      · rw [set, lost failing]
        rfl
      · rw [set, noneLost present, windy failing]
        rfl
    · have refused {a : Answer} (check : s.resumeCheck = some a) : refuse .resumeSite a := resumes (resumeTheSite_refused storm check)
      refine ⟨fun c failing => refused ?_, fun present c failing => refused ?_⟩
      all_goals unfold State.resumeCheck
      · rw [lost failing]
        rfl
      · rw [noneLost present, windy failing]
        rfl
  · exact ⟨fun c => windReady_iff, fun p => occupiedPair_iff, fun c => maySetUp_iff, fun c st => inState_iff, openCheck_eq_none,
      reopenCheck_eq_none, resumeCheck_eq_none⟩
end

section
/-!
PROOF. CLOSE_SITE, and RETURN_TO_SETUP over a site that nothing of is left to grant, retry or release (R120, R129, R70).
-/
namespace Sys2Proof.Machine

variable {s : State}

/-! ### Follow-ups with nothing to do -/

/-- A quiet state stays quiet, and its cells and service records as they are. -/
def StaysStill (s t : State) : Prop := Quiet s → Quiet t ∧ t.cells = s.cells ∧ t.service = s.service

theorem followUps_still : FollowUps StaysStill where
  refl s h := ⟨h, rfl, rfl⟩
  trans h k quiet := by
    obtain ⟨quiet, cells, service⟩ := h quiet
    obtain ⟨quiet', cells', service'⟩ := k quiet
    exact ⟨quiet', cells'.trans cells, service'.trans service⟩
  walk s quiet := by
    rw [State.walk, quiet.waits]
    exact ⟨quiet, rfl, rfl⟩
  resume s c withheld quiet := absurd ((quiet.withheld c).symm.trans withheld) (by decide)
  release s c waits _ quiet := absurd ((quiet.vane c).symm.trans waits) (by decide)

/-- The setup reset of a quiet site: its cells and service records, and nothing restricted or off its path. -/
theorem setupReset_quiet (quiet : Quiet s) :
    (∀ q, s.setupReset.cell q = ⟨.free, s.clock.site, none, none⟩) ∧ s.setupReset.service = s.service ∧
      ∀ c, tget s.setupReset.restricted c = [] ∧ c ∉ (s.setupReset.alert .restricted).cranes ∧
        c ∉ (s.setupReset.alert .offPath).cranes := by
  have own := touches_ownAndSeized s.freeAllCells (s.changesOf setupReqs)
  have quiet' : Quiet (s.freeAllCells.ownAndSeized (s.changesOf setupReqs)) :=
    quiet_of_same quiet (own.waits_eq (by decide)) (own.service_eq (by decide))
  obtain ⟨-, cells, service⟩ := followUps_still.follow (chg := s.changesOf setupReqs) (followUps_still.refl _) quiet'
  unfold State.setupReset
  dsimp only
  have emptied : ((s.freeAllCells.follow (s.changesOf setupReqs)).withRestricted (tconst 8 [])).restricted = tconst 8 [] := rfl
  have cells' : ((s.freeAllCells.follow (s.changesOf setupReqs)).withRestricted (tconst 8 [])).cells = s.freeAllCells.cells :=
    cells.trans (own.cells_eq (by decide))
  have service' : ((s.freeAllCells.follow (s.changesOf setupReqs)).withRestricted (tconst 8 [])).service = s.service :=
    service.trans (own.service_eq (by decide))
  generalize (s.freeAllCells.follow (s.changesOf setupReqs)).withRestricted (tconst 8 []) = t at *
  have after : Touches [.alerts] t (allCranes.foldl (fun u c => (u.withdraw .restricted c).withdraw .offPath c) t) :=
    (Touches.refl _ t).fold _ _ (fun u c => ((touches_withdraw u _ c).within rfl).step (touches_withdraw _ _ c) (by decide))
  refine ⟨fun q => ?_, (after.service_eq (by decide)).trans service', fun c => ⟨?_, ?_⟩⟩
  · rw [cell_eq_of_cells (after.cells_eq (by decide)), cell_eq_of_cells cells', cell_freeAllCells]
  · rw [after.restricted_eq (by decide), emptied, tget_tconst]
  · refine foldl_each (Pre := fun _ _ => True)
      (Post := fun c u => c ∉ (u.alert .restricted).cranes ∧ c ∉ (u.alert .offPath).cranes) (fun u c _ => ⟨?_, withdraw_out _ _ c⟩)
      (fun _ _ _ _ _ => .inl trivial) (fun u c d other out => ?_) (fun _ => trivial) c
    · rw [show ((u.withdraw .restricted c).withdraw .offPath c).alert .restricted = _ from alert_withdraw _ (by decide) c]
      exact withdraw_out u _ c
    · constructor
      · rw [show ((u.withdraw .restricted d).withdraw .offPath d).alert .restricted = _ from alert_withdraw _ (by decide) d]
        exact fun h => out.1 (mem_withdraw_same.mp h).1
      · intro h
        have h := (mem_withdraw_same.mp h).1
        rw [show (u.withdraw .restricted d).alert .offPath = _ from alert_withdraw u (by decide) d] at h
        exact out.2 h

/-! ### Standing by -/

/-- The record of a crane after the return to SETUP. -/
def State.standbyRec (s : State) (c : Crane) : ServiceRec :=
  if s.inState c .outOfService then { s.svc c with state := .standby, order := .remainSecured, withheld := false } else s.svc c

theorem toStandby_svc (s : State) (c : Crane) : (s.toStandby c).svc c = s.standbyRec c := by
  unfold State.toStandby State.standbyRec
  split
  · rw [svc_setSvc, if_pos rfl]
  · rfl

theorem toStandby_all (s : State) (c : Crane) : (allCranes.foldl State.toStandby s).svc c = s.standbyRec c := by
  obtain ⟨u, before, after⟩ := foldl_at (g := State.toStandby) (R := fun v w => w.svc c = v.svc c) c (fun _ => rfl)
    (fun h k => k.trans h) (fun v d other => toStandby_others v other) s
  rw [after, toStandby_svc]
  unfold State.standbyRec State.inState
  rw [before]

/-! ### The return to SETUP (R129) -/

theorem quiet_of_maySetUp (may : ∀ c, s.maySetUp c = true) (none : ∀ c, (s.svc c).withheld = false) (empty : s.waits = []) :
    Quiet s where
  waits := empty
  withheld c := by rw [State.isWithheld, none c, Bool.and_false]
  vane c := by
    obtain ⟨-, out | off⟩ := maySetUp_iff.mp (may c)
    · simp [State.inState, out]
    · simp [State.inState, off]

/-- What the return to SETUP leaves of a site whose cranes are all OUT_OF_SERVICE or OFFLINE, none of them withheld. -/
theorem toSetup_clears (may : ∀ c, s.maySetUp c = true) (none : ∀ c, (s.svc c).withheld = false) :
    s.toSetup.bookings = [] ∧ s.toSetup.waits = [] ∧ (∀ q, s.toSetup.cell q = ⟨.free, s.clock.site, Option.none, Option.none⟩) ∧
      (∀ c, tget s.toSetup.restricted c = [] ∧ c ∉ (s.toSetup.alert .restricted).cranes ∧
        c ∉ (s.toSetup.alert .offPath).cranes) ∧
      ∀ c, s.toSetup.svc c = s.standbyRec c := by
  have cancelled : Touches [.links, .bookings, .waits, .alerts] s (s.cancelAll.denyWaits (fun _ => true) .service) :=
    ((touches_cancelAll s).within rfl).step (touches_denyWaits _ _ _) (by decide)
  have noWaits := denyWaits_all s.cancelAll .service
  have noLifts : (s.cancelAll.denyWaits (fun _ => true) .service).bookings = [] :=
    ((touches_denyWaits _ _ _).bookings_eq (by decide)).trans (cancelAll_bookings s)
  have service : (s.cancelAll.denyWaits (fun _ => true) .service).service = s.service := cancelled.service_eq (by decide)
  have clock : (s.cancelAll.denyWaits (fun _ => true) .service).clock = s.clock := cancelled.clock_eq (by decide)
  rw [toSetup_eq, State.setUpCells]
  generalize s.cancelAll.denyWaits (fun _ => true) .service = u at *
  have same (c : Crane) : u.svc c = s.svc c := by
    rw [State.svc, service]
    rfl
  have quiet : Quiet u := quiet_of_maySetUp
    (fun c => by rw [State.maySetUp, inState_eq_of_service service, inState_eq_of_service service]; exact may c)
    (fun c => by rw [same, none]) noWaits
  obtain ⟨cells, service', clear⟩ := setupReset_quiet quiet
  have reset := touches_setupReset u
  have stillNoWaits : u.setupReset.waits = [] := List.sublist_nil.mp (noWaits ▸ waits_setupReset u)
  have stillNoLifts : u.setupReset.bookings = [] := (reset.bookings_eq (by decide)).trans noLifts
  generalize u.setupReset = v at *
  have stood : Touches [.service] v (allCranes.foldl State.toStandby v) := (Touches.refl _ v).fold _ _ touches_toStandby
  have standing (c : Crane) := toStandby_all v c
  generalize allCranes.foldl State.toStandby v = w at *
  refine ⟨(stood.bookings_eq (by decide)).trans stillNoLifts, (stood.waits_eq (by decide)).trans stillNoWaits, fun q => ?_,
    fun c => ?_, fun c => (standing c).trans ?_⟩
  · rw [← clock, ← cells q]
    exact cell_eq_of_cells (stood.cells_eq (by decide)) q
  · have alert (k : AlertKind) : (w.withSite .setup).alert k = v.alert k := by
      rw [State.alert, show (w.withSite .setup).alerts = w.alerts from rfl, stood.alerts_eq (by decide)]
      rfl
    rw [alert, alert, show (w.withSite .setup).restricted = v.restricted from stood.restricted_eq (by decide)]
    exact clear c
  · unfold State.standbyRec
    rw [inState_eq_of_service (service'.trans service), State.svc, service', service]
    rfl

theorem returnSiteToSetup_done (closed : s.site = .closed) (may : ∀ c, s.maySetUp c = true) :
    returnSiteToSetup s = (s.toSetup, okWith [f1 s.bookings.length]) := by
  unfold returnSiteToSetup
  rw [closed, requireAll_passes (fun c _ => may c)]

theorem closeTheSite_done (working : s.site = .opened ∨ s.site = .storm) (none : ∀ b ∈ s.bookings, b.running = false) :
    closeTheSite s = (s.close, answer .ok) := by
  have idle : ¬ s.bookings.any Booking.running = true := by
    rw [List.any_eq_true]
    rintro ⟨b, member, running⟩
    exact nomatch (none b member).symm.trans running
  unfold closeTheSite
  rcases working with site | site <;> rw [site] <;> exact if_neg idle

theorem close_eq (s : State) :
    s.close = ((allCranes.foldl State.enterSecuring s).withSite .closed).denyWaits
      (fun w => !((allCranes.foldl State.enterSecuring s).withSite .closed).inState w.crane .securing) .service := rfl

theorem toSetup_site (s : State) : s.toSetup.site = .setup := by
  rw [toSetup_eq]
  rfl

theorem toSetup_quiet (s : State) : s.toSetup.stops = s.stops ∧ s.toSetup.wind = s.wind ∧ s.toSetup.cranes = s.cranes := by
  have touched := touches_setUpCells s
  rw [toSetup_eq]
  generalize s.setUpCells = v at *
  have stood : Touches [.service] v (allCranes.foldl State.toStandby v) := (Touches.refl _ v).fold _ _ touches_toStandby
  generalize allCranes.foldl State.toStandby v = w at *
  exact ⟨(stood.stops_eq (by decide)).trans (touched.stops_eq (by decide)),
    (stood.wind_eq (by decide)).trans (touched.wind_eq (by decide)),
    (stood.cranes_eq (by decide)).trans (touched.cranes_eq (by decide))⟩

end Sys2Proof.Machine

open Sys2Proof Sys2Proof.Machine

/-- Settles O39: CLOSE_SITE without a running lift, and RETURN_TO_SETUP. -/
theorem siteClosedAndSetUp : Obligations.SiteClosedAndSetUp := by
  unfold Obligations.SiteClosedAndSetUp
  refine ⟨fun s running working none => ?_, fun s running closed may none => ?_⟩
  · intro u
    rw [exec_closeSite, supervised_eq running, closeTheSite_done (s := s.asked .closeSite) working none, close_eq]
  · have clock : (s.asked .returnToSetup).clock = s.clock := rfl
    have bookings : (s.asked .returnToSetup).bookings = s.bookings := rfl
    have stops : (s.asked .returnToSetup).stops = s.stops := rfl
    have wind : (s.asked .returnToSetup).wind = s.wind := rfl
    have cranes : (s.asked .returnToSetup).cranes = s.cranes := rfl
    have service : (s.asked .returnToSetup).service = s.service := rfl
    have closed : (s.asked .returnToSetup).site = .closed := closed
    have may : ∀ c, (s.asked .returnToSetup).maySetUp c = true := may
    have none : ∀ c, ((s.asked .returnToSetup).svc c).withheld = false := none
    rw [exec_returnToSetup, supervised_eq running]
    generalize s.asked .returnToSetup = u at *
    obtain ⟨noLifts, noWaits, cells, clear, standing⟩ := toSetup_clears may none
    obtain ⟨stops', wind', cranes'⟩ := toSetup_quiet u
    refine ⟨u.toSetup, ?_, toSetup_site u, noLifts, noWaits, fun q => ?_, clear, stops'.trans stops, wind'.trans wind,
      cranes'.trans cranes, fun c out => ?_⟩
    · rw [returnSiteToSetup_done closed may, bookings]
    · rw [cells, clock]
    · rw [standing, State.standbyRec, inState_eq_of_service service, if_pos out, State.svc, service]
      rfl
end

section
/-!
PROOF. The opening from SETUP, and the return to OPEN from STORM and from CLOSED (R116, R126 to R128).
-/
namespace Sys2Proof.Machine

variable {s : State} {c : Crane}

/-! ### The seed conversion (R116) -/

theorem mem_seedReqs {r : CellReq} : r ∈ s.seedReqs ↔
    ∃ c x, s.present c = true ∧ s.occupies c x = true ∧ r = ⟨⟨c, x⟩, .held, .set .seed⟩ := by
  simp only [State.seedReqs, List.mem_flatMap, mem_presentCranes, List.mem_map, occupiedSectors, List.mem_filter, mem_allSectors,
    true_and, State.occupies]
  constructor
  · rintro ⟨c, present, x, occupied, rfl⟩
    exact ⟨c, x, present, occupied, rfl⟩
  · rintro ⟨c, x, present, occupied, rfl⟩
    exact ⟨c, present, x, occupied, rfl⟩

theorem seedReqs_nodup (s : State) : (s.seedReqs.map CellReq.cell).Nodup := by
  have cells : s.seedReqs.map CellReq.cell =
      s.presentCranes.flatMap (fun c => (occupiedSectors (tget s.occupied c)).map (CellId.mk c)) := by
    rw [State.seedReqs, List.map_flatMap]
    simp only [List.map_map]
    rfl
  rw [cells]
  refine nodup_flatMap_of (fun c _ => nodup_map_of_inj (fun _ _ same => congrArg CellId.sector same)
    ((by decide : allSectors.Nodup).filter _)) ?_
  refine ((by decide : allCranes.Nodup).filter _).imp (fun apart q here there => ?_)
  obtain ⟨x, -, rfl⟩ := List.mem_map.mp here
  obtain ⟨y, -, same⟩ := List.mem_map.mp there
  exact apart (congrArg CellId.crane same).symm

/-- Changes of FREE cells to HELD wake neither the vane re-check nor the walk. -/
theorem follow_asleep {chg : List Change} (held : ∀ d ∈ chg, d.old = .free ∧ d.new = .held) (s : State) :
    s.follow chg = s.ownAndSeized chg := by
  have vane : ¬ chg.any Change.wakesVane = true := by
    rw [List.any_eq_true]
    rintro ⟨d, member, wakes⟩
    obtain ⟨old, -⟩ := held d member
    rcases (wakesVane_iff.mp wakes).1 with h | h | h | h <;> exact nomatch old.symm.trans h
  have walk : ¬ chg.any Change.wakesWalk = true := by
    rw [List.any_eq_true]
    rintro ⟨d, member, wakes⟩
    obtain ⟨old, new⟩ := held d member
    rcases wakesWalk_iff.mp wakes with h | h
    · exact nomatch new.symm.trans h
    · exact nomatch old.symm.trans h
  unfold State.follow followWith followThree
  dsimp only
  rw [if_neg vane, if_neg walk]

/-- The opening's seeding of a site whose cells are all FREE. -/
theorem convert_seed (free : ∀ q, (s.cell q).state = .free) :
    s.convert s.seedReqs = (s.changeCells s.seedReqs).ownAndSeized (s.changesOf s.seedReqs) := by
  refine follow_asleep (fun d made => ?_) _
  obtain ⟨old, -, r, asked, -, goal⟩ := mem_changesOf.mp made
  obtain ⟨c, x, -, -, rfl⟩ := mem_seedReqs.mp asked
  exact ⟨old.trans (free _), goal.symm⟩

theorem seeded_cell (free : ∀ q, (s.cell q).state = .free) (c : Crane) (x : Sector) :
    (s.present c = true → s.occupies c x = true →
      (s.changeCells s.seedReqs).cell ⟨c, x⟩ = ⟨.held, s.clock.site, some .seed, none⟩) ∧
      (s.present c = false ∨ s.occupies c x = false → (s.changeCells s.seedReqs).cell ⟨c, x⟩ = s.cell ⟨c, x⟩) := by
  obtain ⟨asked, left⟩ := cell_changeCells_record (seedReqs_nodup s) s ⟨c, x⟩
  refine ⟨fun present occupied => ?_, fun out => left (fun r member here => ?_)⟩
  · rw [asked ⟨⟨c, x⟩, .held, .set .seed⟩ (mem_seedReqs.mpr ⟨c, x, present, occupied, rfl⟩) rfl]
    have other : (s.cell ⟨c, x⟩).state ≠ .held := by simp [free]
    exact if_neg other
  · obtain ⟨d, y, present, occupied, rfl⟩ := mem_seedReqs.mp member
    cases here
    rcases out with out | out
    · exact nomatch present.symm.trans out
    · exact nomatch occupied.symm.trans out

theorem startServices_svc (l : List Crane) (once : l.Nodup) (s : State) (c : Crane) (member : c ∈ l) :
    (l.foldl State.startService s).svc c = { s.svc c with state := .inService, order := .work } := by
  induction l generalizing s with
  | nil => exact nomatch member
  | cons d l ih =>
    obtain ⟨out, once⟩ := List.nodup_cons.mp once
    rw [List.foldl_cons]
    rcases List.mem_cons.mp member with rfl | member
    · rw [svc_startServices l out, State.startService, svc_setSvc, if_pos rfl]
    · have other : d ≠ c := fun same => out (same ▸ member)
      rw [ih once _ member, State.startService, svc_setSvc, if_neg other]

/-- What the opening from SETUP makes of a site whose cells are all FREE. -/
theorem openFromSetup_opens (free : ∀ q, (s.cell q).state = .free) :
    s.openFromSetup.site = .opened ∧ (s.openFromSetup.alert .storm).flag = false ∧
      (∀ c x, s.present c = true → s.occupies c x = true →
        s.openFromSetup.cell ⟨c, x⟩ = ⟨.held, s.clock.site, some .seed, none⟩) ∧
      (∀ c x, s.present c = false ∨ s.occupies c x = false → s.openFromSetup.cell ⟨c, x⟩ = s.cell ⟨c, x⟩) ∧
      (∀ c, s.present c = true → s.openFromSetup.svc c = { s.svc c with state := .inService, order := .work }) ∧
      ∀ c, s.present c = false → s.openFromSetup.svc c = s.svc c := by
  have calm : ((s.withdrawSite .storm).alert .storm).flag = false := by
    rw [State.withdrawSite, State.setAlert_alert_same]
  have sector (c : Crane) (x : Sector) := seeded_cell (s := s.withdrawSite .storm) free c x
  have svc (c : Crane) : (s.withdrawSite .storm).svc c = s.svc c := rfl
  have present (c : Crane) : (s.withdrawSite .storm).present c = s.present c := rfl
  have cell (q : CellId) : (s.withdrawSite .storm).cell q = s.cell q := rfl
  have clock : (s.withdrawSite .storm).clock = s.clock := rfl
  have occupies (c : Crane) (x : Sector) : (s.withdrawSite .storm).occupies c x = s.occupies c x := rfl
  unfold State.openFromSetup
  dsimp only
  rw [convert_seed (s := s.withdrawSite .storm) free]
  generalize s.withdrawSite .storm = u at *
  have seeded : Touches [.cells, .restricted, .register, .alerts] u ((u.changeCells u.seedReqs).ownAndSeized (u.changesOf u.seedReqs)) :=
    ((touches_changeCells u _).within rfl).step (touches_ownAndSeized _ _) (by decide)
  have storm : ((u.changeCells u.seedReqs).ownAndSeized (u.changesOf u.seedReqs)).alert .storm = u.alert .storm :=
    ((framedAlert .storm).of (touches_changeCells u _) rfl).trans (alert_ownAndSeized (by decide) _ _)
  have cells : ((u.changeCells u.seedReqs).ownAndSeized (u.changesOf u.seedReqs)).cells = (u.changeCells u.seedReqs).cells :=
    (touches_ownAndSeized _ _).cells_eq (by decide)
  generalize (u.changeCells u.seedReqs).ownAndSeized (u.changesOf u.seedReqs) = v at *
  have cranes : v.presentCranes = u.presentCranes := presentCranes_eq_of_plan (seeded.plan_eq (by decide))
  have started : Touches [.service] v (v.presentCranes.foldl State.startService v) :=
    (Touches.refl _ v).fold _ _ touches_startService
  have working (c : Crane) (member : u.present c = true) := startServices_svc v.presentCranes
    ((by decide : allCranes.Nodup).filter _) v c (cranes ▸ mem_presentCranes.mpr member)
  have absent (c : Crane) (out : u.present c = false) := svc_startServices (s := v) (c := c) v.presentCranes
    (by rw [cranes, mem_presentCranes, out]; decide)
  have same (c : Crane) : v.svc c = u.svc c := svc_of_touches seeded (by decide) c
  generalize v.presentCranes.foldl State.startService v = w at *
  have opened (q : CellId) : (w.withSite .opened).cell q = (u.changeCells u.seedReqs).cell q :=
    cell_eq_of_cells ((started.cells_eq (by decide)).trans cells) q
  refine ⟨rfl, ?_, fun c x inPlan occupied => ?_, fun c x out => ?_, fun c inPlan => ?_, fun c out => ?_⟩
  · rw [show (w.withSite .opened).alert .storm = w.alert .storm from rfl, State.alert, started.alerts_eq (by decide)]
    exact (congrArg AlertRec.flag storm).trans calm
  · rw [opened, ← clock]
    exact (sector c x).1 ((present c).trans inPlan) ((occupies c x).trans occupied)
  · rw [opened, ← cell]
    exact (sector c x).2 (out.imp (present c).trans (occupies c x).trans)
  · rw [← svc, ← same]
    exact working c ((present c).trans inPlan)
  · rw [← svc, ← same]
    exact absent c ((present c).trans out)

/-! ### The return to OPEN of the cranes (R126) -/

theorem returnCrane_iff (s : State) (c : Crane) :
    (s.inState c .securing || (s.inState c .vaneWait && (s.sectorsIn c .vane).isEmpty)) = true ↔
      s.inState c .securing = true ∨ s.inState c .vaneWait = true ∧ ∀ x, (s.cell ⟨c, x⟩).state ≠ .vane := by
  rw [Bool.or_eq_true, Bool.and_eq_true, List.isEmpty_iff, List.eq_nil_iff_forall_not_mem]
  simp only [mem_sectorsIn, ne_eq]

theorem toService_svc (s : State) (c : Crane) : (s.toService c).svc c = (s.svc c).back := by
  rw [State.toService, svc_of_touches (touches_withdraw _ _ c) (by decide), svc_setSvc, if_pos rfl]
  rfl

theorem returnCrane_securing (securing : s.inState c .securing = true) : (s.returnCrane c).svc c = (s.svc c).back := by
  unfold State.returnCrane
  rw [securing, Bool.true_or, if_pos rfl, toService_svc]

/-- A record that is not SECURING, or that of a LOST crane. -/
def ServiceRec.returned (r : ServiceRec) : Prop := r.lost = true ∨ r.state ≠ .securing

/-- A record of a crane that is back: neither SECURING nor VANE_WAIT, and withheld when it is out of service; or that of a LOST
crane. -/
def ServiceRec.settled (r : ServiceRec) : Prop :=
  r.lost = true ∨ r.state ≠ .securing ∧ r.state ≠ .vaneWait ∧ (r.state = .outOfService → r.withheld = true)

/-- A record of a crane that is back in service. -/
def ServiceRec.serving (r : ServiceRec) : Prop := r.lost = false ∧ r.state = .inService ∧ r.order = .work ∧ r.timer = none

theorem settled_back (r : ServiceRec) : r.back.settled := .inr ⟨nofun, nofun, nofun⟩

theorem settled_out (r : ServiceRec) (o : Order) : (r.out o true).settled := .inr ⟨nofun, nofun, fun _ => rfl⟩

theorem followUps_returned : FollowUps (KeepsEach fun _ r => r.returned) :=
  followUps_each (fun _ _ _ _ _ _ => .inr nofun) (fun _ _ _ _ _ _ => .inr nofun) (fun _ _ _ _ _ => .inr nofun)

theorem followUps_settled : FollowUps (KeepsEach fun _ r => r.settled) := by
  refine followUps_each (fun _ r _ _ _ _ => settled_back r) (fun _ r _ _ _ _ => settled_out r _) (fun _ r here waits h => ?_)
  rcases h with lost | ⟨-, notWaiting, -⟩
  · exact nomatch here.symm.trans lost
  · exact absurd waits notWaiting

theorem followUps_serving : FollowUps (KeepsEach fun _ r => r.serving) := by
  refine followUps_each (fun _ r _ out _ h => ?_) (fun _ r _ out _ h => ?_) (fun _ r _ waits h => ?_)
  · exact nomatch out.symm.trans h.2.1
  · exact nomatch out.symm.trans h.2.1
  · exact nomatch waits.symm.trans h.2.1

theorem convertCrane_iff (s : State) (c : Crane) : (s.inState c .outOfService || s.inState c .vaneWait) = true ↔
    s.inState c .outOfService = true ∨ s.inState c .vaneWait = true := by
  rw [Bool.or_eq_true]

/-- A crane that is converted has a record it came back with, carried through the follow-ups. -/
theorem convertCrane_converted {P : Crane → ServiceRec → Prop} (f : FollowUps (KeepsEach P)) (back : P c (s.svc c).back)
    (out : P c ((s.svc c).out .remainSecured true)) (converts : s.inState c .outOfService = true ∨ s.inState c .vaneWait = true) :
    P c ((s.convertCrane c).svc c) := by
  have changed : P c (((s.resumeChange c).ownAndSeized (s.changesOf (s.resumeReqs c))).svc c) := by
    rw [svc_of_touches (touches_ownAndSeized _ _) (by decide)]
    rcases resumeChange_own s c with eq | eq
    · exact eq ▸ back
    · exact eq ▸ out
  unfold State.convertCrane
  rw [if_pos ((convertCrane_iff s c).mpr converts)]
  exact f.follow (f.refl _) c changed

theorem convertCrane_stays (stays : ¬ (s.inState c .outOfService = true ∨ s.inState c .vaneWait = true)) : s.convertCrane c = s := by
  unfold State.convertCrane
  exact if_neg (fun h => stays ((convertCrane_iff s c).mp h))

theorem convertCrane_settles (h : (s.svc c).returned) : ((s.convertCrane c).svc c).settled := by
  by_cases converts : s.inState c .outOfService = true ∨ s.inState c .vaneWait = true
  · exact convertCrane_converted followUps_settled (settled_back _) (settled_out _ _) converts
  · rw [convertCrane_stays converts]
    rcases h with lost | notSecuring
    · exact .inl lost
    · rcases Bool.eq_false_or_eq_true (s.svc c).lost with lost | here
      · exact .inl lost
      · rw [inState_iff, inState_iff] at converts
        exact .inr ⟨notSecuring, fun waits => converts (.inr ⟨here, waits⟩), fun out => absurd (.inl ⟨here, out⟩) converts⟩

theorem ServiceRec.settled.returned {r : ServiceRec} (h : r.settled) : r.returned := h.imp id (·.1)

theorem returned_all (s : State) (c : Crane) : ((allCranes.foldl State.returnCrane s).svc c).returned := by
  obtain ⟨u, -, after⟩ := foldl_at (g := State.returnCrane) (R := fun v w => w.svc c = v.svc c) c (fun _ => rfl)
    (fun h k => k.trans h) (fun v d other => returnCrane_others v other) s
  rw [after]
  by_cases securing : u.inState c .securing = true
  · rw [returnCrane_securing securing]
    exact .inr nofun
  · unfold State.returnCrane
    split
    · rw [toService_svc]
      exact .inr nofun
    · rcases Bool.eq_false_or_eq_true (u.svc c).lost with lost | here
      · exact .inl lost
      · exact .inr (fun state => securing (inState_iff.mpr ⟨here, state⟩))

theorem bringBack_settled (s : State) (c : Crane) : (s.bringBack.svc c).settled :=
  foldl_each (g := State.convertCrane) (Pre := fun c u => (u.svc c).returned) (Post := fun c u => (u.svc c).settled)
    (fun _ _ either => convertCrane_settles (either.elim id ServiceRec.settled.returned))
    (fun _ _ _ other before => .inl (convertCrane_others followUps_returned other before))
    (fun _ _ _ other after => convertCrane_others followUps_settled other after) (returned_all s) c

/-- A crane that was SECURING is IN_SERVICE after every crane has been brought back. -/
theorem bringBack_serving (securing : s.inState c .securing = true) : (s.bringBack.svc c).serving := by
  obtain ⟨here, -⟩ := inState_iff.mp securing
  obtain ⟨u, before, after⟩ := foldl_at (g := State.returnCrane) (R := fun v w => w.svc c = v.svc c) c (fun _ => rfl)
    (fun h k => k.trans h) (fun v d other => returnCrane_others v other) s
  have returned : ((allCranes.foldl State.returnCrane s).svc c).serving := by
    have securing' : u.inState c .securing = true := by rw [State.inState, before]; exact securing
    rw [after, returnCrane_securing securing', before]
    exact ⟨here, rfl, rfl, rfl⟩
  refine foldl_one (g := State.convertCrane) (c := c) (Pre := fun v => (v.svc c).serving) (Post := fun v => (v.svc c).serving)
    (fun v either => ?_) (fun v d other h => convertCrane_others followUps_serving other h)
    (fun v d other h => convertCrane_others followUps_serving other h) allCranes (.inl returned) (.inl (mem_allCranes c))
  have serving : (v.svc c).serving := either.elim id id
  rw [convertCrane_stays]
  · exact serving
  · rw [inState_iff, inState_iff, serving.2.1]
    exact fun h => h.elim (fun h => nomatch h.2) (fun h => nomatch h.2)

theorem alert_bringBack {k : AlertKind} (own : k ∉ ownKinds) (s : State) : SameAlert k s s.bringBack := by
  refine (framedAlert k).fold ((framedAlert k).fold (.refl s) _ _ (fun u d => ?_)) _ _ (fun u d => ?_)
  · unfold State.returnCrane
    split
    · exact alert_toService own u d
    · exact .refl u
  · unfold State.convertCrane
    split
    · exact (alert_followUps own).follow
        ((alert_resumeChange own u d).trans (alert_ownAndSeized own _ _))
    · exact .refl u

/-! ### STORM removed from every booking (R126) -/

/-- A booking with a reason taken off. -/
def Booking.without (b : Booking) (r : SuspReason) : Booking :=
  match b.state with
  | .suspended rs => { b with state := .suspended (rs.filter (fun x => decide (x ≠ r))) }
  | .pending _ | .booked | .active => b

theorem without_id (b : Booking) (r : SuspReason) : (b.without r).id = b.id := by
  unfold Booking.without
  split <;> rfl

theorem without_clear (b : Booking) (r : SuspReason) : r ∉ (b.without r).reasons := by
  cases state : b.state with
  | suspended rs => simp [Booking.without, Booking.reasons, state]
  | pending t | booked | active => simp [Booking.without, Booking.reasons, state]

theorem without_of_clear {b : Booking} {r : SuspReason} (clear : r ∉ b.reasons) : b.without r = b := by
  cases state : b.state with
  | suspended rs =>
    rw [Booking.reasons_suspended state] at clear
    have all : rs.filter (fun x => decide (x ≠ r)) = rs :=
      List.filter_eq_self.mpr (fun x member => decide_eq_true (fun same => clear (same ▸ member)))
    rw [Booking.without, state]
    dsimp only
    rw [all, ← state]
  | pending t | booked | active => rw [Booking.without, state]

theorem removeReason_bookings (s : State) (b : Booking) (r : SuspReason) :
    (s.removeReason b r).bookings = if r ∈ b.reasons then (s.putLift (b.without r)).bookings else s.bookings := by
  cases state : b.state with
  | suspended rs =>
    obtain ⟨out, more, last⟩ := removeReason_suspended (s := s) state r
    have without : b.without r = { b with state := .suspended (rs.filter (fun x => decide (x ≠ r))) } := by
      rw [Booking.without, state]
    rw [Booking.reasons_suspended state, without]
    split
    next member =>
      by_cases left : rs.filter (fun x => decide (x ≠ r)) = []
      · rw [last member left]
        exact (touches_notifyLift _ b .resumable []).bookings_eq (by decide)
      · rw [more member left]
    next absent => rw [out absent]
  | pending t | booked | active =>
    rw [removeReason_other (by simp [state]), Booking.reasons, state]
    exact (if_neg List.not_mem_nil).symm

theorem removeReasons_clear (r : SuspReason) (l : List Booking) (s : State)
    (h : ∀ b ∈ s.bookings, r ∈ b.reasons → b ∈ l) : ∀ b ∈ (l.foldl (fun t b => t.removeReason b r) s).bookings, r ∉ b.reasons := by
  induction l generalizing s with
  | nil => exact fun b member holds => List.not_mem_nil (h b member holds)
  | cons a l ih =>
    rw [List.foldl_cons]
    refine ih _ (fun b member holds => ?_)
    rw [removeReason_bookings] at member
    split at member
    next =>
      obtain ⟨b', member', eq⟩ := List.mem_map.mp member
      split at eq
      next => exact absurd holds (eq ▸ without_clear a r)
      next other =>
        subst eq
        refine (List.mem_cons.mp (h b' member' holds)).resolve_left (fun same => other ?_)
        rw [same, without_id]
    next clear => exact (List.mem_cons.mp (h b member holds)).resolve_left (fun same => clear (same ▸ holds))

theorem removeReasons_bookings (r : SuspReason) (done rest : List Booking) (s : State)
    (once : ((done ++ rest).map Booking.id).Nodup) (table : s.bookings = done.map (Booking.without · r) ++ rest) :
    (rest.foldl (fun t b => t.removeReason b r) s).bookings = (done ++ rest).map (Booking.without · r) := by
  induction rest generalizing s done with
  | nil => rw [List.foldl_nil, table, List.append_nil, List.append_nil]
  | cons a rest ih =>
    have apart : ∀ b ∈ done ++ rest, b.id ≠ a.id := by
      intro b member same
      have := (List.perm_middle.map Booking.id).nodup_iff.mp once
      exact (List.nodup_cons.mp this).1 (List.mem_map.mpr ⟨b, member, same⟩)
    have replaced : (s.removeReason a r).bookings = (done ++ [a]).map (Booking.without · r) ++ rest := by
      rw [removeReason_bookings, List.map_append, List.append_assoc]
      split
      next =>
        show s.bookings.map _ = _
        rw [table, List.map_append, List.map_cons, if_pos (without_id a r).symm, List.map_map]
        refine congr (congrArg (· ++ ·) (List.map_congr_left fun b member => ?_)) (congrArg (a.without r :: ·) ?_)
        · exact if_neg (fun same => apart b (List.mem_append_left _ member)
            ((without_id b r).symm.trans (same.trans (without_id a r))))
        · refine (List.map_congr_left fun b member => ?_).trans (List.map_id _)
          exact if_neg (fun same => apart b (List.mem_append_right _ member) (same.trans (without_id a r)))
      next clear => rw [table, List.map_cons, List.map_nil, without_of_clear clear]; rfl
    rw [List.foldl_cons, ih (done ++ [a]) _ (by simpa using once) replaced]
    simp

/-! ### The resume conversion (R127) -/

/-- The request a resume makes for one sector outside the occupied set. -/
def State.outsideReq (s : State) (c : Crane) (x : Sector) : Option CellReq :=
  if s.occupies c x then none
  else match (s.cell ⟨c, x⟩).state with
    | .vane | .parked => some ⟨⟨c, x⟩, .free, .keep⟩
    | .held => some (s.beginClearing ⟨c, x⟩)
    | .free | .clearing | .seized => none

theorem outsideReq_iff {x : Sector} {r : CellReq} : s.outsideReq c x = some r ↔ s.occupies c x = false ∧
    (((s.cell ⟨c, x⟩).state = .vane ∨ (s.cell ⟨c, x⟩).state = .parked) ∧ r = ⟨⟨c, x⟩, .free, .keep⟩ ∨
      (s.cell ⟨c, x⟩).state = .held ∧ r = s.beginClearing ⟨c, x⟩) := by
  unfold State.outsideReq
  cases s.occupies c x <;> cases (s.cell ⟨c, x⟩).state <;> simp [eq_comm]

theorem mem_resumeOutside {r : CellReq} : r ∈ s.resumeOutside c ↔ ∃ x, s.occupies c x = false ∧
    (((s.cell ⟨c, x⟩).state = .vane ∨ (s.cell ⟨c, x⟩).state = .parked) ∧ r = ⟨⟨c, x⟩, .free, .keep⟩ ∨
      (s.cell ⟨c, x⟩).state = .held ∧ r = s.beginClearing ⟨c, x⟩) := by
  rw [show s.resumeOutside c = allSectors.filterMap (s.outsideReq c) from rfl, List.mem_filterMap]
  simp only [mem_allSectors, true_and, outsideReq_iff]

theorem mem_resumeInside {q : CellId} : q ∈ s.resumeInside c ↔
    ∃ x, (s.occupies c x = true ∧ (s.cell ⟨c, x⟩).state ≠ .held) ∧ q = ⟨c, x⟩ := by
  simp only [State.resumeInside, List.mem_map, List.mem_filter, mem_allSectors, true_and, Bool.and_eq_true, Bool.not_eq_true',
    decide_eq_false_iff_not]
  exact exists_congr fun x => and_congr Iff.rfl eq_comm

theorem resumePasses_iff : s.resumePasses c = true ↔ ∀ x, s.occupies c x = true ∧ (s.cell ⟨c, x⟩).state ≠ .held →
    s.blocked ⟨c, x⟩ = false ∧ s.reserved ⟨c, x⟩ = false := by
  simp only [State.resumePasses, List.all_eq_true, mem_resumeInside, Bool.and_eq_true, Bool.not_eq_true']
  constructor
  · exact fun h x inside => h ⟨c, x⟩ ⟨x, inside, rfl⟩
  · rintro h q ⟨x, inside, rfl⟩
    exact h x inside

theorem mem_resumeReqs {q : CellReq} : q ∈ s.resumeReqs c ↔
    (∃ x, s.occupies c x = false ∧ ((s.cell ⟨c, x⟩).state = .vane ∨ (s.cell ⟨c, x⟩).state = .parked) ∧
      q = ⟨⟨c, x⟩, .free, .keep⟩) ∨
    (∃ x, s.occupies c x = false ∧ (s.cell ⟨c, x⟩).state = .held ∧ q = s.beginClearing ⟨c, x⟩) ∨
    (s.resumePasses c = true ∧ ∃ x, (s.occupies c x = true ∧ (s.cell ⟨c, x⟩).state ≠ .held) ∧ q = ⟨⟨c, x⟩, .held, .set .resume⟩) := by
  have regranted : q ∈ (if s.resumePasses c then (s.resumeInside c).map (fun q => (⟨q, .held, .set .resume⟩ : CellReq)) else []) ↔
      s.resumePasses c = true ∧ ∃ x, (s.occupies c x = true ∧ (s.cell ⟨c, x⟩).state ≠ .held) ∧ q = ⟨⟨c, x⟩, .held, .set .resume⟩ := by
    split
    next passes =>
      rw [and_iff_right passes, List.mem_map]
      constructor
      · rintro ⟨p, member, rfl⟩
        obtain ⟨x, inside, rfl⟩ := mem_resumeInside.mp member
        exact ⟨x, inside, rfl⟩
      · rintro ⟨x, inside, rfl⟩
        exact ⟨_, mem_resumeInside.mpr ⟨x, inside, rfl⟩, rfl⟩
    next fails => exact iff_of_false List.not_mem_nil (fun h => fails h.1)
  rw [State.resumeReqs, List.mem_append, mem_resumeOutside, regranted, ← or_assoc, ← exists_or]
  exact or_congr (exists_congr fun x => and_or_left) Iff.rfl

theorem resumeReqs_nodup (s : State) (c : Crane) : ((s.resumeReqs c).map CellReq.cell).Nodup := by
  have outside : ((s.resumeOutside c).map CellReq.cell).Nodup := by
    refine sectorReqs_nodup c (f := s.outsideReq c) (fun x r asked => ?_)
    obtain ⟨-, ⟨-, rfl⟩ | ⟨-, rfl⟩⟩ := outsideReq_iff.mp asked
    · rfl
    · rfl
  have inside : (s.resumeInside c).Nodup :=
    nodup_map_of_inj (fun _ _ same => congrArg CellId.sector same) ((by decide : allSectors.Nodup).filter _)
  unfold State.resumeReqs
  split
  · rw [List.map_append, List.map_map]
    refine List.nodup_append.mpr ⟨outside, ?_, fun q out p here same => ?_⟩
    · exact (List.map_id _).symm ▸ inside
    · subst same
      obtain ⟨r, member, rfl⟩ := List.mem_map.mp out
      obtain ⟨p, occupied, same⟩ := List.mem_map.mp here
      obtain ⟨x, free, cases_⟩ := mem_resumeOutside.mp member
      obtain ⟨y, ⟨here, -⟩, rfl⟩ := mem_resumeInside.mp occupied
      have place : r.cell = ⟨c, x⟩ := by
        rcases cases_ with ⟨-, rfl⟩ | ⟨-, rfl⟩
        · rfl
        · rfl
      have sector : y = x := congrArg CellId.sector (same.trans place)
      rw [sector, free] at here
      exact nomatch here
  · rw [List.append_nil]
    exact outside

theorem resumeChange_passes (passes : s.resumePasses c = true) : s.resumeChange c =
    ((s.changeCells (s.resumeReqs c)).setSvc c
      { s.svc c with state := .inService, order := .work, timer := none, withheld := false }).withdraw .secureOverdue c := by
  unfold State.resumeChange
  dsimp only
  rw [if_pos passes, State.toService, svc_changeCells]

theorem resumeChange_fails (fails : ¬ s.resumePasses c = true) : s.resumeChange c =
    (((s.changeCells (s.resumeReqs c)).setSvc c
      { s.svc c with state := .outOfService, order := .remainSecured, timer := none, withheld := true }).denyCrane c
      .service).withdraw .secureOverdue c := by
  unfold State.resumeChange
  dsimp only
  rw [if_neg fails, State.outOfService, svc_changeCells]

/-! ### The requests carried out -/

theorem openTheSite_setup (setup : s.site = .setup) (check : s.openCheck = none) : openTheSite s = (s.openFromSetup, answer .ok) := by
  unfold openTheSite
  rw [setup, check]

theorem openTheSite_closed (closed : s.site = .closed) (check : s.reopenCheck = none) :
    openTheSite s = (s.reopen, okWith [fCranes (allCranes.filter s.reopen.isWithheld)]) := by
  unfold openTheSite
  rw [closed, check]
  rfl

theorem resumeTheSite_storm (storm : s.site = .storm) (check : s.resumeCheck = none) :
    resumeTheSite s = (s.resumeFromStorm, okWith [fCranes (allCranes.filter s.resumeFromStorm.isWithheld)]) := by
  unfold resumeTheSite
  rw [storm, check]
  rfl

/-- What a return to OPEN leaves, of the cranes that were brought back and of the storm. -/
structure ReturnedToOpen (s t : State) : Prop where
  site : t.site = .opened
  calm : (t.alert .storm).flag = false
  settled : ∀ c, (t.svc c).settled
  serving : ∀ c, s.inState c .securing = true → (t.svc c).serving

theorem returnedToOpen {t : State} (after : Touches [.links, .bookings] (s.withdrawSite .storm).bringBack t) :
    ReturnedToOpen s (t.withSite .opened) where
  site := rfl
  calm := by
    have calm : ((s.withdrawSite .storm).alert .storm).flag = false := by
      rw [State.withdrawSite, State.setAlert_alert_same]
    have back : SameAlert .storm (s.withdrawSite .storm) (s.withdrawSite .storm).bringBack := alert_bringBack (by decide) _
    rw [show (t.withSite .opened).alert .storm = t.alert .storm from rfl, State.alert, after.alerts_eq (by decide)]
    exact (congrArg AlertRec.flag back).trans calm
  settled c := by
    rw [show (t.withSite .opened).svc c = t.svc c from rfl, svc_of_touches after (by decide)]
    exact bringBack_settled _ c
  serving c securing := by
    rw [show (t.withSite .opened).svc c = t.svc c from rfl, svc_of_touches after (by decide)]
    exact bringBack_serving (s := s.withdrawSite .storm) securing

theorem resumeFromStorm_bookings (s : State) : (∀ b ∈ s.resumeFromStorm.bookings, SuspReason.storm ∉ b.reasons) ∧
    ((s.bookings.map Booking.id).Nodup → s.resumeFromStorm.bookings = s.bookings.map (Booking.without · .storm)) := by
  have table : (s.withdrawSite .storm).bringBack.bookings = s.bookings := (touches_bringBack _).bookings_eq (by decide)
  unfold State.resumeFromStorm
  generalize (s.withdrawSite .storm).bringBack = u at *
  have removed : ((u.removeReasonAll .storm).withSite .opened).bookings = (u.removeReasonAll .storm).bookings := rfl
  rw [removed, State.removeReasonAll]
  refine ⟨removeReasons_clear .storm u.bookings u (fun b member _ => member), fun once => ?_⟩
  rw [← table] at once ⊢
  exact removeReasons_bookings .storm [] u.bookings u once rfl

theorem reopen_bookings (s : State) : s.reopen.bookings = s.bookings := by
  have table : (s.withdrawSite .storm).bringBack.bookings = s.bookings := (touches_bringBack _).bookings_eq (by decide)
  unfold State.reopen
  generalize (s.withdrawSite .storm).bringBack = u at *
  exact table

theorem ServiceRec.settled.out {s : State} {c : Crane} (h : (s.svc c).settled) :
    (s.inState c .securing = false ∧ s.inState c .vaneWait = false) ∧
      (s.inState c .outOfService = true → (s.svc c).withheld = true) := by
  rcases h with lost | ⟨securing, waits, withheld⟩
  · simp [State.inState, lost]
  · refine ⟨⟨?_, ?_⟩, fun out => withheld (inState_iff.mp out).2⟩
    · simp [State.inState, securing]
    · simp [State.inState, waits]

theorem ServiceRec.serving.works {s : State} {c : Crane} (h : (s.svc c).serving) :
    s.inState c .inService = true ∧ (s.svc c).order = .work ∧ (s.svc c).timer = none :=
  ⟨inState_iff.mpr ⟨h.1, h.2.1⟩, h.2.2⟩

end Sys2Proof.Machine

open Sys2Proof Sys2Proof.Machine

/-- Settles O37: the opening from SETUP, the return to OPEN from STORM and from CLOSED, and the resume conversion. -/
theorem siteOpened : Obligations.SiteOpened := by
  unfold Obligations.SiteOpened
  refine ⟨fun s running setup check free => ?_, ⟨fun s i running asked => ?_, fun s c => ?_⟩, fun s c => ?_⟩
  · have done := openTheSite_setup (s := s.asked .openSite) setup check
    obtain ⟨site, calm, seeded, left, working, absent⟩ := openFromSetup_opens (s := s.asked .openSite) free
    refine ⟨(s.asked .openSite).openFromSetup, ?_, site, calm, seeded, left, working, absent⟩
    rw [exec_openSite, supervised_eq running, done]
  · intro u t
    rcases asked with ⟨rfl, storm, check⟩ | ⟨rfl, closed, check⟩
    · have eq : t = (s.asked .resumeSite).resumeFromStorm := congrArg (State.withSite · .opened) (if_pos rfl)
      have done := resumeTheSite_storm (s := s.asked .resumeSite) storm check
      have back := returnedToOpen (touches_removeReasonAll ((s.asked .resumeSite).withdrawSite .storm).bringBack .storm)
      rw [eq]
      refine ⟨?_, back.site, back.calm, fun c => (back.settled c).out.1, fun c securing => (back.serving c securing).works,
        fun c => (back.settled c).out.2, nofun, fun _ => resumeFromStorm_bookings (s.asked .resumeSite)⟩
      rw [exec_resumeSite, supervised_eq running, done]
    · have eq : t = (s.asked .openSite).reopen := congrArg (State.withSite · .opened) (if_neg nofun)
      have done := openTheSite_closed (s := s.asked .openSite) closed check
      have back := returnedToOpen (Touches.refl _ ((s.asked .openSite).withdrawSite .storm).bringBack)
      rw [eq]
      refine ⟨?_, back.site, back.calm, fun c => (back.settled c).out.1, fun c securing => (back.serving c securing).works,
        fun c => (back.settled c).out.2, fun _ => reopen_bookings (s.asked .openSite), nofun⟩
      rw [exec_openSite, supervised_eq running, done]
  · intro returns converts
    have back := returnCrane_iff s c
    refine ⟨fun h => ?_, fun h => ?_, fun h => ?_, convertCrane_stays⟩
    · exact if_pos (back.mpr h)
    · exact if_neg (fun k => h (back.mp k))
    · exact if_pos ((convertCrane_iff s c).mpr h)
  · intro r st inside passes reqs
    have passes_iff : s.resumePasses c = true ↔ passes := resumePasses_iff
    refine ⟨resumeReqs_nodup s c, fun q => ?_, fun h => ?_, fun h => ?_, rfl⟩
    · rw [← passes_iff]
      exact mem_resumeReqs
    · exact resumeChange_passes (passes_iff.mpr h)
    · exact resumeChange_fails (fun k => h (passes_iff.mp k))
end

section
/-!
PROOF. Admission of a lift (R134 to R139): the field ranges, the window, reach and rated load, the restrictions over the window, the
conflicts with live records, and the limits.
-/
namespace Sys2Proof.Machine

variable {s : State} {c : Crane}

/-! ### The first failure of admission's steps -/

/-- The failures of steps 3 to 7, the first of them first. -/
def State.refusal (s : State) (c : Crane) (d : LiftData) (others : List Booking) (amending : Bool) : Option Answer :=
  (checkWindow s.minute d).or ((checkReach s.plan.committed c d).or ((checkRestrictions s.plan.committed c d).or
    ((checkConflicts s.plan.committed c d others).or (checkCapacity c others amending))))

section
variable {d : LiftData} {others : List Booking} {amending : Bool} {r : Answer}

theorem refusal_window (h : checkWindow s.minute d = some r) : s.refusal c d others amending = some r := by
  rw [State.refusal, h, Option.some_or]

variable (window : checkWindow s.minute d = none)
include window

theorem refusal_reach (h : checkReach s.plan.committed c d = some r) : s.refusal c d others amending = some r := by
  rw [State.refusal, window, h, Option.none_or, Option.some_or]

variable (reach : checkReach s.plan.committed c d = none)
include reach

theorem refusal_restrictions (h : checkRestrictions s.plan.committed c d = some r) : s.refusal c d others amending = some r := by
  rw [State.refusal, window, reach, h, Option.none_or, Option.none_or, Option.some_or]

variable (restrictions : checkRestrictions s.plan.committed c d = none)
include restrictions

theorem refusal_conflicts (h : checkConflicts s.plan.committed c d others = some r) : s.refusal c d others amending = some r := by
  rw [State.refusal, window, reach, restrictions, h, Option.none_or, Option.none_or, Option.none_or, Option.some_or]

theorem refusal_capacity (conflicts : checkConflicts s.plan.committed c d others = none) :
    s.refusal c d others amending = checkCapacity c others amending := by
  rw [State.refusal, window, reach, restrictions, conflicts, Option.none_or, Option.none_or, Option.none_or, Option.none_or]

end

theorem admission_absent (absent : s.present c = false) (f : LiftFields) (a : Option Nat) :
    s.admission c f a = .failed (answer .notPermitted) := if_pos absent

theorem admission_fields (present : s.present c = true) {f : LiftFields} (fields : liftOf f = none) (a : Option Nat) :
    s.admission c f a = .failed (answer .badValue) := by
  unfold State.admission
  dsimp only
  rw [if_neg (by simp [present]), fields]

theorem admission_eq (present : s.present c = true) {f : LiftFields} {d : LiftData} (fields : liftOf f = some d) (a : Option Nat) :
    s.admission c f a =
      match s.refusal c d (s.bookings.filter (fun b => decide (some b.id ≠ a))) a.isSome with
      | some r => .failed r
      | none => .admitted d := by
  unfold State.admission State.refusal
  simp only [decide_not]
  rw [if_neg (by simp [present]), fields]
  dsimp only
  cases checkWindow s.minute d with
  | some r => rfl
  | none =>
    cases checkReach s.plan.committed c d with
    | some r => rfl
    | none =>
      cases checkRestrictions s.plan.committed c d with
      | some r => rfl
      | none =>
        cases checkConflicts s.plan.committed c d (s.bookings.filter (fun b => !decide (some b.id = a))) with
        | some r => rfl
        | none => cases checkCapacity c (s.bookings.filter (fun b => !decide (some b.id = a))) a.isSome <;> rfl

/-! ### The window (R135) -/

section
variable {n : Nat} {d : LiftData}

theorem checkWindow_late (late : d.start < n) : checkWindow n d = some (answer .tooLate) := if_pos late

theorem checkWindow_far (far : n + 10080 < d.start ∨ n ≤ d.start ∧ 71582788 < d.start + d.length - 1) :
    checkWindow n d = some (answer .badValue) := by
  unfold checkWindow
  rw [if_neg (by omega)]
  split
  · rfl
  · rename_i near
    have near : ¬ n + 10080 < d.start := near
    exact if_pos (far.resolve_left near).2

theorem checkWindow_passes (now : n ≤ d.start) (near : d.start ≤ n + 10080) (end_ : d.start + d.length - 1 ≤ 71582788) :
    checkWindow n d = none := by
  unfold checkWindow
  rw [if_neg (by omega)]
  exact (if_neg (Nat.not_lt.mpr near)).trans (if_neg (Nat.not_lt.mpr end_))

end

/-! ### Reach and rated load (R136) -/

theorem ratedLoad_first {chart before after : List ChartPoint} {p : ChartPoint} {reach : Nat} (split : chart = before ++ p :: after)
    (short : ∀ k ∈ before, k.radius < reach) (far : reach ≤ p.radius) : ratedLoad chart reach = some p.load := by
  have found : chart.find? (fun k => decide (reach ≤ k.radius)) = some p :=
    List.find?_eq_some_iff_append.mpr ⟨decide_eq_true far, before, after, split, fun k member => by simpa using short k member⟩
  rw [ratedLoad, found]
  rfl

theorem ratedLoad_none {chart : List ChartPoint} {reach : Nat} (short : ∀ k ∈ chart, k.radius < reach) : ratedLoad chart reach = none := by
  simpa [ratedLoad] using short

section
variable {p : Plan} {d : LiftData}

theorem checkReach_far (far : (p.entry c).reach < d.reach) : checkReach p c d = some (answer .outOfReach) := if_pos far

theorem checkReach_noLoad (near : d.reach ≤ (p.entry c).reach) (none : ratedLoad (tget p.charts c) d.reach = none) :
    checkReach p c d = some ⟨.overweight, [f2 65535]⟩ := by
  unfold checkReach
  rw [if_neg (by omega), none]
  rfl

theorem checkReach_load {load : Nat} (near : d.reach ≤ (p.entry c).reach) (rated : ratedLoad (tget p.charts c) d.reach = some load) :
    checkReach p c d = if load < d.mass then some ⟨.overweight, [f2 load]⟩ else none := by
  unfold checkReach
  rw [if_neg (by omega), rated]

/-! ### Restrictions over the window (R137) -/

theorem firstRestricted_none {q : CellId} {t n : Nat} (free : ∀ u, t ≤ u → u < t + n → p.restrictionAt q u = .unrestricted) :
    firstRestricted p q t n = none := by
  induction n generalizing t with
  | zero => rfl
  | succ n ih =>
    rw [firstRestricted, if_pos (free t (by omega) (by omega))]
    exact ih (fun u low high => free u (by omega) (by omega))

theorem firstRestricted_some {q : CellId} {t n u : Nat} (low : t ≤ u) (high : u < t + n)
    (restricted : p.restrictionAt q u ≠ .unrestricted) (first : ∀ v, t ≤ v → v < u → p.restrictionAt q v = .unrestricted) :
    firstRestricted p q t n = some u := by
  induction n generalizing t with
  | zero => omega
  | succ n ih =>
    rw [firstRestricted]
    by_cases here : t = u
    · subst here
      exact if_neg restricted
    · rw [if_pos (first t (by omega) (by omega))]
      exact ih (by omega) (by omega) (fun v low' high' => first v (by omega) high')

/-- A minute of the window at which a sector of the crane is restricted. -/
def Plan.limits (p : Plan) (c : Crane) (d : LiftData) (x : Sector) (t : Nat) : Prop :=
  d.start ≤ t ∧ t < d.start + d.length ∧ p.restrictionAt ⟨c, x⟩ t ≠ .unrestricted

theorem restriction_none {x : Sector} (free : ∀ t, ¬ p.limits c d x t) : firstRestricted p ⟨c, x⟩ d.start d.length = none :=
  firstRestricted_none (fun t low high => Decidable.not_not.mp (fun limited => free t ⟨low, high, limited⟩))

theorem restriction_some {x : Sector} {t : Nat} (limited : p.limits c d x t) (first : ∀ u, u < t → ¬ p.limits c d x u) :
    firstRestricted p ⟨c, x⟩ d.start d.length = some t := by
  obtain ⟨low, high, restricted⟩ := limited
  exact firstRestricted_some low high restricted
    (fun u low' before => Decidable.not_not.mp (fun limited => first u before ⟨low', by omega, limited⟩))

theorem checkRestrictions_none (free : ∀ x ∈ d.path, ∀ t, ¬ p.limits c d x t) : checkRestrictions p c d = none := by
  rw [checkRestrictions, List.findSome?_eq_none_iff]
  intro x member
  rw [restriction_none (free x member)]
  rfl

theorem checkRestrictions_some {before after : List Sector} {x : Sector} {t : Nat} (path : d.path = before ++ x :: after)
    (free : ∀ y ∈ before, ∀ u, ¬ p.limits c d y u) (limited : p.limits c d x t) (first : ∀ u, u < t → ¬ p.limits c d x u) :
    checkRestrictions p c d = some ⟨.restricted, [fSector x, f4 t]⟩ := by
  rw [checkRestrictions, List.findSome?_eq_some_iff]
  refine ⟨before, x, after, path, ?_, fun y member => ?_⟩
  · rw [restriction_some limited first]
    rfl
  · rw [restriction_none (free y member)]
    rfl

/-! ### Conflicts with live records (R138) -/

/-- A live record stands in a booking's way. -/
def Plan.clash (p : Plan) (c : Crane) (d : LiftData) (b : Booking) : Prop :=
  d.start < b.data.start + b.data.length ∧ b.data.start < d.start + d.length ∧
    (b.crane = c ∨ ∃ x ∈ d.path, ∃ r ∈ p.partners ⟨c, x⟩, r.2.crane = b.crane ∧ r.2.sector ∈ b.data.path)

theorem liftConflict_iff {b : Booking} : p.liftConflict c d b = true ↔ p.clash c d b := by
  simp only [Plan.liftConflict, LiftData.overlaps, Plan.pathsJoined, Bool.and_eq_true, Bool.or_eq_true, decide_eq_true_iff,
    List.any_eq_true, and_assoc]
  rfl

theorem checkConflicts_none {others : List Booking} (clear : ∀ b ∈ others, ¬ p.clash c d b) :
    checkConflicts p c d others = none := by
  have found : others.find? (p.liftConflict c d) = none :=
    List.find?_eq_none.mpr (fun b member conflict => clear b member (liftConflict_iff.mp conflict))
  rw [checkConflicts, found]
  rfl

theorem checkConflicts_some {others before after : List Booking} {b : Booking} (split : others = before ++ b :: after)
    (clear : ∀ r ∈ before, ¬ p.clash c d r) (clash : p.clash c d b) :
    checkConflicts p c d others = some ⟨.conflict, [f2 b.id]⟩ := by
  have found : others.find? (p.liftConflict c d) = some b :=
    List.find?_eq_some_iff_append.mpr ⟨liftConflict_iff.mpr clash, before, after, split, fun r member => by
      rw [Bool.not_eq_true', Bool.eq_false_iff]
      exact fun conflict => clear r member (liftConflict_iff.mp conflict)⟩
  rw [checkConflicts, found]
  rfl

end

/-! ### The limits (R139) -/

theorem checkCapacity_table {others : List Booking} (full : 64 ≤ others.length) :
    checkCapacity c others false = some ⟨.full, [f1 0]⟩ := if_pos (c := Config.maxBookings ≤ others.length) full

theorem checkCapacity_crane {others : List Booking} (room : others.length < 64)
    (full : 16 ≤ (others.filter (fun b => decide (b.crane = c))).length) :
    checkCapacity c others false = some ⟨.full, [f1 1]⟩ :=
  (if_neg (c := Config.maxBookings ≤ others.length) (Nat.not_le.mpr room)).trans (if_pos full)

theorem checkCapacity_passes {others : List Booking} {amending : Bool} (room : amending = true ∨
    others.length < 64 ∧ (others.filter (fun b => decide (b.crane = c))).length < 16) : checkCapacity c others amending = none := by
  cases amending with
  | true => rfl
  | false =>
    obtain ⟨table, own⟩ := room.resolve_left nofun
    exact (if_neg (c := Config.maxBookings ≤ others.length) (Nat.not_le.mpr table)).trans (if_neg (Nat.not_le.mpr own))

/-! ### The field ranges (R134) -/

theorem areaOf_iff {n : Nat} {a : AreaClass} : areaOf n = some a ↔ a.code = n := by
  constructor
  · intro read
    unfold areaOf at read
    split at read <;> cases read <;> rfl
  · rintro rfl
    cases a <;> rfl

theorem exists_area {n : Nat} (small : n ≤ 3) : ∃ a, areaOf n = some a := by
  match n, small with
  | 0, _ | 1, _ | 2, _ | 3, _ => exact ⟨_, rfl⟩

theorem allOf_sectorOf_iff {l : List Nat} {xs : List Sector} : allOf sectorOf l = some xs ↔ xs.map Fin.val = l := by
  rw [allOf_eq_some_iff]
  induction l generalizing xs with
  | nil => simp
  | cons n l ih =>
    cases xs with
    | nil => simp
    | cons x xs => simp [sectorOf_iff, ih]

theorem exists_path {l : List Nat} (small : ∀ x ∈ l, x ≤ 15) : ∃ xs : List Sector, xs.map Fin.val = l := by
  cases read : allOf sectorOf l with
  | some xs => exact ⟨xs, allOf_sectorOf_iff.mp read⟩
  | none =>
    obtain ⟨n, member, bad⟩ := allOf_eq_none_iff.mp read
    have below := small n member
    rw [sectorOf, dif_pos (by omega)] at bad
    exact nomatch bad

theorem pathOf_iff {f : LiftFields} {path : List Sector} : pathOf f = some path ↔
    1 ≤ f.pathCount ∧ f.pathCount ≤ 8 ∧ path.map Fin.val = f.path.take f.pathCount ∧ path.Nodup := by
  unfold pathOf
  split
  next count =>
    rw [← and_assoc, and_iff_right count, ← allOf_sectorOf_iff]
    cases allOf sectorOf (f.path.take f.pathCount) with
    | none => simp
    | some xs =>
      dsimp only
      by_cases once : xs.Nodup
      · rw [if_pos once, Option.some_inj, iff_self_and]
        exact fun same => same ▸ once
      · rw [if_neg once, Option.some_inj]
        exact iff_of_false nofun (fun h => once (h.1 ▸ h.2))
  next count => exact iff_of_false nofun (fun h => count ⟨h.1, h.2.1⟩)

theorem liftOf_some {f : LiftFields} {cls : AreaClass} {path : List Sector} (ranges : 1 ≤ f.length ∧ f.length ≤ 240 ∧ 1 ≤ f.mass ∧
    f.mass ≤ 65534 ∧ 1 ≤ f.reach ∧ f.reach ≤ 900) (area : areaOf f.areaClass = some cls) (sectors : pathOf f = some path) :
    liftOf f = some ⟨f.start, f.length, f.mass, cls, f.reach, path, if f.tagPresent = 0 then none else some f.tag⟩ := by
  rw [liftOf, if_pos ranges, area, sectors]

theorem ranges_of_liftOf {f : LiftFields} {d : LiftData} (read : liftOf f = some d) :
    (1 ≤ f.length ∧ f.length ≤ 240 ∧ 1 ≤ f.mass ∧ f.mass ≤ 65534 ∧ 1 ≤ f.reach ∧ f.reach ≤ 900) ∧
      (∃ cls, areaOf f.areaClass = some cls) ∧ ∃ path, pathOf f = some path := by
  unfold liftOf at read
  split at read
  next ranges =>
    split at read
    next cls path area sectors => exact ⟨ranges, ⟨cls, area⟩, path, sectors⟩
    next => exact nomatch read
  next => exact nomatch read

end Sys2Proof.Machine

open Sys2Proof Sys2Proof.Machine

/-- Settles O40: admission's steps in order, the rated load, and the field ranges of a lift. -/
theorem admissionSteps : Obligations.AdmissionSteps := by
  unfold Obligations.AdmissionSteps
  refine ⟨fun s c f a => ?_, fun chart reach => ⟨fun before p after => ratedLoad_first, ratedLoad_none⟩, fun f _ => ?_⟩
  · intro p n others fails e
    refine ⟨fun absent => admission_absent absent f a, fun present => ⟨fun fields => admission_fields present fields a,
      fun d fields => ?_⟩⟩
    have refused {r : Answer} (h : s.refusal c d others a.isSome = some r) : fails r := by
      show s.admission c f a = .failed r
      rw [admission_eq present fields, h]
    have amends (new : a = none) : a.isSome = false := by rw [new, Option.isSome_none]
    refine ⟨fun late => refused (refusal_window (checkWindow_late late)),
      fun far => refused (refusal_window (checkWindow_far far)), fun now near end_ => ?_⟩
    have window : checkWindow s.minute d = none := checkWindow_passes now near end_
    refine ⟨fun far => refused (refusal_reach window (checkReach_far far)),
      fun short none => refused (refusal_reach window (checkReach_noLoad short none)), fun load short rated => ?_⟩
    have weighed : checkReach s.plan.committed c d = _ := checkReach_load short rated
    refine ⟨fun heavy => refused (refusal_reach window (weighed.trans (if_pos heavy))), fun light => ?_⟩
    have reach : checkReach s.plan.committed c d = none := weighed.trans (if_neg (Nat.not_lt.mpr light))
    refine ⟨fun before x after t path free limited first =>
      refused (refusal_restrictions window reach (checkRestrictions_some path free limited first)), fun free => ?_⟩
    have restrictions : checkRestrictions s.plan.committed c d = none := checkRestrictions_none free
    refine ⟨fun before b after split clear conflict =>
      refused (refusal_conflicts window reach restrictions (checkConflicts_some split clear conflict)), fun clear => ?_⟩
    have capacity : s.refusal c d others a.isSome = checkCapacity c others a.isSome :=
      refusal_capacity window reach restrictions (checkConflicts_none clear)
    refine ⟨fun new full => refused ?_, fun new room full => refused ?_, fun room => ?_⟩
    · rw [capacity, amends new, checkCapacity_table full]
    · rw [capacity, amends new, checkCapacity_crane room full]
    · rw [admission_eq present fields, capacity, checkCapacity_passes (room.imp Option.isSome_iff_ne_none.mpr id)]
  · intro ok
    refine ⟨fun ⟨long, short, heavy, light, area, far, near, some_, eight, sectors, once⟩ => ?_, fun bad => ?_⟩
    · obtain ⟨cls, area⟩ := exists_area area
      obtain ⟨path, path_eq⟩ := exists_path sectors
      have nodup : path.Nodup :=
        (List.pairwise_map.mp (path_eq ▸ once : (path.map Fin.val).Nodup)).imp (fun apart same => apart (congrArg Fin.val same))
      have read : pathOf f = some path := pathOf_iff.mpr ⟨some_, eight, path_eq, nodup⟩
      exact ⟨cls, path, liftOf_some ⟨long, short, heavy, light, far, near⟩ area read, areaOf_iff.mp area, path_eq⟩
    · cases read : liftOf f with
      | none => rfl
      | some d =>
        obtain ⟨⟨long, short, heavy, light, far, near⟩, ⟨cls, area⟩, path, sectors⟩ := ranges_of_liftOf read
        obtain ⟨some_, eight, path_eq, once⟩ := pathOf_iff.mp sectors
        have small : f.areaClass ≤ 3 := by
          rw [← areaOf_iff.mp area]
          cases cls <;> decide
        refine absurd ⟨long, short, heavy, light, small, far, near, some_, eight, ?_, ?_⟩ bad
        · rw [← path_eq]
          intro x member
          obtain ⟨y, -, rfl⟩ := List.mem_map.mp member
          exact Nat.le_of_lt_succ y.isLt
        · rw [← path_eq]
          exact nodup_map_of_inj (fun _ _ => Fin.ext) once
end

section
/-!
PROOF. The lift requests as they are taken, from a crane and from the supervisor (R133); PROPOSE_LIFT, the id counter and the table's
order (R132, R140).
-/
namespace Sys2Proof.Machine

variable {s : State} {q : Requester}

/-! ### A lift request taken at once -/

/-- A lift request that is heard runs on the state it is asked in, and its answer is sent. -/
theorem exec_lift {i : Instr} {run : State → State × Answer} (heard : q.heard s)
    (supervisor : q = .supervisor → exec i s = s.supervised i run)
    (crane : ∀ c, q = .crane c → ∃ f : LinkFrame, exec i s = s.fromCrane c f ∧ (∀ r, f ≠ .status r) ∧ runLinkRequest c f = run ∧
      f.kind = i.linkKind) :
    exec i s = .next (q.replied i (run (q.asked i s)).2 (run (q.asked i s)).1) := by
  cases q with
  | supervisor =>
    rw [supervisor rfl, supervised_eq heard]
    rfl
  | crane c =>
    obtain ⟨f, sent, notStatus, rfl, kind⟩ := crane c rfl
    rw [sent, ← exec_command, ready_request heard f notStatus, Requester.replied, State.answerLink, kind]
    rfl

section
variable (heard : q.heard s)
include heard

theorem exec_proposeLift (n : Nat) (f : LiftFields) :
    exec (.proposeLift q n f) s = .next (q.replied (.proposeLift q n f) (propose q n f (q.asked (.proposeLift q n f) s)).2
      (propose q n f (q.asked (.proposeLift q n f) s)).1) :=
  exec_lift heard (by rintro rfl; rfl) (by rintro c rfl; exact ⟨.proposeLift f, rfl, nofun, rfl, rfl⟩)

theorem exec_confirmLift (id : Nat) :
    exec (.confirmLift q id) s = .next (q.replied (.confirmLift q id) (confirm q id (q.asked (.confirmLift q id) s)).2
      (confirm q id (q.asked (.confirmLift q id) s)).1) :=
  exec_lift heard (by rintro rfl; rfl) (by rintro c rfl; exact ⟨.confirmLift id, rfl, nofun, rfl, rfl⟩)

theorem exec_amendLift (id : Nat) (f : LiftFields) :
    exec (.amendLift q id f) s = .next (q.replied (.amendLift q id f) (amend q id f (q.asked (.amendLift q id f) s)).2
      (amend q id f (q.asked (.amendLift q id f) s)).1) :=
  exec_lift heard (by rintro rfl; rfl) (by rintro c rfl; exact ⟨.amendLift id f, rfl, nofun, rfl, rfl⟩)

theorem exec_cancelLift (id : Nat) :
    exec (.cancelLift q id) s = .next (q.replied (.cancelLift q id) (cancel q id (q.asked (.cancelLift q id) s)).2
      (cancel q id (q.asked (.cancelLift q id) s)).1) :=
  exec_lift heard (by rintro rfl; rfl) (by rintro c rfl; exact ⟨.cancelLift id, rfl, nofun, rfl, rfl⟩)

theorem exec_lockLift (id : Nat) :
    exec (.lockLift q id) s = .next (q.replied (.lockLift q id) (setLock true q id (q.asked (.lockLift q id) s)).2
      (setLock true q id (q.asked (.lockLift q id) s)).1) :=
  exec_lift heard (by rintro rfl; rfl) (by rintro c rfl; exact ⟨.lockLift id, rfl, nofun, rfl, rfl⟩)

theorem exec_unlockLift (id : Nat) :
    exec (.unlockLift q id) s = .next (q.replied (.unlockLift q id) (setLock false q id (q.asked (.unlockLift q id) s)).2
      (setLock false q id (q.asked (.unlockLift q id) s)).1) :=
  exec_lift heard (by rintro rfl; rfl) (by rintro c rfl; exact ⟨.unlockLift id, rfl, nofun, rfl, rfl⟩)

theorem exec_startLift (id : Nat) :
    exec (.startLift q id) s = .next (q.replied (.startLift q id) (start q id (q.asked (.startLift q id) s)).2
      (start q id (q.asked (.startLift q id) s)).1) :=
  exec_lift heard (by rintro rfl; rfl) (by rintro c rfl; exact ⟨.startLift id, rfl, nofun, rfl, rfl⟩)

theorem exec_finishLift (id : Nat) :
    exec (.finishLift q id) s = .next (q.replied (.finishLift q id) (finish q id (q.asked (.finishLift q id) s)).2
      (finish q id (q.asked (.finishLift q id) s)).1) :=
  exec_lift heard (by rintro rfl; rfl) (by rintro c rfl; exact ⟨.finishLift id, rfl, nofun, rfl, rfl⟩)

theorem exec_landLift (id : Nat) :
    exec (.landLift q id) s = .next (q.replied (.landLift q id) (land q id (q.asked (.landLift q id) s)).2
      (land q id (q.asked (.landLift q id) s)).1) :=
  exec_lift heard (by rintro rfl; rfl) (by rintro c rfl; exact ⟨.landLift id, rfl, nofun, rfl, rfl⟩)

theorem exec_suspendLift (id : Nat) :
    exec (.suspendLift q id) s = .next (q.replied (.suspendLift q id) (suspend q id (q.asked (.suspendLift q id) s)).2
      (suspend q id (q.asked (.suspendLift q id) s)).1) :=
  exec_lift heard (by rintro rfl; rfl) (by rintro c rfl; exact ⟨.suspendLift id, rfl, nofun, rfl, rfl⟩)

theorem exec_resumeLift (id : Nat) :
    exec (.resumeLift q id) s = .next (q.replied (.resumeLift q id) (resume q id (q.asked (.resumeLift q id) s)).2
      (resume q id (q.asked (.resumeLift q id) s)).1) :=
  exec_lift heard (by rintro rfl; rfl) (by rintro c rfl; exact ⟨.resumeLift id, rfl, nofun, rfl, rfl⟩)

theorem exec_queryLift (id : Nat) :
    exec (.queryLift q id) s = .next (q.replied (.queryLift q id) (queryRecord q id (q.asked (.queryLift q id) s)).2
      (queryRecord q id (q.asked (.queryLift q id) s)).1) :=
  exec_lift heard (by rintro rfl; rfl) (by rintro c rfl; exact ⟨.queryLift id, rfl, nofun, rfl, rfl⟩)

theorem exec_listLifts (sel flt n : Nat) :
    exec (.listLifts q sel flt n) s =
      .next (q.replied (.listLifts q sel flt n) (listRecords q sel flt n (q.asked (.listLifts q sel flt n) s)).2
        (listRecords q sel flt n (q.asked (.listLifts q sel flt n) s)).1) :=
  exec_lift heard (by rintro rfl; rfl) (by rintro c rfl; exact ⟨.listLifts sel flt n, rfl, nofun, rfl, rfl⟩)

end

/-- Being asked changes no more than FRAME_ERROR, or the port. -/
theorem touches_asked (q : Requester) (i : Instr) (s : State) : Touches [.alerts, .port] s (q.asked i s) := by
  cases q with
  | supervisor => exact (touches_gather s _).within rfl
  | crane c => exact (touches_withdraw s .frameError c).within rfl

/-! ### PROPOSE_LIFT (R140) -/

theorem admission_congr {v : State} (touched : Touches [.alerts, .port] s v) (c : Crane) (f : LiftFields) (a : Option Nat) :
    v.admission c f a = s.admission c f a := by
  simp only [State.admission, State.present, State.entry, State.minute, touched.plan_eq (by decide),
    touched.bookings_eq (by decide), touched.clock_eq (by decide)]
  rfl

theorem proposalCrane_iff {n : Nat} {c : Crane} : proposalCrane q n = some c ↔ q = .crane c ∨ q = .supervisor ∧ n = c.val := by
  cases q with
  | supervisor =>
    rw [show proposalCrane .supervisor n = craneOf n from rfl, craneOf_iff]
    simp [eq_comm]
  | crane d => simp [proposalCrane]

theorem proposalCrane_none {n : Nat} (far : 8 ≤ n) : proposalCrane .supervisor n = none := by
  simp [proposalCrane, craneOf, Nat.not_lt.mpr far]

section
variable {n : Nat} {f : LiftFields} {c : Crane}

theorem propose_nowhere (none : proposalCrane q n = none) : propose q n f s = (s, answer .badValue) := by
  rw [propose, none]

theorem propose_unset (crane : proposalCrane q n = some c) (unset : s.clock.isSet = false) :
    propose q n f s = (s, answer .clockUnset) := by
  rw [propose, crane]
  exact if_pos unset

theorem propose_failed (crane : proposalCrane q n = some c) (set : s.clock.isSet = true) {a : Answer}
    (failed : s.admission c f none = .failed a) : propose q n f s = (s, a) := by
  rw [propose, crane]
  dsimp only
  rw [if_neg (by simp [set]), failed]

/-- The record a proposal enters. -/
def State.proposed (s : State) (q : Requester) (c : Crane) (d : LiftData) : Booking :=
  { id := freeId s.bookings s.nextId 65, crane := c, state := .pending (s.clock.mono + 60000), data := d, originator := q,
    locked := false, due := false, overrun := false, changedAt := s.clock.site, changedBy := q }

theorem propose_admitted (crane : proposalCrane q n = some c) (set : s.clock.isSet = true) {d : LiftData}
    (admitted : s.admission c f none = .admitted d) :
    propose q n f s = ((s.withBookings (insertLift (s.proposed q c d) s.bookings)).withNextId (nextValue (s.proposed q c d).id),
      okWith [f2 (s.proposed q c d).id, f4 60000]) := by
  rw [propose, crane]
  dsimp only
  rw [if_neg (by simp [set]), admitted]
  rfl

end

/-! ### The id counter (R132) -/

/-- The id taken is the first value from the counter on that no live record holds, unless all the values tried are held. -/
theorem freeId_first (l : List Booking) (m : Nat) {n : Nat} (range : 1 ≤ n ∧ n ≤ 65535) :
    ∃ k ≤ m, freeId l n m = idAfter n k ∧ ∀ j < k, ∃ b ∈ l, b.id = idAfter n j := by
  induction m generalizing n with
  | zero => exact ⟨0, Nat.le_refl 0, (idAfter_zero range).symm, nofun⟩
  | succ m ih =>
    unfold freeId
    split
    next held =>
      obtain ⟨b, member, same⟩ := List.any_eq_true.mp held
      obtain ⟨k, bound, eq, before⟩ := ih (nextValue_range range)
      refine ⟨k + 1, by omega, eq.trans (idAfter_nextValue range k), fun j less => ?_⟩
      cases j with
      | zero => exact ⟨b, member, (of_decide_eq_true same).trans (idAfter_zero range).symm⟩
      | succ j =>
        rw [← idAfter_nextValue range]
        exact before j (by omega)
    next => exact ⟨0, Nat.zero_le _, (idAfter_zero range).symm, nofun⟩

theorem insertLift_mem {b r : Booking} {l : List Booking} : r ∈ insertLift b l ↔ r = b ∨ r ∈ l :=
  (insertLift_perm b l).mem_iff.trans List.mem_cons

end Sys2Proof.Machine

open Sys2Proof Sys2Proof.Machine

/-- Settles O41: PROPOSE_LIFT, the id it takes, and the record's place in the table. -/
theorem proposeCreatesPending : Obligations.ProposeCreatesPending := by
  unfold Obligations.ProposeCreatesPending
  refine ⟨fun s q n f heard => ?_, fun table n room low high => ?_, fun b table => ⟨fun r => insertLift_mem, ?_, fun ascending new => ?_⟩⟩
  · intro i v refuse
    have run := exec_proposeLift heard n f
    have touched : Touches [.alerts, .port] s v := touches_asked q i s
    have refused {a : Answer} (h : propose q n f v = (v, a)) : refuse a := by
      show exec i s = _
      rw [show exec i s = _ from run, show propose q n f (q.asked (.proposeLift q n f) s) = _ from h]
    have clock : v.clock = s.clock := touched.clock_eq (by decide)
    refine ⟨fun supervisor far => refused (propose_nowhere (supervisor ▸ proposalCrane_none far)), fun c place => ?_⟩
    have crane := proposalCrane_iff.mpr place
    refine ⟨fun unset => refused (propose_unset crane (clock ▸ unset)), fun set => ⟨fun a failed => ?_, fun d admitted => ?_⟩⟩
    · exact refused (propose_failed crane (clock ▸ set) ((admission_congr touched c f none).trans failed))
    · intro id b
      have done := propose_admitted (s := v) crane (clock ▸ set) ((admission_congr touched c f none).trans admitted)
      have same : v.proposed q c d = b := by
        rw [State.proposed, clock, touched.bookings_eq (by decide), touched .nextId (by decide)]
      rw [same, touched.bookings_eq (by decide)] at done
      rw [show exec i s = _ from run, show propose q n f (q.asked (.proposeLift q n f) s) = _ from done]
      rfl
  · intro value
    obtain ⟨k, bound, taken, before⟩ := freeId_first table 65 ⟨low, high⟩
    have free := freeId_free (l := table) ⟨low, high⟩ (by omega)
    have short : k ≤ table.length := held_values (by omega) before
    refine ⟨k, by omega, taken, fun b member => ?_, fun j less => before j less⟩
    exact fun same => free b member (same.trans taken.symm)
  · exact (insertLift_perm b table).length_eq
  · exact List.pairwise_map.mp (insertLift_ascending (List.pairwise_map.mpr ascending) new)
end

section
/-!
PROOF. CONFIRM_LIFT and the confirm deadline, AMEND_LIFT, CANCEL_LIFT, LOCK_LIFT and UNLOCK_LIFT (R141 to R145), and the operations on
the table they use.
-/
namespace Sys2Proof.Machine

variable {s : State} {q : Requester} {id : Nat} {b : Booking}

/-! ### Answering a lift request -/

/-- A lift request's run, once it is known. -/
theorem replied_of {i : Instr} {run : State → State × Answer}
    (taken : exec i s = .next (q.replied i (run (q.asked i s)).2 (run (q.asked i s)).1)) {t : State} {a : Answer}
    (eq : run (q.asked i s) = (t, a)) : exec i s = .next (q.replied i a t) := by
  rw [taken, eq]

theorem findLift_asked (q : Requester) (i : Instr) (s : State) (id : Nat) : (q.asked i s).findLift id = s.findLift id := by
  rw [State.findLift, (touches_asked q i s).bookings_eq (by decide)]
  rfl

theorem clock_asked (q : Requester) (i : Instr) (s : State) : (q.asked i s).clock = s.clock := (touches_asked q i s).clock_eq (by decide)

theorem supervisor_or {q : Requester} {p : Prop} [Decidable p] : ¬ (q ≠ .supervisor ∧ p) ↔ q = .supervisor ∨ ¬ p := by
  rw [Classical.not_and_iff_not_or_not, Classical.not_not]

/-! ### The table (R132, R133) -/

theorem freeLift_eq (s : State) (id : Nat) : s.freeLift id = s.withBookings (s.bookings.filter (fun r => decide (r.id ≠ id))) := by
  simp only [State.freeLift, decide_not]

theorem passed_minute {n : Nat} {d : LiftData} : d.passed n = true ↔ d.start + d.length ≤ n := decide_eq_true_iff

/-! ### CONFIRM_LIFT (R141) -/

/-- The record as CONFIRM_LIFT books it. -/
def Booking.booked (b : Booking) (s : State) (q : Requester) : Booking :=
  { b with state := .booked, changedAt := s.clock.site, changedBy := q }

theorem confirm_unknown (none : s.findLift id = none) : confirm q id s = (s, answer .notFound) := by
  rw [confirm, none]

theorem confirm_refused (found : s.findLift id = some b) (crane : q ≠ .supervisor) (other : b.originator ≠ q) :
    confirm q id s = (s, answer .notPermitted) := by
  rw [confirm, found]
  exact if_pos ⟨crane, other⟩

section
variable (found : s.findLift id = some b) (own : q = .supervisor ∨ b.originator = q)
include found own

theorem confirm_late (notPending : ∀ t, b.state ≠ .pending t) : confirm q id s = (s, answer .badState) := by
  rw [confirm, found]
  dsimp only
  rw [if_neg (supervisor_or.mpr (own.imp_right Classical.not_not.mpr))]
  cases state : b.state with
  | pending t => exact absurd state (notPending t)
  | booked | active | suspended rs => rfl

variable {t : Nat} (pending : b.state = .pending t)
include pending

theorem confirm_pending : confirm q id s =
    if b.data.passed s.minute then (s.freeLift id, ⟨.tooLate, [f1 7]⟩)
    else ((s.putLift (b.booked s q)).testDue (b.booked s q), okWith [f1 1]) := by
  rw [confirm, found]
  dsimp only
  rw [if_neg (supervisor_or.mpr (own.imp_right Classical.not_not.mpr)), pending]
  rfl

theorem confirm_passed (passed : b.data.start + b.data.length ≤ s.minute) : confirm q id s = (s.freeLift id, ⟨.tooLate, [f1 7]⟩) := by
  rw [confirm_pending found own pending, if_pos (passed_minute.mpr passed)]

theorem confirm_ahead (ahead : s.minute < b.data.start) : confirm q id s = (s.putLift (b.booked s q), okWith [f1 1]) := by
  have early : ¬ (b.booked s q).data.start ≤ (s.putLift (b.booked s q)).minute := Nat.not_le.mpr ahead
  rw [confirm_pending found own pending, if_neg (fun passed => by have := passed_minute.mp passed; omega), State.testDue, if_neg early]

theorem confirm_now (started : b.data.start ≤ s.minute) (open_ : s.minute < b.data.start + b.data.length) :
    confirm q id s = (((s.putLift (b.booked s q)).putLift { b.booked s q with due := true }).notifyLift (b.booked s q) .due [],
      okWith [f1 1]) := by
  have due : (b.booked s q).data.start ≤ (s.putLift (b.booked s q)).minute := started
  rw [confirm_pending found own pending, if_neg (fun passed => by have := passed_minute.mp passed; omega), State.testDue, if_pos due]

end

/-! ### The confirm deadline (R142) -/

theorem confirmDeadline_some (running : s.running = true) (found : s.findLift id = some b) :
    exec (.confirmDeadline id) s = .next (if s.reached b.deadline then s.lapse b else s) := by
  rw [exec_confirmDeadline, whileRunning_on running, found]

/-! ### AMEND_LIFT (R143) -/

section
variable {f : LiftFields}

theorem amend_unset (unset : s.clock.isSet = false) : amend q id f s = (s, answer .clockUnset) := by
  rw [amend, if_pos unset]

variable (set : s.clock.isSet = true)
include set

theorem amend_unknown (none : s.findLift id = none) : amend q id f s = (s, answer .notFound) := by
  rw [amend, if_neg (by simp [set]), none]

variable (found : s.findLift id = some b)
include found

theorem amend_foreign (foreign : b.allows q = false) : amend q id f s = (s, answer .notPermitted) := by
  rw [amend, if_neg (by simp [set]), found]
  exact if_pos foreign

variable (own : b.allows q = true)
include own

theorem amend_late (notBooked : b.state ≠ .booked) : amend q id f s = (s, answer .badState) := by
  rw [amend, if_neg (by simp [set]), found]
  dsimp only
  rw [if_neg (by simp [own]), if_pos notBooked]

variable (booked : b.state = .booked)
include booked

theorem amend_locked (crane : q ≠ .supervisor) (locked : b.locked = true) : amend q id f s = (s, answer .locked) := by
  rw [amend, if_neg (by simp [set]), found]
  dsimp only
  rw [if_neg (by simp [own]), if_neg (Classical.not_not.mpr booked), if_pos ⟨crane, locked⟩]

variable (free : q = .supervisor ∨ b.locked = false)
include free

theorem amend_admission : amend q id f s = match s.admission b.crane f (some id) with
    | .failed a => (s, a)
    | .admitted d => ((s.putLift { b.stamp s q with data := d, due := false }).testDue { b.stamp s q with data := d, due := false },
        okWith [f2 id]) := by
  rw [amend, if_neg (by simp [set]), found]
  dsimp only
  rw [if_neg (by simp [own]), if_neg (Classical.not_not.mpr booked), if_neg (supervisor_or.mpr (free.imp_right Bool.eq_false_iff.mp))] <;>
    cases s.admission b.crane f (some id) <;> rfl

end

/-! ### CANCEL_LIFT (R144) -/

theorem cancel_unknown (none : s.findLift id = none) : cancel q id s = (s, answer .notFound) := by
  rw [cancel, none]

section
variable (found : s.findLift id = some b)
include found

theorem cancel_foreign (foreign : b.allows q = false) : cancel q id s = (s, answer .notPermitted) := by
  rw [cancel, found]
  exact if_pos foreign

variable (own : b.allows q = true)
include own

theorem cancel_running (running : b.running = true) : cancel q id s = (s, answer .badState) := by
  rw [cancel, found]
  dsimp only
  rw [if_neg (by simp [own]), if_pos running]

variable (idle : b.running = false)
include idle

theorem cancel_locked (crane : q ≠ .supervisor) (locked : b.locked = true) : cancel q id s = (s, answer .locked) := by
  rw [cancel, found]
  dsimp only
  rw [if_neg (by simp [own]), if_neg (by simp [idle]), if_pos ⟨crane, locked⟩]

theorem cancel_done (free : q = .supervisor ∨ b.locked = false) : cancel q id s =
    (if q = .supervisor then (s.freeLift id).notifyLift b .cancelledBySupervisor [] else s.freeLift id, okWith [f1 6]) := by
  rw [cancel, found]
  dsimp only
  rw [if_neg (by simp [own]), if_neg (by simp [idle]), if_neg (supervisor_or.mpr (free.imp_right Bool.eq_false_iff.mp))]
  rfl

end

/-! ### LOCK_LIFT and UNLOCK_LIFT (R145) -/

theorem setLock_crane (on : Bool) (crane : q ≠ .supervisor) : setLock on q id s = (s, answer .notPermitted) := by
  cases q with
  | supervisor => exact absurd rfl crane
  | crane c => rfl

theorem setLock_unknown (on : Bool) (none : s.findLift id = none) : setLock on .supervisor id s = (s, answer .notFound) := by
  rw [setLock, none]

theorem setLock_found (on : Bool) (found : s.findLift id = some b) :
    setLock on .supervisor id s = (s.putLift { b with locked := on, changedAt := s.clock.site, changedBy := .supervisor },
      okWith [fFlag on]) := by
  rw [setLock, found]
  rfl

theorem allows_iff {b : Booking} : b.allows q = true ↔ q = .supervisor ∨ q = .crane b.crane := by
  cases q with
  | supervisor => simp [Booking.allows]
  | crane c => simp [Booking.allows, eq_comm]

end Sys2Proof.Machine

open Sys2Proof Sys2Proof.Machine

/-- Settles O42: CONFIRM_LIFT, and the confirm deadline. -/
theorem confirmBooks : Obligations.ConfirmBooks := by
  unfold Obligations.ConfirmBooks
  refine ⟨fun s q id heard => ?_, fun s id running => ⟨fun none => ?_, fun b found => ⟨fun t pending => ⟨fun reached => ?_, fun early => ?_⟩,
    fun notPending => ?_⟩⟩⟩
  · intro i v n answers
    have answered {t : State} {a : Answer} (h : confirm q id v = (t, a)) : answers t a := replied_of (exec_confirmLift heard id) h
    have lift (b : Option Booking) (h : s.findLift id = b) : v.findLift id = b := (findLift_asked q i s id).trans h
    have minute : v.minute = n := congrArg (·.site / 60) (clock_asked q i s)
    refine ⟨fun none => answered (confirm_unknown (lift _ none)), fun b found => ?_⟩
    have found := lift _ found
    refine ⟨fun crane other => answered (confirm_refused found crane other),
      fun own => ⟨fun notPending => answered (confirm_late found own notPending), fun t pending => ?_⟩⟩
    have record : b.booked v q = { b with state := .booked, changedAt := s.clock.site, changedBy := q } := by
      rw [Booking.booked, show v.clock = s.clock from clock_asked q i s]
    have passed := confirm_passed found own pending
    have ahead := confirm_ahead found own pending
    have now := confirm_now found own pending
    rw [record, minute] at ahead now
    rw [minute] at passed
    exact ⟨fun h => answered (passed h), fun h => answered (ahead h), fun h k => answered (now h k)⟩
  · rw [exec_confirmDeadline, whileRunning_on running, none]
  · rw [confirmDeadline_some running found, if_pos (deadline_iff.mpr ⟨t, pending, reached⟩), State.lapse, freeLift_eq]
    rfl
  · rw [confirmDeadline_some running found, if_neg]
    intro reached
    obtain ⟨t', pending', past⟩ := deadline_iff.mp reached
    cases pending.symm.trans pending'
    omega
  · rw [confirmDeadline_some running found, if_neg]
    intro reached
    obtain ⟨t, pending, _⟩ := deadline_iff.mp reached
    exact notPending t pending

/-- Settles O43: AMEND_LIFT. -/
theorem amendReplaces : Obligations.AmendReplaces := by
  unfold Obligations.AmendReplaces
  intro s q id f heard i v answers
  have answered {t : State} {a : Answer} (h : amend q id f v = (t, a)) : answers t a := replied_of (exec_amendLift heard id f) h
  have lift (b : Option Booking) (h : s.findLift id = b) : v.findLift id = b := (findLift_asked q i s id).trans h
  have clock : v.clock = s.clock := clock_asked q i s
  refine ⟨fun unset => answered (amend_unset (clock ▸ unset)), fun set none => answered (amend_unknown (clock ▸ set) (lift _ none)),
    fun b set found => ?_⟩
  have set : v.clock.isSet = true := clock ▸ set
  have found := lift _ found
  refine ⟨fun foreign => answered (amend_foreign set found foreign), fun own notBooked => answered (amend_late set found own notBooked),
    fun own booked crane locked => answered (amend_locked set found own booked crane locked), fun own booked free => ?_⟩
  have run := amend_admission (f := f) set found own booked free
  rw [admission_congr (touches_asked q i s)] at run
  refine ⟨fun a failed => answered ?_, fun d admitted => ?_⟩
  · rw [run, failed]
  · intro r
    have record : { b.stamp v q with data := d, due := false } = r := by rw [Booking.stamp, clock]
    rw [admitted] at run
    dsimp only at run
    rw [record] at run
    refine ⟨fun ahead => answered ?_, fun now => answered ?_⟩
    · have early : ¬ r.data.start ≤ (v.putLift r).minute := by
        rw [show (v.putLift r).minute = s.clock.site / 60 from congrArg (·.site / 60) clock]
        exact Nat.not_le.mpr ahead
      rw [run, State.testDue, if_neg early]
    · have due : r.data.start ≤ (v.putLift r).minute := by
        rw [show (v.putLift r).minute = s.clock.site / 60 from congrArg (·.site / 60) clock]
        exact Nat.le_of_eq now
      rw [run, State.testDue, if_pos due]
end

section
/-!
PROOF. Looking a record up, and START_LIFT with its checks (R151 to R153).
-/
namespace Sys2Proof.Machine

variable {s : State} {q : Requester} {id : Nat} {b : Booking} {c : Crane}

/-! ### The record of an id, and the running lift of a crane -/

theorem findLift_eq_none : s.findLift id = none ↔ ∀ b ∈ s.bookings, b.id ≠ id := by
  simp [State.findLift]

theorem findLift_first {before after : List Booking} (split : s.bookings = before ++ b :: after) (here : b.id = id)
    (first : ∀ r ∈ before, r.id ≠ id) : s.findLift id = some b :=
  List.find?_eq_some_iff_append.mpr ⟨decide_eq_true here, before, after, split, fun r member => by simpa using first r member⟩

theorem runningLift_eq_none : s.runningLift c = none ↔ ∀ b ∈ s.bookings, b.crane = c → b.running = false := by
  rw [State.runningLift, List.find?_eq_none]
  refine forall_congr' fun b => forall_congr' fun _ => ?_
  cases b.running <;> simp

theorem runningLift_first {before after : List Booking} (split : s.bookings = before ++ b :: after) (own : b.crane = c)
    (running : b.running = true) (first : ∀ r ∈ before, r.crane = c → r.running = false) : s.runningLift c = some b := by
  refine List.find?_eq_some_iff_append.mpr ⟨by simp [own, running], before, after, split, fun r member => ?_⟩
  by_cases here : r.crane = c
  · simp [first r member here]
  · simp [here]

/-! ### START_LIFT (R152) -/

theorem start_supervisor : start .supervisor id s = (s, answer .notPermitted) := rfl

theorem start_unknown (none : s.findLift id = none) : start (.crane c) id s = (s, answer .notFound) := by
  rw [start, none]

section
variable (found : s.findLift id = some b)
include found

theorem start_foreign (foreign : b.crane ≠ c) : start (.crane c) id s = (s, answer .notPermitted) := by
  rw [start, found]
  exact if_pos foreign

variable (own : b.crane = c)
include own

theorem start_late (notBooked : b.state ≠ .booked) : start (.crane c) id s = (s, ⟨.badState, [f2 0]⟩) := by
  rw [start, found]
  dsimp only
  rw [if_neg (Classical.not_not.mpr own), if_pos notBooked]

variable (booked : b.state = .booked)
include booked

theorem start_refused {a : Answer} (check : s.startCheck c b = some a) : start (.crane c) id s = (s, a) := by
  rw [start, found]
  dsimp only
  rw [if_neg (Classical.not_not.mpr own), if_neg (Classical.not_not.mpr booked), check]

theorem start_done (check : s.startCheck c b = none) : start (.crane c) id s =
    ((s.putLift { b with state := .active, changedAt := s.clock.site, changedBy := .crane c }).setLastConf c none,
      okWith [f2 id]) := by
  rw [start, found]
  dsimp only
  rw [if_neg (Classical.not_not.mpr own), if_neg (Classical.not_not.mpr booked), check]
  rfl

end

/-! ### The checks of START_LIFT, in their order -/

/-- What makes a path cell's partner busy (check 7). -/
def State.busyPartner (s : State) (p : PairKind × CellId) : Prop := s.blocks p = true ∨ s.onRunningPath p.2 = true

theorem busyPath_none {path : List Sector} (free : ∀ x ∈ path, ∀ p ∈ s.partners ⟨c, x⟩, ¬ s.busyPartner p) :
    s.busyPath c path = none := by
  rw [State.busyPath, List.findSome?_eq_none_iff]
  intro x member
  rw [Option.map_eq_none_iff, List.find?_eq_none]
  exact fun p partner busy => free x member p partner ((Bool.or_eq_true ..).mp busy)

theorem busyPath_first {path before after : List Sector} {x : Sector} (split : path = before ++ x :: after)
    (free : ∀ y ∈ before, ∀ p ∈ s.partners ⟨c, y⟩, ¬ s.busyPartner p) {front back : List (PairKind × CellId)} {p : PairKind × CellId}
    (partners : s.partners ⟨c, x⟩ = front ++ p :: back) (idle : ∀ r ∈ front, ¬ s.busyPartner r) (busy : s.busyPartner p) :
    s.busyPath c path = some (x, p.2.crane) := by
  rw [State.busyPath, List.findSome?_eq_some_iff]
  refine ⟨before, x, after, split, ?_, fun y member => ?_⟩
  · have found : (s.partners ⟨c, x⟩).find? (fun p => s.blocks p || s.onRunningPath p.2) = some p :=
      List.find?_eq_some_iff_append.mpr ⟨(Bool.or_eq_true _ _).mpr busy, front, back, partners, fun r member => by
        rw [Bool.not_eq_true', Bool.eq_false_iff]
        exact fun h => idle r member ((Bool.or_eq_true _ _).mp h)⟩
    rw [found]
    rfl
  · rw [Option.map_eq_none_iff, List.find?_eq_none]
    exact fun r partner h => free y member r partner ((Bool.or_eq_true ..).mp h)

/-- The wind of a crane allows a lift of the class (check 6). -/
theorem verdict_over_iff (r : WindRec) (e : CraneEntry) (a : AreaClass) : r.verdict e a = .overLimit ↔
    ¬ (r.unknown = false ∧ (r.state = .calm ∨ r.state = .caution) ∧ r.gust < e.classLimit a) := by
  have limit : r.verdict e a = .overLimit ↔ (r.unknown || decide (2 ≤ r.state.code) || decide (e.classLimit a ≤ r.gust)) = true := by
    unfold WindRec.verdict
    split
    next reached => exact iff_of_true rfl reached
    next below => split <;> exact iff_of_false nofun below
  rw [limit, overLimit_iff]
  cases r.unknown <;> cases r.state <;> simp

theorem startCheck_congr {v : State} (touched : Touches [.alerts, .port] s v) (c : Crane) (b : Booking) :
    v.startCheck c b = s.startCheck c b := by
  simp only [State.startCheck, State.busyPath, State.partners, State.blocks, State.cell, State.onRunningPath, State.runningLift,
    State.stopSet, State.inState, State.svc, State.windRec, State.entry, State.params, State.minute, touched.plan_eq (by decide),
    touched.bookings_eq (by decide), touched.clock_eq (by decide), touched.cells_eq (by decide), touched.stops_eq (by decide),
    touched.service_eq (by decide), touched.wind_eq (by decide), touched.site_eq (by decide)]
  rfl

section
variable (early : b.data.start ≤ s.clock.site / 60 + s.plan.committed.site.early)

theorem startCheck_early (ahead : s.clock.site / 60 + s.plan.committed.site.early < b.data.start) :
    s.startCheck c b = some ⟨.badState, [f2 0]⟩ := if_pos ahead

include early

theorem startCheck_late (passed : b.data.start + b.data.length ≤ s.clock.site / 60) :
    s.startCheck c b = some (answer .tooLate) :=
  (if_neg (Nat.not_lt.mpr early)).trans (if_pos (decide_eq_true passed))

variable (late : s.clock.site / 60 < b.data.start + b.data.length)
include late

theorem startCheck_timely : s.startCheck c b =
    if s.site ≠ .opened then some (answer .siteClosed)
    else if s.inState c .inService = false then some ⟨.badState, [f2 0]⟩
    else if (s.stopSet c).isEmpty = false then some (answer .stopped)
    else match s.runningLift c with
      | some r => some ⟨.badState, [f2 r.id]⟩
      | none =>
        if (s.windRec c).verdict (s.entry c) b.data.cls = .overLimit then
          some ⟨.wind, [f2 (s.windRec c).gust, f2 ((s.entry c).classLimit b.data.cls)]⟩
        else (s.busyPath c b.data.path).map (fun p => ⟨.pathBusy, [fSector p.1, fCrane p.2]⟩) := by
  have open_ : ¬ b.data.passed s.minute = true := fun passed => absurd (passed_minute.mp passed) (Nat.not_le.mpr late)
  exact (if_neg (Nat.not_lt.mpr early)).trans (if_neg open_)

theorem startCheck_closed (closed : s.site ≠ .opened) : s.startCheck c b = some (answer .siteClosed) := by
  rw [startCheck_timely early late, if_pos closed]

variable (opened : s.site = .opened)
include opened

theorem startCheck_idle (out : s.inState c .inService = false) : s.startCheck c b = some ⟨.badState, [f2 0]⟩ := by
  rw [startCheck_timely early late, if_neg (Classical.not_not.mpr opened), if_pos out]

variable (serves : s.inState c .inService = true)
include serves

theorem startCheck_stopped (stopped : s.stopSet c ≠ []) : s.startCheck c b = some (answer .stopped) := by
  rw [startCheck_timely early late, if_neg (Classical.not_not.mpr opened), if_neg (by simp [serves]), if_pos (by simpa using stopped)]

variable (moves : s.stopSet c = [])
include moves

theorem startCheck_lift {r : Booking} (lift : s.runningLift c = some r) : s.startCheck c b = some ⟨.badState, [f2 r.id]⟩ := by
  rw [startCheck_timely early late, if_neg (Classical.not_not.mpr opened), if_neg (by simp [serves]), if_neg (by simp [moves]), lift]

variable (free : s.runningLift c = none)
include free

theorem startCheck_free : s.startCheck c b =
    if (s.windRec c).verdict (s.entry c) b.data.cls = .overLimit then
      some ⟨.wind, [f2 (s.windRec c).gust, f2 ((s.entry c).classLimit b.data.cls)]⟩
    else (s.busyPath c b.data.path).map (fun p => ⟨.pathBusy, [fSector p.1, fCrane p.2]⟩) := by
  rw [startCheck_timely early late, if_neg (Classical.not_not.mpr opened), if_neg (by simp [serves]), if_neg (by simp [moves]), free]

end

end Sys2Proof.Machine

open Sys2Proof Sys2Proof.Machine

/-- Settles O44: CANCEL_LIFT, LOCK_LIFT and UNLOCK_LIFT, and the operations on the table. -/
theorem cancelAndLock : Obligations.CancelAndLock := by
  unfold Obligations.CancelAndLock
  refine ⟨fun s q id heard => ?_, ⟨fun b q => allows_iff, fun b => ⟨running_iff, fun rs => Booking.reasons_suspended, fun other => ?_⟩,
    fun s => ⟨fun id => ⟨findLift_eq_none, fun before b after => findLift_first⟩,
      fun c => ⟨runningLift_eq_none, fun before b after => runningLift_first⟩, fun b => rfl, freeLift_eq s, fun b e rs => rfl⟩⟩⟩
  · intro answers cancels v lock
    have cancelled {t : State} {a : Answer} (h : cancel q id (v cancels) = (t, a)) : answers cancels t a :=
      replied_of (exec_cancelLift heard id) h
    have locked (on : Bool) {t : State} {a : Answer} (h : setLock on q id (v (lock on)) = (t, a)) : answers (lock on) t a := by
      cases on
      · exact replied_of (exec_unlockLift heard id) h
      · exact replied_of (exec_lockLift heard id) h
    have lift (i : Instr) (b : Option Booking) (h : s.findLift id = b) : (v i).findLift id = b := (findLift_asked q i s id).trans h
    refine ⟨fun none => ⟨cancelled (cancel_unknown (lift _ _ none)), fun on => locked on ?_⟩, fun b found => ?_⟩
    · by_cases supervisor : q = .supervisor
      · rw [if_pos supervisor]
        have unknown := setLock_unknown on (lift (lock on) _ none)
        rwa [← supervisor] at unknown
      · rw [if_neg supervisor]
        exact setLock_crane on supervisor
    · have here := lift cancels _ found
      refine ⟨fun foreign => cancelled (cancel_foreign here foreign), fun own running => cancelled (cancel_running here own running),
        fun own idle crane fixed => cancelled (cancel_locked here own idle crane fixed), fun own idle crane free => cancelled ?_,
        fun idle supervisor => cancelled ?_, fun on crane => locked on (setLock_crane on crane), fun on supervisor => locked on ?_⟩
      · rw [cancel_done here own idle (.inr free), if_neg crane]
      · rw [cancel_done here (allows_iff.mpr (.inl supervisor)) idle (.inl supervisor), if_pos supervisor]
      · have done := setLock_found on (lift (lock on) _ found)
        rw [show (v (lock on)).clock = s.clock from clock_asked q _ s] at done
        rwa [← supervisor] at done
  · rw [Booking.reasons]
    cases state : b.state with
    | suspended rs => exact absurd state (other rs)
    | pending t | booked | active => rfl

/-- Settles O45: START_LIFT, and its checks in their order. -/
theorem startMakesActive : Obligations.StartMakesActive := by
  unfold Obligations.StartMakesActive
  refine ⟨fun s q id heard => ?_, fun s c b => ?_⟩
  · intro i v answers
    have answered {t : State} {a : Answer} (h : start q id v = (t, a)) : answers t a := replied_of (exec_startLift heard id) h
    have lift (b : Option Booking) (h : s.findLift id = b) : v.findLift id = b := (findLift_asked q i s id).trans h
    have clock : v.clock = s.clock := clock_asked q i s
    have touched : Touches [.alerts, .port] s v := touches_asked q i s
    refine ⟨fun supervisor => answered (supervisor ▸ start_supervisor), fun c crane => ?_⟩
    have answered {t : State} {a : Answer} (h : start (.crane c) id v = (t, a)) : answers t a := answered (crane ▸ h)
    refine ⟨fun none => answered (start_unknown (lift _ none)), fun b found => ?_⟩
    have found := lift _ found
    refine ⟨fun foreign => answered (start_foreign found foreign), fun own notBooked => answered (start_late found own notBooked),
      fun own booked => ⟨fun a check => answered (start_refused found own booked ?_), fun check => ?_⟩⟩
    · exact (startCheck_congr touched c b).trans check
    · have done := start_done found own booked ((startCheck_congr touched c b).trans check)
      rw [clock] at done
      rw [crane]
      exact answered done
  · intro n d w limit fails timely serving calm busy
    refine ⟨startCheck_early, startCheck_late, fun ⟨early, late⟩ => startCheck_closed early late,
      fun ⟨early, late⟩ => startCheck_idle early late, fun ⟨early, late⟩ => startCheck_stopped early late,
      fun ⟨early, late⟩ ⟨opened, serves, moves⟩ r => startCheck_lift early late opened serves moves,
      fun ⟨early, late⟩ ⟨opened, serves, moves⟩ free wild => ?_, fun ⟨early, late⟩ ⟨opened, serves, moves⟩ free calm_ =>
        ⟨fun before x after split idle front p back partners first busy_ => ?_, fun idle => ?_⟩⟩
    · exact (startCheck_free early late opened serves moves free).trans (if_pos ((verdict_over_iff _ _ _).mpr wild))
    · have path : s.busyPath c b.data.path = some (x, p.2.crane) := busyPath_first split idle partners first busy_
      refine (startCheck_free early late opened serves moves free).trans
        ((if_neg (fun over_ => (verdict_over_iff _ _ _).mp over_ calm_)).trans ?_)
      rw [path]
      rfl
    · have path : s.busyPath c b.data.path = none := busyPath_none idle
      refine (startCheck_free early late opened serves moves free).trans
        ((if_neg (fun over_ => (verdict_over_iff _ _ _).mp over_ calm_)).trans ?_)
      rw [path]
      rfl
end

section
/-!
PROOF. The lift requests on a running record, FINISH_LIFT, LAND_LIFT, SUSPEND_LIFT and RESUME_LIFT (R157, R158, R160, R161), and the
two that read the table, QUERY_LIFT and LIST_LIFTS (R148, R149).
-/
namespace Sys2Proof.Machine

variable {s : State} {q : Requester} {id : Nat} {b : Booking} {c : Crane}

/-! ### FINISH_LIFT and LAND_LIFT (R160) -/

section
variable (terminal : Nat)

theorem endRunning_unknown (none : s.findLift id = none) : endRunning terminal q id s = (s, answer .notFound) := by
  rw [endRunning, none]

variable (found : s.findLift id = some b)
include found

theorem endRunning_foreign (foreign : b.allows q = false) : endRunning terminal q id s = (s, answer .notPermitted) := by
  rw [endRunning, found]
  exact if_pos foreign

variable (own : b.allows q = true)
include own

theorem endRunning_idle (idle : b.running = false) : endRunning terminal q id s = (s, answer .badState) := by
  rw [endRunning, found]
  dsimp only
  rw [if_neg (by simp [own]), if_neg (by simp [idle])]

theorem endRunning_done (running : b.running = true) : endRunning terminal q id s = (s.endLift b, okWith [f1 terminal]) := by
  rw [endRunning, found]
  dsimp only
  rw [if_neg (by simp [own]), if_pos running]

end

theorem finish_crane (crane : q ≠ .supervisor) : finish q id s = endRunning 4 q id s := by
  cases q with
  | supervisor => exact absurd rfl crane
  | crane c => rfl

theorem finish_supervisor (supervisor : q = .supervisor) : finish q id s = (s, answer .notPermitted) := by
  rw [supervisor, finish]

/-! ### SUSPEND_LIFT (R157) -/

theorem findLift_putLift {r : Booking} (found : s.findLift id = some b) (same : r.id = id) : (s.putLift r).findLift id = some r := by
  have replaced := find_map_replaced (b' := r) (decide_eq_true same) s.bookings found
  rw [findLift_id found, ← same] at replaced
  rw [← same]
  exact replaced

theorem suspend_crane (crane : q ≠ .supervisor) : suspend q id s = (s, answer .notPermitted) := by
  cases q with
  | supervisor => exact absurd rfl crane
  | crane c => rfl

theorem suspend_unknown (none : s.findLift id = none) : suspend .supervisor id s = (s, answer .notFound) := by
  rw [suspend, none]

section
variable (found : s.findLift id = some b)
include found

theorem suspend_idle (idle : b.running = false) : suspend .supervisor id s = (s, answer .badState) := by
  rw [suspend, found]
  exact if_neg (by simp [idle])

/-- The record as SUSPEND_LIFT stamps it. -/
theorem suspend_running (running : b.running = true) {t : State} {r : Booking}
    (added : (s.putLift (b.stamp s .supervisor)).addReason (b.stamp s .supervisor) .supervisor = t) (after : t.findLift id = some r) :
    suspend .supervisor id s = (t, okWith r.state.reasonFields) := by
  rw [suspend, found]
  dsimp only
  rw [if_pos running, added, after]

theorem suspend_active (active : b.state = .active) : suspend .supervisor id s =
    (((s.putLift (b.stamp s .supervisor)).putLift { b.stamp s .supervisor with state := .suspended [.supervisor] }).notifyLift
      (b.stamp s .supervisor) .suspended [.supervisor], okWith [f1 3, fSusps [.supervisor]]) := by
  have here : b.id = id := findLift_id found
  have stamped : (s.putLift (b.stamp s .supervisor)).findLift id = some (b.stamp s .supervisor) := findLift_putLift found here
  have put : ((s.putLift (b.stamp s .supervisor)).putLift { b.stamp s .supervisor with state := .suspended [.supervisor] }).findLift
      id = some { b.stamp s .supervisor with state := .suspended [.supervisor] } := findLift_putLift stamped here
  refine suspend_running found (running_iff.mpr (.inl active)) (addReason_active (b := b.stamp s .supervisor) active .supervisor)
    (r := { b.stamp s .supervisor with state := .suspended [.supervisor] }) ?_
  rw [← put, State.findLift, (touches_notifyLift _ _ _ _).bookings_eq (by decide)]
  rfl

theorem suspend_suspended {rs : List SuspReason} (suspended : b.state = .suspended rs) : suspend .supervisor id s =
    ((s.putLift (b.stamp s .supervisor)).putLift
      { b.stamp s .supervisor with state := .suspended (setAdd SuspReason.all .supervisor rs) },
      okWith [f1 3, fSusps (setAdd SuspReason.all .supervisor rs)]) := by
  have here : b.id = id := findLift_id found
  have stamped : (s.putLift (b.stamp s .supervisor)).findLift id = some (b.stamp s .supervisor) := findLift_putLift found here
  exact suspend_running found (running_iff.mpr (.inr ⟨rs, suspended⟩)) (addReason_suspended (b := b.stamp s .supervisor) suspended .supervisor)
    (findLift_putLift stamped here)

end

/-! ### RESUME_LIFT (R158) -/

theorem resume_unknown (none : s.findLift id = none) : resume q id s = (s, answer .notFound) := by
  rw [resume, none]

section
variable (found : s.findLift id = some b)
include found

theorem resume_foreign (foreign : b.allows q = false) : resume q id s = (s, answer .notPermitted) := by
  rw [resume, found]
  exact if_pos foreign

variable (own : b.allows q = true)
include own

theorem resume_other (other : ∀ rs, b.state ≠ .suspended rs) : resume q id s = (s, answer .badState) := by
  rw [resume, found]
  dsimp only
  rw [if_neg (by simp [own])]
  cases state : b.state with
  | suspended rs => exact absurd state (other rs)
  | pending t | booked | active => rfl

variable {rs : List SuspReason} (suspended : b.state = .suspended rs)
include suspended

theorem resume_freed (left : s.resumedReasons q b rs = []) : resume q id s =
    (s.putLift { b with state := .active, changedAt := s.clock.site, changedBy := q }, okWith [f1 2, fSusps []]) := by
  rw [resume, found]
  dsimp only
  rw [if_neg (by simp [own]), suspended]
  dsimp only
  rw [left]
  rfl

theorem resume_held (left : s.resumedReasons q b rs ≠ []) : resume q id s =
    (s.putLift { b with state := .suspended (s.resumedReasons q b rs), changedAt := s.clock.site, changedBy := q },
      okWith [f1 3, fSusps (s.resumedReasons q b rs)]) := by
  rw [resume, found]
  dsimp only
  rw [if_neg (by simp [own]), suspended]
  dsimp only
  rw [if_neg (by simpa using left)]
  rfl

end

/-- The reason a requester's RESUME_LIFT takes off. -/
def State.ownReason (s : State) (q : Requester) (b : Booking) (r : SuspReason) : Prop :=
  q = .supervisor ∧ r = .supervisor ∨ q ≠ .supervisor ∧ r = .nonconform ∧ tget s.lastConf b.crane = some .conforms

theorem resumedReasons_sublist (s : State) (q : Requester) (b : Booking) (rs : List SuspReason) :
    List.Sublist (s.resumedReasons q b rs) rs := by
  unfold State.resumedReasons
  split
  · rw [setDel_eq_filter]
    exact List.filter_sublist
  · split
    · rw [setDel_eq_filter]
      exact List.filter_sublist
    · exact List.Sublist.refl rs

theorem mem_resumedReasons {rs : List SuspReason} {r : SuspReason} :
    r ∈ s.resumedReasons q b rs ↔ r ∈ rs ∧ ¬ s.ownReason q b r := by
  unfold State.resumedReasons State.ownReason
  cases q with
  | supervisor => simp [setDel_eq_filter]
  | crane c =>
    dsimp only
    split
    next conforms => simp [setDel_eq_filter, conforms]
    next other => simp [other]

/-! ### QUERY_LIFT (R148) -/

theorem queryRecord_unknown (none : s.findLift id = none) : queryRecord q id s = (s, answer .notFound) := by
  rw [queryRecord, none]

theorem queryRecord_foreign (found : s.findLift id = some b) (foreign : b.allows q = false) :
    queryRecord q id s = (s, answer .notPermitted) := by
  rw [queryRecord, found]
  exact if_pos foreign

/-- The seconds, in ms, to a PENDING record's deadline, and the reasons of a SUSPENDED one. -/
def State.leftOf (s : State) (b : Booking) : Option Nat :=
  match b.state with
  | .pending t => some (s.remaining t)
  | .booked | .active | .suspended _ => none

theorem queryRecord_found (found : s.findLift id = some b) (own : b.allows q = true) : queryRecord q id s =
    (s, okWith
      ([f2 b.id, fCrane b.crane, f1 b.state.code] ++ b.data.fields ++
        [f1 (requesterNumber b.originator), f1 (flag b.locked + 2 * flag b.due + 4 * flag b.overrun), fSusps b.reasons,
          fOpt 4 (s.leftOf b), f4 b.changedAt, f1 (requesterNumber b.changedBy),
          fOpt 2 (ratedLoad (tget s.plan.committed.charts b.crane) b.data.reach),
          f2 ((s.entry b.crane).classLimit b.data.cls)])) := by
  rw [queryRecord, found]
  dsimp only
  rw [if_neg (by simp [own])]
  rfl

theorem fOpt_two (v : Option Nat) : fOpt 2 v = f2 (v.getD 65535) := rfl

theorem fOpt_four (v : Option Nat) : fOpt 4 v = f4 (v.getD 4294967295) := rfl

theorem fFlag_isSome (v : Option Nat) : fFlag v.isSome = f1 (if v = none then 0 else 1) := by
  cases v <;> rfl

/-- The fields of a record, one after the other. -/
theorem queryRecord_fields (s : State) (b : Booking) :
    [f2 b.id, fCrane b.crane, f1 b.state.code] ++ b.data.fields ++
        [f1 (requesterNumber b.originator), f1 (flag b.locked + 2 * flag b.due + 4 * flag b.overrun), fSusps b.reasons,
          fOpt 4 (s.leftOf b), f4 b.changedAt, f1 (requesterNumber b.changedBy),
          fOpt 2 (ratedLoad (tget s.plan.committed.charts b.crane) b.data.reach),
          f2 ((s.entry b.crane).classLimit b.data.cls)] =
      [f2 b.id, f1 b.crane.val, f1 b.state.code, f4 b.data.start, f1 b.data.length, f2 b.data.mass, f1 b.data.cls.code,
          f2 b.data.reach, f1 b.data.path.length] ++ b.data.path.map (fun x => f1 x.val) ++
          List.replicate (8 - b.data.path.length) (f1 255) ++
        [f1 (if b.data.tag = none then 0 else 1), f4 (b.data.tag.getD 4294967295), f1 (requesterNumber b.originator),
          f1 (flag b.locked + 2 * flag b.due + 4 * flag b.overrun), fSusps b.reasons, f4 ((s.leftOf b).getD 4294967295),
          f4 b.changedAt, f1 (requesterNumber b.changedBy),
          f2 ((ratedLoad (tget s.plan.committed.charts b.crane) b.data.reach).getD 65535),
          f2 ((s.entry b.crane).classLimit b.data.cls)] := by
  rw [LiftData.fields, fFlag_isSome, fOpt_four, fOpt_four, fOpt_two]
  simp only [List.append_assoc, List.cons_append, List.nil_append]
  rfl

/-! ### LIST_LIFTS (R149) -/

theorem listRecords_badSelector {sel flt n : Nat} (bad : selectorOf q sel = none) : listRecords q sel flt n s = (s, answer .badValue) := by
  rw [listRecords, bad]

theorem listRecords_badFilter {sel flt n : Nat} (bad : flt % 16 = 0 ∨ n = 0) : listRecords q sel flt n s = (s, answer .badValue) := by
  unfold listRecords
  split
  · rfl
  · exact if_pos bad

/-- The ids that match a LIST_LIFTS, in table order. -/
def State.matching (s : State) (sel : Selector) (flt n : Nat) : List Nat :=
  (s.bookings.filter (fun b => b.matches sel flt n)).map Booking.id

section
variable {sel flt n : Nat} {chosen : Selector} (read : selectorOf q sel = some chosen) (some_ : flt % 16 ≠ 0) (from_ : n ≠ 0)
include read some_ from_

theorem listRecords_all (few : (s.matching chosen flt n).length ≤ 8) : listRecords q sel flt n s =
    (s, okWith (f1 (s.matching chosen flt n).length :: (s.matching chosen flt n).map f2 ++ [f2 0])) := by
  have bad : ¬ (flt % 16 = 0 ∨ n = 0) := not_or.mpr ⟨some_, from_⟩
  rw [listRecords, read]
  dsimp only
  rw [if_neg bad]
  show (s, okWith (f1 ((s.matching chosen flt n).take 8).length :: ((s.matching chosen flt n).take 8).map f2 ++
    [f2 (if (s.matching chosen flt n).length ≤ 8 then 0 else _)])) = _
  rw [if_pos few, List.take_of_length_le few]

theorem listRecords_more {k : Nat} (many : 8 < (s.matching chosen flt n).length) (last : (s.matching chosen flt n)[7]? = some k) :
    listRecords q sel flt n s =
      (s, okWith (f1 8 :: ((s.matching chosen flt n).take 8).map f2 ++ [f2 (k + 1)])) := by
  have bad : ¬ (flt % 16 = 0 ∨ n = 0) := not_or.mpr ⟨some_, from_⟩
  have length : ((s.matching chosen flt n).take 8).length = 8 := by
    rw [List.length_take]
    omega
  have eighth : ((s.matching chosen flt n).take 8).getLast? = some k := by
    rw [List.getLast?_take, if_neg (by decide), last]
    rfl
  rw [listRecords, read]
  dsimp only
  rw [if_neg bad]
  show (s, okWith (f1 ((s.matching chosen flt n).take 8).length :: ((s.matching chosen flt n).take 8).map f2 ++
    [f2 (if (s.matching chosen flt n).length ≤ 8 then 0 else match ((s.matching chosen flt n).take 8).getLast? with
      | some k => k + 1
      | none => 0)])) = _
  rw [if_neg (by omega), eighth, length]

end

theorem mem_matching {chosen : Selector} {flt n k : Nat} : k ∈ s.matching chosen flt n ↔
    ∃ b ∈ s.bookings, b.id = k ∧ n ≤ b.id ∧ flt.testBit b.state.code = true ∧ (chosen = .all ∨ chosen = .one b.crane) := by
  simp only [State.matching, List.mem_map, List.mem_filter, Booking.matches, Bool.and_eq_true, decide_eq_true_iff]
  refine exists_congr fun b => ?_
  cases chosen with
  | all => simp [and_comm, and_left_comm]
  | one c =>
    simp only [decide_eq_true_iff, reduceCtorEq, false_or, Selector.one.injEq]
    rw [eq_comm (a := c)]
    grind

theorem exists_selector {sel : Nat} (place : q = .supervisor → sel < 8 ∨ sel = 255) : ∃ chosen, selectorOf q sel = some chosen := by
  cases q with
  | crane c => exact ⟨.one c, rfl⟩
  | supervisor =>
    rw [selectorOf]
    by_cases every : sel = 255
    · exact ⟨.all, if_pos every⟩
    · have near := (place rfl).resolve_right every
      exact ⟨.one ⟨sel, near⟩, (if_neg every).trans (by rw [craneOf, dif_pos near]; rfl)⟩

theorem selectorOf_iff {sel : Nat} {chosen : Selector} (read : selectorOf q sel = some chosen) (c : Crane) :
    chosen = .all ∨ chosen = .one c ↔ q = .crane c ∨ q = .supervisor ∧ (sel = 255 ∨ sel = c.val) := by
  cases q with
  | crane d =>
    cases read
    simp
  | supervisor =>
    unfold selectorOf at read
    dsimp only at read
    split at read
    next every =>
      cases read
      simp [every]
    next one =>
      obtain ⟨d, place, rfl⟩ := Option.map_eq_some_iff.mp read
      obtain rfl := craneOf_iff.mp place
      simp [one, Fin.ext_iff]

end Sys2Proof.Machine

open Sys2Proof Sys2Proof.Machine

/-- Settles O46: FINISH_LIFT and LAND_LIFT. -/
theorem runningLiftEnds : Obligations.RunningLiftEnds := by
  unfold Obligations.RunningLiftEnds
  intro s q id heard answers both v
  have finished {t : State} {a : Answer} (h : finish q id (v (.finishLift q id)) = (t, a)) : answers (.finishLift q id) t a :=
    replied_of (exec_finishLift heard id) h
  have landed {t : State} {a : Answer} (h : land q id (v (.landLift q id)) = (t, a)) : answers (.landLift q id) t a :=
    replied_of (exec_landLift heard id) h
  have ended (t : Instr → State) (a : Nat → Answer)
      (run : ∀ i terminal, endRunning terminal q id (v i) = (t i, a terminal)) : both t a :=
    ⟨fun crane => finished ((finish_crane crane).trans (run _ 4)), landed (run _ 5)⟩
  have lift (i : Instr) (b : Option Booking) (h : s.findLift id = b) : (v i).findLift id = b := (findLift_asked q i s id).trans h
  refine ⟨fun supervisor => finished (finish_supervisor supervisor),
    fun none => ended v (fun _ => answer .notFound) fun i k => endRunning_unknown k (lift i _ none), fun b found =>
      ⟨fun foreign => ended v (fun _ => answer .notPermitted) fun i k => endRunning_foreign k (lift i _ found) foreign,
        fun own idle => ended v (fun _ => answer .badState) fun i k => endRunning_idle k (lift i _ found) own idle,
        fun own running => ?_⟩⟩
  have done (i : Instr) (k : Nat) := endRunning_done k (lift i _ found) own running
  have freed (i : Instr) : (v i).endLift b = ((((((v i).withBookings (s.bookings.filter (fun r => decide (r.id ≠ b.id)))).setLastConf
      b.crane none).withdraw .nonconform b.crane).withdraw .overrun b.crane).reviewOffPath b.crane).arbitrate := by
    rw [State.endLift, freeLift_eq, show (v i).bookings = s.bookings from (touches_asked q i s).bookings_eq (by decide)]
  simp only [freed] at done
  exact ⟨fun crane => finished ((finish_crane crane).trans (done _ 4)), landed (done _ 5)⟩

/-- Settles O47: SUSPEND_LIFT and RESUME_LIFT. -/
theorem suspendAndResume : Obligations.SuspendAndResume := by
  unfold Obligations.SuspendAndResume
  refine ⟨fun s q id heard => ?_, fun s q id heard => ?_⟩
  · intro i v answers
    have answered {t : State} {a : Answer} (h : suspend q id v = (t, a)) : answers t a := replied_of (exec_suspendLift heard id) h
    have lift (b : Option Booking) (h : s.findLift id = b) : v.findLift id = b := (findLift_asked q i s id).trans h
    have clock : v.clock = s.clock := clock_asked q i s
    refine ⟨fun crane => answered (suspend_crane crane), fun supervisor => ?_⟩
    have answered {t : State} {a : Answer} (h : suspend .supervisor id v = (t, a)) : answers t a := answered (supervisor ▸ h)
    refine ⟨fun none => answered (suspend_unknown (lift _ none)), fun b found => ?_⟩
    intro r
    have found := lift _ found
    have stamped : b.stamp v .supervisor = r := by rw [Booking.stamp, clock, ← supervisor]
    refine ⟨fun idle => answered (suspend_idle found idle), fun active => ?_, fun rs suspended => ?_⟩
    · have done := suspend_active found active
      rw [stamped] at done
      exact answered done
    · have done := suspend_suspended found suspended
      rw [stamped] at done
      exact answered done
  · intro i v answers
    have answered {t : State} {a : Answer} (h : resume q id v = (t, a)) : answers t a := replied_of (exec_resumeLift heard id) h
    have lift (b : Option Booking) (h : s.findLift id = b) : v.findLift id = b := (findLift_asked q i s id).trans h
    have clock : v.clock = s.clock := clock_asked q i s
    have lastConf : v.lastConf = s.lastConf := (touches_asked q i s).lastConf_eq (by decide)
    refine ⟨fun none => answered (resume_unknown (lift _ none)), fun b found => ?_⟩
    have found := lift _ found
    refine ⟨fun foreign => answered (resume_foreign found foreign), fun own other => answered (resume_other found own other),
      fun rs own suspended => ⟨v.resumedReasons q b rs, resumedReasons_sublist v q b rs, fun r => ?_, fun left => ?_, fun left => ?_⟩⟩
    · rw [mem_resumedReasons, State.ownReason, lastConf]
    · have done := resume_freed found own suspended left
      rw [clock] at done
      exact answered done
    · have done := resume_held found own suspended left
      rw [clock] at done
      exact answered done

/-- Settles O48: QUERY_LIFT and LIST_LIFTS. -/
theorem liftsRead : Obligations.LiftsRead := by
  unfold Obligations.LiftsRead
  refine fun s q heard => ⟨fun id => ?_, fun sel flt n => ?_⟩
  · intro i answers
    have answered {a : Answer} (h : queryRecord q id (q.asked i s) = (q.asked i s, a)) : answers a :=
      replied_of (exec_queryLift heard id) h
    have touched : Touches [.alerts, .port] s (q.asked i s) := touches_asked q i s
    have lift (b : Option Booking) (h : s.findLift id = b) : (q.asked i s).findLift id = b := (findLift_asked q i s id).trans h
    refine ⟨fun none => answered (queryRecord_unknown (lift _ none)), fun b found =>
      ⟨fun foreign => answered (queryRecord_foreign (lift _ found) foreign), fun own => ?_⟩⟩
    intro reasons left load d number
    have done := queryRecord_found (lift _ found) own
    have reasons_eq : b.reasons = reasons := by
      rw [Booking.reasons]
      cases state : b.state <;> simp only [reasons, state]
    have left_eq : ((q.asked i s).leftOf b).getD 4294967295 = left := by
      unfold State.leftOf State.remaining State.now
      rw [touched.clock_eq (by decide)]
      cases state : b.state <;> simp only [left, state] <;> rfl
    have number_eq : requesterNumber = number := funext fun r => by cases r <;> rfl
    rw [queryRecord_fields, reasons_eq, left_eq, number_eq, touched.plan_eq (by decide), State.entry, touched.plan_eq (by decide)]
      at done
    exact answered done
  · intro i answers chosen
    have answered {a : Answer} (h : listRecords q sel flt n (q.asked i s) = (q.asked i s, a)) : answers a :=
      replied_of (exec_listLifts heard sel flt n) h
    have table : (q.asked i s).bookings = s.bookings := (touches_asked q i s).bookings_eq (by decide)
    refine ⟨fun bad => ?_, fun some_ from_ place => ?_⟩
    · rcases bad with filter | zero | ⟨supervisor, far, notAll⟩
      · exact answered (listRecords_badFilter (.inl filter))
      · exact answered (listRecords_badFilter (.inr zero))
      · refine answered (listRecords_badSelector ?_)
        subst supervisor
        rw [selectorOf, if_neg notAll, craneOf, dif_neg (Nat.not_lt.mpr far)]
        rfl
    · obtain ⟨sel', read⟩ := exists_selector place
      have matching : (q.asked i s).matching sel' flt n = s.matching sel' flt n := by
        rw [State.matching, table]
        rfl
      refine ⟨s.matching sel' flt n, List.filter_sublist.map _, fun k => ?_, fun few => ?_, fun k many last => ?_⟩
      · rw [mem_matching]
        simp only [selectorOf_iff read]
        rfl
      · rw [← matching] at few ⊢
        exact answered (listRecords_all read some_ from_ few)
      · rw [← matching] at many last ⊢
        exact answered (listRecords_more read some_ from_ many last)
end

section
/-!
PROOF. The laws of the cell table under each change of cells (R54 to R56, R62, R69): what a cell may become beside the cells of the
other cranes, and how many cells of a crane are HELD after a change.
-/
namespace Sys2Proof.Machine

variable {s t : State} {q o : CellId} {c : Crane}

/-! ### Partners -/

theorem partners_apart {k : PairKind} (h : (k, o) ∈ s.partners q) : o.crane ≠ q.crane := by
  rw [State.partners, mem_partnersOf] at h
  obtain ⟨r, -, -, -, apart⟩ := h
  exact apart

theorem partners_of_plan (plan : t.plan.committed = s.plan.committed) (q : CellId) : t.partners q = s.partners q := by
  rw [State.partners, plan]
  rfl

/-! ### Running paths -/

theorem onRunningPath_of_lifts {gone : Crane → SuspReason → Prop} (lifts : LiftsFrom gone s t)
    (h : t.onRunningPath q = true) : s.onRunningPath q = true := by
  rw [onRunningPath_iff] at h ⊢
  obtain ⟨b, member, own, state, path⟩ := h
  obtain ⟨a, old, continues⟩ := lifts b member (running_iff.mpr state)
  exact ⟨a, old, continues.crane.trans own, running_iff.mp (continues.running (running_iff.mpr state)), continues.data ▸ path⟩

theorem reserved_of_lifts {gone : Crane → SuspReason → Prop} (plan : t.plan.committed = s.plan.committed) (lifts : LiftsFrom gone s t)
    (h : s.reserved q = false) : t.reserved q = false := by
  rw [State.reserved, List.any_eq_false] at h ⊢
  intro p partner running
  rw [partners_of_plan plan] at partner
  exact h p partner (onRunningPath_of_lifts lifts running)

/-! ### What a cell may become -/

/-- What the cells of the other cranes and the running bookings let a cell be. -/
def State.mayBe (s : State) (q : CellId) (st : CellState) : Prop :=
  (st.granted = true → ∀ o, (PairKind.struct, o) ∈ s.partners q → (s.cell o).state.granted = false) ∧
    (st = .held ∨ st = .clearing →
      (∀ o, (PairKind.hook, o) ∈ s.partners q → (s.cell o).state ≠ .held ∧ (s.cell o).state ≠ .clearing) ∧ s.reserved q = false)

theorem GrantLaw.mayStay (law : GrantLaw s) (q : CellId) : s.mayBe q (s.cell q).state :=
  ⟨fun granted o partner => law.struct_ q o partner granted, fun taken => ⟨fun o partner => law.hook q o partner taken, law.paths q taken⟩⟩

/-- A cell that is HELD or CLEARING may be either. -/
theorem GrantLaw.mayHold (law : GrantLaw s) (taken : (s.cell q).state = .held ∨ (s.cell q).state = .clearing) {st : CellState} :
    s.mayBe q st := by
  obtain ⟨struct_, others⟩ := law.mayStay q
  have granted : (s.cell q).state.granted = true := by rcases taken with state | state <;> rw [state] <;> rfl
  exact ⟨fun _ => struct_ granted, fun _ => others taken⟩

theorem mayBe_left {st : CellState} (left : st = .free ∨ st = .seized) : s.mayBe q st := by
  rcases left with rfl | rfl
  · exact ⟨nofun, fun h => h.elim nofun nofun⟩
  · exact ⟨nofun, fun h => h.elim nofun nofun⟩

theorem blocks_of_blocked {p : PairKind × CellId} (free : s.blocked q = false) (partner : p ∈ s.partners q) : s.blocks p = false := by
  rw [State.blocked, List.any_eq_false] at free
  exact Bool.eq_false_iff.mpr (free p partner)

theorem granted_of_blocks (free : s.blocks (.struct, o) = false) : (s.cell o).state.granted = false := by
  unfold State.blocks at free
  cases state : (s.cell o).state <;> simp [blocksUnder, state] at free <;> rfl

theorem untaken_of_blocks {k : PairKind} (free : s.blocks (k, o) = false) : (s.cell o).state ≠ .held ∧ (s.cell o).state ≠ .clearing := by
  unfold State.blocks at free
  cases k <;> cases state : (s.cell o).state <;> simp [blocksUnder, state] at free <;> exact ⟨nofun, nofun⟩

/-- Conditions (b) and (c) of the grant test (R56). -/
theorem mayBe_of_tests (free : s.blocked q = false) (clear : s.reserved q = false) (st : CellState) : s.mayBe q st :=
  ⟨fun _ _ partner => granted_of_blocks (blocks_of_blocked free partner),
    fun _ => ⟨fun _ partner => untaken_of_blocks (blocks_of_blocked free partner), clear⟩⟩

theorem mayBe_cleared (test : s.clearingTest q = true) : s.mayBe q .clearing := by
  obtain ⟨none, clear⟩ := clearingTest_iff.mp test
  refine ⟨fun _ o partner => ?_, fun _ => ⟨fun o partner => ?_, clear⟩⟩
  · have stands : ¬ ((s.cell o).state = .held ∨ (s.cell o).state = .clearing ∨ (s.cell o).state = .vane ∨
        (s.cell o).state = .parked) := none _ partner
    cases state : (s.cell o).state <;> simp [state] at stands <;> rfl
  · have stands : ¬ ((s.cell o).state = .held ∨ (s.cell o).state = .clearing) := none _ partner
    exact not_or.mp stands

theorem mayBe_begun (s : State) (q : CellId) : s.mayBe q (s.beginClearing q).goal := by
  by_cases test : s.clearingTest q = true
  · rcases beginClearing_goal s q with goal | goal
    · exact goal ▸ mayBe_cleared test
    · exact goal ▸ mayBe_left (.inl rfl)
  · rw [beginClearing_fails (.inl test)]
    exact mayBe_left (.inl rfl)

/-! ### The law after a change of one crane's cells -/

/-- The law of the cell table, carried over an operation. -/
def KeepsGrant (s t : State) : Prop := GrantLaw s → GrantLaw t

theorem heldCount_of_cells (same : ∀ x, (t.cell ⟨c, x⟩).state = (s.cell ⟨c, x⟩).state) : t.heldCount c = s.heldCount c := by
  unfold State.heldCount State.sectorsIn
  simp only [same]

/-- Cells of one crane are changed to what they may be, and no booking begins to run. -/
theorem GrantLaw.update {gone : Crane → SuspReason → Prop} (law : GrantLaw s) (plan : t.plan.committed = s.plan.committed) (lifts : LiftsFrom gone s t)
    (others : ∀ q, q.crane ≠ c → (t.cell q).state = (s.cell q).state) (own : ∀ q, q.crane = c → s.mayBe q (t.cell q).state)
    (limit : t.heldCount c ≤ Config.maxHeld) : GrantLaw t := by
  have may (q : CellId) : s.mayBe q (t.cell q).state := by
    by_cases here : q.crane = c
    · exact own q here
    · exact others q here ▸ law.mayStay q
  have still {q o : CellId} {k : PairKind} (partner : (k, o) ∈ s.partners q) :
      (t.cell o).state = (s.cell o).state ∨ (t.cell q).state = (s.cell q).state := by
    by_cases here : o.crane = c
    · exact .inr (others q (fun same => partners_apart partner (here.trans same.symm)))
    · exact .inl (others o here)
  refine ⟨fun q o partner granted => ?_, fun q o partner taken => ?_, fun d => ?_, fun q taken => ?_⟩
  · rw [partners_of_plan plan] at partner
    rcases still partner with same | same
    · rw [same]
      exact (may q).1 granted o partner
    · refine Classical.byContradiction (fun other => ?_)
      rw [Bool.not_eq_false] at other
      have clear := (may o).1 other q (partners_symm partner)
      rw [← same, granted] at clear
      exact nomatch clear
  · rw [partners_of_plan plan] at partner
    rcases still partner with same | same
    · rw [same]
      exact ((may q).2 taken).1 o partner
    · rw [same] at taken
      refine not_or.mp (fun other => ?_)
      obtain ⟨notHeld, notClearing⟩ := ((may o).2 other).1 q (partners_symm partner)
      exact taken.elim notHeld notClearing
  · by_cases here : d = c
    · exact here ▸ limit
    · rw [heldCount_of_cells (fun x => others ⟨d, x⟩ here)]
      exact law.limit d
  · exact reserved_of_lifts plan lifts ((may q).2 taken).2

theorem framedGrant : Framed KeepsGrant [.plan, .cells, .bookings] where
  trans h k := fun law => k (h law)
  same h := fun law => by
    have plan := congrArg PlanStore.committed (h .plan (by decide))
    have cells : _ = _ := h .cells (by decide)
    have same (q : CellId) := congrArg Cell.state (cell_eq_of_cells cells q)
    exact law.update (gone := fun _ _ => True) (c := 0) plan ((framedLifts _).same (fun p hp => by
        rw [List.mem_singleton.mp hp]
        exact h .bookings (by decide)))
      (fun q _ => same q) (fun q _ => same q ▸ law.mayStay q)
      (Nat.le_trans (Nat.le_of_eq (heldCount_of_cells (fun x => same ⟨0, x⟩))) (law.limit 0))

/-- An operation on bookings that lets none begin to run. -/
theorem keepsGrant_of_lifts {qs : List Part} {gone : Crane → SuspReason → Prop} (touched : Touches qs s t) (lifts : LiftsFrom gone s t)
    (plan : Part.plan ∉ qs) (cells : Part.cells ∉ qs) : KeepsGrant s t := fun law => by
  have same (q : CellId) : (t.cell q).state = (s.cell q).state :=
    congrArg Cell.state (cell_eq_of_cells (touched.cells_eq cells) q)
  exact law.update (c := 0) (congrArg PlanStore.committed (touched.plan_eq plan)) lifts (fun q _ => same q) (fun q _ => same q ▸ law.mayStay q)
    (Nat.le_trans (Nat.le_of_eq (heldCount_of_cells (fun x => same ⟨0, x⟩))) (law.limit 0))

/-- A table whose cells are all FREE. -/
theorem grantLaw_free (free : ∀ q, (s.cell q).state = .free) : GrantLaw s where
  struct_ q o _ granted := by
    rw [free] at granted
    exact nomatch granted
  hook q o _ taken := by
    rw [free] at taken
    exact taken.elim nofun nofun
  limit c := by
    have none : s.sectorsIn c .held = [] := List.eq_nil_iff_forall_not_mem.mpr (fun x held => by
      rw [mem_sectorsIn, free] at held
      exact nomatch held)
    rw [State.heldCount, none]
    exact Nat.zero_le _
  paths q taken := by
    rw [free] at taken
    exact taken.elim nofun nofun

/-! ### Requests for cells of one crane -/

/-- Requests that ask of each cell of a crane what it may be. -/
theorem keepsGrant_changeCells {rs : List CellReq} (own : ∀ r ∈ rs, r.cell.crane = c ∧ s.mayBe r.cell r.goal)
    (limit : (s.changeCells rs).heldCount c ≤ Config.maxHeld) : KeepsGrant s (s.changeCells rs) := fun law => by
  have touched := touches_changeCells s rs
  refine law.update (gone := fun _ _ => True) (c := c) (congrArg PlanStore.committed (touched.plan_eq (by decide))) ((framedLifts _).of touched rfl) (fun q other => ?_)
    (fun q here => ?_) limit
  · rcases cell_changeCells s rs q with ⟨same, -⟩ | ⟨r, asked, here, -⟩
    · exact same
    · exact absurd (here ▸ (own r asked).1) other
  · rcases cell_changeCells s rs q with ⟨same, -⟩ | ⟨r, asked, here, goal⟩
    · exact same ▸ law.mayStay q
    · rw [goal, ← here]
      exact (own r asked).2

theorem heldCount_le_of_imp (h : ∀ x, (t.cell ⟨c, x⟩).state = .held → (s.cell ⟨c, x⟩).state = .held) :
    t.heldCount c ≤ s.heldCount c := by
  refine List.Nodup.length_le_of_subset ((by decide : allSectors.Nodup).filter _) (fun x held => ?_)
  exact mem_sectorsIn.mpr (h x (mem_sectorsIn.mp held))

/-- Requests none of which asks for HELD. -/
theorem keepsGrant_giveUp {rs : List CellReq} (own : ∀ r ∈ rs, r.cell.crane = c ∧ s.mayBe r.cell r.goal)
    (none : ∀ r ∈ rs, r.goal ≠ .held) : KeepsGrant s (s.changeCells rs) := fun law => by
  refine keepsGrant_changeCells own (Nat.le_trans (heldCount_le_of_imp fun x held => ?_) (law.limit c)) law
  rcases cell_changeCells s rs ⟨c, x⟩ with ⟨same, -⟩ | ⟨r, asked, -, goal⟩
  · exact same ▸ held
  · exact absurd (goal.symm.trans held) (none r asked)

/-- One cell becomes HELD while its crane is under the limit. -/
theorem keepsGrant_hold {rule : OriginRule} (may : s.mayBe q .held) (room : s.underLimit q.crane = true) :
    KeepsGrant s (s.changeCells [⟨q, .held, rule⟩]) := by
  refine keepsGrant_changeCells (c := q.crane) (fun r asked => ?_) ?_
  · rw [List.mem_singleton.mp asked]
    exact ⟨rfl, may⟩
  · have one : (s.changeCells [⟨q, .held, rule⟩]).sectorsIn q.crane .held ⊆ q.sector :: s.sectorsIn q.crane .held := by
      intro x held
      rw [mem_sectorsIn] at held
      rcases cell_changeCells s [⟨q, .held, rule⟩] ⟨q.crane, x⟩ with ⟨same, -⟩ | ⟨r, asked, here, -⟩
      · exact List.mem_cons_of_mem _ (mem_sectorsIn.mpr (same ▸ held))
      · rw [List.mem_singleton.mp asked] at here
        exact List.mem_cons.mpr (.inl (congrArg CellId.sector here).symm)
    have count := List.Nodup.length_le_of_subset ((by decide : allSectors.Nodup).filter _) one
    have below : s.heldCount q.crane < 4 := underLimit_iff.mp room
    show (State.sectorsIn _ q.crane .held).length ≤ 4
    rw [List.length_cons] at count
    exact Nat.le_trans count below

end Sys2Proof.Machine
end

section
/-!
PROOF. The law of the VANE cells under each change of cells and of service records (R123): what the cells of one crane and its
record are to each other (`VaneFits`), of which every operation changes one crane's.
-/
namespace Sys2Proof.Machine

variable {s t : State} {q : CellId} {c : Crane} {r : ServiceRec}

/-! ### One crane -/

/-- What the cells of a crane and a service record of it are to each other (R123). -/
structure State.VaneFits (s : State) (c : Crane) (r : ServiceRec) : Prop where
  cells : ∀ x, (s.cell ⟨c, x⟩).state = .vane → (s.entry c).vane = .free ∧ (r.state = .outOfService ∨ r.state = .vaneWait)
  released : r.order = .vaneRelease → r.state = .outOfService ∧ ∀ x, (s.cell ⟨c, x⟩).state = .vane

/-- The committed plan and the stored one join no two FREE-mode cranes by a STRUCT pair (R13). -/
def PlanStore.VaneSafe (p : PlanStore) : Prop := p.committed.vaneSafe ∧ ∀ k, p.image = some k → k.plan.vaneSafe

theorem vaneLaw_iff : VaneLaw s ↔ s.plan.VaneSafe ∧ ∀ c, s.VaneFits c (s.svc c) := by
  constructor
  · exact fun law => ⟨⟨law.committed, law.stored⟩, fun c => ⟨fun x => law.cells ⟨c, x⟩, law.released c⟩⟩
  · intro ⟨⟨committed, stored⟩, fits⟩
    exact ⟨fun q => (fits q.crane).cells q.sector, fun c => (fits c).released, committed, stored⟩

theorem VaneLaw.fits (law : VaneLaw s) (c : Crane) : s.VaneFits c (s.svc c) := (vaneLaw_iff.mp law).2 c

namespace State.VaneFits

/-- A crane with a cell that is not VANE has another order. -/
theorem otherOrder (fits : s.VaneFits c r) {x : Sector} (other : (s.cell ⟨c, x⟩).state ≠ .vane) : r.order ≠ .vaneRelease :=
  fun order => other ((fits.released order).2 x)

/-- A crane that is neither OUT_OF_SERVICE nor VANE_WAIT has no VANE cell. -/
theorem noVane (fits : s.VaneFits c r) (notOut : r.state ≠ .outOfService) (notWaiting : r.state ≠ .vaneWait) (x : Sector) :
    (s.cell ⟨c, x⟩).state ≠ .vane :=
  fun vane => (fits.cells x vane).2.elim notOut notWaiting

theorem of_noVane (none : ∀ x, (s.cell ⟨c, x⟩).state ≠ .vane) (order : r.order ≠ .vaneRelease) : s.VaneFits c r :=
  ⟨fun x vane => absurd vane (none x), fun release => absurd release order⟩

/-- A record of another order, OUT_OF_SERVICE or VANE_WAIT if the old one is. -/
theorem record (fits : s.VaneFits c r) {p : ServiceRec} (order : p.order ≠ .vaneRelease)
    (out : r.state = .outOfService ∨ r.state = .vaneWait → p.state = .outOfService ∨ p.state = .vaneWait) : s.VaneFits c p :=
  ⟨fun x vane => ⟨(fits.cells x vane).1, out (fits.cells x vane).2⟩, fun release => absurd release order⟩

theorem congr (fits : s.VaneFits c r) {p : ServiceRec} (state : p.state = r.state) (order : p.order = r.order) : s.VaneFits c p :=
  ⟨fun x vane => state ▸ fits.cells x vane, fun release => state ▸ fits.released (order ▸ release)⟩

/-- Of a crane neither OUT_OF_SERVICE nor VANE_WAIT: any record of another order. -/
theorem working (fits : s.VaneFits c r) (notOut : r.state ≠ .outOfService) (notWaiting : r.state ≠ .vaneWait) {p : ServiceRec}
    (order : p.order ≠ .vaneRelease) : s.VaneFits c p :=
  of_noVane (fits.noVane notOut notWaiting) order

end State.VaneFits

theorem vaneFits_of_same (plan : t.plan = s.plan) (cells : ∀ x, (t.cell ⟨c, x⟩).state = (s.cell ⟨c, x⟩).state) (r : ServiceRec) :
    t.VaneFits c r ↔ s.VaneFits c r := by
  have entry : t.entry c = s.entry c := by rw [State.entry, plan]; rfl
  constructor
  · intro ⟨vane, released⟩
    simp only [cells, entry] at vane released
    exact ⟨vane, released⟩
  · intro ⟨vane, released⟩
    refine ⟨?_, ?_⟩
    · simpa only [cells, entry] using vane
    · simpa only [cells] using released

/-! ### The law after a change of one crane -/

/-- The law of the VANE cells, carried over an operation. -/
def KeepsVane (s t : State) : Prop := VaneLaw s → VaneLaw t

/-- The cells and the record of one crane are changed. -/
theorem VaneLaw.update (law : VaneLaw s) (plan : t.plan = s.plan) (cells : ∀ q, q.crane ≠ c → (t.cell q).state = (s.cell q).state)
    (service : ∀ d, d ≠ c → t.svc d = s.svc d) (own : t.VaneFits c (t.svc c)) : VaneLaw t := by
  refine vaneLaw_iff.mpr ⟨plan ▸ (vaneLaw_iff.mp law).1, fun d => ?_⟩
  by_cases here : d = c
  · exact here ▸ own
  · rw [service d here]
    exact (vaneFits_of_same plan (fun x => cells ⟨d, x⟩ here) _).mpr (law.fits d)

theorem framedVane : Framed KeepsVane [.plan, .cells, .service] where
  trans h k := fun law => k (h law)
  same h := fun law => by
    have plan : _ = _ := h .plan (by decide)
    have cells : _ = _ := h .cells (by decide)
    have service : _ = _ := h .service (by decide)
    have same (q : CellId) := congrArg Cell.state (cell_eq_of_cells cells q)
    have svc (d : Crane) : State.svc _ d = State.svc _ d := congrArg (tget · d) service
    refine law.update (c := 0) plan (fun q _ => same q) (fun d _ => svc d) ?_
    rw [svc]
    exact (vaneFits_of_same plan (fun x => same ⟨0, x⟩) _).mpr (law.fits 0)

/-- An operation on service records that keeps each within what the cells let it be. -/
theorem keepsVane_of_each {qs : List Part} (touched : Touches qs s t) (plan : Part.plan ∉ qs) (cells : Part.cells ∉ qs)
    (each : KeepsEach s.VaneFits s t) : KeepsVane s t := fun law => by
  have same (q : CellId) := congrArg Cell.state (cell_eq_of_cells (touched.cells_eq cells) q)
  refine vaneLaw_iff.mpr ⟨touched.plan_eq plan ▸ (vaneLaw_iff.mp law).1, fun d => ?_⟩
  exact (vaneFits_of_same (touched.plan_eq plan) (fun x => same ⟨d, x⟩) _).mpr (each d (law.fits d))

/-- Requests that ask for no VANE, of cells of a crane whose order is not the release of its vane. -/
theorem keepsVane_changeCells {rs : List CellReq} (own : ∀ r ∈ rs, r.cell.crane = c ∧ r.goal ≠ .vane)
    (order : VaneLaw s → (s.svc c).order ≠ .vaneRelease) : KeepsVane s (s.changeCells rs) := fun law => by
  have touched := touches_changeCells s rs
  have still {q : CellId} (vane : ((s.changeCells rs).cell q).state = .vane) : (s.cell q).state = .vane := by
    rcases cell_changeCells s rs q with ⟨same, -⟩ | ⟨r, asked, -, goal⟩
    · exact same ▸ vane
    · exact absurd (goal.symm.trans vane) (own r asked).2
  have svc (d : Crane) := svc_changeCells s rs d
  refine law.update (c := c) (touched.plan_eq (by decide)) (fun q other => ?_) (fun d _ => svc d) ?_
  · rcases cell_changeCells s rs q with ⟨same, -⟩ | ⟨r, asked, here, -⟩
    · exact same
    · exact absurd (here ▸ (own r asked).1) other
  · rw [svc]
    have entry : (s.changeCells rs).entry c = s.entry c := by rw [State.entry, touched.plan_eq (by decide)]; rfl
    exact ⟨fun x vane => entry.symm ▸ (law.fits c).cells x (still vane), fun release => absurd release (order law)⟩

end Sys2Proof.Machine
end

section
/-!
PROOF. The laws of the cell table and of the VANE cells through the follow-ups (R53, R75, R80, R123): a grant, a resume conversion and a
vane release, each beside the laws of presence and of the wait list, which they need.
-/
namespace Sys2Proof.Machine

variable {s t : State} {q : CellId} {c : Crane}

/-! ### Resume conversions -/

theorem resumeReqs_mayBe {r : CellReq} (asked : r ∈ s.resumeReqs c) :
    r.cell.crane = c ∧ s.mayBe r.cell r.goal := by
  rcases mem_resumeReqs.mp asked with ⟨x, -, -, rfl⟩ | ⟨x, -, -, rfl⟩ | ⟨passes, x, inside, rfl⟩
  · exact ⟨rfl, mayBe_left (.inl rfl)⟩
  · exact ⟨rfl, mayBe_begun s _⟩
  · obtain ⟨free, clear⟩ := resumePasses_iff.mp passes x inside
    exact ⟨rfl, mayBe_of_tests free clear _⟩

theorem resumeReqs_notVane {r : CellReq} (asked : r ∈ s.resumeReqs c) : r.goal ≠ .vane := by
  rcases mem_resumeReqs.mp asked with ⟨x, -, -, rfl⟩ | ⟨x, -, -, rfl⟩ | ⟨-, x, -, rfl⟩
  · exact nofun
  · rcases beginClearing_goal s ⟨c, x⟩ with goal | goal <;> rw [goal] <;> exact nofun
  · exact nofun

theorem beginClearing_notHeld (s : State) (q : CellId) : (s.beginClearing q).goal ≠ .held := by
  rcases beginClearing_goal s q with goal | goal <;> rw [goal] <;> exact nofun

/-- After the conversion of a crane that may resume, its HELD cells are the sectors it occupies. -/
theorem occupied_of_resumed {x : Sector} (held : ((s.changeCells (s.resumeReqs c)).cell ⟨c, x⟩).state = .held) :
    s.occupies c x = true ∨ s.resumePasses c = false ∧ (s.cell ⟨c, x⟩).state = .held := by
  refine Classical.byContradiction (fun other => ?_)
  obtain ⟨outside, fails⟩ := not_or.mp other
  rw [Bool.not_eq_true] at outside
  rcases cell_changeCells s (s.resumeReqs c) ⟨c, x⟩ with ⟨same, left⟩ | ⟨r, asked, here, goal⟩
  · exact left _ (mem_resumeReqs.mpr (.inr (.inl ⟨x, outside, same ▸ held, rfl⟩))) rfl
  · rcases mem_resumeReqs.mp asked with ⟨y, -, -, rfl⟩ | ⟨y, -, -, rfl⟩ | ⟨-, y, inside, rfl⟩
    · exact nomatch goal.symm.trans held
    · exact beginClearing_notHeld s _ (goal.symm.trans held)
    · cases here
      exact nomatch outside.symm.trans inside.1

theorem occupied_le_two (s : State) (c : Crane) : (allSectors.filter (fun x => s.occupies c x)).length ≤ 2 := by
  unfold State.occupies
  cases tget s.occupied c with
  | none =>
    have none : allSectors.filter (fun x => occupies Option.none x) = [] := List.filter_eq_nil_iff.mpr (fun x _ => by simp [occupies])
    rw [none]
    exact Nat.zero_le _
  | some o =>
    have two : allSectors.filter (fun x => occupies (some o) x) ⊆ [o.low, o.high] := by
      intro x member
      have within := occupies_iff.mp (List.mem_filter.mp member).2
      simpa using within
    exact List.Nodup.length_le_of_subset ((by decide : allSectors.Nodup).filter _) two

theorem heldCount_resumed (passes : s.resumePasses c = true) :
    (s.changeCells (s.resumeReqs c)).heldCount c ≤ Config.maxHeld := by
  have within : (s.changeCells (s.resumeReqs c)).sectorsIn c .held ⊆ allSectors.filter (fun x => s.occupies c x) := by
    intro x held
    refine List.mem_filter.mpr ⟨mem_allSectors x, ?_⟩
    exact (occupied_of_resumed (mem_sectorsIn.mp held)).resolve_right (fun fails => nomatch passes.symm.trans fails.1)
  have few := List.Nodup.length_le_of_subset ((by decide : allSectors.Nodup).filter _) within
  exact Nat.le_trans few (Nat.le_trans (occupied_le_two s c) (by decide))

theorem keepsGrant_resumeCells (s : State) (c : Crane) : KeepsGrant s (s.changeCells (s.resumeReqs c)) := fun law => by
  by_cases passes : s.resumePasses c = true
  · exact keepsGrant_changeCells (fun r asked => resumeReqs_mayBe asked) (heldCount_resumed passes) law
  · refine keepsGrant_giveUp (fun r asked => resumeReqs_mayBe asked) (fun r asked => ?_) law
    rcases mem_resumeReqs.mp asked with ⟨x, -, -, rfl⟩ | ⟨x, -, -, rfl⟩ | ⟨may, -⟩
    · exact nofun
    · exact beginClearing_notHeld s _
    · exact absurd may passes

theorem touches_resumed (s : State) (c : Crane) :
    Touches [.links, .waits, .restricted, .register, .service, .alerts] (s.changeCells (s.resumeReqs c))
      ((s.resumeChange c).ownAndSeized (s.changesOf (s.resumeReqs c))) := by
  refine Touches.step ?_ (touches_ownAndSeized _ _) (by decide)
  unfold State.resumeChange
  dsimp only
  split
  · exact (touches_toService _ c).within rfl
  · exact (touches_outOfService _ c _ _).within rfl

theorem keepsGrant_resume (s : State) (c : Crane) :
    KeepsGrant s ((s.resumeChange c).ownAndSeized (s.changesOf (s.resumeReqs c))) :=
  framedGrant.frame (touches_resumed s c) rfl (keepsGrant_resumeCells s c)

/-- A cell is VANE after a resume conversion only if it was before, and the conversion was refused. -/
theorem vane_of_resumed {x : Sector} (vane : ((s.changeCells (s.resumeReqs c)).cell ⟨c, x⟩).state = .vane) :
    (s.cell ⟨c, x⟩).state = .vane ∧ s.resumePasses c = false := by
  rcases cell_changeCells s (s.resumeReqs c) ⟨c, x⟩ with ⟨same, left⟩ | ⟨r, asked, -, goal⟩
  · rw [same] at vane
    refine ⟨vane, ?_⟩
    refine Classical.byContradiction (fun passes => ?_)
    rw [Bool.not_eq_false] at passes
    cases inside : s.occupies c x with
    | true => exact left _ (mem_resumeReqs.mpr (.inr (.inr ⟨passes, x, ⟨inside, by simp [vane]⟩, rfl⟩))) rfl
    | false => exact left _ (mem_resumeReqs.mpr (.inl ⟨x, inside, .inl vane, rfl⟩)) rfl
  · exact absurd (goal.symm.trans vane) (resumeReqs_notVane asked)

theorem resumeChange_svc (s : State) (c d : Crane) : (s.resumeChange c).svc d =
    if c = d then if s.resumePasses c = true then (s.svc c).back else (s.svc c).out .remainSecured true else s.svc d := by
  have put (r : ServiceRec) : ((s.changeCells (s.resumeReqs c)).setSvc c r).svc d = if c = d then r else s.svc d := by
    rw [svc_setSvc, svc_changeCells]
  by_cases passes : s.resumePasses c = true
  · rw [resumeChange_passes passes, svc_of_touches (touches_withdraw _ _ c) (by decide), put, if_pos passes]
    rfl
  · rw [resumeChange_fails passes, svc_of_touches (touches_withdraw _ _ c) (by decide),
      svc_of_touches (touches_denyCrane _ c _) (by decide), put, if_neg passes]
    rfl

theorem keepsVane_resume (s : State) (c : Crane) :
    KeepsVane s ((s.resumeChange c).ownAndSeized (s.changesOf (s.resumeReqs c))) := fun law => by
  have touched := touches_resumed s c
  have changed := touches_changeCells s (s.resumeReqs c)
  have svc (d : Crane) : ((s.resumeChange c).ownAndSeized (s.changesOf (s.resumeReqs c))).svc d = (s.resumeChange c).svc d :=
    svc_of_touches (touches_ownAndSeized _ _) (by decide) d
  generalize resumed : (s.resumeChange c).ownAndSeized (s.changesOf (s.resumeReqs c)) = t at *
  have plan : t.plan = s.plan := (touched.plan_eq (by decide)).trans (changed.plan_eq (by decide))
  have entry : t.entry c = s.entry c := by rw [State.entry, plan]; rfl
  have cell (q : CellId) : (t.cell q).state = ((s.changeCells (s.resumeReqs c)).cell q).state :=
    congrArg Cell.state (cell_eq_of_cells (touched.cells_eq (by decide)) q)
  refine law.update (c := c) plan (fun q other => ?_) (fun d other => ?_) ?_
  · rw [cell]
    rcases cell_changeCells s (s.resumeReqs c) q with ⟨same, -⟩ | ⟨r, asked, here, -⟩
    · exact same
    · exact absurd (here ▸ (resumeReqs_mayBe asked).1) other
  · rw [svc, resumeChange_svc, if_neg other.symm]
  · rw [svc, resumeChange_svc, if_pos rfl]
    by_cases passes : s.resumePasses c = true
    · rw [if_pos passes]
      exact .of_noVane (fun x vane => nomatch passes.symm.trans (vane_of_resumed ((cell _).symm.trans vane)).2) nofun
    · rw [if_neg passes]
      refine ⟨fun x vane => ⟨?_, .inl rfl⟩, nofun⟩
      rw [entry]
      exact ((law.fits c).cells x (vane_of_resumed ((cell _).symm.trans vane)).1).1

/-! ### Grants from the wait list -/

theorem keepsGrant_tryGrant (s : State) (w : Wait) : KeepsGrant s (s.tryGrant w) := by
  unfold State.tryGrant
  dsimp only
  split
  · rename_i passes
    obtain ⟨-, free, clear, room, -⟩ := grantTest_iff.mp passes
    have noted (u : State) (chg : List Change) : Touches [.links, .waits, .restricted, .register, .alerts] u
        (((u.dropWait w.crane w.sector).notify w.crane (.grant w.sector)).ownAndSeized chg) :=
      (((touches_dropWait u _ _).within rfl).step (touches_notify _ _ _) (by decide)).step (touches_ownAndSeized _ _) (by decide)
    exact framedGrant.frame (noted _ _) rfl (keepsGrant_hold (mayBe_of_tests free clear _) room)
  · exact framedGrant.refl s

/-- A waiting crane that is not OUT_OF_SERVICE has another order than the release of its vane. -/
theorem keepsVane_tryGrant {w : Wait} (serves : (s.svc w.crane).state ≠ .outOfService) : KeepsVane s (s.tryGrant w) := fun law => by
  have touched := touches_tryGrant s w
  have plan : (s.tryGrant w).plan = s.plan := touched.plan_eq (by decide)
  have svc (d : Crane) : (s.tryGrant w).svc d = s.svc d := svc_of_touches touched (by decide) d
  have entry : (s.tryGrant w).entry w.crane = s.entry w.crane := by rw [State.entry, plan]; rfl
  have still {q : CellId} (vane : ((s.tryGrant w).cell q).state = .vane) : (s.cell q).state = .vane := by
    rw [cell_tryGrant] at vane
    split at vane
    · exact nomatch vane
    · exact vane
  refine law.update (c := w.crane) plan (fun q other => ?_) (fun d _ => svc d) ?_
  · rw [cell_tryGrant, if_neg (fun ⟨_, here⟩ => other (congrArg CellId.crane here).symm)]
  · rw [svc]
    exact ⟨fun x vane => entry.symm ▸ (law.fits w.crane).cells x (still vane),
      fun release => absurd ((law.fits w.crane).released release).1 serves⟩

/-! ### The release of a vane -/

theorem cellAfter_state (s : State) (r : CellReq) : (s.cellAfter r).state = r.goal := by
  unfold State.cellAfter
  split
  · assumption
  · rfl

theorem vaneSafe_partners (safe : s.plan.committed.vaneSafe) {o : CellId} (partner : (PairKind.struct, o) ∈ s.partners q)
    (free : (s.entry q.crane).vane = .free) : (s.entry o.crane).vane ≠ .free := by
  obtain ⟨p, member, ⟨rfl, rfl⟩ | ⟨rfl, rfl⟩, -, struct_⟩ := (mem_partners _ _ _ _).mp partner
  · intro other
    rcases safe p member struct_ with parked | parked
    · exact nomatch free.symm.trans parked
    · exact nomatch other.symm.trans parked
  · intro other
    rcases safe p member struct_ with parked | parked
    · exact nomatch other.symm.trans parked
    · exact nomatch free.symm.trans parked

/-- No cell is granted that a STRUCT pair joins to a crane whose vane may be released. -/
theorem mayBe_vane (law : VaneLaw s) (free : (s.entry c).vane = .free) (permitted : s.vanePermitted c = true) (x : Sector) :
    s.mayBe ⟨c, x⟩ .vane := by
  refine ⟨fun _ o partner => ?_, fun taken => taken.elim nofun nofun⟩
  rcases vanePermitted_iff.mp permitted x _ partner rfl with state | state
  · rw [state]
    rfl
  · exact absurd (law.cells o state).1 (vaneSafe_partners law.committed partner free)

theorem touches_released (s : State) (c : Crane) :
    Touches [.links, .waits, .restricted, .register, .service, .alerts] (s.changeCells (vaneReqs c))
      (((s.changeCells (vaneReqs c)).outOfService c .vaneRelease false).ownAndSeized (s.changesOf (vaneReqs c))) :=
  ((touches_outOfService _ c _ _).within rfl).step (touches_ownAndSeized _ _) (by decide)

theorem keepsGrant_release (vane : VaneLaw s) (free : (s.entry c).vane = .free) (permitted : s.vanePermitted c = true) :
    KeepsGrant s (((s.changeCells (vaneReqs c)).outOfService c .vaneRelease false).ownAndSeized (s.changesOf (vaneReqs c))) := by
  refine framedGrant.frame (touches_released s c) rfl (keepsGrant_giveUp (c := c) (fun r asked => ?_) (fun r asked => ?_))
  all_goals obtain ⟨x, -, rfl⟩ := List.mem_map.mp asked
  · exact ⟨rfl, mayBe_vane vane free permitted x⟩
  · exact nofun

theorem keepsVane_release (free : (s.entry c).vane = .free) :
    KeepsVane s (((s.changeCells (vaneReqs c)).outOfService c .vaneRelease false).ownAndSeized (s.changesOf (vaneReqs c))) :=
    fun law => by
  have released : Touches [.restricted, .register, .alerts] (s.vaneReleased c)
      ((s.vaneReleased c).ownAndSeized (s.changesOf (vaneReqs c))) := touches_ownAndSeized _ _
  refine framedVane.of released rfl ?_
  have plan : (s.vaneReleased c).plan = s.plan :=
    ((touches_outOfService _ c _ _).plan_eq (by decide)).trans ((touches_changeCells s _).plan_eq (by decide))
  have entry : (s.vaneReleased c).entry c = s.entry c := by rw [State.entry, plan]; rfl
  refine law.update (c := c) plan (fun q other => by rw [vaneReleased_others other]) (fun d other => ?_) ?_
  · rw [State.vaneReleased, outOfService_svc, if_neg other.symm, svc_changeCells]
  · rw [State.vaneReleased, outOfService_svc, if_pos rfl]
    refine ⟨fun x _ => ⟨entry.symm ▸ free, .inl rfl⟩, fun _ => ⟨rfl, fun x => ?_⟩⟩
    rw [← State.vaneReleased, vaneReleased_own, cellAfter_state]

/-! ### The laws together -/

/-- The laws of the cell table and of the VANE cells, beside those of presence and of the wait list, and the FREE mode of the cranes
that wait to release their vanes (R123): they hold through every change of the site state but the opening from SETUP. -/
structure Guarded (s : State) : Prop where
  presence : PresenceLaw s
  waits : WaitLaw s
  grant : GrantLaw s
  vane : VaneLaw s
  ready : ∀ c, (s.svc c).state = .vaneWait → (s.entry c).vane = .free

/-- The laws of the cells are kept together. -/
def KeepsGuarded (s t : State) : Prop := Guarded s → Guarded t

theorem framedGuarded : Framed KeepsGuarded [.plan, .cranes, .cells, .waits, .service, .bookings] where
  trans h k := fun law => k (h law)
  same h := fun law => by
    have sub {ps : List Part} (within : ps.all (fun p => ([.plan, .cranes, .cells, .waits, .service, .bookings] : List Part).contains p) = true)
        (p : Part) (member : p ∈ ps) := h p (by simpa using List.all_eq_true.mp within p member)
    obtain ⟨presence, waits⟩ := framedWaitLaw.same (sub rfl) ⟨law.presence, law.waits⟩
    have plan : _ = _ := h .plan (by decide)
    have service : _ = _ := h .service (by decide)
    refine ⟨presence, waits, framedGrant.same (sub rfl) law.grant, framedVane.same (sub rfl) law.vane, fun c waiting => ?_⟩
    rw [State.svc, service] at waiting
    rw [State.entry, plan]
    exact law.ready c waiting

/-- A crane that waits to release its vane is of FREE mode. -/
def State.mayRelease (s : State) (c : Crane) (r : ServiceRec) : Prop := r.state = .vaneWait → (s.entry c).vane = .free

/-- Turns keep the laws of presence and of the wait list. -/
theorem keepsGuarded_of {qs : List Part} (turns : Turns s t) (touched : Touches qs s t) (plan : Part.plan ∉ qs)
    (each : KeepsEach s.mayRelease s t) (grant : Guarded s → GrantLaw t) (vane : Guarded s → VaneLaw t) :
    KeepsGuarded s t := fun law => by
  obtain ⟨presence, waits⟩ := framedWaitLaw.turns waits_turn turns ⟨law.presence, law.waits⟩
  refine ⟨presence, waits, grant law, vane law, fun c waiting => ?_⟩
  rw [State.entry, touched.plan_eq plan]
  exact each c (law.ready c) waiting

theorem followUps_mayRelease (s : State) : FollowUps (KeepsEach s.mayRelease) :=
  followUps_each (fun _ _ _ _ _ _ => nofun) (fun _ _ _ _ _ _ => nofun) (fun _ _ _ _ _ => nofun)

theorem keepsGuarded_walk (s : State) : KeepsGuarded s s.walk := by
  have walked : ∀ (l : List Wait) (u : State), (∀ w ∈ l, (u.svc w.crane).state ≠ .outOfService) → GrantLaw u ∧ VaneLaw u →
      GrantLaw (l.foldl State.tryGrant u) ∧ VaneLaw (l.foldl State.tryGrant u) := by
    intro l
    induction l with
    | nil => exact fun _ _ laws => laws
    | cons w l ih =>
      intro u serve laws
      refine ih (u.tryGrant w) (fun v member => ?_)
        ⟨keepsGrant_tryGrant u w laws.1, keepsVane_tryGrant (serve w List.mem_cons_self) laws.2⟩
      rw [svc_of_touches (touches_tryGrant u w) (by decide)]
      exact serve v (List.mem_cons_of_mem _ member)
  have both (law : Guarded s) := walked s.waits s (fun w member => (law.waits.served w member).2.2) ⟨law.grant, law.vane⟩
  exact keepsGuarded_of (moves_walk s).turns (touches_walk s) (by decide) ((framedEach _).of (touches_walk s) rfl)
    (fun law => (both law).1) (fun law => (both law).2)

theorem keepsGuarded_resume {s : State} {c : Crane} (turns : Turns s ((s.resumeChange c).ownAndSeized (s.changesOf (s.resumeReqs c)))) :
    KeepsGuarded s ((s.resumeChange c).ownAndSeized (s.changesOf (s.resumeReqs c))) :=
  keepsGuarded_of turns (((touches_resumeChange s c).within rfl).step (touches_ownAndSeized _ _) (by decide)
      (ps := [.links, .cells, .waits, .restricted, .register, .service, .alerts])) (by decide)
    (each_resume _ (fun _ => nofun) (fun _ => nofun)) (fun law => keepsGrant_resume s c law.grant)
    (fun law => keepsVane_resume s c law.vane)

theorem followUps_guarded : FollowUps KeepsGuarded where
  refl := framedGuarded.refl
  trans := framedGuarded.trans
  walk := keepsGuarded_walk
  resume s c withheld := keepsGuarded_resume (.of (.move (.resume s c withheld)))
  release s c waits permitted := by
    have free (law : Guarded s) := law.ready c (inState_iff.mp waits).2
    refine keepsGuarded_of (.of (.move (.release s c waits permitted))) (Move.release s c waits permitted).touches (by decide)
      ((followUps_mayRelease s).release s c waits permitted) (fun law => ?_) (fun law => ?_)
    · exact keepsGrant_release law.vane (free law) permitted law.grant
    · exact keepsVane_release (free law) law.vane

end Sys2Proof.Machine
end

section
/-!
PROOF. The laws of the cells through the securing of the cranes and their return to service (R98, R114, R115, R119): the wind stage, the
closing, the reopening and the end of a storm.
-/
namespace Sys2Proof.Machine

variable {s t : State} {c : Crane}

/-- Turns that change no cell, no plan and no service record, and let no booking begin to run. -/
theorem keepsGuarded_of_lifts {qs : List Part} {gone : Crane → SuspReason → Prop} (turns : Turns s t) (touched : Touches qs s t)
    (outside : ([.plan, .cells, .service] : List Part).all (fun p => !qs.contains p) = true) (lifts : LiftsFrom gone s t) :
    KeepsGuarded s t := by
  have out (p : Part) (member : p ∈ ([.plan, .cells, .service] : List Part)) : p ∉ qs := by
    simpa using List.all_eq_true.mp outside p member
  have apart : ([.plan, .cells, .service] : List Part).any (fun p => qs.contains p) = false := by rw [List.any_eq_not_all_not, outside]; rfl
  refine keepsGuarded_of turns touched (out _ (by decide)) (fun d ready => ?_) (fun law => ?_) (fun law => ?_)
  · rw [svc_of_touches touched (out _ (by decide))]
    exact ready
  · exact keepsGrant_of_lifts touched lifts (out _ (by decide)) (out _ (by decide)) law.grant
  · exact framedVane.untouched touched apart law.vane

/-- A turn that changes one crane's service record within what its cells let it be. -/
theorem keepsGuarded_of_each {qs : List Part} (turn : Turn qs s t)
    (outside : ([.plan, .cells, .bookings] : List Part).all (fun p => !qs.contains p) = true)
    (ready : KeepsEach s.mayRelease s t) (fits : Guarded s → KeepsEach s.VaneFits s t) : KeepsGuarded s t := by
  have out (p : Part) (member : p ∈ ([.plan, .cells, .bookings] : List Part)) : p ∉ qs := by
    simpa using List.all_eq_true.mp outside p member
  have apart : ([.plan, .cells, .bookings] : List Part).any (fun p => qs.contains p) = false := by rw [List.any_eq_not_all_not, outside]; rfl
  have touched := turn.touches
  exact keepsGuarded_of (.of turn) touched (out _ (by decide)) ready
    (fun law => framedGrant.untouched touched apart law.grant)
    (fun law => keepsVane_of_each touched (out _ (by decide)) (out _ (by decide)) (fits law) law.vane)

/-! ### Securing -/

theorem securingOrder_notRelease (s : State) (c : Crane) : s.securingOrder c ≠ .vaneRelease := by
  unfold State.securingOrder
  split <;> exact nofun

theorem keepsGuarded_secure (working : (s.svc c).state = .inService) : KeepsGuarded s (s.toSecuring c) :=
  keepsGuarded_of_each (.secure s c working) rfl (each_setSvc (fun _ => nofun))
    (fun _ => each_setSvc (fun fits => fits.working (by simp [working]) (by simp [working]) (securingOrder_notRelease s c)))

theorem keepsGuarded_withheldToVaneWait (out : (s.svc c).state = .outOfService) (withheld : (s.svc c).withheld = true)
    (free : (s.entry c).vane = .free) : KeepsGuarded s (s.withheldToVaneWait c) :=
  keepsGuarded_of_each (.withheldToVaneWait s c out withheld free) rfl (each_serviceDenied _ (fun _ _ => free))
    (fun _ => each_serviceDenied _ (fun fits => fits.record nofun (fun _ => .inr rfl)))

theorem keepsGuarded_parkOrder (out : (s.svc c).state = .outOfService) (withheld : (s.svc c).withheld = true)
    (parked : (s.entry c).vane = .parked) :
    KeepsGuarded s (s.setSvc c { s.svc c with withheld := false, order := .park }) :=
  keepsGuarded_of_each (.parkOrder s c out withheld parked) rfl (each_setSvc id)
    (fun _ => each_setSvc (fun fits => fits.record nofun id))

theorem keepsGuarded_enterSecuring (s : State) (c : Crane) : KeepsGuarded s (s.enterSecuring c) := by
  unfold State.enterSecuring
  dsimp only
  split
  case h_1 working => exact keepsGuarded_secure working
  case h_2 out =>
    split
    case isFalse => exact framedGuarded.refl s
    rename_i withheld
    split
    case h_2 parked => exact keepsGuarded_parkOrder out withheld parked
    rename_i free
    have waits := keepsGuarded_withheldToVaneWait out withheld free
    split
    · exact waits
    · rename_i here
      refine framedGuarded.trans waits (followUps_guarded.testVane ?_)
      rw [State.withheldToVaneWait, inState_eq_of_service ((touches_denyCrane _ _ _) .service (by decide)), inState_setSvc]
      simpa using here
  all_goals exact framedGuarded.refl s

theorem keepsGuarded_enterSecuringAll (s : State) : KeepsGuarded s s.enterSecuringAll :=
  framedGuarded.fold (framedGuarded.refl s) _ _ keepsGuarded_enterSecuring

/-! ### The wind stage -/

theorem keepsGuarded_reportStorm (s : State) (c : Crane) : KeepsGuarded s (s.reportStorm c) := by
  have raised : KeepsGuarded s (s.raiseFor .storm c) :=
    keepsGuarded_of_lifts (gone := anyGone) (moves_raiseFor (by decide) s c).turns (touches_raiseFor s _ c) rfl (records_raise s _ _).lifts
  unfold State.reportStorm
  split
  case h_1 opened =>
    refine framedGuarded.trans (keepsGuarded_of_lifts (gone := anyGone) (.of (.storm s c opened)) (Turn.storm s c opened).touches rfl ?_)
      (keepsGuarded_enterSecuringAll _)
    exact ((framedRecords _).trans ((framedRecords _).trans ((framedRecords _).of (touches_withSite s _) rfl)
      (records_raise _ _ _)) (records_addReasonAll _ _)).lifts
  all_goals exact raised

theorem keepsGuarded_windStage (s : State) (c : Crane) (w : Option Nat) : KeepsGuarded s (s.windStage c w) := by
  obtain ⟨u, sampled, eq⟩ := windStage_cases s c w
  have verdict (v : State) : KeepsGuarded v (v.handVerdict c) :=
    keepsGuarded_of_lifts (gone := anyGone) (.of (.verdict v c)) (touches_handVerdict v c) rfl (records_handVerdict v trivial).lifts
  have before : KeepsGuarded s u := framedGuarded.of sampled rfl
  rcases eq with eq | eq <;> rw [eq]
  · exact framedGuarded.trans before (verdict u)
  · exact framedGuarded.trans (framedGuarded.trans before (keepsGuarded_reportStorm u c)) (verdict _)

/-! ### The return to service -/

theorem keepsGuarded_returnCrane (s : State) (c : Crane) : KeepsGuarded s (s.returnCrane c) := by
  unfold State.returnCrane
  split
  · rename_i may
    have back : s.inState c .securing = true ∨ s.inState c .vaneWait = true ∧ s.sectorsIn c .vane = [] := by simpa using may
    refine keepsGuarded_of_each (.toService s c back) rfl (each_toService (fun _ => nofun)) (fun law => ?_)
    refine each_toService (fun fits => .of_noVane (fun x vane => ?_) nofun)
    rcases back with securing | ⟨-, none⟩
    · have state := (inState_iff.mp securing).2
      exact (law.vane.fits c).noVane (by simp [state]) (by simp [state]) x vane
    · exact absurd (mem_sectorsIn.mpr vane) (by simp [none])
  · exact framedGuarded.refl s

theorem keepsGuarded_convertCrane (s : State) (c : Crane) : KeepsGuarded s (s.convertCrane c) := by
  unfold State.convertCrane
  split
  · rename_i out
    exact followUps_guarded.resumeCrane (keepsGuarded_resume (.of (.convert s c (by simpa using out))))
  · exact framedGuarded.refl s

theorem keepsGuarded_broughtBack (s : State) : KeepsGuarded s (s.withdrawSite .storm).bringBack := by
  have calmed : KeepsGuarded s (s.withdrawSite .storm) := framedGuarded.of (touches_withdrawSite s .storm) rfl
  exact framedGuarded.trans calmed (framedGuarded.fold (framedGuarded.fold (framedGuarded.refl _) _ _ keepsGuarded_returnCrane) _ _
    keepsGuarded_convertCrane)

theorem keepsGuarded_reopen (s : State) : KeepsGuarded s s.reopen :=
  framedGuarded.frame (touches_withSite _ _) rfl (keepsGuarded_broughtBack s)

theorem keepsGuarded_resumeFromStorm (s : State) : KeepsGuarded s s.resumeFromStorm := by
  refine framedGuarded.trans (keepsGuarded_broughtBack s) (keepsGuarded_of_lifts (gone := anyGone) (.of (.calm _))
    (Turn.calm _).touches rfl ?_)
  exact ((framedRecords _).frame (touches_withSite _ _) rfl (records_removeReasonAll _ (fun _ => trivial))).lifts

/-- What the closing leaves of the laws of the cells. -/
theorem guarded_close (law : Guarded s) : GrantLaw s.close ∧ VaneLaw s.close := by
  have secured := keepsGuarded_enterSecuringAll s law
  have closed (u : State) (p : Wait → Bool) : Touches [.site, .links, .waits, .alerts] u ((u.withSite .closed).denyWaits p .service) :=
    ((touches_withSite u _).within rfl).step (touches_denyWaits _ _ _) (by decide)
  unfold State.close
  dsimp only
  exact ⟨framedGrant.of (closed _ _) rfl secured.grant, framedVane.of (closed _ _) rfl secured.vane⟩

end Sys2Proof.Machine
end

section
/-!
PROOF. The laws of the running bookings (R151) are not kept by themselves: they say nothing of a running dwell, and the step that a dwell
completes is to a state below the crane's own only under the law of the wind records (R95, R104).
-/
namespace Sys2Proof.Machine

/-- A site that is OPEN, each of whose cranes works in a CALM wind, though a dwell for the step from STORM to HOLD has run; one lift is
ACTIVE, and the end of its crane's dwell waits. -/
def State.strayDwell : State :=
  { State.reset with
    plan := { PlanStore.empty with committed := { Plan.empty with cranes := tconst 8 { CraneEntry.empty with present := true, lw := 100 } } }
    clock := { Clock.initial with mono := 600000 }
    wind := tconst 8 ⟨false, false, .calm, [], 0, some ⟨.stormToHold, 0⟩⟩
    site := .opened
    service := tconst 8 { ServiceRec.initial with state := .inService, order := .work }
    bookings := [⟨1, 0, .active, ⟨0, 0, 0, .a0, 0, [], none⟩, .supervisor, false, false, false, 0, .supervisor⟩]
    pending := [.dwellCompletion 0] }

namespace State.strayDwell

theorem svc (c : Crane) : strayDwell.svc c = { ServiceRec.initial with state := .inService, order := .work } := tget_tconst _ c

theorem serviceLaw : ServiceLaw strayDwell where
  working _ c := by simp [svc]
  withheld c := by simp [svc, ServiceRec.initial]
  setup := nofun
  standby c := by simp [svc]
  absent c out := by
    have present : strayDwell.present c = true := congrArg CraneEntry.present (tget_tconst _ c)
    exact nomatch present.symm.trans out
  vane c := by simp [svc]

theorem tableLaw : TableLaw strayDwell where
  total := by decide
  ascending := List.pairwise_singleton _ _
  ids := by decide
  counter := by decide
  each := by decide
  apart a ha b hb other := by
    rw [List.mem_singleton.mp ha, List.mem_singleton.mp hb] at other
    exact absurd rfl other

theorem runningLaw : RunningLaw strayDwell where
  one a ha b hb _ _ _ := by rw [List.mem_singleton.mp ha, List.mem_singleton.mp hb]
  apart a ha b hb _ _ x member := by
    rw [List.mem_singleton.mp ha] at member
    exact nomatch member
  service b _ _ := .inl (congrArg ServiceRec.state (svc b.crane))
  storm b _ _ away := absurd rfl away
  lost b _ _ lost := by simp [svc, ServiceRec.initial] at lost
  stopped b _ _ stops := absurd (tget_tconst _ b.crane) stops
  wind b hb _ exceeds := by
    rw [List.mem_singleton.mp hb] at exceeds
    exact absurd exceeds (by decide)

theorem step_eq : step strayDwell = .next ((strayDwell.withPending []).completeDwell 0) := rfl

/-- The lift is ACTIVE, and its crane's wind is HOLD. -/
theorem not_runningLaw : ¬ RunningLaw ((strayDwell.withPending []).completeDwell 0) := by
  intro law
  rcases law.wind _ (List.mem_singleton.mpr rfl) rfl rfl with reason | reason
  · exact nomatch reason
  · exact nomatch reason

end State.strayDwell

end Sys2Proof.Machine

open Sys2Proof Sys2Proof.Machine

/-- Refutes O59: the wind records are not bound by their law (R95), and the end of a dwell that is not a step from the crane's state
takes an ACTIVE lift's wind to HOLD without a reason of its own. -/
theorem not_stepKeepsRunningLifts : ¬ Obligations.StepKeepsRunningLifts := by
  unfold Obligations.StepKeepsRunningLifts
  intro ⟨keeps, _⟩
  exact State.strayDwell.not_runningLaw (keeps _ _ State.strayDwell.serviceLaw State.strayDwell.tableLaw
    State.strayDwell.runningLaw State.strayDwell.step_eq)
end

section
/-!
PROOF. The law of the cell table under every operation on records (R51): the requests that each command and timer makes, the start of a
lift, and the plans that a start and a commit bring.
-/
namespace Sys2Proof.Machine

variable {s t : State} {q : CellId} {c : Crane}

/-- The laws that every step keeps together: of service, of SETUP, of presence, of the wait list, of the cell table and of VANE. -/
structure CellLaws (s : State) : Prop where
  service : ServiceLaw s
  setup : SetupLaw s
  presence : PresenceLaw s
  waits : WaitLaw s
  grant : GrantLaw s
  vane : VaneLaw s

theorem CellLaws.ready (laws : CellLaws s) (waiting : (s.svc c).state = .vaneWait) : (s.entry c).vane = .free :=
  laws.service.vane c (.inl waiting)

theorem CellLaws.guarded (laws : CellLaws s) : Guarded s := ⟨laws.presence, laws.waits, laws.grant, laws.vane, fun _ => laws.ready⟩

theorem CellLaws.inSetup (laws : CellLaws s) (site : s.site = .setup) : InSetup s := .of_laws laws.service laws.setup site

/-! ### Requests -/

theorem keepsGrant_converted {rs : List CellReq} (cells : KeepsGrant s (s.changeCells rs)) : KeepsGrant s (s.converted rs) :=
  framedGrant.frame (touches_ownAndSeized _ _) rfl cells

theorem keepsGrant_heldOutside (may : (s.cell q).state = .seized ∧ s.grantTest q = true ∨
    (s.cell q).state = .clearing ∧ s.underLimit q.crane = true) : KeepsGrant s (s.heldOutside q) := fun law => by
  have held : GrantLaw (s.changeCells [⟨q, .held, .keep⟩]) := by
    rcases may with ⟨-, passes⟩ | ⟨clearing, room⟩
    · obtain ⟨-, free, clear, room, -⟩ := grantTest_iff.mp passes
      exact keepsGrant_hold (mayBe_of_tests free clear _) room law
    · exact keepsGrant_hold (law.mayHold (.inr clearing)) room law
  unfold State.heldOutside
  dsimp only
  refine framedGrant.of (touches_ownAndSeized _ _) rfl ?_
  split
  · exact framedGrant.of (((touches_dropWait _ _ _).within rfl).step (touches_notify _ _ _) (by decide) (ps := [.links, .waits])) rfl held
  · exact held

/-- Single requests that do not ask for HELD. -/
theorem keepsGrant_one {r : CellReq} (may : s.mayBe r.cell r.goal) (other : r.goal ≠ .held) : KeepsGrant s (s.changeCells [r]) :=
  keepsGrant_giveUp (c := r.cell.crane)
    (fun _ asked => by
      rw [List.mem_singleton.mp asked]
      exact ⟨rfl, may⟩)
    (fun _ asked => List.mem_singleton.mp asked ▸ other)

theorem keepsGrant_seize (s : State) (q : CellId) : KeepsGrant s ((s.converted [⟨q, .seized, .set .seize⟩]).intrude q) := by
  have seized := keepsGrant_converted (s := s) (keepsGrant_one (r := ⟨q, .seized, .set .seize⟩) (mayBe_left (.inr rfl)) nofun)
  exact framedGrant.trans seized (keepsGrant_of_lifts (gone := anyGone) (touches_intrude_parts _ q) (records_intrude _ q).lifts
    (by decide) (by decide))

theorem keepsGrant_enter {o : OriginRule} (room : s.underLimit q.crane = true)
    (may : (s.cell q).state = .clearing ∨ s.blocked q = false ∧ s.reserved q = false) :
    KeepsGrant s (s.converted [⟨q, .held, o⟩]) := fun law => by
  refine keepsGrant_converted (keepsGrant_hold ?_ room) law
  rcases may with clearing | ⟨free, clear⟩
  · exact law.mayHold (.inr clearing)
  · exact mayBe_of_tests free clear _

theorem keepsGrant_parkCells (s : State) (c : Crane) : KeepsGrant s (s.changeCells (s.parkReqs c)) := fun law => by
  refine keepsGrant_giveUp (c := c) (fun r asked => ?_) (fun r asked => ?_) law
  all_goals rcases mem_parkReqs.mp asked with ⟨held, rfl⟩ | ⟨x, -, -, rfl⟩
  · exact ⟨rfl, law.mayHold (.inl held)⟩
  · exact ⟨rfl, mayBe_begun s _⟩
  · exact nofun
  · exact beginClearing_notHeld s _

theorem keepsGrant_forceCells (s : State) (c : Crane) (named : List Sector) :
    KeepsGrant s ((s.forceService c named).converted (s.forceReqs c named)) := by
  have forced := touches_forceService s c named
  refine framedGrant.trans (framedGrant.of forced rfl) (keepsGrant_converted (keepsGrant_giveUp (c := c) (fun r asked => ?_)
    (fun r asked => ?_)))
  all_goals obtain ⟨x, -, rfl⟩ := List.mem_map.mp asked
  · refine ⟨rfl, ?_⟩
    rw [← beginClearing_congr (forced.plan_eq (by decide)) (forced.cells_eq (by decide)) (forced.bookings_eq (by decide))]
    exact mayBe_begun _ _
  · exact beginClearing_notHeld s _

/-! ### The start of a lift -/

theorem blocks_of_busyPath {path : List Sector} (free : s.busyPath c path = none) {x : Sector} (member : x ∈ path)
    {p : PairKind × CellId} (partner : p ∈ s.partners ⟨c, x⟩) : s.blocks p = false := by
  rw [State.busyPath, List.findSome?_eq_none_iff] at free
  have none := List.find?_eq_none.mp (Option.map_eq_none_iff.mp (free x member)) p partner
  rw [Bool.or_eq_true, not_or] at none
  exact Bool.eq_false_iff.mpr none.1

/-- A path whose partners nothing stands on may be flown (R152). -/
theorem keepsGrant_start (s : State) (q : Requester) (id : Nat) : KeepsGrant s (start q id s).1 := fun law => by
  rcases start_cases s q id with same | ⟨c, b, -, own, -, startable, eq⟩
  · rw [same]
    exact law
  · rw [eq]
    refine framedGrant.of (touches_setLastConf _ c none) rfl ⟨law.struct_, law.hook, law.limit, fun q taken => ?_⟩
    have clear := law.paths q taken
    rw [State.reserved, List.any_eq_false] at clear ⊢
    intro p partner running
    obtain ⟨a, member, crane, state, path⟩ := onRunningPath_iff.mp running
    rcases mem_putLift member with rfl | old
    · have flown : p.2.crane = c := Eq.trans (Eq.symm crane) own
      have here : p.2 = ⟨c, p.2.sector⟩ := by rw [← flown]
      have back : (p.1, q) ∈ s.partners ⟨c, p.2.sector⟩ := here ▸ partners_symm partner
      obtain ⟨notHeld, notClearing⟩ := untaken_of_blocks (blocks_of_busyPath startable.path path back)
      exact taken.elim notHeld notClearing
    · exact clear p partner (onRunningPath_iff.mpr ⟨a, old, crane, state, path⟩)

/-! ### The plan -/

theorem keepsGrant_store {v : PlanStore} (keeps : s.plan.KeepsCommitted v) : KeepsGrant s (s.withPlan v) := fun law =>
  law.update (gone := anyGone) (c := 0) (t := s.withPlan v) keeps.committed ((framedLifts _).of (touches_withPlan s v) rfl)
    (fun _ _ => rfl) (fun q _ => law.mayStay q) (law.limit 0)

/-! ### Every operation on records -/

theorem grant_move {qs : List Part} (h : Move qs s t) (laws : CellLaws s) : GrantLaw t := by
  have k := h.touches
  have law := laws.grant
  rcases lifts_move h with lifts | ⟨q, id, rfl⟩
  case inr => exact keepsGrant_start s q id law
  cases h with
  | grant s w => exact keepsGrant_tryGrant s w law
  | resume s c => exact keepsGrant_resume s c law
  | release s c waits permitted => exact keepsGrant_release laws.vane (laws.ready (inState_iff.mp waits).2) permitted law
  | hold s q may => exact keepsGrant_heldOutside may law
  | seize s q => exact keepsGrant_seize s q law
  | enter s q o here check room may => exact keepsGrant_enter room may law
  | clear s q => exact keepsGrant_converted (keepsGrant_one (mayBe_begun s q) (beginClearing_notHeld s q)) law
  | expire s q => exact keepsGrant_converted (keepsGrant_one (r := ⟨q, .free, .keep⟩) (mayBe_left (.inl rfl)) nofun) law
  | park s c => exact framedGrant.frame (touches_ownAndSeized _ _) rfl (framedGrant.trans (framedGrant.of (touches_parkedService s c) rfl)
      (keepsGrant_parkCells _ c)) law
  | force s c named => exact keepsGrant_forceCells s c named law
  | store s v keeps => exact keepsGrant_store keeps law
  | adopt s setup noLifts valid => exact grantLaw_free (setup_cells (.adopt s setup noLifts valid) (laws.inSetup setup))
  | startUp s => exact grantLaw_free (cell_startUp s)
  | _ => exact keepsGrant_of_lifts k lifts (by decide) (by decide) law

end Sys2Proof.Machine
end

section
/-!
PROOF. The law of the VANE cells under every operation on records (R123): only a crane of another order has cells that change, and only
a plan that joins no two FREE-mode cranes is committed or stored (R13).
-/
namespace Sys2Proof.Machine

variable {s t : State} {q : CellId} {c : Crane}

/-! ### Requests -/

theorem keepsVane_converted {rs : List CellReq} (own : ∀ r ∈ rs, r.cell.crane = c ∧ r.goal ≠ .vane)
    (order : VaneLaw s → (s.svc c).order ≠ .vaneRelease) : KeepsVane s (s.converted rs) :=
  framedVane.frame (touches_ownAndSeized _ _) rfl (keepsVane_changeCells own order)

theorem beginClearing_notVane (s : State) (q : CellId) : (s.beginClearing q).goal ≠ .vane := by
  rcases beginClearing_goal s q with goal | goal <;> rw [goal] <;> exact nofun

/-- A single request, of a cell that is not VANE. -/
theorem keepsVane_one {r : CellReq} (goal : r.goal ≠ .vane) (other : (s.cell r.cell).state ≠ .vane) :
    KeepsVane s (s.converted [r]) :=
  keepsVane_converted (c := r.cell.crane)
    (fun _ asked => by
      rw [List.mem_singleton.mp asked]
      exact ⟨rfl, goal⟩)
    (fun law => (law.fits r.cell.crane).otherOrder (x := r.cell.sector) other)

theorem keepsVane_heldOutside (may : (s.cell q).state = .seized ∧ s.grantTest q = true ∨
    (s.cell q).state = .clearing ∧ s.underLimit q.crane = true) : KeepsVane s (s.heldOutside q) := fun law => by
  have other : (s.cell q).state ≠ .vane := by rcases may with ⟨state, -⟩ | ⟨state, -⟩ <;> rw [state] <;> exact nofun
  have held : VaneLaw (s.changeCells [⟨q, .held, .keep⟩]) :=
    keepsVane_changeCells (c := q.crane)
      (fun _ asked => by
        rw [List.mem_singleton.mp asked]
        exact ⟨rfl, nofun⟩)
      (fun law => (law.fits q.crane).otherOrder (x := q.sector) other) law
  unfold State.heldOutside
  dsimp only
  refine framedVane.of (touches_ownAndSeized _ _) rfl ?_
  split
  · exact framedVane.of (((touches_dropWait _ _ _).within rfl).step (touches_notify _ _ _) (by decide) (ps := [.links, .waits])) rfl held
  · exact held

theorem keepsVane_seize (may : (s.cell q).state = .clearing ∨ (s.cell q).state = .free) :
    KeepsVane s ((s.converted [⟨q, .seized, .set .seize⟩]).intrude q) := by
  have other : (s.cell q).state ≠ .vane := by rcases may with state | state <;> rw [state] <;> exact nofun
  exact framedVane.frame (touches_intrude_parts _ q) rfl (keepsVane_one (r := ⟨q, .seized, .set .seize⟩) nofun other)

/-- A crane that may ENTER is not OUT_OF_SERVICE (R57). -/
theorem keepsVane_enter {o : OriginRule} (may : (s.svc q.crane).mayWait) : KeepsVane s (s.converted [⟨q, .held, o⟩]) :=
  keepsVane_converted (c := q.crane)
    (fun _ asked => by
      rw [List.mem_singleton.mp asked]
      exact ⟨rfl, nofun⟩)
    (fun law release => may.2.2 ((law.fits q.crane).released release).1)

theorem keepsVane_park (securing : (s.svc c).state = .securing) :
    KeepsVane s ((s.parkedService c).converted ((s.parkedService c).parkReqs c)) := by
  have parked : KeepsVane s (s.parkedService c) :=
    keepsVane_of_each (touches_parkedService s c) (by decide) (by decide)
      (each_serviceDenied _ (fun fits => fits.working (by simp [securing]) (by simp [securing]) nofun))
  have order : ((s.parkedService c).svc c).order = .park := by
    rw [State.parkedService, svc_of_touches (touches_denyCrane _ c _) (by decide), svc_setSvc, if_pos rfl]
  refine framedVane.trans parked (keepsVane_converted (c := c) (fun r asked => ?_) (fun _ release => nomatch order.symm.trans release))
  rcases mem_parkReqs.mp asked with ⟨-, rfl⟩ | ⟨x, -, -, rfl⟩
  · exact ⟨rfl, nofun⟩
  · exact ⟨rfl, beginClearing_notVane _ _⟩

/-- A forced release takes back the release of a LOST crane's vane, when it names a VANE cell (R82). -/
theorem forceService_order {named : List Sector} (presence : PresenceLaw s) (away : s.isPresent c = false) (law : VaneLaw s)
    (named_ : ¬ ((s.svc c).order = .vaneRelease ∧ s.namesVane c named = false)) :
    ((s.forceService c named).svc c).order ≠ .vaneRelease := by
  unfold State.forceService
  dsimp only
  split
  · rw [svc_setSvc, if_pos rfl]
    exact nofun
  · rename_i stays
    intro release
    have out := ((law.fits c).released release).1
    have names : s.namesVane c named = true := by simpa using fun none => named_ ⟨release, none⟩
    have lost : (s.svc c).lost = true := by
      have fits := presenceLaw_iff.mp presence c
      rw [fits.lost]
      cases here : (s.craneRec c).presence with
      | lost => rfl
      | present => simp [State.isPresent, here] at away
      | offline => exact nomatch out.symm.trans (fits.offline.mpr here)
    exact stays (by simp [names, lost, out, release])

/-- A forced release of a LOST crane's VANE cells takes back its order with them (R82). -/
theorem keepsVane_force (presence : PresenceLaw s) (named : List Sector) (away : s.isPresent c = false) :
    KeepsVane s ((s.forceService c named).converted (s.forceReqs c named)) := by
  have forced : KeepsVane s (s.forceService c named) :=
    keepsVane_of_each (touches_forceService s c named) (by decide) (by decide)
      (each_forceService_out (fun r out fits => fits.record nofun (fun _ => .inr rfl)) named)
  by_cases released : (s.svc c).order = .vaneRelease ∧ s.namesVane c named = false
  · intro law
    have vane := ((law.fits c).released released.1).2
    have none : s.forceReqs c named = [] := by
      rw [State.forceReqs, State.forcedCells, List.filter_eq_nil_iff.mpr (fun x _ => by simp [vane, released.2])]
      rfl
    rw [none]
    exact framedVane.of (touches_ownAndSeized _ _) rfl (forced law)
  · intro law
    have order := forceService_order presence away law released
    refine framedVane.trans forced (keepsVane_converted (c := c) (fun r asked => ?_) (fun _ => order)) law
    obtain ⟨x, -, rfl⟩ := List.mem_map.mp asked
    exact ⟨rfl, beginClearing_notVane _ _⟩

/-! ### Service records -/

theorem keepsVane_rejoin (s : State) (c : Crane) (r : Report) :
    KeepsVane s (((s.recordReport c r 0).withdraw .reportEarly c).rejoinedService c) := by
  have recorded : KeepsVane s ((s.recordReport c r 0).withdraw .reportEarly c) :=
    framedVane.frame (touches_withdraw _ _ c) rfl (framedVane.of (touches_recordReport s c r 0) rfl)
  refine framedVane.trans recorded (keepsVane_of_each (touches_rejoinedService _ c) (by decide) (by decide) ?_)
  generalize (s.recordReport c r 0).withdraw .reportEarly c = u
  unfold State.rejoinedService
  dsimp only
  split
  · exact each_setSvc (fun fits => fits.congr rfl rfl)
  split
  · rename_i offline
    split <;> exact each_setSvc (fun fits => fits.working (by simp [offline]) (by simp [offline]) nofun)
  · exact (framedEach _).refl u

theorem keepsVane_lost (s : State) (c : Crane) : KeepsVane s (s.lostRecords c) :=
  keepsVane_of_each (touches_lostRecords s c) (by decide) (by decide) (fun d fits => by
    rw [svc_lostRecords]
    split
    · rename_i same
      subst same
      exact fits.congr rfl rfl
    · exact fits)

/-! ### The plan -/

theorem keepsVane_store {v : PlanStore} (keeps : s.plan.KeepsCommitted v) : KeepsVane s (s.withPlan v) := fun law => by
  have entry (d : Crane) : (s.withPlan v).entry d = s.entry d := congrArg (fun p : Plan => tget p.cranes d) keeps.committed
  refine ⟨fun q vane => entry q.crane ▸ law.cells q vane, law.released, ?_, fun k stored => ?_⟩
  · exact keeps.committed ▸ law.committed
  · rcases keeps.image k stored with same | old
    · exact same ▸ law.committed
    · exact law.stored k old

/-- A plan that passes validation joins no two FREE-mode cranes by a STRUCT pair (R13 check 5). -/
theorem vaneSafe_of_valid {p : Plan} (valid : validate p = none) : p.vaneSafe := by
  intro r member struct_
  have pairs : firstOf (p.pairs.map (checkFreeVane p)) = none :=
    List.findSome?_eq_none_iff.mp valid (firstOf (p.pairs.map (checkFreeVane p))) (by simp)
  have passes : checkFreeVane p r = none := List.findSome?_eq_none_iff.mp pairs _ (List.mem_map_of_mem member)
  refine Classical.byContradiction (fun both => ?_)
  obtain ⟨lo, hi⟩ := not_or.mp both
  have free {e : CraneEntry} (other : e.vane ≠ .parked) : e.vane = .free := by
    cases mode : e.vane with
    | free => rfl
    | parked => exact absurd mode other
  exact nomatch passes.symm.trans ((checkFreeVane_eq p r).trans (if_pos ⟨struct_, free lo, free hi⟩))

theorem vaneLaw_free (free : ∀ q, (s.cell q).state = .free) (order : ∀ c, (s.svc c).order ≠ .vaneRelease)
    (safe : s.plan.VaneSafe) : VaneLaw s :=
  vaneLaw_iff.mpr ⟨safe, fun c => .of_noVane (fun x vane => nomatch (free ⟨c, x⟩).symm.trans vane) (order c)⟩

theorem order_followPresence (old : Plan) (s : State) (c : Crane) :
    KeepsEach (fun _ r => r.order ≠ .vaneRelease) s (s.followPresence old c) := by
  intro d other
  by_cases same : d = c
  · subst same
    rcases followPresence_own old s d with ⟨svc, -⟩ | ⟨eq, -⟩
    · rw [svc]
      exact nofun
    · rw [eq]
      exact other
  · rw [(followPresence_others old s same).1]
    exact other

/-- In SETUP no vane is released, and none is by a new plan. -/
theorem vaneLaw_adopted (law : VaneLaw s) (free : ∀ q, (s.cell q).state = .free) (valid : validate s.plan.staging = none) :
    VaneLaw (allCranes.foldl (State.followPresence s.plan.committed) s.adoptPlan) := by
  have touched : Touches [.links, .cranes, .waits, .occupied, .stops, .wind, .service, .bookings, .alerts] s.adoptPlan
      (allCranes.foldl (State.followPresence s.plan.committed) s.adoptPlan) :=
    (Touches.refl _ _).fold allCranes _ (fun u c => (touches_followPresence _ u c).within rfl)
  have order (c : Crane) : ((allCranes.foldl (State.followPresence s.plan.committed) s.adoptPlan).svc c).order ≠ .vaneRelease := by
    have each : KeepsEach (fun _ r => r.order ≠ .vaneRelease) s.adoptPlan
        (allCranes.foldl (State.followPresence s.plan.committed) s.adoptPlan) :=
      (framedEach _).fold ((framedEach _).refl _) _ _ (fun u c => order_followPresence _ u c)
    exact each c ((law.fits c).otherOrder (x := 0) (by rw [free]; exact nofun))
  generalize allCranes.foldl (State.followPresence s.plan.committed) s.adoptPlan = t at *
  have plan : t.plan = s.adoptPlan.plan := touched.plan_eq (by decide)
  refine vaneLaw_free (fun q => ?_) order ?_
  · rw [cell_eq_of_cells (touched.cells_eq (by decide))]
    exact free q
  · rw [plan]
    exact ⟨vaneSafe_of_valid valid, law.stored⟩

/-- The plan that is read at the start is the stored one, or has no pairs (R15). -/
theorem vaneLaw_startUp (law : VaneLaw s) : VaneLaw s.startUp := by
  have safe (k : Option PlanImage) (stored : ∀ j, k = some j → j.plan.vaneSafe) : (PlanStore.read k).VaneSafe := by
    cases k with
    | none => exact ⟨nofun, nofun⟩
    | some k =>
      refine ⟨stored k rfl, fun j same => ?_⟩
      cases same
      exact stored k rfl
  have image (k : PlanImage) (stored : s.cutWrite.plan.image = some k) : k.plan.vaneSafe := by
    unfold State.cutWrite at stored
    split at stored
    · exact nomatch stored
    · exact law.stored k stored
  have svc (c : Crane) : s.startUp.svc c = ServiceRec.initial := tget_tconst _ c
  exact vaneLaw_free (cell_startUp s) (fun c => by rw [svc]; exact nofun) (safe _ image)

/-! ### Every operation on records -/

theorem vane_move {qs : List Part} (h : Move qs s t) (laws : CellLaws s) : VaneLaw t := by
  have k := h.touches
  have law := laws.vane
  have free (setup : s.site = .setup) (q : CellId) : (s.cell q).state = .free := laws.setup.cells setup q
  cases h with
  | grant s w waiting => exact keepsVane_tryGrant (laws.waits.served w waiting).2.2 law
  | resume s c => exact keepsVane_resume s c law
  | release s c waits => exact keepsVane_release (laws.ready (inState_iff.mp waits).2) law
  | hold s q may => exact keepsVane_heldOutside may law
  | seize s q may => exact keepsVane_seize may law
  | enter s q o here check => exact keepsVane_enter (mayWait_of_enterCheck laws.presence here check) law
  | clear s q taken =>
    exact keepsVane_one (beginClearing_notVane s q) (by rcases taken with state | state <;> exact fun vane => nomatch state.symm.trans vane) law
  | expire s q clearing => exact keepsVane_one (r := ⟨q, .free, .keep⟩) nofun (fun vane => nomatch clearing.symm.trans vane) law
  | park s c securing => exact keepsVane_park (inState_iff.mp securing).2 law
  | force s c named away => exact keepsVane_force laws.presence named away law
  | vaneWait s c securing =>
    have state := (inState_iff.mp securing).2
    exact keepsVane_of_each k (by decide) (by decide)
      (each_serviceDenied _ (fun fits => fits.working (by simp [state]) (by simp [state]) nofun)) law
  | readiness s c r => exact keepsVane_of_each k (by decide) (by decide) (each_setSvc (fun fits => fits.congr rfl rfl)) law
  | timer s c => exact keepsVane_of_each k (by decide) (by decide) (each_setSvc (fun fits => fits.congr rfl rfl)) law
  | rejoin s c r => exact keepsVane_rejoin s c r law
  | lost s c => exact keepsVane_lost s c law
  | store s v keeps => exact keepsVane_store keeps law
  | adopt s setup _ valid => exact vaneLaw_adopted law (free setup) valid
  | startUp s => exact vaneLaw_startUp law
  | _ => exact framedVane.untouched k rfl law

end Sys2Proof.Machine
end

section
/-!
PROOF. The laws of the cell table and of the VANE cells through the opening from SETUP and the return to it (R71, R120), and so along every
step.
-/
namespace Sys2Proof.Machine

variable {s t : State} {q : CellId} {c : Crane}

/-! ### The opening from SETUP -/

/-- The cells that the opening takes are those of present cranes on the sectors they occupy. -/
theorem taken_of_opened (free : ∀ q, (s.cell q).state = .free) (taken : (s.openFromSetup.cell q).state ≠ .free) :
    s.present q.crane = true ∧ s.occupies q.crane q.sector = true ∧ (s.openFromSetup.cell q).state = .held := by
  obtain ⟨-, -, seeded, left, -⟩ := openFromSetup_opens free
  have inPlan : s.present q.crane = true := by
    refine Classical.byContradiction (fun out => ?_)
    exact taken ((congrArg Cell.state (left q.crane q.sector (.inl (by simpa using out)))).trans (free q))
  have occupied : s.occupies q.crane q.sector = true := by
    refine Classical.byContradiction (fun out => ?_)
    exact taken ((congrArg Cell.state (left q.crane q.sector (.inr (by simpa using out)))).trans (free q))
  exact ⟨inPlan, occupied, congrArg Cell.state (seeded q.crane q.sector inPlan occupied)⟩

/-- No pair joins two cells that the opening takes (R71 check 6). -/
theorem not_both_taken (free : ∀ q, (s.cell q).state = .free) (check : s.openCheck = none) {k : PairKind} {o : CellId}
    (partner : (k, o) ∈ s.partners q) (taken : (s.openFromSetup.cell q).state ≠ .free) : (s.openFromSetup.cell o).state = .free := by
  refine Classical.byContradiction (fun other => ?_)
  obtain ⟨here, on, -⟩ := taken_of_opened free taken
  obtain ⟨there, stands, -⟩ := taken_of_opened free other
  obtain ⟨-, -, -, -, -, apart⟩ := openCheck_eq_none.mp check
  obtain ⟨p, member, ⟨rfl, rfl⟩ | ⟨rfl, rfl⟩, cranes, -⟩ := (mem_partners _ _ _ _).mp partner
  · exact nomatch (apart p member).symm.trans (occupiedPair_iff.mpr ⟨cranes.symm, here, there, on, stands⟩)
  · exact nomatch (apart p member).symm.trans (occupiedPair_iff.mpr ⟨cranes, there, here, stands, on⟩)

theorem grantLaw_opened (inSetup : InSetup s) (check : s.openCheck = none) : GrantLaw s.openFromSetup := by
  have free := inSetup.cells
  have opened := touches_openFromSetup s
  have alone {q o : CellId} {k : PairKind} (partner : (k, o) ∈ s.openFromSetup.partners q)
      (taken : (s.openFromSetup.cell q).state ≠ .free) : (s.openFromSetup.cell o).state = .free := by
    rw [partners_of_plan (congrArg PlanStore.committed (opened.plan_eq (by decide)))] at partner
    exact not_both_taken free check partner taken
  refine ⟨fun q o partner granted => ?_, fun q o partner taken => ?_, fun c => ?_, fun q _ => ?_⟩
  · rw [alone partner (fun none => by rw [none] at granted; exact nomatch granted)]
    rfl
  · rw [alone partner (fun none => by rw [none] at taken; exact taken.elim nofun nofun)]
    exact ⟨nofun, nofun⟩
  · have within : s.openFromSetup.sectorsIn c .held ⊆ allSectors.filter (fun x => s.occupies c x) := by
      intro x held
      have state := mem_sectorsIn.mp held
      exact List.mem_filter.mpr ⟨mem_allSectors x, (taken_of_opened free (fun none => nomatch none.symm.trans state)).2.1⟩
    have few := List.Nodup.length_le_of_subset ((by decide : allSectors.Nodup).filter _) within
    exact Nat.le_trans few (Nat.le_trans (occupied_le_two s c) (by decide))
  · rw [State.reserved, List.any_eq_false]
    intro p _ running
    obtain ⟨b, member, -, state, -⟩ := onRunningPath_iff.mp running
    rw [opened.bookings_eq (by decide)] at member
    exact nomatch (inSetup.lifts b member).symm.trans (running_iff.mpr state)

theorem vaneLaw_opened (law : VaneLaw s) (inSetup : InSetup s) : VaneLaw s.openFromSetup := by
  have free := inSetup.cells
  obtain ⟨-, -, -, -, working, absent⟩ := openFromSetup_opens free
  refine vaneLaw_iff.mpr ⟨(touches_openFromSetup s).plan_eq (by decide) ▸ (vaneLaw_iff.mp law).1, fun c => ?_⟩
  refine .of_noVane (fun x vane => ?_) ?_
  · have held := (taken_of_opened free (fun none => nomatch none.symm.trans vane)).2.2
    exact nomatch held.symm.trans vane
  · cases inPlan : s.present c with
    | true =>
      rw [working c inPlan]
      exact nofun
    | false =>
      rw [absent c inPlan]
      exact (law.fits c).otherOrder (x := 0) (by rw [free]; exact nofun)

/-! ### The return to SETUP -/

theorem cells_of_toSetup (closed : s.site = .closed) (out : s.requireAll s.maySetUp .badState = none) (laws : CellLaws s) :
    GrantLaw s.toSetup ∧ VaneLaw s.toSetup := by
  have free := (setup_toSetup closed out laws.service).cells rfl
  have may (c : Crane) : s.maySetUp c = true := maySetUp_iff.mpr (isDown_of_maySetUp laws.service closed out c).2
  have notWithheld (c : Crane) : (s.svc c).withheld = false := by
    refine Classical.byContradiction (fun withheld => ?_)
    exact nomatch closed.symm.trans (laws.service.withheld c (by simpa using withheld)).1
  obtain ⟨-, -, -, -, svc⟩ := toSetup_clears may notWithheld
  refine ⟨grantLaw_free free, vaneLaw_free free (fun c => ?_) ?_⟩
  · rw [svc, State.standbyRec]
    split
    · exact nofun
    · rename_i stays
      intro release
      exact stays (inState_iff.mpr ⟨(maySetUp_iff.mp (may c)).1, ((laws.vane.fits c).released release).1⟩)
  · rw [(touches_toSetup s).plan_eq (by decide)]
    exact (vaneLaw_iff.mp laws.vane).1

/-! ### Every passage -/

theorem cells_passage {qs : List Part} (h : Passage qs s t) (laws : CellLaws s) : GrantLaw t ∧ VaneLaw t := by
  have both (k : Guarded t) : GrantLaw t ∧ VaneLaw t := ⟨k.grant, k.vane⟩
  cases h with
  | move h => exact ⟨grant_move h laws, vane_move h laws⟩
  | windStage s c w => exact both (keepsGuarded_windStage s c w laws.guarded)
  | openFromSetup s setup check =>
    have inSetup := laws.inSetup setup
    exact ⟨grantLaw_opened inSetup check, vaneLaw_opened laws.vane inSetup⟩
  | reopen s => exact both (keepsGuarded_reopen s laws.guarded)
  | resumeFromStorm s => exact both (keepsGuarded_resumeFromStorm s laws.guarded)
  | close s => exact guarded_close laws.guarded
  | toSetup s closed out => exact cells_of_toSetup closed out laws

/-- The laws of the cells, with those they rest on, are kept. -/
def KeepsCellLaws (s t : State) : Prop := CellLaws s → CellLaws t

theorem framedCellLaws : Framed KeepsCellLaws [.plan, .cranes, .site, .cells, .waits, .service, .bookings] where
  trans h k := fun laws => k (h laws)
  same h := fun laws => by
    have sub {ps : List Part}
        (within : ps.all (fun p => ([.plan, .cranes, .site, .cells, .waits, .service, .bookings] : List Part).contains p) = true)
        (p : Part) (member : p ∈ ps) := h p (by simpa using List.all_eq_true.mp within p member)
    obtain ⟨service, setup⟩ := framedSetup.same (sub rfl) ⟨laws.service, laws.setup⟩
    have guarded := framedGuarded.same (sub rfl) laws.guarded
    exact ⟨service, setup, guarded.presence, guarded.waits, guarded.grant, guarded.vane⟩

theorem keepsCellLaws_passage {qs : List Part} (h : Passage qs s t) : KeepsCellLaws s t := fun laws => by
  obtain ⟨presence, waits⟩ := framedWaitLaw.turns waits_turn h.turns ⟨laws.presence, laws.waits⟩
  obtain ⟨grant, vane⟩ := cells_passage h laws
  exact ⟨keepsService_passage h laws.service, setup_passage h laws.service laws.setup, presence, waits, grant, vane⟩

end Sys2Proof.Machine

open Sys2Proof Sys2Proof.Machine

/-- Settles O58: a step is a chain of passages, and each keeps the laws of the cells with those they rest on. -/
theorem stepKeepsGrants : Obligations.StepKeepsGrants := by
  unfold Obligations.StepKeepsGrants
  intro s t service setup _ presence waits vane grant h
  have laws : CellLaws t := framedCellLaws.step_of_passages rfl (fun k _ => keepsCellLaws_passage k) h
    ⟨service, setup, presence, waits, grant, vane⟩
  exact ⟨laws.grant, laws.vane⟩
end
